-- ==== Sys2Proof/Word.lean ====
section
/-! DEFINITION. The value types of the object dictionary (R9, R394): a fixed-size object value is held
zero-extended in 64 bits, a string or DOMAIN value as its bytes in stored order. -/

namespace Sys2Proof

/-- A fixed-size object value, zero-extended from the object's width (R394). -/
abbrev Word := BitVec 64

/-- One byte of a string, DOMAIN value or buffer (R9). -/
abbrev Byte := BitVec 8

end Sys2Proof
end

