-- ==== Sys2Proof/Syntax.lean ====
section
/-! DEFINITION. The commands and events of the block, one constructor per row of the table. -/

namespace Sys2Proof

/-- The path over which an access reaches the dictionary (R392, R397, R414 to R424). -/
inductive Transport where
  | can | window | mailbox | jtag | fabric
  deriving DecidableEq, Repr

/-- A cell of the cascade ring (R290): the kind, source and destination member of its header and whether the header's CRC holds, and its
payload. Kinds (entry 65): 0 heartbeat, 1 time sync, 2 notch, 3 swatch, 4 credit, 5 claim, 6 release, 7 request, 8 leave, 9 image data,
10 widened command, 11 widened flags, 12 timing, 13 timing answer, 14 thread report, 15 cascade-wide value, 16 fail vector, 32 + i a token
of thread i. -/
structure Cell where
  type : Nat
  source : Nat
  dest : Nat
  body : BitVec 256
  crcOk : Bool := true
  deriving DecidableEq, Repr

/-- What a member measures of a link (R291): the lanes that are locked, the neighbour answers the delay exchange, and the neighbour's end
finds the link sound too. -/
structure LinkView where
  lanes : BitVec 8 := 0
  answers : Bool := false
  farUp : Bool := false
  deriving DecidableEq, Repr

/-- A write as it reaches the dictionary: its path, the bytes sent for a fixed-size value and that value, or the bytes of a
string or DOMAIN value; over the window, the offset in its slot at which it starts (R414). -/
structure Wr where
  path : Transport
  len : Nat := 0
  value : Word := 0
  bytes : List Byte := []
  off : Nat := 0
  deriving DecidableEq, Repr

/-- The straps as they stand at the change from RESET to BOOT (R293, R328, R329, R407, R539, R549): CASCADE_ID, node base, BROADCAST,
configuration width, whether VCFG is above 2.5 V, whether MGMT_CLK has edges. -/
structure Straps where
  cascadeId : BitVec 4
  nodeBase : BitVec 3
  broadcast : Bool
  width : BitVec 2
  vcfgHigh : Bool
  mgmtClk : Bool
  deriving DecidableEq, Repr


/-- The drive cells of the boundary-scan register (R282): AC drive of the channel, cascade and PCI Express TX lanes; output and enable of
each GPIO pin, of CFG_DOUT, CAN_TX and WAKE_N. -/
structure ScanDrive where
  tx : BitVec 96 := 0
  cascadeTx : BitVec 8 := 0
  pcieTx : BitVec 8 := 0
  gpioOut : BitVec 64 := 0
  gpioEn : BitVec 64 := 0
  cfgOut : Bool := false
  cfgEn : Bool := false
  canOut : Bool := true
  canEn : Bool := false
  wakeOut : Bool := true
  wakeEn : Bool := false
  deriving DecidableEq, Repr

/-- The input cells of the boundary-scan register (R282): the AC test receivers of the RX lanes; the PCI Express reference clock and
TREF_0 to TREF_3; the GPIO pins; the SAFE balls; the 24 balls of the configuration port; CAN_RX; the straps, RESET_N, PERST_N and WAKE_N. -/
structure ScanIn where
  rx : BitVec 96 := 0
  cascadeRx : BitVec 8 := 0
  pcieRx : BitVec 8 := 0
  refClk : Bool := false
  tref : BitVec 4 := 0
  gpio : BitVec 64 := 0
  safe : BitVec 8 := 0
  cfg : BitVec 24 := 0
  canRx : Bool := true
  straps : BitVec 8 := 0
  resetN : Bool := true
  perstN : Bool := true
  wakeN : Bool := true
  deriving DecidableEq, Repr

/-- A record of an image stream as it arrives (R315, R327): from the configuration port, the next one of the bytes written over
PCI Express, the next one of the slot being read (or its read fails), from another member of the cascade. -/
inductive RecordIn where
  | port (samples : List (BitVec 16))
  | pcie
  | slot (readFails : Bool)
  | recovery (bytes : List Byte)
  deriving DecidableEq, Repr

/-- Bits of a stored configuration frame upset since it was last read: its address, and what of DATA, CHECK and CRC. -/
abbrev FrameUpset := BitVec 32 × BitVec 2048 × BitVec 12 × BitVec 32

/-- What the environment shows of a panel at the latch beside its registers: the requests held. -/
abbrev PanelView := Fin 7344 × BitVec 16

/-- What the ring reports of its members with a heartbeat (R294, R295, R309): present, healthy, LOCKED, UNCONFIGURED; whether the ring is
wrapped; and of each group here whether the other groups of its widened set are present, HALTED and hold one program. -/
structure RingView where
  members : BitVec 16
  healthy : BitVec 16
  locked : BitVec 16
  unconfigured : BitVec 16 := 0
  wrapped : Bool := false
  ready : BitVec 12 := 0
  deriving DecidableEq, Repr

/-- What a cascade notch settles of the widened set of a group (R309): the group, the members that hold a group of the set, the longest
fail-vector path between two of them in ns, the largest FAIL_ROUND_TRIP of the others. -/
structure WidenView where
  group : Fin 12
  members : BitVec 16
  path : BitVec 15
  trip : BitVec 16
  deriving DecidableEq, Repr

/-- What is seen at one end of a link. -/
structure LinkReport where
  east : Bool
  view : LinkView
  deriving DecidableEq, Repr

/-- A claim for the master's role (R295): the claimant, and the members of the last map that its segment no longer reaches. -/
structure Claim where
  claimant : Fin 16
  gone : BitVec 16
  deriving DecidableEq, Repr

/-- What a timing exchange shows of the master (R294, R299, R311): this member's offset to its delayed time sync along the shorter path, in
fs, and that TREF_0 agrees with the ring's within 1 ppm. -/
structure MasterView where
  offset : Int
  freqOk : Bool
  deriving DecidableEq, Repr

/-- The counts of the two ends of a thread that is resealed (R308): tokens that the source has sent and the destination received. -/
structure SealCount where
  sent : BitVec 32
  received : BitVec 32
  deriving DecidableEq, Repr

/-- The read-back of a slot (R349, R352): a line could not be corrected, and the watch points that the image binds. -/
structure SlotRead where
  fails : Bool
  taps : List (Fin 512)
  deriving DecidableEq, Repr

/-- FW_COMMAND VERIFY over a transport, and that a line of the open slot cannot be corrected when it is read (R349, R386). -/
structure FwRead where
  path : Transport
  fails : Bool
  deriving DecidableEq, Repr

/-- A write that has a page read, and that a line of the page cannot be corrected (R349, R351). -/
structure PageRead where
  write : Wr
  fails : Bool
  deriving DecidableEq, Repr

/-- A burst: its direction, and the first word of it that is uncorrectable where a bobbin is read (R127, R440). -/
structure Burst where
  fromHost : Bool
  bad : Option (Fin 64)
  deriving DecidableEq, Repr

/-- The frames fetched from a recovery source, and that a line of the source cannot be corrected (R345, R349). -/
structure Recovered where
  frames : Fin 2561
  fails : Bool
  deriving DecidableEq, Repr

/-- A request of another member: for a swatch or a notch, and its time (R302, R304). -/
structure RingRequest where
  swatch : Bool
  time : BitVec 64
  deriving DecidableEq, Repr

/-- TREF_0: its edges are there, and the cascade transmit PLLs lock to it (R427, R429). -/
structure Tref0View where
  present : Bool
  locks : Bool
  deriving DecidableEq, Repr

/-- One frame of a USDO transfer (R410): a read, an expedited write of up to 8 bytes, the start of a segmented write and its
segments, and the request for the next n bytes of a segmented read. -/
inductive UsdoMsg where
  | read (idx : BitVec 16) (sub : BitVec 8)
  | write (idx : BitVec 16) (sub : BitVec 8) (data : List Byte)
  | start (idx : BitVec 16) (sub : BitVec 8) (total : Nat)
  | segment (data : List Byte) (last : Bool)
  | next (n : Fin 65)
  deriving DecidableEq, Repr

/-- The commands and events of the block, one constructor per row of the table. A command that writes one object of the dictionary
carries the write as it arrives (R397); what an event's environment decides (levels, instants, errors found) is an
operand of the event. -/
inductive Instr where
  /-- POWER_ON_RESET (R537): An armed rail rises through its power-on threshold and the device enters RESET; the
  power-on reset starts its 1 ms hold. -/
  | powerOnReset (r : Fin 6)
  /-- SUPPLY_REMOVAL (R30): The supplies are removed and the device enters OFF from any state. -/
  | supplyRemoval
  /-- RAIL_FALL (R559): A rail other than VAUX falls below its power-on threshold; its detector arms and no device
  state changes. -/
  | railFall (r : Fin 5)
  /-- VAUX_FALL (R34): VAUX falls below its operating range; the Thimble, the permits and the SAFE pumps stop and
  the SAFE drivers lose their supply. -/
  | vauxFall
  /-- RESET_N_ASSERT (R537): A filtered low level on RESET_N puts the device into RESET from any powered state. -/
  | resetNAssert
  /-- RESET_N_RELEASE (R537): RESET_N rises; this ends one cause of RESET and the 1 ms hold is counted from it. -/
  | resetNRelease
  /-- RESET_HOLD_EXPIRY (R30): 1 ms after the last cause of RESET ended, with RESET_N high, the device passes to
  BOOT and samples its straps. -/
  | resetHoldExpiry (p : Straps)
  /-- BOOT_COMPLETE (R30): Block memory has been filled and firmware from slot A or B has been verified and started;
  the device enters UNCONFIGURED. -/
  | bootComplete (okA okB : Bool)
  /-- RESET_REQUEST (R30): OWNER writes RESET to 0x2001 and the device enters RESET. -/
  | resetRequest (path : Transport)
  /-- FOLD_REQUEST (R30): INTEGRATOR writes FOLD to 0x2001; it is accepted only while all 12 shuttles are halted. -/
  | foldRequest (path : Transport)
  /-- FOLD_QUIESCE (R30): Once the fabric is quiescent after an accepted FOLD, the device enters FOLDED and its
  outputs take their FOLDED behaviour. -/
  | foldQuiesce
  /-- WAKE_REQUEST (R30): INTEGRATOR writes WAKE to 0x2001 in FOLDED; the start-up steps PLL_LOCK and
  RELEASE_OUTPUTS run again and the device returns to RUN. -/
  | wakeRequest (path : Transport)
  /-- CLEAR_REQUEST (R30): OWNER writes CLEAR to 0x2001; the array is cleared and the device enters UNCONFIGURED. -/
  | clearRequest (path : Transport)
  /-- STATE_ACK (R30): A write to 0x2000.02 acknowledges a state change; in SAFE, OWNER's write of SAFE_SEQ takes
  the device to UNCONFIGURED. -/
  | stateAck (w : Wr)
  /-- HOST_NOTCH (R21): A write to 0x2004.03 issues a host notch to the named groups and, if DEVICE is set, to the
  device, at once. -/
  | hostNotch (w : Wr)
  /-- OBJECT_WRITE (R397): A write to an object that has no row of its own is checked in order and then takes effect
  or is staged. -/
  | objectWrite (idx : BitVec 16) (sub : BitVec 8) (w : Wr)
  /-- BUNDLE_TOKEN_ACCEPT (R48): A bundle whose input requests are all raised captures a token into its registers
  and emits output tokens. -/
  | bundleTokenAccept (site : Fin 7344) (head : Fin 16) (inPanel atPorts inHard : Bool)
  /-- MERGE_GRANT (R50): The mutual-exclusion element of a MERGE bundle resolves and grants exactly one of its two
  input threads. -/
  | mergeGrant (column : Fin 102) (row : Fin 72) (b : Fin 16) (second : Bool)
  /-- SEAM_DIGIT_LAUNCH (R80): An outbound seam port accepts a token from its bundle and launches one transition per
  digit. -/
  | seamDigitLaunch (column : Fin 102) (row : Fin 72) (unit : Fin 24) (hardAck : Bool)
  /-- SEAM_WORD_LATCH (R80): An inbound seam port sees every digit of its thread present, latches the seam word,
  acknowledges and offers the token. -/
  | seamWordLatch (column : Fin 102) (row : Fin 72) (unit : Fin 24) (hard : BitVec 24) (twice partner : BitVec 6)
  /-- TENSION_ADOPT (R64): After a device notch, a bundle adopts the new effective tension once no rising request is
  inside its replica. -/
  | tensionAdopt (site : Fin 7344) (b : Fin 16)
  /-- PANEL_CAPTURE (R72): A BASTE_REQUEST of KIND 0x01 holds the target panel and copies its registers and
  controller phases into the state plane. -/
  | panelCapture (path : Transport) (upper : BitVec 16) (column row : BitVec 8) (waiting : BitVec 16)
  /-- PENDING_VALUE_READ (R76): A BASTE_REQUEST of KIND 0x02 latches the pending or in-effect value of the named
  object. -/
  | pendingValueRead (path : Transport) (target : BitVec 32)
  /-- BASTE_COMPLETE (R71): A basting request completes: BASTE_DATA, SEQ, UNACKED and BUSY change together. -/
  | basteComplete
  /-- BASTE_ACK (R71): A write of the current SEQ to BASTE_ACK clears UNACKED. -/
  | basteAck (w : Wr)
  /-- WATCH_WINDOW_END (R104): At the end of each watch window, every watch point set and every hem completes its
  rate, capability and slack results as one change. -/
  | watchWindowEnd (samples : List (Fin 512 × Nat × Nat))
  /-- WATCH_ACK (R104): A write of the current SEQ to WATCH_ACK clears UNACKED. -/
  | watchAck (n : Fin 128) (w : Wr)
  /-- WATCH_STALL (R108): A handshake phase on a watched thread outlasts WATCH_STALL_BOUND; it starts a repair or,
  with REPORT_ONLY, is logged. -/
  | watchStall (w : Fin 512) (falling : Bool)
  /-- ISLAND_REQUEST_TIMEOUT (R136): A request into a stopped island is ended after ISLAND_STALL_BOUND, withdrawn,
  errored or refused with 0x0350, and HANG is set. -/
  | islandRequestTimeout (island : Fin 120) (compare fabric : Bool)
  /-- BOBBIN_WRITE (R116): A write into a bobbin is packed into a read word, or waits or is dropped when the bobbin
  is full. -/
  | bobbinWrite (b : Fin 768) (data : BitVec 64) (ctrl : BitVec 4)
  /-- GAP_MARKER_WRITE (R121): At the first instant at which a drop run is closed and a read word is free, the
  bobbin writes the gap marker. -/
  | gapMarkerWrite (b : Fin 768)
  /-- BOBBIN_READ (R116): A read side takes one read word, or gap marker, from a bobbin. -/
  | bobbinRead (b : Fin 768) (bad : Bool)
  /-- BOBBIN_ACK (R129): A write of the current SEQ to BOBBIN_ACK clears UNACKED. -/
  | bobbinAck (b : Fin 768) (w : Wr)
  /-- HEM_FABRIC_WRITE (R131): The fabric port of a drive-direction hem half latches one entry from its 33 threads.
  -/
  | hemFabricWrite (h : Fin 240) (data : BitVec 256) (tag : BitVec 8)
  /-- HEM_ENTRY_CROSS (R134): A hem entry becomes readable on the other side 2 to 4 island edges after it was
  written. -/
  | hemEntryCross (h : Fin 240) (bad : BitVec 5)
  /-- HEM_FABRIC_TAKE (R131): The fabric takes one offered entry from a compare-direction hem half. -/
  | hemFabricTake (h : Fin 240)
  /-- PENDING_GAP_WRITE (R141): At the first instant at which an entry is free, a compare-direction half writes its
  pending gap as a GAP entry. -/
  | pendingGapWrite (h : Fin 240)
  /-- HEM_FLUSH (R151): A write of 0x01 to HEM_COMMAND empties the hem at one island edge. -/
  | hemFlush (hem : Fin 216) (path : Transport)
  /-- HEM_ACK (R153): A write of the current SEQ to HEM_ACK clears UNACKED. -/
  | hemAck (hem : Fin 216) (w : Wr)
  /-- SHUTTLE_START (R197): A START command is accepted while the shuttle is HALTED; the shuttle enters ARMED and
  its run state is initialised. -/
  | shuttleStart (g : Fin 12) (startPc : BitVec 14) (path : Transport)
  /-- SHUTTLE_STOP (R199): A STOP command ends the run at the first boundary beat, or returns an ARMED shuttle to
  HALTED. -/
  | shuttleStop (g : Fin 12) (path : Transport)
  /-- SHUTTLE_STOP_AT_NOTCH (R199): A STOP_AT_NOTCH command ends the run at the first group notch after acceptance.
  -/
  | shuttleStopAtNotch (g : Fin 12) (path : Transport)
  /-- RUN_START (R198): The start instant of an ARMED shuttle is reached and the run's first slice starts. -/
  | runStart (g : Fin 12) (startAt : Nat) (up : BitVec 79)
  /-- SLICE_BOUNDARY (R202): At a boundary beat, the shuttle completes the ending instruction, applies any notch and
  sample, checks starvation and issues the next slice. -/
  | sliceBoundary (g : Fin 12) (up : BitVec 79) (remote : Option (BitVec 8))
  /-- HOLD_END (R148): At the first group beat at which no enabled drive hem starves, the held group writes HOLD_END
  and runs the pending slice. -/
  | holdEnd (g : Fin 12) (beats : Nat)
  /-- SLICE (R212): Opcode 0x01 issues REPEAT + 1 slices and then continues at pc + 1. -/
  | slice (g : Fin 12) (up : BitVec 79) (remote : Option (BitVec 8))
  /-- JUMP (R212): Opcode 0x02 issues one slice and then continues at TARGET. -/
  | jump (g : Fin 12) (up : BitVec 79) (remote : Option (BitVec 8))
  /-- LOAD (R212): Opcode 0x03 loads VALUE into a counter. -/
  | load (g : Fin 12) (up : BitVec 79) (remote : Option (BitVec 8))
  /-- LOOP (R212): Opcode 0x04 decrements a counter and branches to TARGET while the counter is not 0. -/
  | loop (g : Fin 12) (up : BitVec 79) (remote : Option (BitVec 8))
  /-- CALL (R212): Opcode 0x05 pushes the return address and branches to TARGET, or faults with 0x0421 when the
  stack is full. -/
  | call (g : Fin 12) (up : BitVec 79) (remote : Option (BitVec 8))
  /-- RETURN (R212): Opcode 0x06 pops the return address, or faults with 0x0422 when the stack is empty. -/
  | ret (g : Fin 12) (up : BitVec 79) (remote : Option (BitVec 8))
  /-- BRANCH_FLAG (R212): Opcode 0x07 branches on the masked flag register. -/
  | branchFlag (g : Fin 12) (up : BitVec 79) (remote : Option (BitVec 8))
  /-- BRANCH_FAIL (R212): Opcode 0x08 branches on the fail vector or on the sticky fail vector. -/
  | branchFail (g : Fin 12) (up : BitVec 79) (remote : Option (BitVec 8))
  /-- MATCH_FLAG (R213): Opcode 0x09 repeats its slice until the flags match or its counter times out. -/
  | matchFlag (g : Fin 12) (up : BitVec 79) (remote : Option (BitVec 8))
  /-- MATCH_FAIL (R213): Opcode 0x0A repeats its slice until the fail vector is clear or its counter times out. -/
  | matchFail (g : Fin 12) (up : BitVec 79) (remote : Option (BitVec 8))
  /-- CLEAR (R212): Opcode 0x0B clears the sticky fail vector. -/
  | clear (g : Fin 12) (up : BitVec 79) (remote : Option (BitVec 8))
  /-- HALT (R212): Opcode 0x3F ends the run at its final boundary. -/
  | halt (g : Fin 12) (up : BitVec 79) (remote : Option (BitVec 8))
  /-- RESERVED_OPCODE_FAULT (R217): A word holding a reserved opcode ends the run with fault 0x0420. -/
  | reservedOpcodeFault (g : Fin 12) (startAt : Nat) (up : BitVec 79) (remote : Option (BitVec 8))
  /-- FLAG_TOKEN_READ (R204): The shuttle reads one flag token from its general hem and updates the flag register.
  -/
  | flagTokenRead (g : Fin 12)
  /-- WIDEN_FLAG_APPLY (R309): A leader's flag token takes effect on every member of a widened set at a boundary
  beat after WIDEN_DELAY. -/
  | widenFlagApply (g : Fin 12) (token : Option (BitVec 16 × BitVec 16))
  /-- GROUP_CLOCK_LOST (R201): A group PLL loses lock; the run ends with 0x0406, the lanes go idle and the island
  stops. -/
  | groupClockLost (g : Fin 12)
  /-- GROUP_PLL_RELOCK (R201): A group PLL locks again; the island runs, a FAULT entry is written and CAL_STALE is
  set. -/
  | groupPllRelock (g : Fin 12)
  /-- PROGRAM_WRITE (R219): A PROGRAM record written while HALTED is checked and written into program memory at
  once. -/
  | programWrite (g : Fin 12) (w : Wr)
  /-- PROGRAM_PATCH_WRITE (R219): A PROGRAM_PATCH record is checked and staged for the next group notch. -/
  | programPatchWrite (g : Fin 12) (w : Wr)
  /-- PROGRAM_SCRUB_VISIT (R194): Every 1 µs of group time, the scrub port checks one program word and corrects or
  counts it. -/
  | programScrubVisit (g : Fin 12) (up : BitVec 79)
  /-- FAIL_LATENCY_WRITE (R207): A staged write of FAIL_LATENCY is refused when it lies below FAIL_LATENCY_MIN. -/
  | failLatencyWrite (g : Fin 12) (w : Wr)
  /-- SHUTTLE_ACK (R200): A write of the current SEQ to SHUTTLE_ACK clears UNACKED. -/
  | shuttleAck (g : Fin 12) (w : Wr)
  /-- SAMPLE_ACK (R218): A write of N to SAMPLE_ACK within range sets SAMPLE_ACKED. -/
  | sampleAck (g : Fin 12) (w : Wr)
  /-- D0 (R231): Symbol 0x0 applies the drive action for LOW. -/
  | d0 (c : Fin 96) (rx : List (Fin 4))
  /-- D1 (R231): Symbol 0x1 applies the drive action for HIGH. -/
  | d1 (c : Fin 96) (rx : List (Fin 4))
  /-- DZ (R231): Symbol 0x2 turns the driver OFF at E_OFF. -/
  | dz (c : Fin 96) (rx : List (Fin 4))
  /-- DK (R231): Symbol 0x3 repeats the drive action for v while driving. -/
  | dk (c : Fin 96) (rx : List (Fin 4))
  /-- CL (R231): Symbol 0x4 takes a strobe that expects level 0. -/
  | cl (c : Fin 96) (rx : List (Fin 4))
  /-- CH (R231): Symbol 0x5 takes a strobe that expects level 2. -/
  | ch (c : Fin 96) (rx : List (Fin 4))
  /-- CM (R231): Symbol 0x6 takes a strobe that expects level 1. -/
  | cm (c : Fin 96) (rx : List (Fin 4))
  /-- CX (R231): Symbol 0x7 takes a strobe whose result is masked. -/
  | cx (c : Fin 96) (rx : List (Fin 4))
  /-- D0CL (R231): Symbol 0x8 drives LOW and takes a strobe that expects level 0. -/
  | d0cl (c : Fin 96) (rx : List (Fin 4))
  /-- D1CH (R231): Symbol 0x9 drives HIGH and takes a strobe that expects level 2. -/
  | d1ch (c : Fin 96) (rx : List (Fin 4))
  /-- DN (R231): Symbol 0xA drives the inverse of v. -/
  | dn (c : Fin 96) (rx : List (Fin 4))
  /-- TE (R231): Symbol 0xB sets TERM at E_OFF. -/
  | te (c : Fin 96) (rx : List (Fin 4))
  /-- CC (R231): Symbol 0xC takes a strobe that captures the raw level. -/
  | cc (c : Fin 96) (rx : List (Fin 4))
  /-- RESERVED_SYMBOL (R231): Symbol 0xD acts as NOP, is counted and notifies 0x0501. -/
  | reservedSymbol (c : Fin 96) (rx : List (Fin 4))
  /-- ED (R231): Symbol 0xE drives HIGH and then returns LOW at E_RET. -/
  | ed (c : Fin 96) (rx : List (Fin 4))
  /-- NOP (R231): Symbol 0xF has no effect. -/
  | nop (c : Fin 96) (rx : List (Fin 4))
  /-- CAL_INTERNAL (R244): A CAL_REQUEST of KIND 0x01 starts internal vernier and PLL-phase calibration of the named
  groups. -/
  | calInternal (groups : BitVec 12) (path : Transport)
  /-- CAL_LOOP (R244): A CAL_REQUEST of KIND 0x02 starts loop-delay measurement of the named groups. -/
  | calLoop (groups : BitVec 12) (path : Transport)
  /-- CAL_COMPLETE (R245): A calibration request completes, stages its results and updates CAL_STATUS. -/
  | calComplete (loop : List (Option (BitVec 32)))
  /-- CAL_ACK (R245): A write of the current SEQ to CAL_ACK clears UNACKED. -/
  | calAck (w : Wr)
  /-- TIMING_TABLE_WRITE (R240): A timing-table write is checked as a whole and staged, or refused. -/
  | timingTableWrite (g : Fin 12) (w : Wr)
  /-- RAW_CONFIG_WRITE (R256): A RAW_CONFIG write is checked and staged. -/
  | rawConfigWrite (c : Fin 96) (w : Wr)
  /-- RAW_IDLE_UNIT (R254): The serialiser finds no drive entry ready, sends an idle unit and counts a loss. -/
  | rawIdleUnit (c : Fin 96)
  /-- RAW_RX_LOCK (R255): The raw receiver reaches LOCKED. -/
  | rawRxLock (c : Fin 96) (line : List Bool) (start : Nat)
  /-- RAW_LOCK_LOST (R255): The raw receiver drops its lock, writes the partial entry and notifies 0x0530. -/
  | rawLockLost (c : Fin 96) (n : Fin 24) (line : BitVec 256)
  /-- BANK_TICK (R263): A GPIO bank tick captures the inputs and presents levels captured two ticks earlier. -/
  | bankTick (b : Fin 4) (levels : BitVec 16)
  /-- GPIO_ENTRY_APPLY (R265): A to-island GPIO entry is applied at its APPLY_TIME tick. -/
  | gpioEntryApply (b : Fin 4)
  /-- EXT_CLOCK_MISSING (R261): No edge arrives on the external bank clock for 1 µs, and the bank island counts as
  stopped. -/
  | extClockMissing (b : Fin 4)
  /-- BANK_CLOCK_SWITCH (R260): A bank changes to a new or fallback clock, ticking on the first edge at least 5 ns
  after its last tick. -/
  | bankClockSwitch (b : Fin 4)
  /-- PIN_FUNCTION_WRITE (R269): A PIN_FUNCTION write is checked against the bank clock and staged. -/
  | pinFunctionWrite (b : Fin 4) (n : Fin 16) (w : Wr)
  /-- BANK_CLOCK_WRITE (R269): A BANK_CLOCK write is checked against pin 15's function and staged. -/
  | bankClockWrite (b : Fin 4) (w : Wr)
  /-- BANK_OUT_WRITE (R285): A BANK_OUT write applies values to OBJECT_OUT pins at the next tick. -/
  | bankOutWrite (b : Fin 4) (w : Wr)
  /-- PIN_FUNCTION_SWITCH (R270): A pin holds for one tick and then takes its new function. -/
  | pinFunctionSwitch (b : Fin 4) (n : Fin 16)
  /-- PUMP_CHARGE (R274): A SAFE pump port accepts a digit and delivers a charge when the value alternates. -/
  | pumpCharge (ball : Fin 8) (digit : BitVec 2)
  /-- PUMP_DECAY (R275): No charge arrives for the decay time, and the SAFE driver becomes undriven. -/
  | pumpDecay (ball : Fin 8)
  /-- SAFE_READBACK (R278): Every 1 µs the Thimble reads the SAFE balls and compares them with the driver states. -/
  | safeReadback (levels : BitVec 8)
  /-- BYPASS (R282): The IEEE 1149.1 BYPASS instruction. -/
  | bypass
  /-- IDCODE (R282): The IEEE 1149.1 IDCODE instruction. -/
  | idcode
  /-- SAMPLE_PRELOAD (R282): The IEEE 1149.1 SAMPLE/PRELOAD instruction. -/
  | samplePreload (pins : ScanIn) (cells : ScanDrive)
  /-- EXTEST (R283): EXTEST drives the scanned pins in UNCONFIGURED only; elsewhere it runs as SAMPLE/PRELOAD. -/
  | extest (pins : ScanIn) (cells : ScanDrive)
  /-- CLAMP (R283): CLAMP holds the scanned pins in UNCONFIGURED only. -/
  | clamp (pins : ScanIn)
  /-- HIGHZ (R282): The IEEE 1149.1 HIGHZ instruction. -/
  | highz
  /-- EXTEST_PULSE (R283): The IEEE 1149.6 EXTEST_PULSE instruction, effective in UNCONFIGURED only. -/
  | extestPulse (pins : ScanIn) (cells : ScanDrive)
  /-- EXTEST_TRAIN (R283): The IEEE 1149.6 EXTEST_TRAIN instruction, effective in UNCONFIGURED only. -/
  | extestTrain (pins : ScanIn) (cells : ScanDrive)
  /-- TEST_LOGIC_RESET (R283): The TAP is reset; scanned pins return to their normal behaviour and the JTAG session
  ends. -/
  | testLogicReset
  /-- JTAG_OBJECT_READ (R420): An OBJECT register with OP 0x01 issues an object read at Update-DR. -/
  | jtagObjectRead (idx : BitVec 16) (sub : BitVec 8)
  /-- JTAG_OBJECT_WRITE (R420): An OBJECT register with OP 0x02 issues an object write at Update-DR. -/
  | jtagObjectWrite (idx : BitVec 16) (sub : BitVec 8) (value : BitVec 64)
  /-- OBJECT_DATA (R419): The OBJECT_DATA instruction streams the JTAG transfer buffer. -/
  | objectData (data : BitVec 32)
  /-- JTAG_STATE (R419): The STATE instruction captures the state code and reason codes. -/
  | jtagState
  /-- FW_RESCUE (R388): While the device is held in BOOT, FW_RESCUE writes and checks firmware in slot A and
  restarts BOOT. -/
  | fwRescue (image : List Byte)
  /-- CELL_FORWARD (R290): A ring cell not addressed to this member is forwarded within 40 ns. -/
  | cellForward (fromEast : Bool) (c : Cell)
  /-- LINK_OPEN (R292): A cascade link is found open, and the members at its ends wrap. -/
  | linkOpen (l : LinkReport)
  /-- LINK_UP (R301): A cascade link comes up, and the member enters JOINING and is stepped or slewed. -/
  | linkUp (l : LinkReport) (peer : Fin 16) (delay : BitVec 30) (time : Option Nat) (freqOk : Bool)
  /-- LINK_STABLE (R292): A link that has been up for 100 µs schedules its unwrap at the next cascade notch. -/
  | linkStable (east : Bool)
  /-- HEARTBEAT_SEND (R295): The master sends a heartbeat in both directions every 4 µs. -/
  | heartbeatSend (v : RingView)
  /-- HEARTBEAT_RECEIVE (R295): A member receives and forwards a heartbeat. -/
  | heartbeatReceive (fromEast : Bool) (master : Fin 16) (seq : BitVec 32) (time : BitVec 64) (v : RingView)
      (duplicate : Bool)
  /-- MASTER_LOST (R295): No heartbeat arrives for 13 µs; the member declares the master lost and holds its time
  over. -/
  | masterLost
  /-- MASTER_CLAIM (R295): A claim cell is sent or received and is accepted or objected to. -/
  | masterClaim (x : Claim) (objected : Bool)
  /-- MASTER_RELEASE (R296): A master that is no longer healthy sends a release cell and hands its role over. -/
  | masterRelease (source : Fin 16)
  /-- TIMING_EXCHANGE (R299): A two-way timing exchange measures the link delay, and device time and PLL phase are
  corrected. -/
  | timingExchange (east : Bool) (t1 t2 t3 t4 : Int) (m : MasterView)
  /-- CASCADE_NOTCH_RECEIVE (R303): A member receives a cascade notch broadcast, and logs 0x0A20 if it arrives late.
  -/
  | cascadeNotchReceive (number : BitVec 32) (time : BitVec 64)
  /-- CASCADE_NOTCH_APPLY (R18): At each group's first slice boundary at or after T, the cascade notch takes effect
  as a group notch and as the device notch. -/
  | cascadeNotchApply (sets : List WidenView)
  /-- CASCADE_SWATCH_RECEIVE (R304): A member receives a cascade swatch broadcast and schedules its latch. -/
  | cascadeSwatchReceive (number : BitVec 32) (time : BitVec 64)
  /-- LEAVE (R310): CASCADE_REQUEST 0x01 removes the member; its neighbours wrap at the next cascade notch. -/
  | leave (path : Transport)
  /-- CASCADE_NOTCH_REQUEST (R302): CASCADE_REQUEST 0x02 asks the master for a cascade notch. -/
  | cascadeNotchRequest (path : Transport)
  /-- CASCADE_SWATCH (R304): CASCADE_REQUEST 0x03 asks the master for a cascade swatch. -/
  | cascadeSwatch (path : Transport)
  /-- THREAD_TOKEN_SEND (R306): A cascade thread token with a credit is injected into the ring. -/
  | threadTokenSend (west : Bool)
  /-- THREAD_TOKEN_RECEIVE (R307): A cascade thread token arrives and is written into the receive hem. -/
  | threadTokenReceive (west : Bool) (thread : Fin 16) (data : BitVec 256)
  /-- CREDIT_RETURN (R306): A returned credit arrives at the source and raises its credit count. -/
  | creditReturn (i : Fin 32)
  /-- THREAD_RESEAL (R308): After a route change, the thread is resealed, its losses counted and a GAP entry
  written. -/
  | threadReseal (i : Fin 32) (held : BitVec 8) (n : SealCount) (present : Bool)
  /-- CASCADE_RECOVER (R312): A RECOVER_REQUEST sends a wardrobe image slot over the ring to a target member. -/
  | cascadeRecover (w : Wr)
  /-- CASCADE_ACK (R313): A write of the current SEQ to CASCADE_ACK clears UNACKED. -/
  | cascadeAck (w : Wr)
  /-- HEADER_RECORD (R318): An image HEADER record is checked in order and starts a full or partial load. -/
  | headerRecord (r : RecordIn)
  /-- FRAME_RECORD (R325): A FRAME record is decrypted, checked and written or staged. -/
  | frameRecord (r : RecordIn) (taps : List (Fin 512))
  /-- KEY_ROLL (R365): A KEY_ROLL record starts a new key epoch. -/
  | keyRoll (r : RecordIn)
  /-- GROUP_HASH (R366): A GROUP_HASH record closes a group, and its tag, chain and counts are checked. -/
  | groupHash (r : RecordIn)
  /-- SIGNATURE_RECORD (R367): A SIGNATURE record is checked against the signer's key. -/
  | signatureRecord (r : RecordIn)
  /-- END_RECORD (R325): An END record is checked, the setup records are applied and the start-up steps begin, or
  staging completes. -/
  | endRecord (r : RecordIn) (bindings : List (Fin 512 × Word))
  /-- STARTUP_PLL_LOCK (R334): The PLL_LOCK start-up step ends once every group with a reference has locked, or
  after 1 ms. -/
  | startupPllLock (locked : BitVec 12)
  /-- FITTING_TIMEOUT (R336): A held load reaches FITTING_TIMEOUT; the array is cleared and the device enters
  UNCONFIGURED with 0x0132. -/
  | fittingTimeout
  /-- CFG_CS_N_RISE (R335): CFG_CS_N rises before the END record and the image is truncated. -/
  | cfgCsNRise
  /-- STREAM_DATA (R330): A STREAM_DATA write delivers image bytes over PCI Express. -/
  | streamData (w : Wr)
  /-- STREAM_ABANDON (R335): STREAM_COMMAND 0x01 abandons the stream and truncates the image. -/
  | streamAbandon (path : Transport)
  /-- STREAM_INACTIVITY (R335): No byte arrives for FITTING_TIMEOUT and the image is truncated. -/
  | streamInactivity
  /-- LOAD_REQUEST (R331): A write to LOAD_REQUEST loads the image held in a wardrobe slot. -/
  | loadRequest (w : Wr)
  /-- PARTIAL_COMMIT_COMPLETE (R341): A latched commit activates the shadow plane, opens the gates and completes
  PARTIAL_STATUS. -/
  | partialCommitComplete (ups : List FrameUpset) (bindings : List (Fin 512 × Word))
  /-- PARTIAL_DISCARD (R342): A PARTIAL_DISCARD write discards the staged image before its commit latches. -/
  | partialDiscard (path : Transport)
  /-- CFG_SCRUB_FRAME (R343): A patch scrubber checks one active frame, corrects it or starts a recovery repair. -/
  | cfgScrubFrame (q : Fin 54) (data : BitVec 2048) (check : BitVec 12) (crc : BitVec 32)
  /-- RECOVERY_COPY_COMPLETE (R355): The recovery copy of the loaded or committed patches is complete in the
  wardrobe. -/
  | recoveryCopyComplete
  /-- START_ORDER_WRITE (R333): A write to 0x2010.01 is checked as a start-up order. -/
  | startOrderWrite (w : Wr)
  /-- CFG_ACK (R346): A write of the current SEQ to CFG_ACK clears UNACKED. -/
  | cfgAck (w : Wr)
  /-- PARTIAL_ACK (R346): A write of the current SEQ to PARTIAL_ACK clears UNACKED. -/
  | partialAck (w : Wr)
  /-- CFG_SCRUB_ACK (R346): A write of the current SEQ to CFG_SCRUB_ACK clears UNACKED. -/
  | cfgScrubAck (w : Wr)
  /-- SLOT_OPEN (R352): SLOT_COMMAND OPEN marks a slot WRITING. -/
  | slotOpen (path : Transport) (slot : BitVec 8)
  /-- SLOT_DATA (R352): A SLOT_DATA write appends image bytes to the open slot. -/
  | slotData (w : Wr)
  /-- SLOT_CLOSE (R352): SLOT_COMMAND CLOSE starts read-back verification of the slot. -/
  | slotClose (path : Transport) (slot : BitVec 8)
  /-- SLOT_VERIFY_COMPLETE (R352): Verification ends, and the slot becomes VALID or EMPTY. -/
  | slotVerifyComplete (r : SlotRead)
  /-- SLOT_ERASE (R353): SLOT_COMMAND ERASE makes a slot EMPTY. -/
  | slotErase (path : Transport) (slot : BitVec 8)
  /-- SLOT_ABANDON (R353): SLOT_COMMAND ABANDON fails the open slot write. -/
  | slotAbandon (path : Transport) (slot : BitVec 8)
  /-- SLOT_WRITE_TIMEOUT (R353): No SLOT_DATA write arrives for 10 s and the slot write fails. -/
  | slotWriteTimeout
  /-- WARDROBE_ACK (R389): A write of the current SEQ to WARDROBE_ACK clears UNACKED. -/
  | wardrobeAck (w : Wr)
  /-- KEY_PROGRAM (R357): A KEY_PROGRAM write unwraps a key into a fuse or battery slot. -/
  | keyProgram (w : Wr)
  /-- KEY_REVOKE (R359): KEY_REVOKE revokes a fuse key or zeroises a battery key. -/
  | keyRevoke (w : Wr)
  /-- OWNER_KEY_PROGRAM (R358): OWNER_KEY_PROGRAM programs the digest of an owner key. -/
  | ownerKeyProgram (w : Wr)
  /-- OWNER_KEY_REVOKE (R359): OWNER_KEY_REVOKE blows the revocation fuse of an owner key. -/
  | ownerKeyRevoke (w : Wr)
  /-- VERSION_RAISE (R360): VERSION_RAISE raises SECURITY_VERSION_MIN and marks old slots STALE. -/
  | versionRaise (w : Wr)
  /-- SESSION_REQUEST (R370): A SESSION_REQUEST asks for a role and draws a challenge. -/
  | sessionRequest (t : Fin 3) (w : Wr)
  /-- SESSION_RESPONSE (R371): A RESPONSE is checked, and the session takes the role or the failure is logged. -/
  | sessionResponse (t : Fin 3) (w : Wr)
  /-- SESSION_END (R372): A SESSION_END write ends the session. -/
  | sessionEnd (t : Fin 3) (w : Wr)
  /-- SESSION_TIMEOUT (R372): SESSION_TIMEOUT passes without an access above the open role, and the session ends. -/
  | sessionTimeout (t : Fin 3)
  /-- LC_REQUEST (R376): An LC_REQUEST starts a life-cycle transition by blowing its begin fuse. -/
  | lcRequest (w : Wr)
  /-- LC_TRANSITION_COMPLETE (R376): The transition's effects are done, the state fuse is blown and 0x0224 is
  logged. -/
  | lcTransitionComplete
  /-- ATTEST_REQUEST (R380): A nonce written to ATTEST_REQUEST latches the report fields. -/
  | attestRequest (w : Wr)
  /-- ATTEST_COMPLETE (R380): The signed attestation report completes. -/
  | attestComplete
  /-- ATTEST_ACK (R390): A write of the current SEQ to ATTEST_ACK clears UNACKED. -/
  | attestAck (w : Wr)
  /-- TAMPER_EVENT (R382): An enabled tamper input stays high for 100 µs; battery keys are zeroised, and SAFE
  follows if SAFE_ON_TAMPER = 1. -/
  | tamperEvent (n : Fin 2)
  /-- TAMPER_ACK (R383): TAMPER_ACK clears TAMPERED and VBAT_LOST. -/
  | tamperAck (w : Wr)
  /-- TAMPER_CONFIG_WRITE (R383): A TAMPER_CONFIG write is checked and applied. -/
  | tamperConfigWrite (w : Wr)
  /-- FW_OPEN (R386): FW_COMMAND OPEN opens the slot that is not running for writing. -/
  | fwOpen (path : Transport)
  /-- FW_DATA (R386): An FW_DATA write appends firmware bytes to the open slot. -/
  | fwData (w : Wr)
  /-- FW_VERIFY (R386): FW_COMMAND VERIFY checks the open slot. -/
  | fwVerify (r : FwRead)
  /-- FW_VERIFY_COMPLETE (R386): Firmware verification ends, and the slot becomes valid or invalid. -/
  | fwVerifyComplete
  /-- FW_ACTIVATE (R386): FW_COMMAND ACTIVATE makes the valid other slot active on trial from the next BOOT. -/
  | fwActivate (path : Transport)
  /-- FW_CONFIRM (R386): FW_COMMAND CONFIRM ends the trial. -/
  | fwConfirm (path : Transport)
  /-- FW_RAISE_VERSION (R386): FW_COMMAND RAISE_VERSION raises FW_SECURITY_MIN. -/
  | fwRaiseVersion (path : Transport)
  /-- FW_ABANDON (R386): FW_COMMAND ABANDON marks the open slot invalid. -/
  | fwAbandon (path : Transport)
  /-- FW_ACK (R389): A write of the current SEQ to FW_ACK clears UNACKED. -/
  | fwAck (w : Wr)
  /-- LOG_SELECT (R351): A LOG_SELECT write latches a log page into LOG_PAGE. -/
  | logSelect (r : PageRead)
  /-- NOTIFY_ACK (R403): A NOTIFY_ACK write advances NOTIFY_ACKED and re-sends pending vectors. -/
  | notifyAck (w : Wr)
  /-- NMT_START (R409): An NMT command puts the CAN node into operational. -/
  | nmtStart
  /-- NMT_STOP (R409): An NMT command puts the CAN node into stopped. -/
  | nmtStop
  /-- NMT_PRE_OPERATIONAL (R409): An NMT command puts the CAN node into pre-operational. -/
  | nmtPreOperational
  /-- NMT_RESET_NODE (R409): NMT reset node disables the PDOs, applies the rates, ends the CAN session and sends
  boot-up. -/
  | nmtResetNode
  /-- NMT_RESET_COMMUNICATION (R409): NMT reset communication does the same as reset node. -/
  | nmtResetCommunication
  /-- SYNC_RECEIVE (R408): A SYNC frame is received; synchronous TPDOs and the SYNC swatch trigger act on it. -/
  | syncReceive
  /-- USDO_REQUEST (R410): A USDO transfer reads or writes an object, expedited or segmented. -/
  | usdoRequest (m : UsdoMsg)
  /-- USDO_TIMEOUT (R410): A segmented transfer with no segment for 1 s aborts. -/
  | usdoTimeout
  /-- TPDO_EVENT_CHECK (R411): Every 100 µs the mapped values of event-driven TPDOs are checked and sent on change.
  -/
  | tpdoEventCheck
  /-- RPDO_RECEIVE (R411): A received RPDO is applied as one write per mapped entry. -/
  | rpdoReceive (n : Fin 16) (data : List Byte)
  /-- CAN_HEARTBEAT (R408): The CAN heartbeat is produced every period of 0x1017. -/
  | canHeartbeat
  /-- CAN_BUS_OFF (R428): A CAN bus-off is recovered automatically and logged. -/
  | canBusOff
  /-- MAILBOX_READ (R416): MB_REQUEST with OP 0x01 reads an object value into MB_BUFFER. -/
  | mailboxRead (idx : BitVec 16) (sub : BitVec 8) (irq : Bool)
  /-- MAILBOX_WRITE (R416): MB_REQUEST with OP 0x02 writes the value held in MB_BUFFER to an object. -/
  | mailboxWrite (idx : BitVec 16) (sub : BitVec 8) (irq : Bool) (data : List Byte) (length : BitVec 24)
  /-- PCIE_LINK_RESET (R418): A link-down, hot reset or FLR ends the PCIe session and any mailbox transfer. -/
  | pcieLinkReset
  /-- FABRIC_READ (R423): A FABRIC_READ request from the fabric port reads an object. -/
  | fabricRead
  /-- FABRIC_WRITE (R423): A FABRIC_WRITE request from the fabric port writes an object. -/
  | fabricWrite
  /-- USER_OBJECT_ACCESS (R424): A transport access to a user object is forwarded to the fabric as USER_READ or
  USER_WRITE. -/
  | userObjectAccess (path : Transport) (idx : Fin 4096) (sub : BitVec 8) (write : Bool) (len : Fin 9) (value :
      BitVec 64)
  /-- USER_ANSWER (R424): A USER_ANSWER from the fabric completes the waiting access. -/
  | userAnswer
  /-- USER_TIMEOUT (R424): A user-object access not answered within USER_TIMEOUT is refused with 0x0B08. -/
  | userTimeout (id : BitVec 16)
  /-- SENSOR_UPDATE (R428): Every 100 µs the sensor and monitor readings update, driving thermal, voltage-band and
  exclusion checks. -/
  | sensorUpdate (temps volts : List (BitVec 16))
  /-- TREF_FREQUENCY_WRITE (R429): A TREF_FREQUENCY write declares an input frequency, in UNCONFIGURED and FITTING
  only. -/
  | trefFrequencyWrite (n : Fin 4) (w : Wr)
  /-- GROUP_TREF_WRITE (R429): A GROUP_TREF write moves groups to other inputs, stopping their islands until relock.
  -/
  | groupTrefWrite (w : Wr)
  /-- SPOOL_START (R438): SPOOL_COMMAND START sets HEAD and puts the channel into RUNNING. -/
  | spoolStart (c : Fin 16) (path : Transport) (index : BitVec 16)
  /-- SPOOL_ABORT (R445): SPOOL_COMMAND ABORT stops the named descriptor or reports it already complete. -/
  | spoolAbort (c : Fin 16) (path : Transport) (index : BitVec 16)
  /-- SPOOL_DOORBELL (R435): A doorbell or SPOOL_TAIL write posts descriptors by moving TAIL. -/
  | spoolDoorbell (c : Fin 16) (page : Option Nat) (w : Wr)
  /-- DESCRIPTOR_FETCH (R437): A fetched descriptor is checked and started, or halts the channel as invalid. -/
  | descriptorFetch (c : Fin 16) (raw : BitVec 256)
  /-- BURST_GRANT (R440): Arbitration grants one burst to the highest-priority ready channel. -/
  | burstGrant (x : Burst)
  /-- BEAT_COMPLETE (R433): A data beat completes between host and endpoint. -/
  | beatComplete (c : Fin 16) (data : BitVec 512)
  /-- BUS_ERROR (R443): A bus error on a beat, fetch or writeback halts the channel and records the error. -/
  | busError (c : Fin 16) (kind : Fin 4) (cause : Fin 6)
  /-- SPOOL_ACK (R449): A write of the current SEQ to SPOOL_ACK clears UNACKED. -/
  | spoolAck (c : Fin 16) (w : Wr)
  /-- TALLY_EVENT (R453): A counter's source event or level tick counts, and may cross a threshold or overflow. -/
  | tallyEvent (n : Fin 1024) (level : Bool)
  /-- TALLY_CLEAR (R455): TALLY_CLEAR sets a counter to 0 and clears OVERFLOW. -/
  | tallyClear (n : Fin 1024) (w : Wr)
  /-- TALLY_CLEAR_RANGE (R455): TALLY_CLEAR_RANGE clears a range of counters at one instant. -/
  | tallyClearRange (w : Wr)
  /-- TALLY_CONFIG_WRITE (R455): A TALLY_CONFIG write changes the source, mode or chain and clears the counter. -/
  | tallyConfigWrite (n : Fin 1024) (w : Wr)
  /-- TALLY_ACK (R459): A write of the current SEQ to TALLY_ACK clears UNACKED. -/
  | tallyAck (n : Fin 1024) (w : Wr)
  /-- DUMP_PERIOD_EXPIRY (R460): At each whole multiple of DUMP_PERIOD, a dump is latched in mode 1. -/
  | dumpPeriodExpiry
  /-- DUMP_REQUEST (R460): A DUMP_REQUEST latches a dump at acceptance. -/
  | dumpRequest (w : Wr)
  /-- DUMP_ACK (R464): A write of the current SEQ to DUMP_ACK clears UNACKED. -/
  | dumpAck (w : Wr)
  /-- SWATCH_REQUEST_LOCAL (R467): SWATCH_REQUEST 0x01 is a host trigger for a local swatch. -/
  | swatchRequestLocal (path : Transport)
  /-- SWATCH_REQUEST_CASCADE (R467): SWATCH_REQUEST 0x02 routes a swatch request to the cascade master. -/
  | swatchRequestCascade (path : Transport)
  /-- SWATCH_LATCH (R467): At latch time T, every island and panel latches its swatch section. -/
  | swatchLatch (views : List PanelView)
  /-- SWATCH_COMPLETE (R473): A swatch slot completes, and its objects and SEQ change as one change. -/
  | swatchComplete
  /-- SWATCH_ACK (R473): A write of the current SEQ to SWATCH_ACK sets SWATCH_ACKED. -/
  | swatchAck (w : Wr)
  /-- REPAIR_START (R485): The Thimble takes a fault report, chooses a spare and starts an unplanned repair, or
  isolates the patch. -/
  | repairStart
  /-- REPAIR_RELEASE (R485): A repair or planned move restores state, opens the gates and completes its record. -/
  | repairRelease (q : Fin 54) (r : Recovered)
  /-- RETIRE (R491): REPAIR_REQUEST RETIRE moves logic off a site in a planned move. -/
  | retire (path : Transport) (column row : BitVec 8)
  /-- REPAIR_RETURN (R491): REPAIR_REQUEST RETURN self-tests a RETIRED site and shifts the band back if it passes.
  -/
  | repairReturn (path : Transport) (column row : BitVec 8)
  /-- REPAIR_ACK (R502): A write of the current SEQ to REPAIR_ACK clears UNACKED. -/
  | repairAck (w : Wr)
  /-- FRENCH_MISMATCH (R493): A French receiver finds a mismatch or skew; both halves check their frames and roll
  back. -/
  | frenchMismatch (n : Fin 64) (bad : Option (Fin 2))
  /-- FRENCH_BREAK (R494): A second mismatch before the replay ends breaks the French seam, and a safety seam enters
  SAFE. -/
  | frenchBreak (n : Fin 64)
  /-- FRENCH_ACK (R504): A write of the current SEQ to FRENCH_ACK clears UNACKED. -/
  | frenchAck (n : Fin 64) (w : Wr)
  /-- SITE_TEST_START (R497): The rolling self-test scheduler vacates a band and starts testing a site. -/
  | siteTestStart (column : Fin 102) (row : Fin 72)
  /-- BIST_SLICE_END (R495): A 1 ms BIST slice ends and its signatures are compared; after the 16th slice the site's
  result is recorded. -/
  | bistSliceEnd (column : Fin 102) (row : Fin 72) (sig4 sigT : BitVec 64)
  /-- BIST_ARRAY (R499): BIST_REQUEST ARRAY tests every site in UNCONFIGURED. -/
  | bistArray (path : Transport)
  /-- BIST_ARRAY_COMPLETE (R499): The ARRAY test completes, retires failing sites and completes BIST_STATUS. -/
  | bistArrayComplete (fails : List (Fin 7344 × Fin 16)) (margins : List (Fin 7344))
  /-- BIST_ACK (R505): A write of the current SEQ to BIST_ACK clears UNACKED. -/
  | bistAck (w : Wr)
  /-- BLOCK_READ (R165): A READ request on a block port decodes the word, correcting it or detecting an error. -/
  | blockRead (m : Fin 1536) (b : Bool) (a : Fin 1024) (data : BitVec 64) (be : BitVec 8) (badOp : Bool) (up :
      BitVec 80)
  /-- BLOCK_WRITE (R168): A WRITE request on a block port stores a full or merged word. -/
  | blockWrite (m : Fin 1536) (b : Bool) (a : Fin 1024) (data : BitVec 64) (be : BitVec 8) (up : BitVec 80)
  /-- BLOCK_WRITE_POISON (R168): A WRITE_POISON request stores the word with POISON = 1. -/
  | blockWritePoison (m : Fin 1536) (b : Bool) (a : Fin 1024) (data : BitVec 64) (up : BitVec 80)
  /-- CORRECTION_WRITEBACK (R166): A corrected word is written back through the maintenance path. -/
  | correctionWriteback (m : Fin 1536)
  /-- LEAK_INSTANT (R173): At each leak instant every block bucket decreases by 1 and may re-arm. -/
  | leakInstant
  /-- PATROL_SCRUB_VISIT (R175): The patrol scrub visits one word, correcting or poisoning it. -/
  | patrolScrubVisit (up : BitVec 80)
  /-- SCRUB_REQUEST (R176): A SCRUB_REQUEST starts scrubbing a range of blocks. -/
  | scrubRequest (w : Wr)
  /-- SCRUB_COMPLETE (R176): The requested scrub completes, and SCRUB_SUMMARY and SEQ change together. -/
  | scrubComplete (ups : List (Nat × Nat × BitVec 80))
  /-- SCRUB_ACK (R176): A write of the current SEQ to SCRUB_ACK clears UNACKED. -/
  | scrubAck (w : Wr)
  /-- BLOCK_REPAIR (R185): A BLOCK_REPAIR request, or an automatic repair of a hard fault, switches in a spare row
  or column. -/
  | blockRepair (m : Fin 1536) (w : Option Wr)
  /-- BLOCK_REPAIR_COMPLETE (R184): A block repair completes, is logged and is written to the soft map. -/
  | blockRepairComplete (m : Fin 1536) (mapFails : Bool)
  /-- FLIP_INJECT (R187): BLOCK_FLIP_INJECT re-encodes a word and XORs it with the mask. -/
  | flipInject (m : Fin 1536) (w : Wr)
  /-- BLOCK_ACK (R191): A write of the current SEQ to BLOCK_ACK clears UNACKED. -/
  | blockAck (m : Fin 1536) (w : Wr)
  /-- PERMIT_REFRESH (R509): The Thimble firmware refreshes the permit gate every 5 µs. -/
  | permitRefresh
  /-- PERMIT_GATE_TIMEOUT (R509): 8 µs without a refresh makes the gate withdraw every permit by itself. -/
  | permitGateTimeout
  /-- LOCKSTEP_MISMATCH (R509): The Thimble's two cores disagree; permits are withdrawn and SAFE is entered with
  0x0920. -/
  | lockstepMismatch
  /-- LINING_PLANE_FAIL (R510): One lining plane fails and its traffic moves to the other plane. -/
  | liningPlaneFail (plane : Fin 2)
  /-- LINING_BOTH_FAIL (R510): Both lining planes fail, and SAFE is entered with 0x0921. -/
  | liningBothFail
  /-- LINING_TEST (R514): Every 100 µs each lining plane carries a test token between stations. -/
  | liningTest (passed : BitVec 2)
  /-- LOCKSTEP_SELF_TEST (R514): Every 1 s a forced mismatch tests the lockstep comparator. -/
  | lockstepSelfTest (caught : Bool)
  /-- PROOF_REQUEST (R517): PROOF_REQUEST starts a proof test of the named safety functions. -/
  | proofRequest (w : Wr)
  /-- PROOF_TEST_END (R517): A proof test finishes, passing or entering SAFE with 0x0931. -/
  | proofTestEnd (ok : Bool)
  /-- PROOF_DUE_WARNING (R518): 10 % of PROOF_INTERVAL before expiry, 0x0930 is notified. -/
  | proofDueWarning (f : Fin 4)
  /-- PROOF_INTERVAL_EXPIRY (R518): The last proof test is older than PROOF_INTERVAL, and the permit is withdrawn if
  PROOF_REQUIRED = 1. -/
  | proofIntervalExpiry (f : Fin 4)
  /-- SAFETY_ACK (R532): A write of the current SEQ to SAFETY_ACK clears UNACKED. -/
  | safetyAck (w : Wr)
  /-- THERMAL_ACK (R427): A write of the current SEQ to THERMAL_ACK clears UNACKED. -/
  | thermalAck (w : Wr)
  /-- WEAR_MODEL_UPDATE (R522): Each second the wear model adds weighted wear-hours. -/
  | wearModelUpdate
  /-- GAUGE_MEASURE (R523): Once a minute every wear gauge reports its ratio. -/
  | gaugeMeasure (ratios : List (BitVec 32))
  /-- WEAR_PREDICTION (R526): Once a minute consumption and remaining life are computed and thresholds notified. -/
  | wearPrediction
  /-- WEAR_HEADROOM_WRITE (R525): A WEAR_HEADROOM write recomputes W_limit at once. -/
  | wearHeadroomWrite (w : Wr)
  /-- WEAR_ACK (R533): A write of the current SEQ to WEAR_ACK clears UNACKED. -/
  | wearAck (w : Wr)
  /-- RAW_SERIALISER_TAKE (R252): In RAW mode the serialiser needs its next drive entry, finds one ready and sends
  its line bits. -/
  | rawSerialiserTake (c : Fin 96)
  /-- RAW_RECEIVER_ENTRY (R255): The raw receiver has collected 256 bits, 24 characters or two blocks and writes a
  compare entry, marking code errors. -/
  | rawReceiverEntry (c : Fin 96) (line : BitVec 256)
  /-- CASCADE_REQUEST_CELL (R302): A cascade notch or swatch request, or a routed swatch trigger, sent by another
  member reaches the master, which issues the broadcast. -/
  | cascadeRequestCell (r : RingRequest)
  /-- WIDEN_COMMAND_RECEIVE (R309): A START, STOP or STOP_AT_NOTCH written on the leader of a widened set reaches
  another member and acts on its shuttle at the common device time. -/
  | widenCommandReceive (g : Fin 12) (cmd : Fin 4) (startPc : BitVec 14) (time : Nat)
  /-- CASCADE_RECOVER_COMPLETE (R312): The recovery stream has been sent to the target, and RECOVER_STATUS completes
  with SEQ, UNACKED and BUSY. -/
  | cascadeRecoverComplete (broken : Bool)
  /-- SLOT_ERASE_COMPLETE (R353): An ERASE finishes within 100 ms and the slot becomes EMPTY. -/
  | slotEraseComplete
  /-- BATTERY_STORE_LOSS (R383): VBAT falls below 1.1 V while VAUX is also below 1.1 V, so the battery key store
  loses its contents. -/
  | batteryStoreLoss
  /-- TREF_0_PRESENCE_CHANGE (R427): Edges appear on or vanish from TREF_0, and device time switches between
  counting from TREF_0 and counting from the Thimble clock, changing only its rate. -/
  | tref0PresenceChange (v : Tref0View)
  /-- CAN_ERROR_PASSIVE (R405): Bus errors take the CAN controller into or out of error-passive, which changes
  CAN_STATUS.BUS and bit 4 of the error register. -/
  | canErrorPassive (tec : BitVec 8) (rec' : BitVec 8)
  deriving DecidableEq, Repr

end Sys2Proof
end

