-- ==== Sys2Proof/WellFormed.lean ====
section
/-! DEFINITION. Well-formed commands: what the operands of a command keep to beyond their types. A command that is not well
formed stands for nothing that can happen to the block; a write whose value the block refuses is well formed. -/

namespace Sys2Proof

/-- A write carries a fixed-size value of at most 8 bytes that fits its length (R394, R414), or the bytes of a string or DOMAIN
value, not both; an offset in a slot is below 8. -/
def Wr.wf (w : Wr) : Bool := w.len ≤ 8 && w.value.toNat < 2 ^ (8 * w.len) && (w.len == 0 || w.bytes.isEmpty) && w.off < 8

/-- The members of a cascade number 0 to 15 (R289); destination 16 names all of them. -/
def Cell.wf (c : Cell) : Bool := c.source < 16 && c.dest ≤ 16

/-- A record that arrives from outside brings bytes (R315). -/
def RecordIn.wf : RecordIn → Bool
  | .port samples => !samples.isEmpty
  | .pcie => true
  | .slot _ => true
  | .recovery bytes => !bytes.isEmpty

/-- A USDO frame has 1 to 8 bytes of an expedited write, an announced number of bytes above 0, at most 64 bytes in a segment (R410). -/
def UsdoMsg.wf : UsdoMsg → Bool
  | .read _ _ => true
  | .write _ _ data => 1 ≤ data.length && data.length ≤ 8
  | .start _ _ total => 1 ≤ total
  | .segment data _ => data.length ≤ 64
  | .next n => 1 ≤ n.val

/-- A command is well formed: times are 64 bits wide (R427), lists hold what the event names at most once for each thing it
can name. -/
def Instr.wf : Instr → Bool
  | .powerOnReset _ => true
  | .supplyRemoval => true
  | .railFall _ => true
  | .vauxFall => true
  | .resetNAssert => true
  | .resetNRelease => true
  | .resetHoldExpiry _ => true
  | .bootComplete _ _ => true
  | .resetRequest _ => true
  | .foldRequest _ => true
  | .foldQuiesce => true
  | .wakeRequest _ => true
  | .clearRequest _ => true
  | .stateAck w => w.wf
  | .hostNotch w => w.wf
  | .objectWrite _ _ w => w.wf
  | .bundleTokenAccept _ _ _ _ _ => true
  | .mergeGrant _ _ _ _ => true
  | .seamDigitLaunch _ _ _ _ => true
  | .seamWordLatch _ _ _ _ _ _ => true
  | .tensionAdopt _ _ => true
  | .panelCapture _ _ _ _ _ => true
  | .pendingValueRead _ _ => true
  | .basteComplete => true
  | .basteAck w => w.wf
  | .watchWindowEnd samples => samples.length ≤ 512
  | .watchAck _ w => w.wf
  | .watchStall _ _ => true
  | .islandRequestTimeout _ _ _ => true
  | .bobbinWrite _ _ _ => true
  | .gapMarkerWrite _ => true
  | .bobbinRead _ _ => true
  | .bobbinAck _ w => w.wf
  | .hemFabricWrite _ _ _ => true
  | .hemEntryCross _ _ => true
  | .hemFabricTake _ => true
  | .pendingGapWrite _ => true
  | .hemFlush _ _ => true
  | .hemAck _ w => w.wf
  | .shuttleStart _ _ _ => true
  | .shuttleStop _ _ => true
  | .shuttleStopAtNotch _ _ => true
  | .runStart _ startAt _ => startAt < 2 ^ 64
  | .sliceBoundary _ _ _ => true
  | .holdEnd _ beats => 1 ≤ beats
  | .slice _ _ _ => true
  | .jump _ _ _ => true
  | .load _ _ _ => true
  | .loop _ _ _ => true
  | .call _ _ _ => true
  | .ret _ _ _ => true
  | .branchFlag _ _ _ => true
  | .branchFail _ _ _ => true
  | .matchFlag _ _ _ => true
  | .matchFail _ _ _ => true
  | .clear _ _ _ => true
  | .halt _ _ _ => true
  | .reservedOpcodeFault _ startAt _ _ => startAt < 2 ^ 64
  | .flagTokenRead _ => true
  | .widenFlagApply _ _ => true
  | .groupClockLost _ => true
  | .groupPllRelock _ => true
  | .programWrite _ w => w.wf
  | .programPatchWrite _ w => w.wf
  | .programScrubVisit _ _ => true
  | .failLatencyWrite _ w => w.wf
  | .shuttleAck _ w => w.wf
  | .sampleAck _ w => w.wf
  | .d0 _ _ => true
  | .d1 _ _ => true
  | .dz _ _ => true
  | .dk _ _ => true
  | .cl _ _ => true
  | .ch _ _ => true
  | .cm _ _ => true
  | .cx _ _ => true
  | .d0cl _ _ => true
  | .d1ch _ _ => true
  | .dn _ _ => true
  | .te _ _ => true
  | .cc _ _ => true
  | .reservedSymbol _ _ => true
  | .ed _ _ => true
  | .nop _ _ => true
  | .calInternal _ _ => true
  | .calLoop _ _ => true
  | .calComplete delays => delays.length == 96
  | .calAck w => w.wf
  | .timingTableWrite _ w => w.wf
  | .rawConfigWrite _ w => w.wf
  | .rawIdleUnit _ => true
  | .rawRxLock _ line start => start ≤ line.length
  | .rawLockLost _ _ _ => true
  | .bankTick _ _ => true
  | .gpioEntryApply _ => true
  | .extClockMissing _ => true
  | .bankClockSwitch _ => true
  | .pinFunctionWrite _ _ w => w.wf
  | .bankClockWrite _ w => w.wf
  | .bankOutWrite _ w => w.wf
  | .pinFunctionSwitch _ _ => true
  | .pumpCharge _ _ => true
  | .pumpDecay _ => true
  | .safeReadback _ => true
  | .bypass => true
  | .idcode => true
  | .samplePreload _ _ => true
  | .extest _ _ => true
  | .clamp _ => true
  | .highz => true
  | .extestPulse _ _ => true
  | .extestTrain _ _ => true
  | .testLogicReset => true
  | .jtagObjectRead _ _ => true
  | .jtagObjectWrite _ _ _ => true
  | .objectData _ => true
  | .jtagState => true
  | .fwRescue _ => true
  | .cellForward _ c => c.wf
  | .linkOpen _ => true
  | .linkUp _ _ _ _ _ => true
  | .linkStable _ => true
  | .heartbeatSend _ => true
  | .heartbeatReceive _ _ _ _ _ _ => true
  | .masterLost => true
  | .masterClaim _ _ => true
  | .masterRelease _ => true
  | .timingExchange _ t1 t2 t3 t4 _ => (t1 ≤ t4 && t2 ≤ t3)
  | .cascadeNotchReceive _ _ => true
  | .cascadeNotchApply sets => sets.length ≤ 12
  | .cascadeSwatchReceive _ _ => true
  | .leave _ => true
  | .cascadeNotchRequest _ => true
  | .cascadeSwatch _ => true
  | .threadTokenSend _ => true
  | .threadTokenReceive _ _ _ => true
  | .creditReturn _ => true
  | .threadReseal _ _ _ _ => true
  | .cascadeRecover w => w.wf
  | .cascadeAck w => w.wf
  | .headerRecord r => r.wf
  | .frameRecord r taps => (r.wf && taps.length ≤ 512)
  | .keyRoll r => r.wf
  | .groupHash r => r.wf
  | .signatureRecord r => r.wf
  | .endRecord r bindings => (r.wf && bindings.length ≤ 512)
  | .startupPllLock _ => true
  | .fittingTimeout => true
  | .cfgCsNRise => true
  | .streamData w => w.wf
  | .streamAbandon _ => true
  | .streamInactivity => true
  | .loadRequest w => w.wf
  | .partialCommitComplete ups bindings => ups.length ≤ 146880 && bindings.length ≤ 512
  | .partialDiscard _ => true
  | .cfgScrubFrame _ _ _ _ => true
  | .recoveryCopyComplete => true
  | .startOrderWrite w => w.wf
  | .cfgAck w => w.wf
  | .partialAck w => w.wf
  | .cfgScrubAck w => w.wf
  | .slotOpen _ _ => true
  | .slotData w => w.wf
  | .slotClose _ _ => true
  | .slotVerifyComplete r => r.taps.length ≤ 512
  | .slotErase _ _ => true
  | .slotAbandon _ _ => true
  | .slotWriteTimeout => true
  | .wardrobeAck w => w.wf
  | .keyProgram w => w.wf
  | .keyRevoke w => w.wf
  | .ownerKeyProgram w => w.wf
  | .ownerKeyRevoke w => w.wf
  | .versionRaise w => w.wf
  | .sessionRequest _ w => w.wf
  | .sessionResponse _ w => w.wf
  | .sessionEnd _ w => w.wf
  | .sessionTimeout _ => true
  | .lcRequest w => w.wf
  | .lcTransitionComplete => true
  | .attestRequest w => w.wf
  | .attestComplete => true
  | .attestAck w => w.wf
  | .tamperEvent _ => true
  | .tamperAck w => w.wf
  | .tamperConfigWrite w => w.wf
  | .fwOpen _ => true
  | .fwData w => w.wf
  | .fwVerify _ => true
  | .fwVerifyComplete => true
  | .fwActivate _ => true
  | .fwConfirm _ => true
  | .fwRaiseVersion _ => true
  | .fwAbandon _ => true
  | .fwAck w => w.wf
  | .logSelect r => r.write.wf
  | .notifyAck w => w.wf
  | .nmtStart => true
  | .nmtStop => true
  | .nmtPreOperational => true
  | .nmtResetNode => true
  | .nmtResetCommunication => true
  | .syncReceive => true
  | .usdoRequest m => m.wf
  | .usdoTimeout => true
  | .tpdoEventCheck => true
  | .rpdoReceive _ data => data.length ≤ 64
  | .canHeartbeat => true
  | .canBusOff => true
  | .mailboxRead _ _ _ => true
  | .mailboxWrite _ _ _ data _ => data.length ≤ 131072
  | .pcieLinkReset => true
  | .fabricRead => true
  | .fabricWrite => true
  | .userObjectAccess _ _ _ _ len value => (1 ≤ len.val && value.toNat < 2 ^ (8 * len.val))
  | .userAnswer => true
  | .userTimeout _ => true
  | .sensorUpdate temps volts => (temps.length == 16 && volts.length == 8)
  | .trefFrequencyWrite _ w => w.wf
  | .groupTrefWrite w => w.wf
  | .spoolStart _ _ _ => true
  | .spoolAbort _ _ _ => true
  | .spoolDoorbell _ page w => (w.wf && page.all (fun p => p < 65536))
  | .descriptorFetch _ _ => true
  | .burstGrant _ => true
  | .beatComplete _ _ => true
  | .busError _ _ _ => true
  | .spoolAck _ w => w.wf
  | .tallyEvent _ _ => true
  | .tallyClear _ w => w.wf
  | .tallyClearRange w => w.wf
  | .tallyConfigWrite _ w => w.wf
  | .tallyAck _ w => w.wf
  | .dumpPeriodExpiry => true
  | .dumpRequest w => w.wf
  | .dumpAck w => w.wf
  | .swatchRequestLocal _ => true
  | .swatchRequestCascade _ => true
  | .swatchLatch views => views.length ≤ 7344
  | .swatchComplete => true
  | .swatchAck w => w.wf
  | .repairStart => true
  | .repairRelease _ _ => true
  | .retire _ _ _ => true
  | .repairReturn _ _ _ => true
  | .repairAck w => w.wf
  | .frenchMismatch _ _ => true
  | .frenchBreak _ => true
  | .frenchAck _ w => w.wf
  | .siteTestStart _ _ => true
  | .bistSliceEnd _ _ _ _ => true
  | .bistArray _ => true
  | .bistArrayComplete fails margins => (fails.length ≤ 7344 && margins.length ≤ 7344)
  | .bistAck w => w.wf
  | .blockRead _ _ _ _ _ _ _ => true
  | .blockWrite _ _ _ _ _ _ => true
  | .blockWritePoison _ _ _ _ _ => true
  | .correctionWriteback _ => true
  | .leakInstant => true
  | .patrolScrubVisit _ => true
  | .scrubRequest w => w.wf
  | .scrubComplete ups => ups.all (fun u => u.1 < 1536 && u.2.1 < 1024)
  | .scrubAck w => w.wf
  | .blockRepair _ w => w.all (fun x => x.wf)
  | .blockRepairComplete _ _ => true
  | .flipInject _ w => w.wf
  | .blockAck _ w => w.wf
  | .permitRefresh => true
  | .permitGateTimeout => true
  | .lockstepMismatch => true
  | .liningPlaneFail _ => true
  | .liningBothFail => true
  | .liningTest _ => true
  | .lockstepSelfTest _ => true
  | .proofRequest w => w.wf
  | .proofTestEnd _ => true
  | .proofDueWarning _ => true
  | .proofIntervalExpiry _ => true
  | .safetyAck w => w.wf
  | .thermalAck w => w.wf
  | .wearModelUpdate => true
  | .gaugeMeasure ratios => ratios.length == 76
  | .wearPrediction => true
  | .wearHeadroomWrite w => w.wf
  | .wearAck w => w.wf
  | .rawSerialiserTake _ => true
  | .rawReceiverEntry _ _ => true
  | .cascadeRequestCell _ => true
  | .widenCommandReceive _ _ _ time => time < 2 ^ 64
  | .cascadeRecoverComplete _ => true
  | .slotEraseComplete => true
  | .batteryStoreLoss => true
  | .tref0PresenceChange _ => true
  | .canErrorPassive _ _ => true

end Sys2Proof
end

