-- ==== Sys2Proof/Config.lean ====
section
/-! DEFINITION. What the spec leaves open as a value, and what it takes from outside itself, as constants
with no body: no proof can see what they are. -/

namespace Sys2Proof

/-! ### The routing database (R87, R322)

The spec says that local thread selects and select groups choose sources and leaves which track or source each choice names, per
site, to a routing database. The database is data of the hardware, fixed for every image. -/

/-- Where an input of a bundle or a signal of an outbound port comes from (R40, R42, R80): a constant, OUT_A or OUT_B of a stitch of
the same panel, or bit k of the word of inbound port u. -/
inductive Src where
  | const (v : Bool)
  | outA (s : Nat)
  | outB (s : Nat)
  | port (u k : Nat)
  deriving DecidableEq, Repr, Inhabited

/-- A binary-coded select: in frame MINOR of a site, the width bits from lo on pick one of the options for an item. In the frames of
local thread selects item 64 b + i is input i of bundle b (IN 0 to 47, BX 48 to 55, CE 56, SR 57, GATE 58); in frame 18 item
16 u + k is bit k of the word of outbound port u. -/
structure SelField where
  site : Nat
  minor : Nat
  item : Nat
  lo : Nat
  width : Nat
  options : List Src
  deriving DecidableEq, Repr, Inhabited

/-- A number that frame 18 of a site holds from bit lo on: item u the digits of inbound port u, 32 + u those of outbound port u, 64 + u
the French mode of inbound port u (R80, R492). -/
structure PlaceField where
  site : Nat
  item : Nat
  lo : Nat
  deriving DecidableEq, Repr, Inhabited

/-- The source digit that one bit of a select group gates (R82, R85, R87): the output of another select group, over the track between
them; a digit of an outbound port, or a relay, of the same site; or a digit that a hard block sends. -/
inductive SeamSrc where
  | group (site g : Nat)
  | port (u k : Nat)
  | relay (r : Nat)
  | hard
  deriving DecidableEq, Repr, Inhabited

/-- The sources of select group g of a site, in the order of its bits. -/
structure SeamGroup where
  site : Nat
  group : Nat
  sources : List SeamSrc
  deriving DecidableEq, Repr, Inhabited

/-- The select group whose output is a digit of a receiver: unit 0 to 7 an inbound port, 8 to 23 a digit relay, 24 to 31 the second half's
input of a French receiver at port unit − 24 (R492), 32 the fabric port of a hard block. -/
structure SeamSink where
  site : Nat
  unit : Nat
  digit : Nat
  group : Nat
  deriving DecidableEq, Repr, Inhabited

/-- The routing database. -/
structure Wiring where
  selects : List SelField := []
  places : List PlaceField := []
  groups : List SeamGroup := []
  sinks : List SeamSink := []
  deriving DecidableEq, Repr, Inhabited

end Sys2Proof

namespace Sys2Proof.Config

/-- The routing database of the hardware (R322, entry 61), which the spec does not give. -/
opaque wiring : Wiring

/-- What an undefined table output shows between two tokens (entry 4): by counter and bundle. -/
opaque freeLevel : Nat → Nat → BitVec 64

/-- Free values (entry 4): the n-th value that the spec leaves open in a run, at most 64 bits of it. -/
opaque freeWord : Nat → Word

/-- Free values wider than 64 bits (entry 4). -/
opaque freeBits : (w : Nat) → Nat → BitVec w

/-- SHA-512 of R366 to R368 and R358 (entry 5): 64 bytes of digest. -/
opaque sha512 : List Byte → List Byte

/-- ECDSA over P-521 with SHA-512 (R367, R371, R380, entry 5): public key, message digest, signature. -/
opaque ecdsaVerify : List Byte → List Byte → List Byte → Bool

/-- ECDSA signing with a device key (R380, entry 5): key number and digest. -/
opaque ecdsaSign : Nat → List Byte → List Byte

/-- AES-256 key unwrap with the device's wrapping key (R357, R365, entry 5): wrapping key, wrapped bytes. -/
opaque keyUnwrap : List Byte → List Byte → Option (List Byte)

/-- AES-256-GCM decryption of a record (R364, entry 5): epoch key, initial vector, cipher text. -/
opaque gcmDecrypt : List Byte → List Byte → List Byte → List Byte

/-- AES-256-GCM authentication tag (R366, entry 5): epoch key, initial vector, cipher text of the group. -/
opaque gcmTag : List Byte → List Byte → List Byte → List Byte

/-- AES-256-GCM encryption (R355, entry 5): key, initial vector, plain text. -/
opaque gcmEncrypt : List Byte → List Byte → List Byte → List Byte

/-- The initial vector of the recovery copy of a patch, by patch and device time: R355 does not give it (entry 4). -/
opaque recoveryIv : Nat → Nat → List Byte

/-- The device unique key, set at production test (R356). -/
opaque deviceKey : List Byte

/-- The golden BIST signatures recorded at production test (R348, R495): key 256 × site + 16 × slice + tension. -/
opaque golden : List (Nat × BitVec 64)

/-- The agreement and derivation that turn a wrapped key blob into the wrapping key (R357, entry 5). -/
opaque agreeKey : List Byte → List Byte → List Byte

/-- A public key is a valid point (R358, entry 5). -/
opaque onCurve : List Byte → Bool

/-- 1,000 × 2 to the power e/2,400, for an exponent that is not a whole number (R522: the exponents are (TJ − 85)/12 with TJ in
units of 0.125 °C and (VCORE − 0.90 V)/0.025 V; the spec gives no rounding; entry 6). -/
opaque wearPow : Int → Nat

/-- The digest of the Koloinik vendor key held in the boot ROM (R358, R371, entry 5). -/
opaque vendorDigest : List Byte

/-- The Koloinik firmware key held in the boot ROM (R384, entry 5). -/
opaque firmwareKey : List Byte

/-- The IDCODE of the TAP (R419: given in the BSDL file, not in the spec). -/
opaque idcode : BitVec 32

/-- The device certificate and the strings that differ from device to device (R379, R425). -/
opaque identityCert : List Byte

end Sys2Proof.Config
end

