-- ==== Sys2Proof/Machine/Flags.lean ====
section
/-! DEFINITION. Bit fields of object words, sequence numbers, byte order and checksums: every flag and field
computation that the meanings share. -/

namespace Sys2Proof.Machine

/-- Bits hi down to lo of a word, as a number. -/
def bits (w : Word) (hi lo : Nat) : Nat := (w.toNat >>> lo) % 2 ^ (hi + 1 - lo)

/-- Bit i of a word. -/
def bit (w : Word) (i : Nat) : Bool := w.getLsbD i

/-- The word with bits hi down to lo replaced by the low bits of v. -/
def setBits (w : Word) (hi lo v : Nat) : Word :=
  (w &&& ~~~ (BitVec.ofNat 64 ((2 ^ (hi + 1 - lo) - 1) <<< lo))) ||| BitVec.ofNat 64 ((v % 2 ^ (hi + 1 - lo)) <<< lo)

/-- The word with bit i replaced. -/
def setBit (w : Word) (i : Nat) (b : Bool) : Word := setBits w i i b.toNat

/-- A number as an object word. -/
def word (n : Nat) : Word := BitVec.ofNat 64 n

/-- The sequence number after n: after 0xFFFF it wraps to 0x0001 (R400). -/
def nextSeq (n : Nat) : Nat := if n = 0xFFFF then 1 else n + 1

/-- The value of a width-byte word read as two's complement (R394). -/
def signedOf (bytes : Nat) (w : Word) : Int := (w.setWidth (8 * bytes)).toInt

/-- The low bytes of a word (R394). -/
def lowBytes (bytes : Nat) (w : Word) : Word := (w.setWidth (8 * bytes)).setWidth 64

/-- An integer as a two's complement object value of a width in bytes (R394). -/
def ofInt (bytes : Nat) (i : Int) : Word := ((BitVec.ofInt (8 * bytes) i).setWidth 64)

/-- The n low-order bytes of a number, least significant first (R9). -/
def leBytes : Nat → Nat → List Byte
  | 0, _ => []
  | n + 1, v => BitVec.ofNat 8 v :: leBytes n (v / 256)

/-- The number that a byte string spells, least significant byte first (R9). -/
def ofLe : List Byte → Nat
  | [] => 0
  | b :: t => b.toNat + 256 * ofLe t

/-- Bytes off to off + n − 1 of a byte string as a number (R9); bytes beyond its end count as 0. -/
def leAt (l : List Byte) (off n : Nat) : Nat := ofLe ((l.drop off).take n)

/-- One byte step of the reflected CRC-32C (R316). -/
def crcBits : Nat → Nat → Nat
  | 0, c => c
  | n + 1, c => crcBits n (if c % 2 = 1 then (c >>> 1) ^^^ 0x82F63B78 else c >>> 1)

/-- CRC-32C over a byte string, started from a running value. -/
def crcStep : List Byte → Nat → Nat
  | [], c => c
  | b :: t, c => crcStep t (crcBits 8 ((c ^^^ b.toNat) % 2 ^ 32))

/-- CRC-32C (R316): reflected, initial value and final exclusive-or all ones. -/
def crc32c (l : List Byte) : Nat := (crcStep l 0xFFFFFFFF) ^^^ 0xFFFFFFFF

/-- The frame CRC of R319: over the head of the record that brings the frame to address a, DATA and CHECK. -/
def frameCrc (a : Nat) (data : BitVec 2048) (check : BitVec 12) : BitVec 32 :=
  BitVec.ofNat 32 (crc32c (leBytes 4 a ++ leBytes 2 264 ++ [0, 2] ++ leBytes 256 data.toNat ++ leBytes 4 check.toNat))

/-- A number whose bit i is set when p i holds, for i below n. -/
def maskOf (n : Nat) (p : Nat → Bool) : Nat :=
  (List.range n).foldl (fun a i => if p i then a + 2 ^ i else a) 0

end Sys2Proof.Machine
end

