-- ==== Sys2Proof/Machine/Operands.lean ====
section
/-! DEFINITION. Every operand form of the block: the object table of the spec, one descriptor per row of its object
tables (type, access class, role gate, default, reserved bits and codes, range, scope of its notch), and the checks
of a write that need nothing but the descriptor and the written value (orders 2 to 7 of R397). -/

namespace Sys2Proof.Machine

/-- The access classes of R395. -/
inductive Acc where
  | const | ro | rw | wo | rwn
  deriving DecidableEq, Repr

/-- The data types of R394 by how their values are carried: fixed size in bytes, a string, octets of one length, DOMAIN. -/
inductive Kind where
  | fixed (bytes : Nat)
  | str
  | octets (n : Nat)
  | domain
  deriving DecidableEq, Repr

/-- A set of admitted values: all, a range, a range or one or two more values, a list. -/
inductive Vals where
  | any
  | between (lo hi : Int)
  | orOne (lo hi one : Int)
  | orTwo (lo hi one two : Int)
  | oneOf (l : List Nat)
  deriving DecidableEq, Repr

/-- The notch scope of an RWN object as its table gives it (R22): the device, the group that owns the instance, the group
that owns the hem instance (the device for a general hem of no group), the cascade. -/
inductive ScopeKind where
  | device | group | hem | cascade
  deriving DecidableEq, Repr

/-- What an object does with an accepted write, where it does more than hold it. -/
inductive Hook where
  | ack (status unacked : Nat)
  | attestRequest
  | autoLoad
  | bankClock
  | bankOut
  | basteRequest
  | bistConfig
  | bistRequest
  | blockRepair
  | bobbinAck
  | bobbinLevel
  | calRequest
  | captureConfig
  | cascadeRequest
  | cascadeSource
  | counter
  | deskew
  | downloadControl
  | downloadData
  | dumpConfig
  | dumpRequest
  | failLatency
  | flipInject
  | fwCommand
  | fwData
  | groupTref
  | hemAlarm
  | hemCommand
  | hostNotch
  | integratorKeys
  | keyProgram
  | keyRevoke
  | lcRequest
  | loadRequest
  | logSelect
  | masterEnable
  | notifyAck
  | notifyRoute
  | ownerKeyProgram
  | ownerKeyRevoke
  | partialDiscard
  | pdo
  | pinFunction
  | plain
  | program
  | programPatch
  | proofRequest
  | rawConfig
  | recoverRequest
  | repairRequest
  | sampleAck
  | scrubRequest
  | sessionEnd
  | sessionRequest
  | sessionResponse
  | sessionTimeout
  | shuttleCommand
  | slotCommand
  | slotData
  | spoolCommand
  | spoolReg
  | startOrder
  | stateAck
  | stateRequest
  | streamCommand
  | streamData
  | swatchAck
  | swatchRequest
  | swatchTrigger
  | tallyClear
  | tallyClearRange
  | tallyConfig
  | tallyThreshold
  | tamperAck
  | tamperConfig
  | threadMap
  | timingTable
  | trefFrequency
  | versionRaise
  | wearHeadroom
  | widenSet
  deriving DecidableEq, Repr

/-- One row of an object table: indices lo to hi, subindices s0, s0 + step, … to s1, and what the table says of them. -/
structure Desc where
  lo : Nat
  hi : Nat
  s0 : Nat
  s1 : Nat
  step : Nat := 1
  kind : Kind
  signed : Bool := false
  acc : Acc
  role : Nat := 0
  dflt : Nat := 0
  image : Bool := false
  rsv : Nat := 0
  codes : Vals := .any
  range : Vals := .any
  safe : Bool := false
  hook : Hook := .plain
  scope : ScopeKind := .device
  deriving DecidableEq, Repr


/-- DEVICE_TYPE (R425). -/
def objDeviceType : Desc :=
  { lo := 0x1000, hi := 0x1000, s0 := 0, s1 := 0,
    kind := .fixed 4, acc := .const, dflt := 0x00000000 }

/-- ERROR_REGISTER (R425). -/
def objErrorRegister : Desc :=
  { lo := 0x1001, hi := 0x1001, s0 := 0, s1 := 0,
    kind := .fixed 1, acc := .ro }

/-- DEVICE_NAME (R425). -/
def objDeviceName : Desc :=
  { lo := 0x1008, hi := 0x1008, s0 := 0, s1 := 0,
    kind := .str, acc := .const }

/-- HARDWARE_VERSION (R425). -/
def objHardwareVersion : Desc :=
  { lo := 0x1009, hi := 0x1009, s0 := 0, s1 := 0,
    kind := .str, acc := .const }

/-- SOFTWARE_VERSION (R425). -/
def objSoftwareVersion : Desc :=
  { lo := 0x100A, hi := 0x100A, s0 := 0, s1 := 0,
    kind := .str, acc := .ro }

/-- COB_ID_EMCY (R425). -/
def objCobIdEmcy : Desc :=
  { lo := 0x1014, hi := 0x1014, s0 := 0, s1 := 0,
    kind := .fixed 4, acc := .const }

/-- INHIBIT_TIME_EMCY (R425). -/
def objInhibitTimeEmcy : Desc :=
  { lo := 0x1015, hi := 0x1015, s0 := 0, s1 := 0,
    kind := .fixed 2, acc := .rw, role := 1, dflt := 10 }

/-- PRODUCER_HEARTBEAT (R425). -/
def objProducerHeartbeat : Desc :=
  { lo := 0x1017, hi := 0x1017, s0 := 0, s1 := 0,
    kind := .fixed 2, acc := .rw, role := 1, dflt := 1000 }

/-- IDENTITY (R426). -/
def objIdentity : Desc :=
  { lo := 0x1018, hi := 0x1018, s0 := 0, s1 := 0,
    kind := .fixed 1, acc := .const, dflt := 0x04 }

/-- VENDOR_ID (R426). -/
def objVendorId : Desc :=
  { lo := 0x1018, hi := 0x1018, s0 := 1, s1 := 1,
    kind := .fixed 4, acc := .const, dflt := 0x4B4F4C4E }

/-- PRODUCT_CODE (R426). -/
def objProductCode : Desc :=
  { lo := 0x1018, hi := 0x1018, s0 := 2, s1 := 2,
    kind := .fixed 4, acc := .const }

/-- REVISION (R426). -/
def objRevision : Desc :=
  { lo := 0x1018, hi := 0x1018, s0 := 3, s1 := 3,
    kind := .fixed 4, acc := .const }

/-- SERIAL_NUMBER (R426). -/
def objSerialNumber : Desc :=
  { lo := 0x1018, hi := 0x1018, s0 := 4, s1 := 4,
    kind := .fixed 4, acc := .const }

/-- RPDO (R411). -/
def objRpdo : Desc :=
  { lo := 0x1400, hi := 0x140F, s0 := 0, s1 := 0,
    kind := .fixed 1, acc := .const, dflt := 5 }

/-- RPDO_COB_ID (R411). -/
def objRpdoCobId : Desc :=
  { lo := 0x1400, hi := 0x140F, s0 := 1, s1 := 1,
    kind := .fixed 4, acc := .rw, role := 1, dflt := 0x80000000, rsv := 0x40000000, hook := .pdo }

/-- RPDO_TYPE (R411). -/
def objRpdoType : Desc :=
  { lo := 0x1400, hi := 0x140F, s0 := 2, s1 := 2,
    kind := .fixed 1, acc := .rw, role := 1, dflt := 0xFE, codes := .orTwo 0 240 254 255, hook := .pdo }

/-- RPDO_EVENT_TIMER (R411). -/
def objRpdoEventTimer : Desc :=
  { lo := 0x1400, hi := 0x140F, s0 := 5, s1 := 5,
    kind := .fixed 2, acc := .rw, role := 1, hook := .pdo }

/-- RPDO_MAPPED (R411). -/
def objRpdoMapped : Desc :=
  { lo := 0x1600, hi := 0x160F, s0 := 0, s1 := 0,
    kind := .fixed 1, acc := .rw, role := 1, range := .between 0 64, hook := .pdo }

/-- RPDO_MAP (R411). -/
def objRpdoMap : Desc :=
  { lo := 0x1600, hi := 0x160F, s0 := 1, s1 := 64, step := 1,
    kind := .fixed 4, acc := .rw, role := 1, hook := .pdo }

/-- TPDO (R411). -/
def objTpdo : Desc :=
  { lo := 0x1800, hi := 0x180F, s0 := 0, s1 := 0,
    kind := .fixed 1, acc := .const, dflt := 6 }

/-- TPDO_COB_ID (R411). -/
def objTpdoCobId : Desc :=
  { lo := 0x1800, hi := 0x180F, s0 := 1, s1 := 1,
    kind := .fixed 4, acc := .rw, role := 1, dflt := 0x80000000, hook := .pdo }

/-- TPDO_TYPE (R411). -/
def objTpdoType : Desc :=
  { lo := 0x1800, hi := 0x180F, s0 := 2, s1 := 2,
    kind := .fixed 1, acc := .rw, role := 1, dflt := 0xFE, codes := .orTwo 0 240 254 255, hook := .pdo }

/-- TPDO_INHIBIT (R411). -/
def objTpdoInhibit : Desc :=
  { lo := 0x1800, hi := 0x180F, s0 := 3, s1 := 3,
    kind := .fixed 2, acc := .rw, role := 1, hook := .pdo }

/-- TPDO_EVENT_TIMER (R411). -/
def objTpdoEventTimer : Desc :=
  { lo := 0x1800, hi := 0x180F, s0 := 5, s1 := 5,
    kind := .fixed 2, acc := .rw, role := 1, hook := .pdo }

/-- TPDO_SYNC_START (R411). -/
def objTpdoSyncStart : Desc :=
  { lo := 0x1800, hi := 0x180F, s0 := 6, s1 := 6,
    kind := .fixed 1, acc := .rw, role := 1, hook := .pdo }

/-- TPDO_MAPPED (R411). -/
def objTpdoMapped : Desc :=
  { lo := 0x1A00, hi := 0x1A0F, s0 := 0, s1 := 0,
    kind := .fixed 1, acc := .rw, role := 1, range := .between 0 64, hook := .pdo }

/-- TPDO_MAP (R411). -/
def objTpdoMap : Desc :=
  { lo := 0x1A00, hi := 0x1A0F, s0 := 1, s1 := 64, step := 1,
    kind := .fixed 4, acc := .rw, role := 1, hook := .pdo }

/-- PROGRAM_DATA_COUNT (R412). -/
def objProgramDataCount : Desc :=
  { lo := 0x1F50, hi := 0x1F50, s0 := 0, s1 := 0,
    kind := .fixed 1, acc := .const, dflt := 11 }

/-- PROGRAM_DATA_FW (R412). -/
def objProgramDataFw : Desc :=
  { lo := 0x1F50, hi := 0x1F50, s0 := 1, s1 := 1,
    kind := .domain, acc := .wo, role := 2, hook := .downloadData }

/-- PROGRAM_DATA_SLOT (R412). -/
def objProgramDataSlot : Desc :=
  { lo := 0x1F50, hi := 0x1F50, s0 := 2, s1 := 11, step := 1,
    kind := .domain, acc := .wo, role := 1, hook := .downloadData }

/-- PROGRAM_CONTROL_COUNT (R412). -/
def objProgramControlCount : Desc :=
  { lo := 0x1F51, hi := 0x1F51, s0 := 0, s1 := 0,
    kind := .fixed 1, acc := .const, dflt := 11 }

/-- PROGRAM_CONTROL (R412). -/
def objProgramControl : Desc :=
  { lo := 0x1F51, hi := 0x1F51, s0 := 1, s1 := 11, step := 1,
    kind := .fixed 1, acc := .rw, hook := .downloadControl }

/-- PROGRAM_VERSION_COUNT (R412). -/
def objProgramVersionCount : Desc :=
  { lo := 0x1F56, hi := 0x1F56, s0 := 0, s1 := 0,
    kind := .fixed 1, acc := .const, dflt := 11 }

/-- PROGRAM_VERSION (R412). -/
def objProgramVersion : Desc :=
  { lo := 0x1F56, hi := 0x1F56, s0 := 1, s1 := 11, step := 1,
    kind := .fixed 4, acc := .ro }

/-- PROGRAM_FLASH_STATUS_COUNT (R412). -/
def objProgramFlashStatusCount : Desc :=
  { lo := 0x1F57, hi := 0x1F57, s0 := 0, s1 := 0,
    kind := .fixed 1, acc := .const, dflt := 11 }

/-- PROGRAM_FLASH_STATUS (R412). -/
def objProgramFlashStatus : Desc :=
  { lo := 0x1F57, hi := 0x1F57, s0 := 1, s1 := 11, step := 1,
    kind := .fixed 4, acc := .ro }

/-- DEVICE_STATE (R427). -/
def objDeviceState : Desc :=
  { lo := 0x2000, hi := 0x2000, s0 := 0, s1 := 0,
    kind := .fixed 1, acc := .const, dflt := 0x05 }

/-- STATE_STATUS (R427). -/
def objStateStatus : Desc :=
  { lo := 0x2000, hi := 0x2000, s0 := 1, s1 := 1,
    kind := .fixed 4, acc := .ro }

/-- STATE_ACK (R427). -/
def objStateAck : Desc :=
  { lo := 0x2000, hi := 0x2000, s0 := 2, s1 := 2,
    kind := .fixed 2, acc := .wo, hook := .stateAck }

/-- STATE_REASON (R427). -/
def objStateReason : Desc :=
  { lo := 0x2000, hi := 0x2000, s0 := 3, s1 := 3,
    kind := .fixed 2, acc := .ro }

/-- STATE_TIME (R427). -/
def objStateTime : Desc :=
  { lo := 0x2000, hi := 0x2000, s0 := 4, s1 := 4,
    kind := .fixed 8, acc := .ro }

/-- SAFE_SEQ (R427). -/
def objSafeSeq : Desc :=
  { lo := 0x2000, hi := 0x2000, s0 := 5, s1 := 5,
    kind := .fixed 2, acc := .ro }

/-- STATE_REQUEST (R427). -/
def objStateRequest : Desc :=
  { lo := 0x2001, hi := 0x2001, s0 := 0, s1 := 0,
    kind := .fixed 1, acc := .wo, codes := .between 1 4, hook := .stateRequest }

/-- DEVICE_TIME (R427). -/
def objDeviceTime : Desc :=
  { lo := 0x2002, hi := 0x2002, s0 := 0, s1 := 0,
    kind := .fixed 8, acc := .ro }

/-- LAST_EVENT (R427). -/
def objLastEvent : Desc :=
  { lo := 0x2003, hi := 0x2003, s0 := 0, s1 := 0,
    kind := .fixed 1, acc := .const, dflt := 0x02 }

/-- LAST_REASON (R427). -/
def objLastReason : Desc :=
  { lo := 0x2003, hi := 0x2003, s0 := 1, s1 := 1,
    kind := .fixed 4, acc := .ro }

/-- LAST_REASON_TIME (R427). -/
def objLastReasonTime : Desc :=
  { lo := 0x2003, hi := 0x2003, s0 := 2, s1 := 2,
    kind := .fixed 8, acc := .ro }

/-- NOTCH_CONTROL (R21). -/
def objNotchControl : Desc :=
  { lo := 0x2004, hi := 0x2004, s0 := 0, s1 := 0,
    kind := .fixed 1, acc := .const, dflt := 0x03 }

/-- NOTCH_STATUS (R21). -/
def objNotchStatus : Desc :=
  { lo := 0x2004, hi := 0x2004, s0 := 1, s1 := 1,
    kind := .fixed 4, acc := .ro }

/-- DEVICE_NOTCH_SOURCE (R21). -/
def objDeviceNotchSource : Desc :=
  { lo := 0x2004, hi := 0x2004, s0 := 2, s1 := 2,
    kind := .fixed 1, acc := .rw, role := 1, dflt := 0x00, codes := .orOne 0 11 0xFE }

/-- HOST_NOTCH (R21). -/
def objHostNotch : Desc :=
  { lo := 0x2004, hi := 0x2004, s0 := 3, s1 := 3,
    kind := .fixed 2, acc := .wo, role := 1, rsv := 0x7000, safe := true, hook := .hostNotch }

/-- START (R346). -/
def objStart : Desc :=
  { lo := 0x2010, hi := 0x2010, s0 := 0, s1 := 0,
    kind := .fixed 1, acc := .const, dflt := 0x01 }

/-- START_ORDER (R346). -/
def objStartOrder : Desc :=
  { lo := 0x2010, hi := 0x2010, s0 := 1, s1 := 1,
    kind := .fixed 1, acc := .rw, role := 1, dflt := 0xE4, hook := .startOrder }

/-- SENSORS (R427). -/
def objSensors : Desc :=
  { lo := 0x2020, hi := 0x2020, s0 := 0, s1 := 0,
    kind := .fixed 1, acc := .const, dflt := 0x1A }

/-- TJ_MAX (R427). -/
def objTjMax : Desc :=
  { lo := 0x2020, hi := 0x2020, s0 := 1, s1 := 1,
    kind := .fixed 2, signed := true, acc := .ro }

/-- TEMPERATURE (R427). -/
def objTemperature : Desc :=
  { lo := 0x2020, hi := 0x2020, s0 := 2, s1 := 17, step := 1,
    kind := .fixed 2, signed := true, acc := .ro }

/-- VOLTAGE (R427). -/
def objVoltage : Desc :=
  { lo := 0x2020, hi := 0x2020, s0 := 18, s1 := 25, step := 1,
    kind := .fixed 2, acc := .ro }

/-- SENSOR_MAP (R427). -/
def objSensorMap : Desc :=
  { lo := 0x2020, hi := 0x2020, s0 := 26, s1 := 26,
    kind := .fixed 8, acc := .const, dflt := 0x0000BA9876543210 }

/-- THERMAL (R427). -/
def objThermal : Desc :=
  { lo := 0x2030, hi := 0x2030, s0 := 0, s1 := 0,
    kind := .fixed 1, acc := .const, dflt := 0x04 }

/-- THERMAL_STATUS (R427). -/
def objThermalStatus : Desc :=
  { lo := 0x2030, hi := 0x2030, s0 := 1, s1 := 1,
    kind := .fixed 4, acc := .ro }

/-- THERMAL_ACK (R427). -/
def objThermalAck : Desc :=
  { lo := 0x2030, hi := 0x2030, s0 := 2, s1 := 2,
    kind := .fixed 2, acc := .wo, hook := .ack 1 15 }

/-- WARNING_COUNT (R427). -/
def objWarningCount : Desc :=
  { lo := 0x2030, hi := 0x2030, s0 := 3, s1 := 3,
    kind := .fixed 4, acc := .ro }

/-- PEAK_TJ (R427). -/
def objPeakTj : Desc :=
  { lo := 0x2030, hi := 0x2030, s0 := 4, s1 := 4,
    kind := .fixed 2, signed := true, acc := .ro }

/-- NOTIFY (R427). -/
def objNotify : Desc :=
  { lo := 0x2040, hi := 0x2040, s0 := 0, s1 := 0,
    kind := .fixed 1, acc := .const, dflt := 0x0C }

/-- NOTIFY_ROUTE (R427). -/
def objNotifyRoute : Desc :=
  { lo := 0x2040, hi := 0x2040, s0 := 1, s1 := 11, step := 1,
    kind := .fixed 2, acc := .rw, role := 1, dflt := 0xC011, rsv := 0x1FC0, hook := .notifyRoute }

/-- EMCY_SUPPRESSED (R427). -/
def objEmcySuppressed : Desc :=
  { lo := 0x2040, hi := 0x2040, s0 := 12, s1 := 12,
    kind := .fixed 4, acc := .ro }

/-- NOTIFY_RING (R427). -/
def objNotifyRing : Desc :=
  { lo := 0x2041, hi := 0x2041, s0 := 0, s1 := 0,
    kind := .fixed 1, acc := .const, dflt := 0x05 }

/-- NOTIFY_LATEST (R427). -/
def objNotifyLatest : Desc :=
  { lo := 0x2041, hi := 0x2041, s0 := 1, s1 := 1,
    kind := .fixed 4, acc := .ro }

/-- NOTIFY_ACK (R427). -/
def objNotifyAck : Desc :=
  { lo := 0x2041, hi := 0x2041, s0 := 2, s1 := 2,
    kind := .fixed 4, acc := .wo, hook := .notifyAck }

/-- NOTIFY_ACKED (R427). -/
def objNotifyAcked : Desc :=
  { lo := 0x2041, hi := 0x2041, s0 := 3, s1 := 3,
    kind := .fixed 4, acc := .ro }

/-- NOTIFY_LOST (R427). -/
def objNotifyLost : Desc :=
  { lo := 0x2041, hi := 0x2041, s0 := 4, s1 := 4,
    kind := .fixed 4, acc := .ro }

/-- NOTIFY_ENTRIES (R427). -/
def objNotifyEntries : Desc :=
  { lo := 0x2041, hi := 0x2041, s0 := 5, s1 := 5,
    kind := .domain, acc := .ro }

/-- TRANSPORTS (R427). -/
def objTransports : Desc :=
  { lo := 0x2050, hi := 0x2050, s0 := 0, s1 := 0,
    kind := .fixed 1, acc := .const, dflt := 0x04 }

/-- TRANSPORT_RECORD (R427). -/
def objTransportRecord : Desc :=
  { lo := 0x2050, hi := 0x2050, s0 := 1, s1 := 4, step := 1,
    kind := .fixed 8, acc := .ro }

/-- USER (R427). -/
def objUser : Desc :=
  { lo := 0x2060, hi := 0x2060, s0 := 0, s1 := 0,
    kind := .fixed 1, acc := .const, dflt := 0x02 }

/-- USER_OBJECTS (R427). -/
def objUserObjects : Desc :=
  { lo := 0x2060, hi := 0x2060, s0 := 1, s1 := 1,
    kind := .fixed 1, acc := .ro, dflt := 0x00, image := true, codes := .between 0 1 }

/-- USER_TIMEOUT (R427). -/
def objUserTimeout : Desc :=
  { lo := 0x2060, hi := 0x2060, s0 := 2, s1 := 2,
    kind := .fixed 2, acc := .rw, role := 1, dflt := 4, codes := .between 1 40 }

/-- CAN_CONFIG (R427). -/
def objCanConfig : Desc :=
  { lo := 0x2070, hi := 0x2070, s0 := 0, s1 := 0,
    kind := .fixed 1, acc := .const, dflt := 0x03 }

/-- CAN_NOMINAL (R427). -/
def objCanNominal : Desc :=
  { lo := 0x2070, hi := 0x2070, s0 := 1, s1 := 1,
    kind := .fixed 2, acc := .rw, role := 2, dflt := 500, codes := .oneOf [125, 250, 500, 1000] }

/-- CAN_DATA (R427). -/
def objCanData : Desc :=
  { lo := 0x2070, hi := 0x2070, s0 := 2, s1 := 2,
    kind := .fixed 2, acc := .rw, role := 2, dflt := 2000, codes := .oneOf [1000, 2000, 4000, 5000, 8000] }

/-- CAN_STATUS (R427). -/
def objCanStatus : Desc :=
  { lo := 0x2070, hi := 0x2070, s0 := 3, s1 := 3,
    kind := .fixed 4, acc := .ro }

/-- TIMING_REFERENCE (R429). -/
def objTimingReference : Desc :=
  { lo := 0x2080, hi := 0x2080, s0 := 0, s1 := 0,
    kind := .fixed 1, acc := .const, dflt := 0x06 }

/-- TREF_FREQUENCY (R429). -/
def objTrefFrequency : Desc :=
  { lo := 0x2080, hi := 0x2080, s0 := 1, s1 := 4, step := 1,
    kind := .fixed 4, acc := .rw, role := 1, dflt := 100000, image := true, range := .between 100000 400000, hook := .trefFrequency }

/-- GROUP_TREF (R429). -/
def objGroupTref : Desc :=
  { lo := 0x2080, hi := 0x2080, s0 := 5, s1 := 5,
    kind := .fixed 4, acc := .rw, role := 1, image := true, rsv := 0xFF000000, hook := .groupTref }

/-- TREF_STATUS (R429). -/
def objTrefStatus : Desc :=
  { lo := 0x2080, hi := 0x2080, s0 := 6, s1 := 6,
    kind := .fixed 4, acc := .ro }

/-- CFG (R346). -/
def objCfg : Desc :=
  { lo := 0x2100, hi := 0x2100, s0 := 0, s1 := 0,
    kind := .fixed 1, acc := .const, dflt := 0x0B }

/-- CFG_STATUS (R346). -/
def objCfgStatus : Desc :=
  { lo := 0x2100, hi := 0x2100, s0 := 1, s1 := 1,
    kind := .fixed 4, acc := .ro }

/-- CFG_ACK (R346). -/
def objCfgAck : Desc :=
  { lo := 0x2100, hi := 0x2100, s0 := 2, s1 := 2,
    kind := .fixed 2, acc := .wo, hook := .ack 1 14 }

/-- CFG_REASON (R346). -/
def objCfgReason : Desc :=
  { lo := 0x2100, hi := 0x2100, s0 := 3, s1 := 3,
    kind := .fixed 2, acc := .ro }

/-- CFG_FIRST_BAD (R346). -/
def objCfgFirstBad : Desc :=
  { lo := 0x2100, hi := 0x2100, s0 := 4, s1 := 4,
    kind := .fixed 4, acc := .ro, dflt := 0xFFFFFFFF }

/-- CFG_FRAMES (R346). -/
def objCfgFrames : Desc :=
  { lo := 0x2100, hi := 0x2100, s0 := 5, s1 := 5,
    kind := .fixed 4, acc := .ro }

/-- LOADED_IMAGE_ID (R346). -/
def objLoadedImageId : Desc :=
  { lo := 0x2100, hi := 0x2100, s0 := 6, s1 := 6,
    kind := .fixed 8, acc := .ro }

/-- LOADED_IMAGE_VERSION (R346). -/
def objLoadedImageVersion : Desc :=
  { lo := 0x2100, hi := 0x2100, s0 := 7, s1 := 7,
    kind := .fixed 4, acc := .ro }

/-- FITTING_TIMEOUT (R346). -/
def objFittingTimeout : Desc :=
  { lo := 0x2100, hi := 0x2100, s0 := 8, s1 := 8,
    kind := .fixed 4, acc := .rw, role := 1, dflt := 1000, codes := .between 1 60000 }

/-- LOAD_REQUEST (R346). -/
def objLoadRequest : Desc :=
  { lo := 0x2100, hi := 0x2100, s0 := 9, s1 := 9,
    kind := .fixed 1, acc := .wo, role := 1, codes := .between 0 9, hook := .loadRequest }

/-- AUTO_LOAD (R346). -/
def objAutoLoad : Desc :=
  { lo := 0x2100, hi := 0x2100, s0 := 10, s1 := 10,
    kind := .fixed 1, acc := .rw, role := 2, dflt := 0xFF, codes := .orOne 0 9 0xFF, hook := .autoLoad }

/-- STEPS_DONE (R346). -/
def objStepsDone : Desc :=
  { lo := 0x2100, hi := 0x2100, s0 := 11, s1 := 11,
    kind := .fixed 1, acc := .ro }

/-- CFG_STREAM (R346). -/
def objCfgStream : Desc :=
  { lo := 0x2101, hi := 0x2101, s0 := 0, s1 := 0,
    kind := .fixed 1, acc := .const, dflt := 0x02 }

/-- STREAM_DATA (R346). -/
def objStreamData : Desc :=
  { lo := 0x2101, hi := 0x2101, s0 := 1, s1 := 1,
    kind := .domain, acc := .wo, role := 1, hook := .streamData }

/-- STREAM_COMMAND (R346). -/
def objStreamCommand : Desc :=
  { lo := 0x2101, hi := 0x2101, s0 := 2, s1 := 2,
    kind := .fixed 1, acc := .wo, role := 1, codes := .between 1 1, hook := .streamCommand }

/-- PARTIAL (R346). -/
def objPartial : Desc :=
  { lo := 0x2110, hi := 0x2110, s0 := 0, s1 := 0,
    kind := .fixed 1, acc := .const, dflt := 0x08 }

/-- PARTIAL_STATUS (R346). -/
def objPartialStatus : Desc :=
  { lo := 0x2110, hi := 0x2110, s0 := 1, s1 := 1,
    kind := .fixed 4, acc := .ro }

/-- PARTIAL_ACK (R346). -/
def objPartialAck : Desc :=
  { lo := 0x2110, hi := 0x2110, s0 := 2, s1 := 2,
    kind := .fixed 2, acc := .wo, hook := .ack 1 14 }

/-- PARTIAL_RELEASE (R346). -/
def objPartialRelease : Desc :=
  { lo := 0x2110, hi := 0x2110, s0 := 3, s1 := 3,
    kind := .fixed 8, acc := .rwn, role := 1 }

/-- PARTIAL_DISCARD (R346). -/
def objPartialDiscard : Desc :=
  { lo := 0x2110, hi := 0x2110, s0 := 4, s1 := 4,
    kind := .fixed 1, acc := .wo, role := 1, codes := .between 1 1, hook := .partialDiscard }

/-- PARTIAL_MASK (R346). -/
def objPartialMask : Desc :=
  { lo := 0x2110, hi := 0x2110, s0 := 5, s1 := 5,
    kind := .fixed 8, acc := .ro }

/-- PARTIAL_IMAGE_ID (R346). -/
def objPartialImageId : Desc :=
  { lo := 0x2110, hi := 0x2110, s0 := 6, s1 := 6,
    kind := .fixed 8, acc := .ro }

/-- PARTIAL_REASON (R346). -/
def objPartialReason : Desc :=
  { lo := 0x2110, hi := 0x2110, s0 := 7, s1 := 7,
    kind := .fixed 2, acc := .ro }

/-- PARTIAL_FIRST_BAD (R346). -/
def objPartialFirstBad : Desc :=
  { lo := 0x2110, hi := 0x2110, s0 := 8, s1 := 8,
    kind := .fixed 4, acc := .ro, dflt := 0xFFFFFFFF }

/-- CFG_SCRUB (R346). -/
def objCfgScrub : Desc :=
  { lo := 0x2120, hi := 0x2120, s0 := 0, s1 := 0,
    kind := .fixed 1, acc := .const, dflt := 0x06 }

/-- CFG_SCRUB_STATUS (R346). -/
def objCfgScrubStatus : Desc :=
  { lo := 0x2120, hi := 0x2120, s0 := 1, s1 := 1,
    kind := .fixed 4, acc := .ro }

/-- CFG_SCRUB_ACK (R346). -/
def objCfgScrubAck : Desc :=
  { lo := 0x2120, hi := 0x2120, s0 := 2, s1 := 2,
    kind := .fixed 2, acc := .wo, hook := .ack 1 14 }

/-- CFG_CORRECTED (R346). -/
def objCfgCorrected : Desc :=
  { lo := 0x2120, hi := 0x2120, s0 := 3, s1 := 3,
    kind := .fixed 4, acc := .ro }

/-- CFG_RECOVERED (R346). -/
def objCfgRecovered : Desc :=
  { lo := 0x2120, hi := 0x2120, s0 := 4, s1 := 4,
    kind := .fixed 4, acc := .ro }

/-- CFG_PASS_TIME (R346). -/
def objCfgPassTime : Desc :=
  { lo := 0x2120, hi := 0x2120, s0 := 5, s1 := 5,
    kind := .fixed 4, acc := .ro }

/-- RECOVERY_SOURCE (R346). -/
def objRecoverySource : Desc :=
  { lo := 0x2120, hi := 0x2120, s0 := 6, s1 := 6,
    kind := .fixed 1, acc := .ro }

/-- WARDROBE (R389). -/
def objWardrobe : Desc :=
  { lo := 0x2130, hi := 0x2130, s0 := 0, s1 := 0,
    kind := .fixed 1, acc := .const, dflt := 0x07 }

/-- WARDROBE_STATUS (R389). -/
def objWardrobeStatus : Desc :=
  { lo := 0x2130, hi := 0x2130, s0 := 1, s1 := 1,
    kind := .fixed 4, acc := .ro }

/-- WARDROBE_ACK (R389). -/
def objWardrobeAck : Desc :=
  { lo := 0x2130, hi := 0x2130, s0 := 2, s1 := 2,
    kind := .fixed 2, acc := .wo, hook := .ack 1 14 }

/-- SLOT_COMMAND (R389). -/
def objSlotCommand : Desc :=
  { lo := 0x2130, hi := 0x2130, s0 := 3, s1 := 3,
    kind := .fixed 2, acc := .wo, role := 1, hook := .slotCommand }

/-- WARDROBE_REASON (R389). -/
def objWardrobeReason : Desc :=
  { lo := 0x2130, hi := 0x2130, s0 := 4, s1 := 4,
    kind := .fixed 2, acc := .ro }

/-- WEAR_PEAK (R389). -/
def objWearPeak : Desc :=
  { lo := 0x2130, hi := 0x2130, s0 := 5, s1 := 5,
    kind := .fixed 4, acc := .ro }

/-- PINNED (R389). -/
def objPinned : Desc :=
  { lo := 0x2130, hi := 0x2130, s0 := 6, s1 := 6,
    kind := .fixed 2, acc := .ro }

/-- RESERVE_FREE (R389). -/
def objReserveFree : Desc :=
  { lo := 0x2130, hi := 0x2130, s0 := 7, s1 := 7,
    kind := .fixed 2, acc := .ro, dflt := 256 }

/-- SLOT_DATA (R389). -/
def objSlotData : Desc :=
  { lo := 0x2131, hi := 0x2131, s0 := 0, s1 := 0,
    kind := .domain, acc := .wo, role := 1, hook := .slotData }

/-- SLOT (R389). -/
def objSlot : Desc :=
  { lo := 0x2140, hi := 0x2149, s0 := 0, s1 := 0,
    kind := .fixed 1, acc := .const, dflt := 0x05 }

/-- SLOT_STATE (R389). -/
def objSlotState : Desc :=
  { lo := 0x2140, hi := 0x2149, s0 := 1, s1 := 1,
    kind := .fixed 4, acc := .ro }

/-- SLOT_IMAGE_ID (R389). -/
def objSlotImageId : Desc :=
  { lo := 0x2140, hi := 0x2149, s0 := 2, s1 := 2,
    kind := .fixed 8, acc := .ro }

/-- SLOT_IMAGE_VERSION (R389). -/
def objSlotImageVersion : Desc :=
  { lo := 0x2140, hi := 0x2149, s0 := 3, s1 := 3,
    kind := .fixed 4, acc := .ro }

/-- SLOT_LENGTH (R389). -/
def objSlotLength : Desc :=
  { lo := 0x2140, hi := 0x2149, s0 := 4, s1 := 4,
    kind := .fixed 4, acc := .ro }

/-- SLOT_READS (R389). -/
def objSlotReads : Desc :=
  { lo := 0x2140, hi := 0x2149, s0 := 5, s1 := 5,
    kind := .fixed 4, acc := .ro }

/-- FABRIC_TENSION_OFFSET (R63). -/
def objFabricTensionOffset : Desc :=
  { lo := 0x2150, hi := 0x2150, s0 := 0, s1 := 0,
    kind := .fixed 1, acc := .rwn, role := 1, codes := .between 0 15, safe := true }

/-- FIRMWARE (R389). -/
def objFirmware : Desc :=
  { lo := 0x2160, hi := 0x2160, s0 := 0, s1 := 0,
    kind := .fixed 1, acc := .const, dflt := 0x06 }

/-- FW_STATUS (R389). -/
def objFwStatus : Desc :=
  { lo := 0x2160, hi := 0x2160, s0 := 1, s1 := 1,
    kind := .fixed 4, acc := .ro }

/-- FW_ACK (R389). -/
def objFwAck : Desc :=
  { lo := 0x2160, hi := 0x2160, s0 := 2, s1 := 2,
    kind := .fixed 2, acc := .wo, role := 2, hook := .ack 1 14 }

/-- FW_COMMAND (R389). -/
def objFwCommand : Desc :=
  { lo := 0x2160, hi := 0x2160, s0 := 3, s1 := 3,
    kind := .fixed 1, acc := .wo, role := 2, hook := .fwCommand }

/-- FW_REASON (R389). -/
def objFwReason : Desc :=
  { lo := 0x2160, hi := 0x2160, s0 := 4, s1 := 4,
    kind := .fixed 2, acc := .ro }

/-- FW_VERSION (R389). -/
def objFwVersion : Desc :=
  { lo := 0x2160, hi := 0x2160, s0 := 5, s1 := 5,
    kind := .fixed 4, acc := .ro }

/-- FW_SECURITY_MIN (R389). -/
def objFwSecurityMin : Desc :=
  { lo := 0x2160, hi := 0x2160, s0 := 6, s1 := 6,
    kind := .fixed 1, acc := .ro }

/-- FW_DATA (R389). -/
def objFwData : Desc :=
  { lo := 0x2161, hi := 0x2161, s0 := 0, s1 := 0,
    kind := .domain, acc := .wo, role := 2, hook := .fwData }

/-- BASTE_ACCESS (R69). -/
def objBasteAccess : Desc :=
  { lo := 0x2170, hi := 0x2170, s0 := 0, s1 := 0,
    kind := .fixed 1, acc := .const, dflt := 0x04 }

/-- BASTE_STATUS (R69). -/
def objBasteStatus : Desc :=
  { lo := 0x2170, hi := 0x2170, s0 := 1, s1 := 1,
    kind := .fixed 4, acc := .ro }

/-- BASTE_REQUEST (R69). -/
def objBasteRequest : Desc :=
  { lo := 0x2170, hi := 0x2170, s0 := 2, s1 := 2,
    kind := .fixed 8, acc := .wo, role := 1, hook := .basteRequest }

/-- BASTE_REASON (R69). -/
def objBasteReason : Desc :=
  { lo := 0x2170, hi := 0x2170, s0 := 3, s1 := 3,
    kind := .fixed 2, acc := .ro }

/-- BASTE_ACK (R69). -/
def objBasteAck : Desc :=
  { lo := 0x2170, hi := 0x2170, s0 := 4, s1 := 4,
    kind := .fixed 2, acc := .wo, role := 1, hook := .ack 1 14 }

/-- BASTE_DATA (R69). -/
def objBasteData : Desc :=
  { lo := 0x2171, hi := 0x2171, s0 := 0, s1 := 0,
    kind := .domain, acc := .ro }

/-- LIFE_CYCLE (R390). -/
def objLifeCycle : Desc :=
  { lo := 0x2200, hi := 0x2200, s0 := 0, s1 := 0,
    kind := .fixed 1, acc := .const, dflt := 0x03 }

/-- LC_STATE (R390). -/
def objLcState : Desc :=
  { lo := 0x2200, hi := 0x2200, s0 := 1, s1 := 1,
    kind := .fixed 1, acc := .ro, dflt := 0x01 }

/-- LC_REQUEST (R390). -/
def objLcRequest : Desc :=
  { lo := 0x2200, hi := 0x2200, s0 := 2, s1 := 2,
    kind := .fixed 4, acc := .wo, hook := .lcRequest }

/-- LC_REASON (R390). -/
def objLcReason : Desc :=
  { lo := 0x2200, hi := 0x2200, s0 := 3, s1 := 3,
    kind := .fixed 2, acc := .ro }

/-- KEYS (R390). -/
def objKeys : Desc :=
  { lo := 0x2201, hi := 0x2201, s0 := 0, s1 := 0,
    kind := .fixed 1, acc := .const, dflt := 0x03 }

/-- KEY_STATUS (R390). -/
def objKeyStatus : Desc :=
  { lo := 0x2201, hi := 0x2201, s0 := 1, s1 := 1,
    kind := .fixed 2, acc := .ro }

/-- KEY_PROGRAM (R390). -/
def objKeyProgram : Desc :=
  { lo := 0x2201, hi := 0x2201, s0 := 2, s1 := 2,
    kind := .domain, acc := .wo, role := 2, hook := .keyProgram }

/-- KEY_REVOKE (R390). -/
def objKeyRevoke : Desc :=
  { lo := 0x2201, hi := 0x2201, s0 := 3, s1 := 3,
    kind := .fixed 1, acc := .wo, role := 2, hook := .keyRevoke }

/-- OWNERS (R390). -/
def objOwners : Desc :=
  { lo := 0x2202, hi := 0x2202, s0 := 0, s1 := 0,
    kind := .fixed 1, acc := .const, dflt := 0x06 }

/-- OWNER_STATUS (R390). -/
def objOwnerStatus : Desc :=
  { lo := 0x2202, hi := 0x2202, s0 := 1, s1 := 1,
    kind := .fixed 2, acc := .ro }

/-- OWNER_KEY_PROGRAM (R390). -/
def objOwnerKeyProgram : Desc :=
  { lo := 0x2202, hi := 0x2202, s0 := 2, s1 := 2,
    kind := .domain, acc := .wo, role := 2, hook := .ownerKeyProgram }

/-- OWNER_KEY_REVOKE (R390). -/
def objOwnerKeyRevoke : Desc :=
  { lo := 0x2202, hi := 0x2202, s0 := 3, s1 := 3,
    kind := .fixed 1, acc := .wo, role := 2, hook := .ownerKeyRevoke }

/-- INTEGRATOR_KEYS (R390). -/
def objIntegratorKeys : Desc :=
  { lo := 0x2202, hi := 0x2202, s0 := 4, s1 := 4,
    kind := .domain, acc := .rw, role := 2, hook := .integratorKeys }

/-- SECURITY_VERSION_MIN (R390). -/
def objSecurityVersionMin : Desc :=
  { lo := 0x2202, hi := 0x2202, s0 := 5, s1 := 5,
    kind := .fixed 1, acc := .ro }

/-- VERSION_RAISE (R390). -/
def objVersionRaise : Desc :=
  { lo := 0x2202, hi := 0x2202, s0 := 6, s1 := 6,
    kind := .fixed 1, acc := .wo, role := 2, hook := .versionRaise }

/-- SESSION (R390). -/
def objSession : Desc :=
  { lo := 0x2210, hi := 0x2212, s0 := 0, s1 := 0,
    kind := .fixed 1, acc := .const, dflt := 0x06 }

/-- SESSION_STATUS (R390). -/
def objSessionStatus : Desc :=
  { lo := 0x2210, hi := 0x2212, s0 := 1, s1 := 1,
    kind := .fixed 4, acc := .ro }

/-- SESSION_REQUEST (R390). -/
def objSessionRequest : Desc :=
  { lo := 0x2210, hi := 0x2212, s0 := 2, s1 := 2,
    kind := .fixed 1, acc := .wo, hook := .sessionRequest }

/-- CHALLENGE (R390). -/
def objChallenge : Desc :=
  { lo := 0x2210, hi := 0x2212, s0 := 3, s1 := 3,
    kind := .octets 32, acc := .ro }

/-- RESPONSE (R390). -/
def objResponse : Desc :=
  { lo := 0x2210, hi := 0x2212, s0 := 4, s1 := 4,
    kind := .domain, acc := .wo, hook := .sessionResponse }

/-- SESSION_END (R390). -/
def objSessionEnd : Desc :=
  { lo := 0x2210, hi := 0x2212, s0 := 5, s1 := 5,
    kind := .fixed 1, acc := .wo, codes := .between 1 1, hook := .sessionEnd }

/-- SESSION_TIMEOUT (R390). -/
def objSessionTimeout : Desc :=
  { lo := 0x2210, hi := 0x2212, s0 := 6, s1 := 6,
    kind := .fixed 4, acc := .rw, role := 2, dflt := 600, codes := .between 10 86400, hook := .sessionTimeout }

/-- FABRIC_ROLE (R390). -/
def objFabricRole : Desc :=
  { lo := 0x2218, hi := 0x2218, s0 := 0, s1 := 0,
    kind := .fixed 1, acc := .ro, dflt := 0x00, image := true, codes := .between 0 1 }

/-- ATTEST (R390). -/
def objAttest : Desc :=
  { lo := 0x2220, hi := 0x2220, s0 := 0, s1 := 0,
    kind := .fixed 1, acc := .const, dflt := 0x05 }

/-- ATTEST_STATUS (R390). -/
def objAttestStatus : Desc :=
  { lo := 0x2220, hi := 0x2220, s0 := 1, s1 := 1,
    kind := .fixed 4, acc := .ro }

/-- ATTEST_REQUEST (R390). -/
def objAttestRequest : Desc :=
  { lo := 0x2220, hi := 0x2220, s0 := 2, s1 := 2,
    kind := .octets 32, acc := .wo, hook := .attestRequest }

/-- ATTEST_REASON (R390). -/
def objAttestReason : Desc :=
  { lo := 0x2220, hi := 0x2220, s0 := 3, s1 := 3,
    kind := .fixed 2, acc := .ro }

/-- ATTEST_ACK (R390). -/
def objAttestAck : Desc :=
  { lo := 0x2220, hi := 0x2220, s0 := 4, s1 := 4,
    kind := .fixed 2, acc := .wo, hook := .ack 1 14 }

/-- DEVICE_UID (R390). -/
def objDeviceUid : Desc :=
  { lo := 0x2220, hi := 0x2220, s0 := 5, s1 := 5,
    kind := .fixed 8, acc := .const }

/-- ATTEST_REPORT (R390). -/
def objAttestReport : Desc :=
  { lo := 0x2221, hi := 0x2221, s0 := 0, s1 := 0,
    kind := .domain, acc := .ro }

/-- IDENTITY_CERT (R390). -/
def objIdentityCert : Desc :=
  { lo := 0x2222, hi := 0x2222, s0 := 0, s1 := 0,
    kind := .domain, acc := .const }

/-- TAMPER (R390). -/
def objTamper : Desc :=
  { lo := 0x2230, hi := 0x2230, s0 := 0, s1 := 0,
    kind := .fixed 1, acc := .const, dflt := 0x04 }

/-- TAMPER_STATUS (R390). -/
def objTamperStatus : Desc :=
  { lo := 0x2230, hi := 0x2230, s0 := 1, s1 := 1,
    kind := .fixed 4, acc := .ro }

/-- TAMPER_ACK (R390). -/
def objTamperAck : Desc :=
  { lo := 0x2230, hi := 0x2230, s0 := 2, s1 := 2,
    kind := .fixed 2, acc := .wo, role := 2, hook := .tamperAck }

/-- TAMPER_CONFIG (R390). -/
def objTamperConfig : Desc :=
  { lo := 0x2230, hi := 0x2230, s0 := 3, s1 := 3,
    kind := .fixed 1, acc := .rw, role := 2, dflt := 0x80, rsv := 0x7C, hook := .tamperConfig }

/-- TAMPER_COUNT (R390). -/
def objTamperCount : Desc :=
  { lo := 0x2230, hi := 0x2230, s0 := 4, s1 := 4,
    kind := .fixed 4, acc := .ro }

/-- WEAR (R533). -/
def objWear : Desc :=
  { lo := 0x2300, hi := 0x2300, s0 := 0, s1 := 0,
    kind := .fixed 1, acc := .const, dflt := 0x0A }

/-- WEAR_STATUS (R533). -/
def objWearStatus : Desc :=
  { lo := 0x2300, hi := 0x2300, s0 := 1, s1 := 1,
    kind := .fixed 4, acc := .ro }

/-- WEAR_ACK (R533). -/
def objWearAck : Desc :=
  { lo := 0x2300, hi := 0x2300, s0 := 2, s1 := 2,
    kind := .fixed 2, acc := .wo, hook := .ack 1 15 }

/-- WEAR_MODEL (R533). -/
def objWearModel : Desc :=
  { lo := 0x2300, hi := 0x2300, s0 := 3, s1 := 3,
    kind := .fixed 8, acc := .ro }

/-- WEAR_MEASURED (R533). -/
def objWearMeasured : Desc :=
  { lo := 0x2300, hi := 0x2300, s0 := 4, s1 := 4,
    kind := .fixed 4, acc := .ro }

/-- WEAR_LIMIT (R533). -/
def objWearLimit : Desc :=
  { lo := 0x2300, hi := 0x2300, s0 := 5, s1 := 5,
    kind := .fixed 8, acc := .ro }

/-- WEAR_CONSUMED (R533). -/
def objWearConsumed : Desc :=
  { lo := 0x2300, hi := 0x2300, s0 := 6, s1 := 6,
    kind := .fixed 2, acc := .ro }

/-- WEAR_REMAINING (R533). -/
def objWearRemaining : Desc :=
  { lo := 0x2300, hi := 0x2300, s0 := 7, s1 := 7,
    kind := .fixed 4, acc := .ro }

/-- WEAR_RATE (R533). -/
def objWearRate : Desc :=
  { lo := 0x2300, hi := 0x2300, s0 := 8, s1 := 8,
    kind := .fixed 4, acc := .ro }

/-- WEAR_HEADROOM (R533). -/
def objWearHeadroom : Desc :=
  { lo := 0x2300, hi := 0x2300, s0 := 9, s1 := 9,
    kind := .fixed 4, acc := .rw, role := 1, dflt := 1080, image := true, hook := .wearHeadroom }

/-- MARGIN_LIMIT (R533). -/
def objMarginLimit : Desc :=
  { lo := 0x2300, hi := 0x2300, s0 := 10, s1 := 10,
    kind := .fixed 2, acc := .rw, role := 1, dflt := 4 }

/-- WEAR_CORNER (R533). -/
def objWearCorner : Desc :=
  { lo := 0x2301, hi := 0x2301, s0 := 0, s1 := 0,
    kind := .fixed 1, acc := .const, dflt := 0x02 }

/-- CORNER_VCORE (R533). -/
def objCornerVcore : Desc :=
  { lo := 0x2301, hi := 0x2301, s0 := 1, s1 := 1,
    kind := .fixed 2, acc := .rw, role := 1, dflt := 700, image := true, range := .between 600 900 }

/-- CORNER_TJ (R533). -/
def objCornerTj : Desc :=
  { lo := 0x2301, hi := 0x2301, s0 := 2, s1 := 2,
    kind := .fixed 2, signed := true, acc := .rw, role := 1, dflt := 105, image := true, range := .between 0 105 }

/-- WEAR_GAUGES (R533). -/
def objWearGauges : Desc :=
  { lo := 0x2303, hi := 0x2303, s0 := 0, s1 := 0,
    kind := .fixed 1, acc := .const, dflt := 0x4C }

/-- GAUGE (R533). -/
def objGauge : Desc :=
  { lo := 0x2303, hi := 0x2303, s0 := 1, s1 := 76, step := 1,
    kind := .fixed 4, acc := .ro }

/-- LOG (R533). -/
def objLog : Desc :=
  { lo := 0x2310, hi := 0x2310, s0 := 0, s1 := 0,
    kind := .fixed 1, acc := .const, dflt := 0x04 }

/-- LOG_LATEST (R533). -/
def objLogLatest : Desc :=
  { lo := 0x2310, hi := 0x2310, s0 := 1, s1 := 1,
    kind := .fixed 4, acc := .ro }

/-- LOG_SELECT (R533). -/
def objLogSelect : Desc :=
  { lo := 0x2310, hi := 0x2310, s0 := 2, s1 := 2,
    kind := .fixed 1, acc := .rw, codes := .between 0 15, hook := .logSelect }

/-- LOG_PAGE (R533). -/
def objLogPage : Desc :=
  { lo := 0x2310, hi := 0x2310, s0 := 3, s1 := 3,
    kind := .domain, acc := .ro }

/-- LOG_BOOTS (R533). -/
def objLogBoots : Desc :=
  { lo := 0x2310, hi := 0x2310, s0 := 4, s1 := 4,
    kind := .fixed 2, acc := .ro }

/-- VMON (R533). -/
def objVmon : Desc :=
  { lo := 0x2320, hi := 0x2320, s0 := 0, s1 := 0,
    kind := .fixed 1, acc := .const, dflt := 0x08 }

/-- VMON_BAND (R533). -/
def objVmonBand : Desc :=
  { lo := 0x2320, hi := 0x2320, s0 := 1, s1 := 8, step := 1,
    kind := .fixed 4, acc := .rw, role := 1 }

/-- CASCADE (R313). -/
def objCascade : Desc :=
  { lo := 0x2400, hi := 0x2400, s0 := 0, s1 := 0,
    kind := .fixed 1, acc := .const, dflt := 0x09 }

/-- CASCADE_STATUS (R313). -/
def objCascadeStatus : Desc :=
  { lo := 0x2400, hi := 0x2400, s0 := 1, s1 := 1,
    kind := .fixed 4, acc := .ro }

/-- CASCADE_ACK (R313). -/
def objCascadeAck : Desc :=
  { lo := 0x2400, hi := 0x2400, s0 := 2, s1 := 2,
    kind := .fixed 2, acc := .wo, hook := .ack 1 15 }

/-- CASCADE_MEMBERS (R313). -/
def objCascadeMembers : Desc :=
  { lo := 0x2400, hi := 0x2400, s0 := 3, s1 := 3,
    kind := .fixed 2, acc := .ro }

/-- CASCADE_HEALTHY (R313). -/
def objCascadeHealthy : Desc :=
  { lo := 0x2400, hi := 0x2400, s0 := 4, s1 := 4,
    kind := .fixed 2, acc := .ro }

/-- CASCADE_REQUEST (R313). -/
def objCascadeRequest : Desc :=
  { lo := 0x2400, hi := 0x2400, s0 := 5, s1 := 5,
    kind := .fixed 1, acc := .wo, role := 1, codes := .between 1 3, hook := .cascadeRequest }

/-- MASTER_ENABLE (R313). -/
def objMasterEnable : Desc :=
  { lo := 0x2400, hi := 0x2400, s0 := 6, s1 := 6,
    kind := .fixed 1, acc := .rw, role := 2, dflt := 0x01, codes := .between 0 1, hook := .masterEnable }

/-- NOTCH_LEAD (R313). -/
def objNotchLead : Desc :=
  { lo := 0x2400, hi := 0x2400, s0 := 7, s1 := 7,
    kind := .fixed 4, acc := .rwn, role := 1, dflt := 4000, codes := .between 2100 1000000, scope := .cascade }

/-- MASTER_OFFSET (R313). -/
def objMasterOffset : Desc :=
  { lo := 0x2400, hi := 0x2400, s0 := 8, s1 := 8,
    kind := .fixed 4, signed := true, acc := .ro }

/-- CASCADE_MASTER (R313). -/
def objCascadeMaster : Desc :=
  { lo := 0x2400, hi := 0x2400, s0 := 9, s1 := 9,
    kind := .fixed 1, acc := .ro, dflt := 0xFF }

/-- CASCADE_LINKS (R313). -/
def objCascadeLinks : Desc :=
  { lo := 0x2401, hi := 0x2401, s0 := 0, s1 := 0,
    kind := .fixed 1, acc := .const, dflt := 0x08 }

/-- EAST_LINK, WEST_LINK (R313). -/
def objEastLinkWestLink : Desc :=
  { lo := 0x2401, hi := 0x2401, s0 := 1, s1 := 2, step := 1,
    kind := .fixed 4, acc := .ro }

/-- EAST_ERRORS, WEST_ERRORS (R313). -/
def objEastErrorsWestErrors : Desc :=
  { lo := 0x2401, hi := 0x2401, s0 := 3, s1 := 4, step := 1,
    kind := .fixed 4, acc := .ro }

/-- EAST_PEER, WEST_PEER (R313). -/
def objEastPeerWestPeer : Desc :=
  { lo := 0x2401, hi := 0x2401, s0 := 5, s1 := 6, step := 1,
    kind := .fixed 1, acc := .ro, dflt := 0xFF }

/-- EAST_ASYMMETRY, WEST_ASYMMETRY (R313). -/
def objEastAsymmetryWestAsymmetry : Desc :=
  { lo := 0x2401, hi := 0x2401, s0 := 7, s1 := 8, step := 1,
    kind := .fixed 2, signed := true, acc := .rw, role := 1, range := .between (-4000) 4000 }

/-- CASCADE_SOURCE (R313). -/
def objCascadeSource : Desc :=
  { lo := 0x2403, hi := 0x2403, s0 := 0, s1 := 0,
    kind := .fixed 1, acc := .const, dflt := 0x01 }

/-- CASCADE_NOTCH_SOURCE (R313). -/
def objCascadeNotchSource : Desc :=
  { lo := 0x2403, hi := 0x2403, s0 := 1, s1 := 1,
    kind := .fixed 1, acc := .rwn, role := 1, dflt := 0xFE, hook := .cascadeSource, scope := .cascade }

/-- CASCADE_THREAD (R313). -/
def objCascadeThread : Desc :=
  { lo := 0x2410, hi := 0x242F, s0 := 0, s1 := 0,
    kind := .fixed 1, acc := .const, dflt := 0x05 }

/-- THREAD_STATUS (R313). -/
def objThreadStatus : Desc :=
  { lo := 0x2410, hi := 0x242F, s0 := 1, s1 := 1,
    kind := .fixed 4, acc := .ro }

/-- THREAD_MAP (R313). -/
def objThreadMap : Desc :=
  { lo := 0x2410, hi := 0x242F, s0 := 2, s1 := 2,
    kind := .fixed 4, acc := .rwn, role := 1, rsv := 0x7FFF0000, hook := .threadMap, scope := .cascade }

/-- THREAD_SENT (R313). -/
def objThreadSent : Desc :=
  { lo := 0x2410, hi := 0x242F, s0 := 3, s1 := 3,
    kind := .fixed 4, acc := .ro }

/-- THREAD_RECEIVED (R313). -/
def objThreadReceived : Desc :=
  { lo := 0x2410, hi := 0x242F, s0 := 4, s1 := 4,
    kind := .fixed 4, acc := .ro }

/-- THREAD_LOST (R313). -/
def objThreadLost : Desc :=
  { lo := 0x2410, hi := 0x242F, s0 := 5, s1 := 5,
    kind := .fixed 4, acc := .ro }

/-- WIDEN (R313). -/
def objWiden : Desc :=
  { lo := 0x2440, hi := 0x244B, s0 := 0, s1 := 0,
    kind := .fixed 1, acc := .const, dflt := 0x03 }

/-- WIDEN_STATUS (R313). -/
def objWidenStatus : Desc :=
  { lo := 0x2440, hi := 0x244B, s0 := 1, s1 := 1,
    kind := .fixed 4, acc := .ro }

/-- WIDEN_SET (R313). -/
def objWidenSet : Desc :=
  { lo := 0x2440, hi := 0x244B, s0 := 2, s1 := 2,
    kind := .fixed 1, acc := .rwn, role := 1, codes := .between 0 15, hook := .widenSet, scope := .cascade }

/-- WIDEN_DELAY (R313). -/
def objWidenDelay : Desc :=
  { lo := 0x2440, hi := 0x244B, s0 := 3, s1 := 3,
    kind := .fixed 2, acc := .ro }

/-- CASCADE_RECOVER (R313). -/
def objCascadeRecover : Desc :=
  { lo := 0x2450, hi := 0x2450, s0 := 0, s1 := 0,
    kind := .fixed 1, acc := .const, dflt := 0x02 }

/-- RECOVER_STATUS (R313). -/
def objRecoverStatus : Desc :=
  { lo := 0x2450, hi := 0x2450, s0 := 1, s1 := 1,
    kind := .fixed 4, acc := .ro }

/-- RECOVER_REQUEST (R313). -/
def objRecoverRequest : Desc :=
  { lo := 0x2450, hi := 0x2450, s0 := 2, s1 := 2,
    kind := .fixed 2, acc := .wo, role := 2, rsv := 0xFF0, hook := .recoverRequest }

/-- GPIO_BANK (R285). -/
def objGpioBank : Desc :=
  { lo := 0x2801, hi := 0x2804, s0 := 0, s1 := 0,
    kind := .fixed 1, acc := .const, dflt := 0x07 }

/-- BANK_STATUS (R285). -/
def objBankStatus : Desc :=
  { lo := 0x2801, hi := 0x2804, s0 := 1, s1 := 1,
    kind := .fixed 4, acc := .ro }

/-- BANK_CLOCK (R285). -/
def objBankClock : Desc :=
  { lo := 0x2801, hi := 0x2804, s0 := 2, s1 := 2,
    kind := .fixed 4, acc := .rwn, role := 1, dflt := 0x0000000A, image := true, rsv := 0x70FFFC00, safe := true, hook := .bankClock }

/-- BANK_LEVELS (R285). -/
def objBankLevels : Desc :=
  { lo := 0x2801, hi := 0x2804, s0 := 3, s1 := 3,
    kind := .fixed 2, acc := .ro }

/-- BANK_OUT (R285). -/
def objBankOut : Desc :=
  { lo := 0x2801, hi := 0x2804, s0 := 4, s1 := 4,
    kind := .fixed 4, acc := .rw, role := 1, safe := true, hook := .bankOut }

/-- CAPTURE_CONFIG (R285). -/
def objCaptureConfig : Desc :=
  { lo := 0x2801, hi := 0x2804, s0 := 5, s1 := 5,
    kind := .fixed 4, acc := .rwn, role := 1, image := true, safe := true, hook := .captureConfig }

/-- BANK_TICKS (R285). -/
def objBankTicks : Desc :=
  { lo := 0x2801, hi := 0x2804, s0 := 6, s1 := 6,
    kind := .fixed 8, acc := .ro }

/-- BANK_LATE (R285). -/
def objBankLate : Desc :=
  { lo := 0x2801, hi := 0x2804, s0 := 7, s1 := 7,
    kind := .fixed 4, acc := .ro }

/-- GPIO_PIN (R286). -/
def objGpioPin : Desc :=
  { lo := 0x2810, hi := 0x284F, s0 := 0, s1 := 0,
    kind := .fixed 1, acc := .const, dflt := 0x03 }

/-- PIN_STATUS (R286). -/
def objPinStatus : Desc :=
  { lo := 0x2810, hi := 0x284F, s0 := 1, s1 := 1,
    kind := .fixed 2, acc := .ro }

/-- PIN_FUNCTION (R286). -/
def objPinFunction : Desc :=
  { lo := 0x2810, hi := 0x284F, s0 := 2, s1 := 2,
    kind := .fixed 1, acc := .rwn, role := 1, dflt := 0x00, image := true, codes := .between 0 7, safe := true,
    hook := .pinFunction }

/-- PIN_PULL (R286). -/
def objPinPull : Desc :=
  { lo := 0x2810, hi := 0x284F, s0 := 3, s1 := 3,
    kind := .fixed 1, acc := .rwn, role := 1, dflt := 0x00, image := true, codes := .between 0 2, safe := true }

/-- SAFE_PINS (R287). -/
def objSafePins : Desc :=
  { lo := 0x2880, hi := 0x2880, s0 := 0, s1 := 0,
    kind := .fixed 1, acc := .const, dflt := 0x06 }

/-- SAFE_PIN_STATUS (R287). -/
def objSafePinStatus : Desc :=
  { lo := 0x2880, hi := 0x2880, s0 := 1, s1 := 1,
    kind := .fixed 4, acc := .ro }

/-- SAFE_CHARGES (R287). -/
def objSafeCharges : Desc :=
  { lo := 0x2880, hi := 0x2880, s0 := 2, s1 := 5, step := 1,
    kind := .fixed 8, acc := .ro }

/-- SAFE_MISMATCH (R287). -/
def objSafeMismatch : Desc :=
  { lo := 0x2880, hi := 0x2880, s0 := 6, s1 := 6,
    kind := .fixed 4, acc := .ro }

/-- HEM (R153). -/
def objHem : Desc :=
  { lo := 0x3000, hi := 0x30D7, s0 := 0, s1 := 0,
    kind := .fixed 1, acc := .const, dflt := 0x0B }

/-- HEM_STATUS (R153). -/
def objHemStatus : Desc :=
  { lo := 0x3000, hi := 0x30D7, s0 := 1, s1 := 1,
    kind := .fixed 4, acc := .ro }

/-- HEM_ACK (R153). -/
def objHemAck : Desc :=
  { lo := 0x3000, hi := 0x30D7, s0 := 2, s1 := 2,
    kind := .fixed 2, acc := .wo, hook := .ack 1 15 }

/-- HEM_FLOOR (R153). -/
def objHemFloor : Desc :=
  { lo := 0x3000, hi := 0x30D7, s0 := 3, s1 := 19, step := 16,
    kind := .fixed 4, acc := .rwn, role := 1, safe := true, scope := .hem }

/-- HEM_SLACK_ALARM (R153). -/
def objHemSlackAlarm : Desc :=
  { lo := 0x3000, hi := 0x30D7, s0 := 4, s1 := 20, step := 16,
    kind := .fixed 2, acc := .rwn, role := 1, dflt := 16, safe := true, hook := .hemAlarm, scope := .hem }

/-- HEM_SLACK_MIN (R153). -/
def objHemSlackMin : Desc :=
  { lo := 0x3000, hi := 0x30D7, s0 := 5, s1 := 21, step := 16,
    kind := .fixed 2, acc := .ro }

/-- HEM_RATE (R153). -/
def objHemRate : Desc :=
  { lo := 0x3000, hi := 0x30D7, s0 := 6, s1 := 22, step := 16,
    kind := .fixed 4, acc := .ro }

/-- HEM_TOKENS (R153). -/
def objHemTokens : Desc :=
  { lo := 0x3000, hi := 0x30D7, s0 := 7, s1 := 23, step := 16,
    kind := .fixed 8, acc := .ro }

/-- HEM_LOSS (R153). -/
def objHemLoss : Desc :=
  { lo := 0x3000, hi := 0x30D7, s0 := 8, s1 := 24, step := 16,
    kind := .fixed 4, acc := .ro }

/-- HEM_MARKERS (R153). -/
def objHemMarkers : Desc :=
  { lo := 0x3000, hi := 0x30D7, s0 := 9, s1 := 25, step := 16,
    kind := .fixed 4, acc := .ro }

/-- HEM_CONFIG (R153). -/
def objHemConfig : Desc :=
  { lo := 0x3000, hi := 0x30D7, s0 := 10, s1 := 10,
    kind := .fixed 2, acc := .rwn, role := 1, dflt := 0x0000, image := true, rsv := 0x7FFF, safe := true, scope := .hem }

/-- HEM_COMMAND (R153). -/
def objHemCommand : Desc :=
  { lo := 0x3000, hi := 0x30D7, s0 := 11, s1 := 11,
    kind := .fixed 1, acc := .wo, role := 1, codes := .between 1 1, safe := true, hook := .hemCommand }

/-- SHUTTLE (R222). -/
def objShuttle : Desc :=
  { lo := 0x3100, hi := 0x310B, s0 := 0, s1 := 0,
    kind := .fixed 1, acc := .const, dflt := 0x20 }

/-- SHUTTLE_STATUS (R222). -/
def objShuttleStatus : Desc :=
  { lo := 0x3100, hi := 0x310B, s0 := 1, s1 := 1,
    kind := .fixed 4, acc := .ro }

/-- SHUTTLE_ACK (R222). -/
def objShuttleAck : Desc :=
  { lo := 0x3100, hi := 0x310B, s0 := 2, s1 := 2,
    kind := .fixed 2, acc := .wo, hook := .ack 1 15 }

/-- SHUTTLE_COMMAND (R222). -/
def objShuttleCommand : Desc :=
  { lo := 0x3100, hi := 0x310B, s0 := 3, s1 := 3,
    kind := .fixed 4, acc := .wo, role := 1, safe := true, hook := .shuttleCommand }

/-- START_TIME (R222). -/
def objStartTime : Desc :=
  { lo := 0x3100, hi := 0x310B, s0 := 4, s1 := 4,
    kind := .fixed 8, acc := .rw, role := 1, safe := true }

/-- START_FILL (R222). -/
def objStartFill : Desc :=
  { lo := 0x3100, hi := 0x310B, s0 := 5, s1 := 5,
    kind := .fixed 2, acc := .rw, role := 1, codes := .between 0 256, safe := true }

/-- SHUTTLE_PC (R222). -/
def objShuttlePc : Desc :=
  { lo := 0x3100, hi := 0x310B, s0 := 6, s1 := 6,
    kind := .fixed 2, acc := .ro }

/-- SLICE_INDEX (R222). -/
def objSliceIndex : Desc :=
  { lo := 0x3100, hi := 0x310B, s0 := 7, s1 := 7,
    kind := .fixed 8, acc := .ro }

/-- GROUP_NOTCH_SEQ (R222). -/
def objGroupNotchSeq : Desc :=
  { lo := 0x3100, hi := 0x310B, s0 := 8, s1 := 8,
    kind := .fixed 4, acc := .ro }

/-- FAIL_LATENCY (R222). -/
def objFailLatency : Desc :=
  { lo := 0x3100, hi := 0x310B, s0 := 9, s1 := 9,
    kind := .fixed 1, acc := .rwn, role := 1, dflt := 255, safe := true, hook := .failLatency, scope := .group }

/-- FAIL_LATENCY_MIN (R222). -/
def objFailLatencyMin : Desc :=
  { lo := 0x3100, hi := 0x310B, s0 := 10, s1 := 10,
    kind := .fixed 1, acc := .ro, dflt := 255 }

/-- FAIL_ROUND_TRIP (R222). -/
def objFailRoundTrip : Desc :=
  { lo := 0x3100, hi := 0x310B, s0 := 11, s1 := 11,
    kind := .fixed 2, acc := .ro, dflt := 0xFFFF }

/-- COUNTER (R222). -/
def objCounter : Desc :=
  { lo := 0x3100, hi := 0x310B, s0 := 12, s1 := 15, step := 1,
    kind := .fixed 4, acc := .rw, role := 1, safe := true, hook := .counter }

/-- FLAGS (R222). -/
def objFlags : Desc :=
  { lo := 0x3100, hi := 0x310B, s0 := 16, s1 := 16,
    kind := .fixed 2, acc := .ro }

/-- STICKY (R222). -/
def objSticky : Desc :=
  { lo := 0x3100, hi := 0x310B, s0 := 17, s1 := 17,
    kind := .fixed 1, acc := .ro }

/-- STACK_DEPTH (R222). -/
def objStackDepth : Desc :=
  { lo := 0x3100, hi := 0x310B, s0 := 18, s1 := 18,
    kind := .fixed 1, acc := .ro }

/-- RUN_END_TIME (R222). -/
def objRunEndTime : Desc :=
  { lo := 0x3100, hi := 0x310B, s0 := 19, s1 := 19,
    kind := .fixed 8, acc := .ro }

/-- RUN_SLICES (R222). -/
def objRunSlices : Desc :=
  { lo := 0x3100, hi := 0x310B, s0 := 20, s1 := 20,
    kind := .fixed 8, acc := .ro }

/-- RUN_END_PC (R222). -/
def objRunEndPc : Desc :=
  { lo := 0x3100, hi := 0x310B, s0 := 21, s1 := 21,
    kind := .fixed 2, acc := .ro }

/-- RUN_REASON (R222). -/
def objRunReason : Desc :=
  { lo := 0x3100, hi := 0x310B, s0 := 22, s1 := 22,
    kind := .fixed 2, acc := .ro }

/-- PROGRAM_CORRECTED (R222). -/
def objProgramCorrected : Desc :=
  { lo := 0x3100, hi := 0x310B, s0 := 23, s1 := 23,
    kind := .fixed 4, acc := .ro }

/-- PROGRAM_UNCORRECTABLE (R222). -/
def objProgramUncorrectable : Desc :=
  { lo := 0x3100, hi := 0x310B, s0 := 24, s1 := 24,
    kind := .fixed 4, acc := .ro }

/-- STARVE_POLICY (R222). -/
def objStarvePolicy : Desc :=
  { lo := 0x3100, hi := 0x310B, s0 := 32, s1 := 32,
    kind := .fixed 1, acc := .rwn, role := 1, dflt := 0x00, codes := .between 0 2, safe := true, scope := .group }

/-- SHUTTLE_PROGRAM (R223). -/
def objShuttleProgram : Desc :=
  { lo := 0x3110, hi := 0x311B, s0 := 0, s1 := 0,
    kind := .fixed 1, acc := .const, dflt := 0x03 }

/-- PROGRAM (R223). -/
def objProgram : Desc :=
  { lo := 0x3110, hi := 0x311B, s0 := 1, s1 := 1,
    kind := .domain, acc := .rw, role := 1, safe := true, hook := .program }

/-- PROGRAM_PATCH (R223). -/
def objProgramPatch : Desc :=
  { lo := 0x3110, hi := 0x311B, s0 := 2, s1 := 2,
    kind := .domain, acc := .rwn, role := 1, safe := true, hook := .programPatch, scope := .group }

/-- PROGRAM_CRC (R223). -/
def objProgramCrc : Desc :=
  { lo := 0x3110, hi := 0x311B, s0 := 3, s1 := 3,
    kind := .fixed 4, acc := .ro }

/-- SAMPLE (R223). -/
def objSample : Desc :=
  { lo := 0x3120, hi := 0x312B, s0 := 0, s1 := 0,
    kind := .fixed 1, acc := .const, dflt := 0x07 }

/-- SAMPLE_STATUS (R223). -/
def objSampleStatus : Desc :=
  { lo := 0x3120, hi := 0x312B, s0 := 1, s1 := 1,
    kind := .fixed 4, acc := .ro }

/-- SAMPLE_ACK (R223). -/
def objSampleAck : Desc :=
  { lo := 0x3120, hi := 0x312B, s0 := 2, s1 := 2,
    kind := .fixed 4, acc := .wo, hook := .sampleAck }

/-- SAMPLE_CONFIG (R223). -/
def objSampleConfig : Desc :=
  { lo := 0x3120, hi := 0x312B, s0 := 3, s1 := 3,
    kind := .fixed 4, acc := .rwn, role := 1, rsv := 0x7FF00000, safe := true, scope := .group }

/-- SAMPLE_WRITTEN (R223). -/
def objSampleWritten : Desc :=
  { lo := 0x3120, hi := 0x312B, s0 := 4, s1 := 4,
    kind := .fixed 4, acc := .ro }

/-- SAMPLE_ACKED (R223). -/
def objSampleAcked : Desc :=
  { lo := 0x3120, hi := 0x312B, s0 := 5, s1 := 5,
    kind := .fixed 4, acc := .ro }

/-- SAMPLE_LOST (R223). -/
def objSampleLost : Desc :=
  { lo := 0x3120, hi := 0x312B, s0 := 6, s1 := 6,
    kind := .fixed 4, acc := .ro }

/-- SAMPLE_DATA (R223). -/
def objSampleData : Desc :=
  { lo := 0x3120, hi := 0x312B, s0 := 7, s1 := 7,
    kind := .domain, acc := .ro }

/-- NEEDLE (R256). -/
def objNeedle : Desc :=
  { lo := 0x3200, hi := 0x325F, s0 := 0, s1 := 0,
    kind := .fixed 1, acc := .const, dflt := 0x0D }

/-- NEEDLE_STATUS (R256). -/
def objNeedleStatus : Desc :=
  { lo := 0x3200, hi := 0x325F, s0 := 1, s1 := 1,
    kind := .fixed 4, acc := .ro, dflt := 0x24000000 }

/-- NEEDLE_MODE (R256). -/
def objNeedleMode : Desc :=
  { lo := 0x3200, hi := 0x325F, s0 := 2, s1 := 2,
    kind := .fixed 1, acc := .rwn, role := 1, dflt := 0x00, codes := .between 0 1, safe := true, scope := .group }

/-- TX_DESKEW (R256). -/
def objTxDeskew : Desc :=
  { lo := 0x3200, hi := 0x325F, s0 := 3, s1 := 3,
    kind := .fixed 4, signed := true, acc := .rwn, role := 1, safe := true, hook := .deskew, scope := .group }

/-- RX_DESKEW (R256). -/
def objRxDeskew : Desc :=
  { lo := 0x3200, hi := 0x325F, s0 := 4, s1 := 4,
    kind := .fixed 4, signed := true, acc := .rwn, role := 1, safe := true, hook := .deskew, scope := .group }

/-- RAW_CONFIG (R256). -/
def objRawConfig : Desc :=
  { lo := 0x3200, hi := 0x325F, s0 := 5, s1 := 5,
    kind := .fixed 4, acc := .rwn, role := 1, dflt := 0x00000400, safe := true, hook := .rawConfig, scope := .group }

/-- RAW_STATUS (R256). -/
def objRawStatus : Desc :=
  { lo := 0x3200, hi := 0x325F, s0 := 6, s1 := 6,
    kind := .fixed 4, acc := .ro }

/-- RAW_ERRORS (R256). -/
def objRawErrors : Desc :=
  { lo := 0x3200, hi := 0x325F, s0 := 7, s1 := 7,
    kind := .fixed 4, acc := .ro }

/-- STROBES (R256). -/
def objStrobes : Desc :=
  { lo := 0x3200, hi := 0x325F, s0 := 8, s1 := 8,
    kind := .fixed 8, acc := .ro }

/-- FAILS (R256). -/
def objFails : Desc :=
  { lo := 0x3200, hi := 0x325F, s0 := 9, s1 := 9,
    kind := .fixed 8, acc := .ro }

/-- EDGE_SLIPS (R256). -/
def objEdgeSlips : Desc :=
  { lo := 0x3200, hi := 0x325F, s0 := 10, s1 := 10,
    kind := .fixed 4, acc := .ro }

/-- RESERVED_SYMBOLS (R256). -/
def objReservedSymbols : Desc :=
  { lo := 0x3200, hi := 0x325F, s0 := 11, s1 := 11,
    kind := .fixed 4, acc := .ro }

/-- LOOP_DELAY (R256). -/
def objLoopDelay : Desc :=
  { lo := 0x3200, hi := 0x325F, s0 := 12, s1 := 12,
    kind := .fixed 4, acc := .ro, dflt := 0xFFFFFFFF }

/-- NO_STROBE (R256). -/
def objNoStrobe : Desc :=
  { lo := 0x3200, hi := 0x325F, s0 := 13, s1 := 13,
    kind := .fixed 4, acc := .ro }

/-- TIMING (R257). -/
def objTiming : Desc :=
  { lo := 0x3300, hi := 0x330B, s0 := 0, s1 := 0,
    kind := .fixed 1, acc := .const, dflt := 0x03 }

/-- TIMING_TABLE (R257). -/
def objTimingTable : Desc :=
  { lo := 0x3300, hi := 0x330B, s0 := 1, s1 := 1,
    kind := .domain, acc := .rwn, role := 1, image := true, safe := true, hook := .timingTable, scope := .group }

/-- TABLE_CRC (R257). -/
def objTableCrc : Desc :=
  { lo := 0x3300, hi := 0x330B, s0 := 2, s1 := 2,
    kind := .fixed 4, acc := .ro }

/-- SHORTEST_PERIOD (R257). -/
def objShortestPeriod : Desc :=
  { lo := 0x3300, hi := 0x330B, s0 := 3, s1 := 3,
    kind := .fixed 4, acc := .ro, dflt := 4000 }

/-- CAL (R257). -/
def objCal : Desc :=
  { lo := 0x3340, hi := 0x3340, s0 := 0, s1 := 0,
    kind := .fixed 1, acc := .const, dflt := 0x06 }

/-- CAL_STATUS (R257). -/
def objCalStatus : Desc :=
  { lo := 0x3340, hi := 0x3340, s0 := 1, s1 := 1,
    kind := .fixed 4, acc := .ro }

/-- CAL_REQUEST (R257). -/
def objCalRequest : Desc :=
  { lo := 0x3340, hi := 0x3340, s0 := 2, s1 := 2,
    kind := .fixed 4, acc := .wo, role := 1, rsv := 0xFFF000, safe := true, hook := .calRequest }

/-- CAL_REASON (R257). -/
def objCalReason : Desc :=
  { lo := 0x3340, hi := 0x3340, s0 := 3, s1 := 3,
    kind := .fixed 2, acc := .ro }

/-- CAL_ACK (R257). -/
def objCalAck : Desc :=
  { lo := 0x3340, hi := 0x3340, s0 := 4, s1 := 4,
    kind := .fixed 2, acc := .wo, role := 1, hook := .ack 1 14 }

/-- CAL_STALE (R257). -/
def objCalStale : Desc :=
  { lo := 0x3340, hi := 0x3340, s0 := 5, s1 := 5,
    kind := .fixed 2, acc := .ro, dflt := 0x0FFF }

/-- CAL_DONE (R257). -/
def objCalDone : Desc :=
  { lo := 0x3340, hi := 0x3340, s0 := 6, s1 := 6,
    kind := .fixed 2, acc := .ro }

/-- SPOOL_CHANNEL (R449). -/
def objSpoolChannel : Desc :=
  { lo := 0x3400, hi := 0x340F, s0 := 0, s1 := 0,
    kind := .fixed 1, acc := .const, dflt := 0x0E }

/-- SPOOL_STATUS (R449). -/
def objSpoolStatus : Desc :=
  { lo := 0x3400, hi := 0x340F, s0 := 1, s1 := 1,
    kind := .fixed 4, acc := .ro }

/-- SPOOL_ACK (R449). -/
def objSpoolAck : Desc :=
  { lo := 0x3400, hi := 0x340F, s0 := 2, s1 := 2,
    kind := .fixed 2, acc := .wo, hook := .ack 1 15 }

/-- SPOOL_COMMAND (R449). -/
def objSpoolCommand : Desc :=
  { lo := 0x3400, hi := 0x340F, s0 := 3, s1 := 3,
    kind := .fixed 4, acc := .wo, role := 1, rsv := 0xFF0000, safe := true, hook := .spoolCommand }

/-- SPOOL_DESC_BASE (R449). -/
def objSpoolDescBase : Desc :=
  { lo := 0x3400, hi := 0x340F, s0 := 4, s1 := 4,
    kind := .fixed 8, acc := .rw, role := 1, safe := true, hook := .spoolReg }

/-- SPOOL_RING_ENTRIES (R449). -/
def objSpoolRingEntries : Desc :=
  { lo := 0x3400, hi := 0x340F, s0 := 5, s1 := 5,
    kind := .fixed 2, acc := .rw, role := 1, safe := true, hook := .spoolReg }

/-- SPOOL_CONFIG (R449). -/
def objSpoolConfig : Desc :=
  { lo := 0x3400, hi := 0x340F, s0 := 6, s1 := 6,
    kind := .fixed 4, acc := .rw, role := 1, rsv := 0xBF0000, safe := true, hook := .spoolReg }

/-- SPOOL_PACING (R449). -/
def objSpoolPacing : Desc :=
  { lo := 0x3400, hi := 0x340F, s0 := 7, s1 := 7,
    kind := .fixed 4, acc := .rw, role := 1, safe := true, hook := .spoolReg }

/-- SPOOL_HEAD (R449). -/
def objSpoolHead : Desc :=
  { lo := 0x3400, hi := 0x340F, s0 := 8, s1 := 8,
    kind := .fixed 2, acc := .ro }

/-- SPOOL_TAIL (R449). -/
def objSpoolTail : Desc :=
  { lo := 0x3400, hi := 0x340F, s0 := 9, s1 := 9,
    kind := .fixed 2, acc := .rw, role := 1, safe := true, hook := .spoolReg }

/-- SPOOL_ERROR_ADDRESS (R449). -/
def objSpoolErrorAddress : Desc :=
  { lo := 0x3400, hi := 0x340F, s0 := 10, s1 := 10,
    kind := .fixed 8, acc := .ro }

/-- SPOOL_ERROR_INFO (R449). -/
def objSpoolErrorInfo : Desc :=
  { lo := 0x3400, hi := 0x340F, s0 := 11, s1 := 11,
    kind := .fixed 4, acc := .ro }

/-- SPOOL_REASON (R449). -/
def objSpoolReason : Desc :=
  { lo := 0x3400, hi := 0x340F, s0 := 12, s1 := 12,
    kind := .fixed 2, acc := .ro }

/-- SPOOL_BYTES (R449). -/
def objSpoolBytes : Desc :=
  { lo := 0x3400, hi := 0x340F, s0 := 13, s1 := 13,
    kind := .fixed 8, acc := .ro }

/-- SPOOL_COMPLETED (R449). -/
def objSpoolCompleted : Desc :=
  { lo := 0x3400, hi := 0x340F, s0 := 14, s1 := 14,
    kind := .fixed 4, acc := .ro }

/-- SPOOL_GLOBAL (R449). -/
def objSpoolGlobal : Desc :=
  { lo := 0x3410, hi := 0x3410, s0 := 0, s1 := 0,
    kind := .fixed 1, acc := .const, dflt := 0x04 }

/-- SPOOL_SUMMARY (R449). -/
def objSpoolSummary : Desc :=
  { lo := 0x3410, hi := 0x3410, s0 := 1, s1 := 1,
    kind := .fixed 4, acc := .ro }

/-- SPOOL_BYTES_TO_HOST (R449). -/
def objSpoolBytesToHost : Desc :=
  { lo := 0x3410, hi := 0x3410, s0 := 2, s1 := 2,
    kind := .fixed 8, acc := .ro }

/-- SPOOL_BYTES_FROM_HOST (R449). -/
def objSpoolBytesFromHost : Desc :=
  { lo := 0x3410, hi := 0x3410, s0 := 3, s1 := 3,
    kind := .fixed 8, acc := .ro }

/-- SPOOL_POISONED (R449). -/
def objSpoolPoisoned : Desc :=
  { lo := 0x3410, hi := 0x3410, s0 := 4, s1 := 4,
    kind := .fixed 4, acc := .ro }

/-- TALLY_GLOBAL (R464). -/
def objTallyGlobal : Desc :=
  { lo := 0x3500, hi := 0x3500, s0 := 0, s1 := 0,
    kind := .fixed 1, acc := .const, dflt := 0x03 }

/-- TALLY_SUMMARY (R464). -/
def objTallySummary : Desc :=
  { lo := 0x3500, hi := 0x3500, s0 := 1, s1 := 1,
    kind := .fixed 4, acc := .ro }

/-- TALLY_CROSSINGS (R464). -/
def objTallyCrossings : Desc :=
  { lo := 0x3500, hi := 0x3500, s0 := 2, s1 := 2,
    kind := .fixed 4, acc := .ro }

/-- TALLY_CLEAR_RANGE (R464). -/
def objTallyClearRange : Desc :=
  { lo := 0x3500, hi := 0x3500, s0 := 3, s1 := 3,
    kind := .fixed 4, acc := .wo, role := 1, rsv := 0xFC00FC00, hook := .tallyClearRange }

/-- TALLY_DUMP (R464). -/
def objTallyDump : Desc :=
  { lo := 0x3501, hi := 0x3501, s0 := 0, s1 := 0,
    kind := .fixed 1, acc := .const, dflt := 0x07 }

/-- DUMP_STATUS (R464). -/
def objDumpStatus : Desc :=
  { lo := 0x3501, hi := 0x3501, s0 := 1, s1 := 1,
    kind := .fixed 4, acc := .ro }

/-- DUMP_ACK (R464). -/
def objDumpAck : Desc :=
  { lo := 0x3501, hi := 0x3501, s0 := 2, s1 := 2,
    kind := .fixed 2, acc := .wo, hook := .ack 1 15 }

/-- DUMP_CONFIG (R464). -/
def objDumpConfig : Desc :=
  { lo := 0x3501, hi := 0x3501, s0 := 3, s1 := 3,
    kind := .fixed 4, acc := .rw, role := 1, image := true, rsv := 0x3FF, hook := .dumpConfig }

/-- DUMP_PERIOD (R464). -/
def objDumpPeriod : Desc :=
  { lo := 0x3501, hi := 0x3501, s0 := 4, s1 := 4,
    kind := .fixed 4, acc := .rw, role := 1, dflt := 1000, codes := .between 10 10000000 }

/-- DUMP_REQUEST (R464). -/
def objDumpRequest : Desc :=
  { lo := 0x3501, hi := 0x3501, s0 := 5, s1 := 5,
    kind := .fixed 1, acc := .wo, codes := .between 1 1, hook := .dumpRequest }

/-- DUMPS_LOST (R464). -/
def objDumpsLost : Desc :=
  { lo := 0x3501, hi := 0x3501, s0 := 6, s1 := 6,
    kind := .fixed 4, acc := .ro }

/-- DUMP_FILL (R464). -/
def objDumpFill : Desc :=
  { lo := 0x3501, hi := 0x3501, s0 := 7, s1 := 7,
    kind := .fixed 2, acc := .ro }

/-- DUMP_LAST (R464). -/
def objDumpLast : Desc :=
  { lo := 0x3502, hi := 0x3502, s0 := 0, s1 := 0,
    kind := .domain, acc := .ro }

/-- SWATCH (R477). -/
def objSwatch : Desc :=
  { lo := 0x3600, hi := 0x3600, s0 := 0, s1 := 0,
    kind := .fixed 1, acc := .const, dflt := 0x09 }

/-- SWATCH_STATUS (R477). -/
def objSwatchStatus : Desc :=
  { lo := 0x3600, hi := 0x3600, s0 := 1, s1 := 1,
    kind := .fixed 4, acc := .ro }

/-- SWATCH_ACK (R477). -/
def objSwatchAck : Desc :=
  { lo := 0x3600, hi := 0x3600, s0 := 2, s1 := 2,
    kind := .fixed 2, acc := .wo, hook := .swatchAck }

/-- SWATCH_REQUEST (R477). -/
def objSwatchRequest : Desc :=
  { lo := 0x3600, hi := 0x3600, s0 := 3, s1 := 3,
    kind := .fixed 1, acc := .wo, role := 1, codes := .between 1 2, hook := .swatchRequest }

/-- SWATCH_CONFIG (R477). -/
def objSwatchConfig : Desc :=
  { lo := 0x3600, hi := 0x3600, s0 := 4, s1 := 4,
    kind := .fixed 1, acc := .rw, role := 1, dflt := 0x00, rsv := 0x3F }

/-- SWATCH_TRIGGER (R477). -/
def objSwatchTrigger : Desc :=
  { lo := 0x3600, hi := 0x3600, s0 := 5, s1 := 5,
    kind := .fixed 8, acc := .rw, role := 1, image := true, rsv := 0x7FFF00000FFFE00, hook := .swatchTrigger }

/-- SWATCH_MISSED (R477). -/
def objSwatchMissed : Desc :=
  { lo := 0x3600, hi := 0x3600, s0 := 6, s1 := 6,
    kind := .fixed 4, acc := .ro }

/-- SWATCH_LOST (R477). -/
def objSwatchLost : Desc :=
  { lo := 0x3600, hi := 0x3600, s0 := 7, s1 := 7,
    kind := .fixed 4, acc := .ro }

/-- SWATCH_ACKED (R477). -/
def objSwatchAcked : Desc :=
  { lo := 0x3600, hi := 0x3600, s0 := 8, s1 := 8,
    kind := .fixed 4, acc := .ro }

/-- SWATCH_WINDOW_SELECT (R477). -/
def objSwatchWindowSelect : Desc :=
  { lo := 0x3600, hi := 0x3600, s0 := 9, s1 := 9,
    kind := .fixed 1, acc := .rw, dflt := 0x00, rsv := 0xF0 }

/-- SWATCH_SLOT (R477). -/
def objSwatchSlot : Desc :=
  { lo := 0x3601, hi := 0x3604, s0 := 0, s1 := 0,
    kind := .fixed 1, acc := .const, dflt := 0x03 }

/-- SLOT_NUMBER (R477). -/
def objSlotNumber : Desc :=
  { lo := 0x3601, hi := 0x3604, s0 := 1, s1 := 1,
    kind := .fixed 4, acc := .ro }

/-- SLOT_TIME (R477). -/
def objSlotTime : Desc :=
  { lo := 0x3601, hi := 0x3604, s0 := 2, s1 := 2,
    kind := .fixed 8, acc := .ro }

/-- SLOT_TRIGGERS (R477). -/
def objSlotTriggers : Desc :=
  { lo := 0x3601, hi := 0x3604, s0 := 3, s1 := 3,
    kind := .fixed 2, acc := .ro }

/-- SWATCH_WINDOW (R477). -/
def objSwatchWindow : Desc :=
  { lo := 0x3608, hi := 0x3608, s0 := 0, s1 := 0,
    kind := .domain, acc := .ro }

/-- MEM_GLOBAL (R190). -/
def objMemGlobal : Desc :=
  { lo := 0x3700, hi := 0x3700, s0 := 0, s1 := 0,
    kind := .fixed 1, acc := .const, dflt := 0x06 }

/-- MEM_SUMMARY (R190). -/
def objMemSummary : Desc :=
  { lo := 0x3700, hi := 0x3700, s0 := 1, s1 := 1,
    kind := .fixed 4, acc := .ro }

/-- BUCKET_THRESHOLD (R190). -/
def objBucketThreshold : Desc :=
  { lo := 0x3700, hi := 0x3700, s0 := 2, s1 := 2,
    kind := .fixed 2, acc := .rw, role := 1, dflt := 32, codes := .between 1 65535 }

/-- BUCKET_LEAK_PERIOD (R190). -/
def objBucketLeakPeriod : Desc :=
  { lo := 0x3700, hi := 0x3700, s0 := 3, s1 := 3,
    kind := .fixed 4, acc := .rw, role := 1, dflt := 3600000, codes := .between 1 86400000 }

/-- AUTO_REPAIR (R190). -/
def objAutoRepair : Desc :=
  { lo := 0x3700, hi := 0x3700, s0 := 4, s1 := 4,
    kind := .fixed 1, acc := .rw, role := 2, dflt := 0x01, codes := .between 0 1 }

/-- PATROL_PASS (R190). -/
def objPatrolPass : Desc :=
  { lo := 0x3700, hi := 0x3700, s0 := 5, s1 := 5,
    kind := .fixed 4, acc := .rw, role := 1, dflt := 3600, range := .between 0 604800 }

/-- PATROL_STATUS (R190). -/
def objPatrolStatus : Desc :=
  { lo := 0x3700, hi := 0x3700, s0 := 6, s1 := 6,
    kind := .fixed 4, acc := .ro }

/-- SCRUB (R190). -/
def objScrub : Desc :=
  { lo := 0x3701, hi := 0x3701, s0 := 0, s1 := 0,
    kind := .fixed 1, acc := .const, dflt := 0x04 }

/-- SCRUB_STATUS (R190). -/
def objScrubStatus : Desc :=
  { lo := 0x3701, hi := 0x3701, s0 := 1, s1 := 1,
    kind := .fixed 4, acc := .ro }

/-- SCRUB_REQUEST (R190). -/
def objScrubRequest : Desc :=
  { lo := 0x3701, hi := 0x3701, s0 := 2, s1 := 2,
    kind := .fixed 4, acc := .wo, role := 1, rsv := 0x7FC00000, hook := .scrubRequest }

/-- SCRUB_REASON (R190). -/
def objScrubReason : Desc :=
  { lo := 0x3701, hi := 0x3701, s0 := 3, s1 := 3,
    kind := .fixed 2, acc := .ro }

/-- SCRUB_ACK (R190). -/
def objScrubAck : Desc :=
  { lo := 0x3701, hi := 0x3701, s0 := 4, s1 := 4,
    kind := .fixed 2, acc := .wo, role := 1, hook := .ack 1 14 }

/-- SCRUB_SUMMARY (R190). -/
def objScrubSummary : Desc :=
  { lo := 0x3702, hi := 0x3702, s0 := 0, s1 := 0,
    kind := .domain, acc := .ro }

/-- BIST (R505). -/
def objBist : Desc :=
  { lo := 0x3800, hi := 0x3800, s0 := 0, s1 := 0,
    kind := .fixed 1, acc := .const, dflt := 0x09 }

/-- BIST_STATUS (R505). -/
def objBistStatus : Desc :=
  { lo := 0x3800, hi := 0x3800, s0 := 1, s1 := 1,
    kind := .fixed 4, acc := .ro }

/-- BIST_ACK (R505). -/
def objBistAck : Desc :=
  { lo := 0x3800, hi := 0x3800, s0 := 2, s1 := 2,
    kind := .fixed 2, acc := .wo, hook := .ack 1 15 }

/-- BIST_CONFIG (R505). -/
def objBistConfig : Desc :=
  { lo := 0x3800, hi := 0x3800, s0 := 3, s1 := 3,
    kind := .fixed 4, acc := .rw, role := 1, dflt := 0x8218000A, rsv := 0x30000000, hook := .bistConfig }

/-- SWEEP_PAUSE (R505). -/
def objSweepPause : Desc :=
  { lo := 0x3800, hi := 0x3800, s0 := 4, s1 := 4,
    kind := .fixed 4, acc := .rw, role := 1, range := .between 0 86400 }

/-- BIST_REQUEST (R505). -/
def objBistRequest : Desc :=
  { lo := 0x3800, hi := 0x3800, s0 := 5, s1 := 5,
    kind := .fixed 1, acc := .wo, role := 1, codes := .between 1 1, hook := .bistRequest }

/-- BIST_REASON (R505). -/
def objBistReason : Desc :=
  { lo := 0x3800, hi := 0x3800, s0 := 6, s1 := 6,
    kind := .fixed 2, acc := .ro }

/-- BIST_SUMMARY (R505). -/
def objBistSummary : Desc :=
  { lo := 0x3800, hi := 0x3800, s0 := 7, s1 := 7,
    kind := .domain, acc := .ro }

/-- BIST_SITES (R505). -/
def objBistSites : Desc :=
  { lo := 0x3800, hi := 0x3800, s0 := 8, s1 := 8,
    kind := .domain, acc := .ro }

/-- MARGIN_WARNINGS (R505). -/
def objMarginWarnings : Desc :=
  { lo := 0x3800, hi := 0x3800, s0 := 9, s1 := 9,
    kind := .fixed 4, acc := .ro }

/-- REPAIR (R502). -/
def objRepair : Desc :=
  { lo := 0x3900, hi := 0x3900, s0 := 0, s1 := 0,
    kind := .fixed 1, acc := .const, dflt := 0x09 }

/-- REPAIR_STATUS (R502). -/
def objRepairStatus : Desc :=
  { lo := 0x3900, hi := 0x3900, s0 := 1, s1 := 1,
    kind := .fixed 4, acc := .ro }

/-- REPAIR_ACK (R502). -/
def objRepairAck : Desc :=
  { lo := 0x3900, hi := 0x3900, s0 := 2, s1 := 2,
    kind := .fixed 2, acc := .wo, hook := .ack 1 15 }

/-- REPAIR_REQUEST (R502). -/
def objRepairRequest : Desc :=
  { lo := 0x3900, hi := 0x3900, s0 := 3, s1 := 3,
    kind := .fixed 4, acc := .wo, role := 1, rsv := 0xFF0000, hook := .repairRequest }

/-- REPAIR_REASON (R502). -/
def objRepairReason : Desc :=
  { lo := 0x3900, hi := 0x3900, s0 := 4, s1 := 4,
    kind := .fixed 2, acc := .ro }

/-- REPAIR_RESTORE (R502). -/
def objRepairRestore : Desc :=
  { lo := 0x3900, hi := 0x3900, s0 := 5, s1 := 5,
    kind := .fixed 1, acc := .rw, role := 2, dflt := 0x00, codes := .between 0 1 }

/-- REPAIR_RECORD (R502). -/
def objRepairRecord : Desc :=
  { lo := 0x3900, hi := 0x3900, s0 := 6, s1 := 6,
    kind := .domain, acc := .ro }

/-- STATE_LOSSES (R502). -/
def objStateLosses : Desc :=
  { lo := 0x3900, hi := 0x3900, s0 := 7, s1 := 7,
    kind := .fixed 4, acc := .ro }

/-- ISOLATED_MASK (R502). -/
def objIsolatedMask : Desc :=
  { lo := 0x3900, hi := 0x3900, s0 := 8, s1 := 8,
    kind := .fixed 8, acc := .ro }

/-- FREE_BANDS (R502). -/
def objFreeBands : Desc :=
  { lo := 0x3900, hi := 0x3900, s0 := 9, s1 := 9,
    kind := .fixed 2, acc := .ro }

/-- PATCH_REPAIR (R503). -/
def objPatchRepair : Desc :=
  { lo := 0x3910, hi := 0x3945, s0 := 0, s1 := 0,
    kind := .fixed 1, acc := .const, dflt := 0x05 }

/-- PATCH_STATUS (R503). -/
def objPatchStatus : Desc :=
  { lo := 0x3910, hi := 0x3945, s0 := 1, s1 := 1,
    kind := .fixed 4, acc := .ro, dflt := 0x00FF0000 }

/-- SHIFT_MAP (R503). -/
def objShiftMap : Desc :=
  { lo := 0x3910, hi := 0x3945, s0 := 2, s1 := 2,
    kind := .fixed 8, acc := .ro, dflt := 0x1010101010101010 }

/-- BANDS (R503). -/
def objBands : Desc :=
  { lo := 0x3910, hi := 0x3945, s0 := 3, s1 := 3,
    kind := .fixed 4, acc := .ro, dflt := 0x76543210, image := true }

/-- PATCH_REPAIRS (R503). -/
def objPatchRepairs : Desc :=
  { lo := 0x3910, hi := 0x3945, s0 := 4, s1 := 4,
    kind := .fixed 4, acc := .ro }

/-- PATCH_TESTED (R503). -/
def objPatchTested : Desc :=
  { lo := 0x3910, hi := 0x3945, s0 := 5, s1 := 5,
    kind := .fixed 4, acc := .ro }

/-- FRENCH (R504). -/
def objFrench : Desc :=
  { lo := 0x3980, hi := 0x39BF, s0 := 0, s1 := 0,
    kind := .fixed 1, acc := .const, dflt := 0x07 }

/-- FRENCH_STATUS (R504). -/
def objFrenchStatus : Desc :=
  { lo := 0x3980, hi := 0x39BF, s0 := 1, s1 := 1,
    kind := .fixed 4, acc := .ro }

/-- FRENCH_ACK (R504). -/
def objFrenchAck : Desc :=
  { lo := 0x3980, hi := 0x39BF, s0 := 2, s1 := 2,
    kind := .fixed 2, acc := .wo, hook := .ack 1 15 }

/-- FRENCH_BINDING (R504). -/
def objFrenchBinding : Desc :=
  { lo := 0x3980, hi := 0x39BF, s0 := 3, s1 := 3,
    kind := .fixed 8, acc := .ro, dflt := 0xFFFFFFFFFFFFFFFF, image := true }

/-- SKEW_BOUND (R504). -/
def objSkewBound : Desc :=
  { lo := 0x3980, hi := 0x39BF, s0 := 4, s1 := 4,
    kind := .fixed 2, acc := .rwn, role := 1, dflt := 200, image := true, codes := .between 40 2000 }

/-- ROLLBACKS (R504). -/
def objRollbacks : Desc :=
  { lo := 0x3980, hi := 0x39BF, s0 := 5, s1 := 5,
    kind := .fixed 4, acc := .ro }

/-- LAST_ROLLBACK (R504). -/
def objLastRollback : Desc :=
  { lo := 0x3980, hi := 0x39BF, s0 := 6, s1 := 6,
    kind := .fixed 8, acc := .ro }

/-- ALLOWANCE_PEAK (R504). -/
def objAllowancePeak : Desc :=
  { lo := 0x3980, hi := 0x39BF, s0 := 7, s1 := 7,
    kind := .fixed 2, acc := .ro }

/-- SAFETY (R532). -/
def objSafety : Desc :=
  { lo := 0x3A00, hi := 0x3A00, s0 := 0, s1 := 0,
    kind := .fixed 1, acc := .const, dflt := 0x05 }

/-- SAFETY_STATUS (R532). -/
def objSafetyStatus : Desc :=
  { lo := 0x3A00, hi := 0x3A00, s0 := 1, s1 := 1,
    kind := .fixed 4, acc := .ro }

/-- SAFETY_ACK (R532). -/
def objSafetyAck : Desc :=
  { lo := 0x3A00, hi := 0x3A00, s0 := 2, s1 := 2,
    kind := .fixed 2, acc := .wo, hook := .ack 1 15 }

/-- PROOF_REQUEST (R532). -/
def objProofRequest : Desc :=
  { lo := 0x3A00, hi := 0x3A00, s0 := 3, s1 := 3,
    kind := .fixed 1, acc := .wo, role := 2, rsv := 0xF0, hook := .proofRequest }

/-- PROOF_REASON (R532). -/
def objProofReason : Desc :=
  { lo := 0x3A00, hi := 0x3A00, s0 := 4, s1 := 4,
    kind := .fixed 2, acc := .ro }

/-- DANGEROUS_FAULTS (R532). -/
def objDangerousFaults : Desc :=
  { lo := 0x3A00, hi := 0x3A00, s0 := 5, s1 := 5,
    kind := .fixed 4, acc := .ro }

/-- SAFETY_FUNCTION (R532). -/
def objSafetyFunction : Desc :=
  { lo := 0x3A10, hi := 0x3A13, s0 := 0, s1 := 0,
    kind := .fixed 1, acc := .const, dflt := 0x05 }

/-- FUNCTION_STATUS (R532). -/
def objFunctionStatus : Desc :=
  { lo := 0x3A10, hi := 0x3A13, s0 := 1, s1 := 1,
    kind := .fixed 2, acc := .ro, dflt := 0x00FF }

/-- FUNCTION_CONFIG (R532). -/
def objFunctionConfig : Desc :=
  { lo := 0x3A10, hi := 0x3A13, s0 := 2, s1 := 2,
    kind := .fixed 4, acc := .ro, image := true, rsv := 0xFFFFC0 }

/-- PROOF_INTERVAL (R532). -/
def objProofInterval : Desc :=
  { lo := 0x3A10, hi := 0x3A13, s0 := 3, s1 := 3,
    kind := .fixed 4, acc := .rw, role := 2, dflt := 86400, codes := .between 60 31536000 }

/-- LAST_PROOF (R532). -/
def objLastProof : Desc :=
  { lo := 0x3A10, hi := 0x3A13, s0 := 4, s1 := 4,
    kind := .fixed 8, acc := .ro }

/-- PERMIT_LOSSES (R532). -/
def objPermitLosses : Desc :=
  { lo := 0x3A10, hi := 0x3A13, s0 := 5, s1 := 5,
    kind := .fixed 4, acc := .ro }

/-- WATCH_GLOBAL (R103). -/
def objWatchGlobal : Desc :=
  { lo := 0x3B00, hi := 0x3B00, s0 := 0, s1 := 0,
    kind := .fixed 1, acc := .const, dflt := 0x04 }

/-- WATCH_SUMMARY (R103). -/
def objWatchSummary : Desc :=
  { lo := 0x3B00, hi := 0x3B00, s0 := 1, s1 := 1,
    kind := .fixed 4, acc := .ro }

/-- WATCH_WINDOW (R103). -/
def objWatchWindow : Desc :=
  { lo := 0x3B00, hi := 0x3B00, s0 := 2, s1 := 2,
    kind := .fixed 4, acc := .rw, role := 1, dflt := 200000, codes := .between 2000 200000000 }

/-- ISLAND_STALL_BOUND (R103). -/
def objIslandStallBound : Desc :=
  { lo := 0x3B00, hi := 0x3B00, s0 := 3, s1 := 3,
    kind := .fixed 2, acc := .rw, role := 1, dflt := 400, codes := .between 200 1600 }

/-- WATCH_BOUND_COUNT (R103). -/
def objWatchBoundCount : Desc :=
  { lo := 0x3B00, hi := 0x3B00, s0 := 4, s1 := 4,
    kind := .fixed 2, acc := .ro }

/-- WATCH_SET (R103). -/
def objWatchSet : Desc :=
  { lo := 0x3B80, hi := 0x3BFF, s0 := 0, s1 := 0,
    kind := .fixed 1, acc := .const, dflt := 0x46 }

/-- WATCH_STATUS (R103). -/
def objWatchStatus : Desc :=
  { lo := 0x3B80, hi := 0x3BFF, s0 := 1, s1 := 1,
    kind := .fixed 4, acc := .ro }

/-- WATCH_ACK (R103). -/
def objWatchAck : Desc :=
  { lo := 0x3B80, hi := 0x3BFF, s0 := 2, s1 := 2,
    kind := .fixed 2, acc := .wo, hook := .ack 1 15 }

/-- WATCH_BINDING (R103). -/
def objWatchBinding : Desc :=
  { lo := 0x3B80, hi := 0x3BFF, s0 := 16, s1 := 64, step := 16,
    kind := .fixed 8, acc := .ro, dflt := 0xFFFFFFFFFFFFFFFF }

/-- WATCH_CONFIG (R103). -/
def objWatchConfig : Desc :=
  { lo := 0x3B80, hi := 0x3BFF, s0 := 17, s1 := 65, step := 16,
    kind := .fixed 2, acc := .rwn, role := 1, image := true, rsv := 0x1FFF }

/-- WATCH_FLOOR (R103). -/
def objWatchFloor : Desc :=
  { lo := 0x3B80, hi := 0x3BFF, s0 := 18, s1 := 66, step := 16,
    kind := .fixed 4, acc := .rwn, role := 1, image := true }

/-- WATCH_STALL_BOUND (R103). -/
def objWatchStallBound : Desc :=
  { lo := 0x3B80, hi := 0x3BFF, s0 := 19, s1 := 67, step := 16,
    kind := .fixed 4, acc := .rwn, role := 1, dflt := 400, image := true, range := .between 200 4294967295 }

/-- WATCH_RATE (R103). -/
def objWatchRate : Desc :=
  { lo := 0x3B80, hi := 0x3BFF, s0 := 20, s1 := 68, step := 16,
    kind := .fixed 4, acc := .ro }

/-- WATCH_CAPABILITY (R103). -/
def objWatchCapability : Desc :=
  { lo := 0x3B80, hi := 0x3BFF, s0 := 21, s1 := 69, step := 16,
    kind := .fixed 4, acc := .ro }

/-- WATCH_TOKENS (R103). -/
def objWatchTokens : Desc :=
  { lo := 0x3B80, hi := 0x3BFF, s0 := 22, s1 := 70, step := 16,
    kind := .fixed 8, acc := .ro }

/-- TALLY_COUNTER (R459). -/
def objTallyCounter : Desc :=
  { lo := 0x4000, hi := 0x43FF, s0 := 0, s1 := 0,
    kind := .fixed 1, acc := .const, dflt := 0x08 }

/-- TALLY_STATUS (R459). -/
def objTallyStatus : Desc :=
  { lo := 0x4000, hi := 0x43FF, s0 := 1, s1 := 1,
    kind := .fixed 4, acc := .ro, dflt := 0x00001000 }

/-- TALLY_ACK (R459). -/
def objTallyAck : Desc :=
  { lo := 0x4000, hi := 0x43FF, s0 := 2, s1 := 2,
    kind := .fixed 2, acc := .wo, hook := .ack 1 15 }

/-- TALLY_CONFIG (R459). -/
def objTallyConfig : Desc :=
  { lo := 0x4000, hi := 0x43FF, s0 := 3, s1 := 3,
    kind := .fixed 4, acc := .rw, image := true, hook := .tallyConfig }

/-- TALLY_VALUE (R459). -/
def objTallyValue : Desc :=
  { lo := 0x4000, hi := 0x43FF, s0 := 4, s1 := 4,
    kind := .fixed 8, acc := .ro }

/-- TALLY_THRESHOLD (R459). -/
def objTallyThreshold : Desc :=
  { lo := 0x4000, hi := 0x43FF, s0 := 5, s1 := 5,
    kind := .fixed 8, acc := .rw, image := true, rsv := 0xFFFF000000000000, hook := .tallyThreshold }

/-- TALLY_STEP (R459). -/
def objTallyStep : Desc :=
  { lo := 0x4000, hi := 0x43FF, s0 := 6, s1 := 6,
    kind := .fixed 8, acc := .rw, image := true, rsv := 0xFFFF000000000000, hook := .tallyThreshold }

/-- TALLY_WIDE (R459). -/
def objTallyWide : Desc :=
  { lo := 0x4000, hi := 0x43FF, s0 := 7, s1 := 7,
    kind := .domain, acc := .ro }

/-- TALLY_CLEAR (R459). -/
def objTallyClear : Desc :=
  { lo := 0x4000, hi := 0x43FF, s0 := 8, s1 := 8,
    kind := .fixed 1, acc := .wo, codes := .between 1 1, hook := .tallyClear }

/-- BOBBIN (R129). -/
def objBobbin : Desc :=
  { lo := 0x4400, hi := 0x46FF, s0 := 0, s1 := 0,
    kind := .fixed 1, acc := .const, dflt := 0x09 }

/-- BOBBIN_STATUS (R129). -/
def objBobbinStatus : Desc :=
  { lo := 0x4400, hi := 0x46FF, s0 := 1, s1 := 1,
    kind := .fixed 4, acc := .ro }

/-- BOBBIN_ACK (R129). -/
def objBobbinAck : Desc :=
  { lo := 0x4400, hi := 0x46FF, s0 := 2, s1 := 2,
    kind := .fixed 2, acc := .wo, hook := .bobbinAck }

/-- BOBBIN_CONFIG (R129). -/
def objBobbinConfig : Desc :=
  { lo := 0x4400, hi := 0x46FF, s0 := 3, s1 := 3,
    kind := .fixed 4, acc := .ro, image := true, rsv := 0xFFC00 }

/-- BOBBIN_LEVEL (R129). -/
def objBobbinLevel : Desc :=
  { lo := 0x4400, hi := 0x46FF, s0 := 4, s1 := 4,
    kind := .fixed 2, acc := .rwn, role := 1, image := true, safe := true, hook := .bobbinLevel }

/-- BOBBIN_FILL (R129). -/
def objBobbinFill : Desc :=
  { lo := 0x4400, hi := 0x46FF, s0 := 5, s1 := 5,
    kind := .fixed 2, acc := .ro }

/-- BOBBIN_DROPPED (R129). -/
def objBobbinDropped : Desc :=
  { lo := 0x4400, hi := 0x46FF, s0 := 6, s1 := 6,
    kind := .fixed 4, acc := .ro }

/-- BOBBIN_GAPS (R129). -/
def objBobbinGaps : Desc :=
  { lo := 0x4400, hi := 0x46FF, s0 := 7, s1 := 7,
    kind := .fixed 4, acc := .ro }

/-- BOBBIN_PACKETS (R129). -/
def objBobbinPackets : Desc :=
  { lo := 0x4400, hi := 0x46FF, s0 := 8, s1 := 8,
    kind := .fixed 4, acc := .ro }

/-- BOBBIN_PLACE (R129). -/
def objBobbinPlace : Desc :=
  { lo := 0x4400, hi := 0x46FF, s0 := 9, s1 := 9,
    kind := .fixed 2, acc := .const }

/-- BLOCK (R191). -/
def objBlock : Desc :=
  { lo := 0x4800, hi := 0x4DFF, s0 := 0, s1 := 0,
    kind := .fixed 1, acc := .const, dflt := 0x0C }

/-- BLOCK_STATUS (R191). -/
def objBlockStatus : Desc :=
  { lo := 0x4800, hi := 0x4DFF, s0 := 1, s1 := 1,
    kind := .fixed 4, acc := .ro, dflt := 0x00004000 }

/-- BLOCK_ACK (R191). -/
def objBlockAck : Desc :=
  { lo := 0x4800, hi := 0x4DFF, s0 := 2, s1 := 2,
    kind := .fixed 2, acc := .wo, hook := .ack 1 15 }

/-- BLOCK_CONFIG (R191). -/
def objBlockConfig : Desc :=
  { lo := 0x4800, hi := 0x4DFF, s0 := 3, s1 := 3,
    kind := .fixed 4, acc := .ro, image := true, rsv := 0x3FFFFF }

/-- BLOCK_PLACE (R191). -/
def objBlockPlace : Desc :=
  { lo := 0x4800, hi := 0x4DFF, s0 := 4, s1 := 4,
    kind := .fixed 2, acc := .const }

/-- BLOCK_CORRECTED (R191). -/
def objBlockCorrected : Desc :=
  { lo := 0x4800, hi := 0x4DFF, s0 := 5, s1 := 5,
    kind := .fixed 4, acc := .ro }

/-- BLOCK_UNCORRECTABLE (R191). -/
def objBlockUncorrectable : Desc :=
  { lo := 0x4800, hi := 0x4DFF, s0 := 6, s1 := 6,
    kind := .fixed 4, acc := .ro }

/-- BLOCK_BUCKET (R191). -/
def objBlockBucket : Desc :=
  { lo := 0x4800, hi := 0x4DFF, s0 := 7, s1 := 7,
    kind := .fixed 2, acc := .ro }

/-- BLOCK_SPARES (R191). -/
def objBlockSpares : Desc :=
  { lo := 0x4800, hi := 0x4DFF, s0 := 8, s1 := 8,
    kind := .fixed 2, acc := .ro }

/-- BLOCK_REPAIR (R191). -/
def objBlockRepair : Desc :=
  { lo := 0x4800, hi := 0x4DFF, s0 := 9, s1 := 9,
    kind := .fixed 4, acc := .wo, role := 1, rsv := 0x3FFFFE00, hook := .blockRepair }

/-- BLOCK_FLIP_MASK (R191). -/
def objBlockFlipMask : Desc :=
  { lo := 0x4800, hi := 0x4DFF, s0 := 10, s1 := 10,
    kind := .fixed 8, acc := .rw, role := 1 }

/-- BLOCK_FLIP_INJECT (R191). -/
def objBlockFlipInject : Desc :=
  { lo := 0x4800, hi := 0x4DFF, s0 := 11, s1 := 11,
    kind := .fixed 4, acc := .wo, role := 1, rsv := 0xFC00, safe := true, hook := .flipInject }

/-- BLOCK_LAST_ERROR (R191). -/
def objBlockLastError : Desc :=
  { lo := 0x4800, hi := 0x4DFF, s0 := 12, s1 := 12,
    kind := .fixed 4, acc := .ro }

/-- The objects of index page 0x10. -/
def page10 : List Desc :=
  [objDeviceType, objErrorRegister, objDeviceName, objHardwareVersion, objSoftwareVersion, objCobIdEmcy,
   objInhibitTimeEmcy, objProducerHeartbeat, objIdentity, objVendorId, objProductCode, objRevision,
   objSerialNumber]

/-- The objects of index page 0x14. -/
def page14 : List Desc :=
  [objRpdo, objRpdoCobId, objRpdoType, objRpdoEventTimer]

/-- The objects of index page 0x16. -/
def page16 : List Desc :=
  [objRpdoMapped, objRpdoMap]

/-- The objects of index page 0x18. -/
def page18 : List Desc :=
  [objTpdo, objTpdoCobId, objTpdoType, objTpdoInhibit, objTpdoEventTimer, objTpdoSyncStart]

/-- The objects of index page 0x1A. -/
def page1A : List Desc :=
  [objTpdoMapped, objTpdoMap]

/-- The objects of index page 0x1F. -/
def page1F : List Desc :=
  [objProgramDataCount, objProgramDataFw, objProgramDataSlot, objProgramControlCount, objProgramControl,
   objProgramVersionCount, objProgramVersion, objProgramFlashStatusCount, objProgramFlashStatus]

/-- The objects of index page 0x20. -/
def page20 : List Desc :=
  [objDeviceState, objStateStatus, objStateAck, objStateReason, objStateTime, objSafeSeq, objStateRequest,
   objDeviceTime, objLastEvent, objLastReason, objLastReasonTime, objNotchControl, objNotchStatus,
   objDeviceNotchSource, objHostNotch, objStart, objStartOrder, objSensors, objTjMax, objTemperature,
   objVoltage, objSensorMap, objThermal, objThermalStatus, objThermalAck, objWarningCount, objPeakTj,
   objNotify, objNotifyRoute, objEmcySuppressed, objNotifyRing, objNotifyLatest, objNotifyAck, objNotifyAcked,
   objNotifyLost, objNotifyEntries, objTransports, objTransportRecord, objUser, objUserObjects,
   objUserTimeout, objCanConfig, objCanNominal, objCanData, objCanStatus, objTimingReference,
   objTrefFrequency, objGroupTref, objTrefStatus]

/-- The objects of index page 0x21. -/
def page21 : List Desc :=
  [objCfg, objCfgStatus, objCfgAck, objCfgReason, objCfgFirstBad, objCfgFrames, objLoadedImageId,
   objLoadedImageVersion, objFittingTimeout, objLoadRequest, objAutoLoad, objStepsDone, objCfgStream,
   objStreamData, objStreamCommand, objPartial, objPartialStatus, objPartialAck, objPartialRelease,
   objPartialDiscard, objPartialMask, objPartialImageId, objPartialReason, objPartialFirstBad, objCfgScrub,
   objCfgScrubStatus, objCfgScrubAck, objCfgCorrected, objCfgRecovered, objCfgPassTime, objRecoverySource,
   objWardrobe, objWardrobeStatus, objWardrobeAck, objSlotCommand, objWardrobeReason, objWearPeak, objPinned,
   objReserveFree, objSlotData, objSlot, objSlotState, objSlotImageId, objSlotImageVersion, objSlotLength,
   objSlotReads, objFabricTensionOffset, objFirmware, objFwStatus, objFwAck, objFwCommand, objFwReason,
   objFwVersion, objFwSecurityMin, objFwData, objBasteAccess, objBasteStatus, objBasteRequest, objBasteReason,
   objBasteAck, objBasteData]

/-- The objects of index page 0x22. -/
def page22 : List Desc :=
  [objLifeCycle, objLcState, objLcRequest, objLcReason, objKeys, objKeyStatus, objKeyProgram, objKeyRevoke,
   objOwners, objOwnerStatus, objOwnerKeyProgram, objOwnerKeyRevoke, objIntegratorKeys, objSecurityVersionMin,
   objVersionRaise, objSession, objSessionStatus, objSessionRequest, objChallenge, objResponse, objSessionEnd,
   objSessionTimeout, objFabricRole, objAttest, objAttestStatus, objAttestRequest, objAttestReason,
   objAttestAck, objDeviceUid, objAttestReport, objIdentityCert, objTamper, objTamperStatus, objTamperAck,
   objTamperConfig, objTamperCount]

/-- The objects of index page 0x23. -/
def page23 : List Desc :=
  [objWear, objWearStatus, objWearAck, objWearModel, objWearMeasured, objWearLimit, objWearConsumed,
   objWearRemaining, objWearRate, objWearHeadroom, objMarginLimit, objWearCorner, objCornerVcore, objCornerTj,
   objWearGauges, objGauge, objLog, objLogLatest, objLogSelect, objLogPage, objLogBoots, objVmon, objVmonBand]

/-- The objects of index page 0x24. -/
def page24 : List Desc :=
  [objCascade, objCascadeStatus, objCascadeAck, objCascadeMembers, objCascadeHealthy, objCascadeRequest,
   objMasterEnable, objNotchLead, objMasterOffset, objCascadeMaster, objCascadeLinks, objEastLinkWestLink,
   objEastErrorsWestErrors, objEastPeerWestPeer, objEastAsymmetryWestAsymmetry, objCascadeSource,
   objCascadeNotchSource, objCascadeThread, objThreadStatus, objThreadMap, objThreadSent, objThreadReceived,
   objThreadLost, objWiden, objWidenStatus, objWidenSet, objWidenDelay, objCascadeRecover, objRecoverStatus,
   objRecoverRequest]

/-- The objects of index page 0x28. -/
def page28 : List Desc :=
  [objGpioBank, objBankStatus, objBankClock, objBankLevels, objBankOut, objCaptureConfig, objBankTicks,
   objBankLate, objGpioPin, objPinStatus, objPinFunction, objPinPull, objSafePins, objSafePinStatus,
   objSafeCharges, objSafeMismatch]

/-- The objects of index page 0x30. -/
def page30 : List Desc :=
  [objHem, objHemStatus, objHemAck, objHemFloor, objHemSlackAlarm, objHemSlackMin, objHemRate, objHemTokens,
   objHemLoss, objHemMarkers, objHemConfig, objHemCommand]

/-- The objects of index page 0x31. -/
def page31 : List Desc :=
  [objShuttle, objShuttleStatus, objShuttleAck, objShuttleCommand, objStartTime, objStartFill, objShuttlePc,
   objSliceIndex, objGroupNotchSeq, objFailLatency, objFailLatencyMin, objFailRoundTrip, objCounter, objFlags,
   objSticky, objStackDepth, objRunEndTime, objRunSlices, objRunEndPc, objRunReason, objProgramCorrected,
   objProgramUncorrectable, objStarvePolicy, objShuttleProgram, objProgram, objProgramPatch, objProgramCrc,
   objSample, objSampleStatus, objSampleAck, objSampleConfig, objSampleWritten, objSampleAcked, objSampleLost,
   objSampleData]

/-- The objects of index page 0x32. -/
def page32 : List Desc :=
  [objNeedle, objNeedleStatus, objNeedleMode, objTxDeskew, objRxDeskew, objRawConfig, objRawStatus,
   objRawErrors, objStrobes, objFails, objEdgeSlips, objReservedSymbols, objLoopDelay, objNoStrobe]

/-- The objects of index page 0x33. -/
def page33 : List Desc :=
  [objTiming, objTimingTable, objTableCrc, objShortestPeriod, objCal, objCalStatus, objCalRequest,
   objCalReason, objCalAck, objCalStale, objCalDone]

/-- The objects of index page 0x34. -/
def page34 : List Desc :=
  [objSpoolChannel, objSpoolStatus, objSpoolAck, objSpoolCommand, objSpoolDescBase, objSpoolRingEntries,
   objSpoolConfig, objSpoolPacing, objSpoolHead, objSpoolTail, objSpoolErrorAddress, objSpoolErrorInfo,
   objSpoolReason, objSpoolBytes, objSpoolCompleted, objSpoolGlobal, objSpoolSummary, objSpoolBytesToHost,
   objSpoolBytesFromHost, objSpoolPoisoned]

/-- The objects of index page 0x35. -/
def page35 : List Desc :=
  [objTallyGlobal, objTallySummary, objTallyCrossings, objTallyClearRange, objTallyDump, objDumpStatus,
   objDumpAck, objDumpConfig, objDumpPeriod, objDumpRequest, objDumpsLost, objDumpFill, objDumpLast]

/-- The objects of index page 0x36. -/
def page36 : List Desc :=
  [objSwatch, objSwatchStatus, objSwatchAck, objSwatchRequest, objSwatchConfig, objSwatchTrigger,
   objSwatchMissed, objSwatchLost, objSwatchAcked, objSwatchWindowSelect, objSwatchSlot, objSlotNumber,
   objSlotTime, objSlotTriggers, objSwatchWindow]

/-- The objects of index page 0x37. -/
def page37 : List Desc :=
  [objMemGlobal, objMemSummary, objBucketThreshold, objBucketLeakPeriod, objAutoRepair, objPatrolPass,
   objPatrolStatus, objScrub, objScrubStatus, objScrubRequest, objScrubReason, objScrubAck, objScrubSummary]

/-- The objects of index page 0x38. -/
def page38 : List Desc :=
  [objBist, objBistStatus, objBistAck, objBistConfig, objSweepPause, objBistRequest, objBistReason,
   objBistSummary, objBistSites, objMarginWarnings]

/-- The objects of index page 0x39. -/
def page39 : List Desc :=
  [objRepair, objRepairStatus, objRepairAck, objRepairRequest, objRepairReason, objRepairRestore,
   objRepairRecord, objStateLosses, objIsolatedMask, objFreeBands, objPatchRepair, objPatchStatus,
   objShiftMap, objBands, objPatchRepairs, objPatchTested, objFrench, objFrenchStatus, objFrenchAck,
   objFrenchBinding, objSkewBound, objRollbacks, objLastRollback, objAllowancePeak]

/-- The objects of index page 0x3A. -/
def page3A : List Desc :=
  [objSafety, objSafetyStatus, objSafetyAck, objProofRequest, objProofReason, objDangerousFaults,
   objSafetyFunction, objFunctionStatus, objFunctionConfig, objProofInterval, objLastProof, objPermitLosses]

/-- The objects of index page 0x3B. -/
def page3B : List Desc :=
  [objWatchGlobal, objWatchSummary, objWatchWindow, objIslandStallBound, objWatchBoundCount, objWatchSet,
   objWatchStatus, objWatchAck, objWatchBinding, objWatchConfig, objWatchFloor, objWatchStallBound,
   objWatchRate, objWatchCapability, objWatchTokens]

/-- The objects of index pages 0x40, 0x41, 0x42, 0x43. -/
def page40 : List Desc :=
  [objTallyCounter, objTallyStatus, objTallyAck, objTallyConfig, objTallyValue, objTallyThreshold,
   objTallyStep, objTallyWide, objTallyClear]

/-- The objects of index pages 0x44, 0x45, 0x46. -/
def page44 : List Desc :=
  [objBobbin, objBobbinStatus, objBobbinAck, objBobbinConfig, objBobbinLevel, objBobbinFill, objBobbinDropped,
   objBobbinGaps, objBobbinPackets, objBobbinPlace]

/-- The objects of index pages 0x48, 0x49, 0x4A, 0x4B, 0x4C, 0x4D. -/
def page48 : List Desc :=
  [objBlock, objBlockStatus, objBlockAck, objBlockConfig, objBlockPlace, objBlockCorrected,
   objBlockUncorrectable, objBlockBucket, objBlockSpares, objBlockRepair, objBlockFlipMask,
   objBlockFlipInject, objBlockLastError]

/-- The objects of the index page p, the upper byte of the index. -/
def pageObjects (p : Nat) : List Desc :=
  if p = 0x10 then page10 else
  if p = 0x14 then page14 else
  if p = 0x16 then page16 else
  if p = 0x18 then page18 else
  if p = 0x1A then page1A else
  if p = 0x1F then page1F else
  if p = 0x20 then page20 else
  if p = 0x21 then page21 else
  if p = 0x22 then page22 else
  if p = 0x23 then page23 else
  if p = 0x24 then page24 else
  if p = 0x28 then page28 else
  if p = 0x30 then page30 else
  if p = 0x31 then page31 else
  if p = 0x32 then page32 else
  if p = 0x33 then page33 else
  if p = 0x34 then page34 else
  if p = 0x35 then page35 else
  if p = 0x36 then page36 else
  if p = 0x37 then page37 else
  if p = 0x38 then page38 else
  if p = 0x39 then page39 else
  if p = 0x3A then page3A else
  if p = 0x3B then page3B else
  if 0x40 ≤ p ∧ p ≤ 0x43 then page40 else
  if 0x44 ≤ p ∧ p ≤ 0x46 then page44 else
  if 0x48 ≤ p ∧ p ≤ 0x4D then page48 else
  []

/-- A descriptor covers index.sub. -/
def Desc.covers (o : Desc) (idx sub : Nat) : Bool :=
  o.lo ≤ idx && idx ≤ o.hi && o.s0 ≤ sub && sub ≤ o.s1 && (sub - o.s0) % o.step == 0

/-- Subindices that exist only on some instances: 0x13 to 0x19 of a hem only on general hems (R153). -/
def subExists (idx sub : Nat) : Bool :=
  !(0x3000 ≤ idx && idx < 0x30C0 && 0x0B < sub)

/-- The descriptor of index.sub, if the object exists (order 1 of R397); user objects are not in the table. -/
def findDesc (idx sub : Nat) : Option Desc :=
  if subExists idx sub then (pageObjects (idx / 256)).find? (fun o => o.covers idx sub) else none

/-- Some subindex of the index exists (R410). -/
def indexExists (idx : Nat) : Bool :=
  (pageObjects (idx / 256)).any (fun o => o.lo ≤ idx && idx ≤ o.hi)

/-- A value lies in a set of admitted values. -/
def Vals.has (vs : Vals) (i : Int) : Bool :=
  match vs with
  | .any => true
  | .between lo hi => lo ≤ i && i ≤ hi
  | .orOne lo hi one => (lo ≤ i && i ≤ hi) || i == one
  | .orTwo lo hi one two => (lo ≤ i && i ≤ hi) || i == one || i == two
  | .oneOf l => l.any (fun n => (n : Int) == i)

/-- The width of a fixed-size object in bytes; 0 for strings, octets and DOMAIN values. -/
def Desc.width (o : Desc) : Nat :=
  match o.kind with
  | .fixed n => n
  | _ => 0

/-- The object's value is carried as bytes. -/
def Desc.isBytes (o : Desc) : Bool := o.width == 0

/-- The written fixed-size value: the low bytes that the object holds. -/
def Desc.valueOf (o : Desc) (w : Wr) : Word := lowBytes o.width w.value

/-- The written value as the number its type gives (R394). -/
def Desc.intOf (o : Desc) (w : Wr) : Int :=
  if o.signed then signedOf o.width (o.valueOf w) else ((o.valueOf w).toNat : Int)

/-- Order 2 of R397: the path carries the object's type (R414, R423). -/
def Desc.typeCarried (o : Desc) (w : Wr) : Bool :=
  !(o.isBytes && (w.path == .window || w.path == .fabric))

/-- Order 5 of R397: over the window of BAR0 a write starts its slot, does not leave it, covers at least the width and extends the
value (R414); over any other path the length is the type's. -/
def Desc.lengthOk (o : Desc) (w : Wr) : Bool :=
  match o.kind with
  | .fixed n =>
    if w.path == .window then
      w.off == 0 && n ≤ w.len && w.len ≤ 8 &&
        (lowBytes w.len w.value == lowBytes n w.value ||
          lowBytes w.len w.value == lowBytes w.len (ofInt 8 (signedOf n w.value)))
    else w.len == n
  | .str => w.bytes.length ≤ 256
  | .octets n => w.bytes.length == n
  | .domain => w.bytes.length ≤ 131072

/-- Order 6 of R397: no reserved bit, no reserved code (R10). -/
def Desc.codesOk (o : Desc) (w : Wr) : Bool :=
  o.isBytes || ((o.valueOf w).toNat &&& o.rsv == 0 && o.codes.has (o.intOf w))

/-- Order 7 of R397, the stated range: 0x0B06 where the object names no code of its own. -/
def Desc.rangeOk (o : Desc) (w : Wr) : Bool :=
  o.isBytes || o.range.has (o.intOf w)

/-- Orders 2 to 6 of R397 in order, for a gate beside the object's own and a role held; 0 when all pass. -/
def Desc.early (o : Desc) (gate role : Nat) (w : Wr) : Nat :=
  if !o.typeCarried w then 0x0B07
  else if o.acc == .const || o.acc == .ro then 0x0B03
  else if role < o.role || role < gate then 0x0B01
  else if !o.lengthOk w then 0x0B04
  else if !o.codesOk w then 0x0B05
  else 0

end Sys2Proof.Machine
end

