-- ==== Sys2Proof/Machine/State.lean ====
section
/-! DEFINITION. The state of the block as plain data, the names of its stops, and the state right after reset.
The object registers live in one sparse register file (field regs of Dev); everything else the spec gives the machine
has a field of its own. A table keyed by numbers is a list of pairs in one canonical form: keys strictly rising, no
entry equal to what an unlisted key reads as. -/

namespace Sys2Proof.Machine

/-- Faults. The block has no processor exception and the spec names no event that stops it, so no step faults. -/
inductive Fault where
  /-- Raised by nothing: kept so that the type is not empty. Safe. -/
  | none
  deriving DecidableEq, Repr

/-- Refusals: commands without a meaning. -/
inductive Refusal where
  /-- Raised by an arm of exec whose command has no meaning yet. Safe: the model stops where the hardware goes on. -/
  | notModelled (mnemonic : String)
  deriving DecidableEq, Repr

/-- The eight device states of R29. -/
inductive DevState where
  | off | reset | boot | unconfigured | fitting | run | folded | safe
  deriving DecidableEq, Repr

/-- The scope whose notch a staged write awaits (R22). -/
inductive Scope where
  | group (g : Nat)
  | device
  | cascade
  deriving DecidableEq, Repr

/-- A value on its way into an object: a fixed-size word or the bytes of a string or DOMAIN object (R394). -/
inductive Val where
  | word (w : Word)
  | bytes (l : List Byte)
  deriving DecidableEq, Repr

/-- One staged write (R22 to R27): object, value, scope, and the notch number at which it is due (R76). -/
structure Staged where
  index : Nat
  sub : Nat
  val : Val
  scope : Scope
  due : Nat
  deriving DecidableEq, Repr

/-- One entry of the event log (R521); its CRC is computed when a page is read. -/
structure LogEntry where
  number : Nat
  time : Nat
  reason : Nat
  inst : Nat
  detail : Nat
  state : Nat
  lifeCycle : Nat
  boots : Nat
  deriving DecidableEq, Repr

/-- One entry of the notification ring (R403) with the vector it was routed to. -/
structure RingEntry where
  number : Nat
  time : Nat
  inst : Nat
  reason : Nat
  vector : Nat
  deriving DecidableEq, Repr

/-- What the block sends out of itself, newest first in Dev.out (the model's own record of its outputs). -/
inductive Output where
  /-- An MSI-X message (R403, R416, R439). -/
  | msix (vector : Nat)
  /-- A CAN FD frame: CAN-ID and data bytes (R404, R408). -/
  | can (id : Nat) (data : List Byte)
  /-- A cell sent into the cascade ring, eastward or westward. -/
  | cell (east : Bool) (c : Cell)
  /-- A write into host memory over PCI Express (R433, R439). -/
  | hostWrite (addr : Nat) (data : List Byte)
  /-- A read of host memory asked for over PCI Express. -/
  | hostRead (addr len : Nat)
  /-- Bytes forwarded on the configuration daisy chain (R328). -/
  | cfgDout (data : List Byte)
  /-- The answer of a read or write over a transport: status 0 or a reason code, then the value. -/
  | answer (tr : Transport) (reason : Nat) (data : List Byte)
  /-- An abort of a CANopen transfer (R410). -/
  | abort (code : Nat)
  /-- A token offered to the fabric outside the hems: bundle, seam port, bobbin notice or port response. -/
  | token (source : Nat) (index : Nat) (value : Nat)
  /-- A transition on a channel's TX lane: channel, pin time in steps of 250 fs, level (R227). -/
  | lane (channel : Nat) (time : Int) (level : Nat)
  /-- Line bits sent on a raw lane, first bit first (R252). -/
  | rawBits (channel : Nat) (bits : List Bool)
  /-- A PCI Express read that completes with all ones (R414, R424). -/
  | allOnes
  deriving DecidableEq, Repr

/-! ### Hems (chapter "Bobbins and hems") -/

/-- One entry stored in a hem half (R130): data, tag, and which of its stored words the reader finds uncorrectable
(bits 0 to 3 the data words, bit 4 the tag word, R150). -/
structure HEntry where
  data : BitVec 256
  tag : BitVec 8
  bad : BitVec 5 := 0
  deriving DecidableEq, Repr

/-- A pending gap of a compare-direction half (R141, R142). -/
structure Gap where
  count : Nat := 0
  slices : Nat := 0
  firstTime : Nat := 0
  notchLost : Bool := false
  statusLost : Bool := false
  deriving DecidableEq, Repr

/-- The slice at hand in a partly used drive entry (R138): its symbols, and whether R150 replaced it. -/
structure DriveSlice where
  word : BitVec 64
  invalid : Bool
  deriving DecidableEq, Repr

/-- One of the 240 hem halves (R130): entries oldest first, the write and the read pointer and each side's latest sample of
the other (R132, modulo 512), the pending gap, the unused slices of the drive entry in use, the open compare entry (its
slices with their INVALID marks, the device time of its first period), the live counts behind HEM_TOKENS, HEM_LOSS and
HEM_MARKERS (R153), and the accumulators of the watch window (minimum slack, R101, and entries crossed), and the slices that a starved hem of a
widened set still has to discard (R309). -/
structure HalfSt where
  q : List HEntry := []
  wptr : Nat := 0
  rptr : Nat := 0
  seenW : Nat := 0
  seenR : Nat := 0
  gap : Option Gap := none
  cur : List DriveSlice := []
  openSlices : List (BitVec 64 × Bool) := []
  openTime : Nat := 0
  tokens : Nat := 0
  loss : Nat := 0
  markers : Nat := 0
  minSlack : Nat := 256
  crossed : Nat := 0
  discard : Nat := 0
  deriving DecidableEq, Repr

/-- Flags of one hem gathered over the current watch window (R153), the once-per-window notices already sent, and whether its island
was stopped when the window began. -/
structure HemWin where
  stopped : Bool := false
  starved : Bool := false
  dropped : Bool := false
  hang : Bool := false
  ecc : Bool := false
  sent331 : Bool := false
  sent360 : Bool := false
  startOff : Bool := true
  deriving DecidableEq, Repr

/-! ### Bobbins -/

/-- A read word of a bobbin with its tag (R118). -/
structure BWord where
  data : BitVec 256
  tag : BitVec 8
  deriving DecidableEq, Repr

/-- A drop run (R121): writes dropped, packets with a dropped write, whether the item before the gap was truncated and the
read words of that packet, and whether the run is closed. -/
structure DropRun where
  count : Nat
  packets : Nat
  truncated : Bool
  words : Nat
  closed : Bool
  deriving DecidableEq, Repr

/-- One bobbin or combination (R114 to R128): its read words oldest first, the read word being filled (writes so far and
data), the length in read words of the packet being written, whether a write of that packet has been stored or dropped,
the drop run, the write waiting under WAIT, the level crossing's arming (R124), and the window notices sent. -/
structure BobbinSt where
  words : List BWord := []
  partCount : Nat := 0
  partData : BitVec 256 := 0
  pktWords : Nat := 0
  pktStored : Bool := false
  pktDropping : Bool := false
  run : Option DropRun := none
  waiting : Option (BitVec 64 × BitVec 4) := none
  levelArmed : Bool := true
  sent310 : Bool := false
  deriving DecidableEq, Repr

/-! ### Panels and seams -/

/-- One panel site as placed by Swivi: registers A and B (R44; a register in BYPASS mode stores nothing and stays 0), which bundles
hold an unacknowledged output token and which of its receivers have acknowledged it (bit 24 b + r: bundle r of the panel, or
outbound port r − 16), which bundles' acknowledged token has its handshake return to zero, and which have captured a token
whose REQ waits for that (R56), which MERGE bundles hold a grant and for which thread, which have had a contested grant and for which
thread the last one was (R50), and the tension offset that each bundle has adopted, four bits a bundle (R64). -/
structure PanelSt where
  regA : BitVec 128 := 0
  regB : BitVec 128 := 0
  outFull : BitVec 16 := 0
  taken : BitVec 384 := 0
  returning : BitVec 16 := 0
  reqWait : BitVec 16 := 0
  granted : BitVec 16 := 0
  grantSide : BitVec 16 := 0
  contested : BitVec 16 := 0
  lastContested : BitVec 16 := 0
  tension : BitVec 64 := 0
  deriving DecidableEq, Repr

/-- One seam port or digit relay (R78 to R85). An inbound port or a relay input: its references, four bits a digit, its ACK
levels, the word or digit stored, and a digit flagged invalid. An outbound port or a relay output: the levels it drives,
the word launched and not yet acknowledged, and the branches that have acknowledged it (R84). -/
structure SeamSt where
  wires : BitVec 24 := 0
  acks : BitVec 6 := 0
  word : Option (BitVec 12) := none
  digits : Nat := 0
  invalid : Bool := false
  acked : List Nat := []
  deriving DecidableEq, Repr

/-- A basting request in progress (R71 to R76): its KIND, TARGET and the result latched, if it has been; of a panel capture that
waits for a repair also the held requests. -/
structure BasteReq where
  kind : Nat
  target : Nat
  result : Option (List Byte)
  waiting : BitVec 16 := 0
  deriving DecidableEq, Repr

/-- Window accumulators of one watch point (R104, R105, R108): tokens on its thread, and whether it stalled. -/
structure WatchSt where
  tokens : Nat := 0
  stalled : Bool := false
  deriving DecidableEq, Repr

/-! ### Block memories -/

/-- One block memory (R155 to R191): its stored words that are not all zero, as codewords of R164, and the bits in which a
stored word differs from its codeword (upsets and flip masks), both by word address; the injected word; the words whose
correction awaits its writeback; the last 8 corrected words written back (address and bits, newest first, R182); the hard
faults recorded (row, column, newest first, R183), and those of them that await their repair (oldest first, HARD_PENDING); the repair in
progress (row or column, number, hard fault or request); no further automatic repair (R186); 0x0702 sent in this window. -/
structure BlockSt where
  words : List (Nat × BitVec 80) := []
  errs : List (Nat × BitVec 80) := []
  injected : Option Nat := none
  writeback : List Nat := []
  recent : List (Nat × List Nat) := []
  hard : List (Nat × Nat) := []
  hardDue : List (Nat × Nat) := []
  repair : Option (Bool × Nat) := none
  noAuto : Bool := false
  sent702 : Bool := false
  deriving DecidableEq, Repr

/-- A requested scrub in progress (R176): its range, whether it corrects, when it was accepted. -/
structure ScrubReq where
  first : Nat
  last : Nat
  correct : Bool
  accepted : Nat
  commitWait : Bool := false
  deriving DecidableEq, Repr

/-! ### Shuttles -/

/-- The four shuttle states of R195. -/
inductive ShState where
  | halted | armed | running | holding
  deriving DecidableEq, Repr

/-- How a run has been asked to end (R199). -/
inductive StopReq where
  | none | stop | atNotch
  deriving DecidableEq, Repr

/-- One shuttle (R193 to R221). The instruction whose slice is running or pending: its address, word and repetition; the address
of the last instruction that issued a slice of its own; call stack, flags, sticky vector, the slice of the last CLEAR and the
number of slices whose vectors are visible (both as index + 1); the start instant in ns and the fill it waits for; the pin time of
the next boundary in steps of 250 fs; slices issued; the first slice of the execution at hand and the substituted slices (R213);
fail vectors by slice; the symbols KEEP repeats; the stop request and the device time from which it counts (R309); the minimum
latency passed 255 at this notch (R207); the device time of a clock loss whose FAULT entry is due (R201), and whether the group
PLL has lost lock since it last locked (R249); the slice at hand is a substituted one; start, end and address of the last slices
issued, newest first; the sample slots; the scrub port's address and the uncorrectable words already reported (R194); 0x0441 sent
in this window. -/
structure ShuttleSt where
  state : ShState := .halted
  pc : Nat := 0
  word : BitVec 64 := 0
  reps : Nat := 0
  lastPc : Nat := 0
  stack : List Nat := []
  flags : BitVec 16 := 0
  sticky : BitVec 8 := 0
  clearMark : Nat := 0
  seen : Nat := 0
  startAt : Nat := 0
  startFill : Nat := 0
  pin : Nat := 0
  slices : Nat := 0
  execFrom : Nat := 0
  subst : List Nat := []
  vecs : List (Nat × BitVec 8) := []
  keep : Option (List (BitVec 64)) := none
  stopReq : StopReq := .none
  stopAt : Nat := 0
  floorFault : Bool := false
  lost : Option Nat := none
  unlocked : Bool := false
  curSubst : Bool := false
  hist : List (Nat × Nat × Nat) := []
  samples : List (Nat × BitVec 512) := []
  sent441 : Bool := false
  scrubPtr : Nat := 0
  badWords : List Nat := []
  deriving DecidableEq, Repr

/-! ### Needles -/

/-- The drive states of R227. -/
inductive Drive where
  | low | off | term | high
  deriving DecidableEq, Repr

/-- One channel's part of a timing set (R234) as a slice uses it: the period and the enabled edges in steps of 250 fs, the
format (0 NRZ, 1 RZ, 2 RO, 3 SBC), the deskew in effect. -/
structure ChanTiming where
  period : Nat := 4000
  eOn : Option Nat := none
  eData : Option Nat := none
  eRet : Option Nat := none
  eOff : Option Nat := none
  strobe : Option Nat := none
  strobeEnd : Option Nat := none
  format : Nat := 0
  tx : Int := 0
  rx : Int := 0
  deriving DecidableEq, Repr

/-- What the shuttle sends down a needle's stream: a slice (its index, start in 250 fs steps, timing, symbols, INVALID mark,
and whether its compare hem records it), a notch marker for its compare hem, or the close of an entry (R140). -/
inductive NItem where
  | slice (index start : Nat) (t : ChanTiming) (symbols : BitVec 64) (invalid record : Bool)
  | notch (body : BitVec 256)
  | close
  deriving DecidableEq, Repr

/-- The receiver and transmitter state of a raw lane (R253 to R255): running disparity (true is positive), scrambler and
descrambler, and the ERR marks of the last characters, or of the last headers, newest first. -/
structure RawSt where
  txDisp : Bool := false
  rxDisp : Bool := false
  scrambler : BitVec 58 := 0
  descrambler : BitVec 58 := 0
  recent : List Bool := []
  deriving DecidableEq, Repr

/-- One needle (R226 to R256): drive state and v, the pin time of the last transition and of the last strobe in 250 fs
steps, the stream of issued slices, the period at hand, the results so far of the slice at hand and whether one
failed, whether its pin is in the hold period of a mode switch and the device time of that switch, whether the lane has still to go to
level 1 when the hold period ends (R272), the raw lane, and the window notices sent. -/
structure NeedleSt where
  drive : Drive := .off
  v : Bool := false
  lastTx : Option Int := none
  lastStrobe : Option Int := none
  stream : List NItem := []
  period : Nat := 0
  results : BitVec 64 := 0
  failed : Bool := false
  holding : Bool := false
  heldFrom : Nat := 0
  toOff : Bool := false
  raw : RawSt := {}
  sent501 : Bool := false
  sent502 : Bool := false
  sent531 : Bool := false
  deriving DecidableEq, Repr

/-- A calibration in progress (R244 to R247): kind, groups, and the device time of its start. -/
structure CalReq where
  kind : Nat
  groups : Nat
  since : Nat := 0
  deriving DecidableEq, Repr

/-- Calibration results staged for one group (R245): kind, temperature at the measurement, loop delays, round trip. -/
structure CalStaged where
  group : Nat
  kind : Nat
  temp : Int
  loop : List (Nat × Nat)
  roundTrip : Option Nat
  due : Nat
  deriving DecidableEq, Repr

/-- Calibration state (R244 to R249): the request in progress, the results staged, and the temperature (in 0.125 °C) of each group's
calibration in effect. -/
structure CalSt where
  busy : Option CalReq := none
  staged : List CalStaged := []
  temp : List (Nat × Int) := []
  deriving DecidableEq, Repr

/-! ### Selvedge -/

/-- One GPIO bank (R259 to R272): EXT_CLOCK_MISSING, FALLBACK, whether a clock switch is under way (R260); the levels captured at
the last two ticks with their device times, and the presented ones (R263); output values and enables from entries
(R271), the BANK_OUT write that waits for the next tick; pins that switch, with the instant from which their tick k
falls and the function that still acts (R270); pins in their hold tick, with level, drive and BANK_TICKS; the level and drive of each pin
before the tick at hand, and what that tick has recorded of values, enables and BANK_OUT (R271); device times from
which a NOTCH_OUT pulse falls due, and the pulse (R268); the head entry has been read and waits for its time, and an entry has been
applied at the tick at hand (R265); the capture mode takes effect at the next tick, and the ticks since the last periodic entry (R264). -/
structure BankSt where
  extMissing : Bool := false
  fallback : Bool := true
  switching : Bool := false
  cap1 : BitVec 16 := 0
  cap2 : BitVec 16 := 0
  time1 : Nat := 0
  time2 : Nat := 0
  shown : BitVec 16 := 0
  outVal : BitVec 16 := 0
  outEn : BitVec 16 := 0
  objWait : Option (BitVec 16 × BitVec 16) := none
  changing : List (Nat × Nat × Nat) := []
  holding : List (Nat × Bool × Bool × Nat) := []
  wasLevel : BitVec 16 := 0
  wasDriven : BitVec 16 := 0
  newVal : BitVec 16 := 0
  newEn : BitVec 16 := 0
  newObj : BitVec 16 := 0
  notchDue : List Nat := []
  notchHigh : Bool := false
  headRead : Bool := false
  applied : Bool := false
  baseline : Bool := true
  interval : Nat := 0
  deriving DecidableEq, Repr

/-- One SAFE ball (R273 to R278): the last accepted digit, whether a charge arrived within the last 2.5 µs, driven, the
level read at it, consecutive mismatching readings of each kind. -/
structure SafeBall where
  lastDigit : Option (BitVec 2) := none
  charged : Bool := false
  lastCharge : Nat := 0
  driven : Bool := false
  level : Bool := false
  badActive : Nat := 0
  badSafe : Nat := 0
  deriving DecidableEq, Repr

/-- The boundary-scan instructions and vendor instructions the TAP can hold (R282, R419). -/
inductive TapInstr where
  | bypass | idcode | samplePreload | extest | clamp | highz | extestPulse | extestTrain
  | object | objectData | state | fwRescue
  deriving DecidableEq, Repr

/-- The TAP (R282, R283, R419, R420): the instruction held, whether a drive-capable one is in effect on the pins, the
boundary-scan cells (what they drive, what the drive and the input cells captured last), the result of the last object request
(SEQ, ERROR, REASON, VALUE), the transfer buffer and its pointer, and the data register captured last. -/
structure TapSt where
  instr : TapInstr := .idcode
  driving : Bool := false
  cells : ScanDrive := {}
  sampleOut : ScanDrive := {}
  sample : ScanIn := {}
  seq : Nat := 0
  busy : Bool := false
  error : Bool := false
  reason : Nat := 0
  value : BitVec 64 := 0
  buffer : List Byte := []
  pointer : Nat := 0
  captured : BitVec 128 := 0
  deriving DecidableEq, Repr

/-! ### Cascade -/

/-- One link of the cascade ring (R290 to R301): up, wrapped at this end, an unwrap scheduled for the next cascade notch, a neighbour
that leaves at it (R310), what was last measured of it, of its last 1,024 cells those that failed their CRC, newest first (R291), the
delays of the last 4,096 exchanges in units of 125 fs, newest first, and the exchanges still to confirm a new master with (R295). -/
structure LinkSt where
  up : Bool := false
  wrapped : Bool := false
  unwrapDue : Bool := false
  leaveDue : Bool := false
  view : LinkView := {}
  failed : List Bool := []
  delays : List Int := []
  confirm : Nat := 0
  deriving DecidableEq, Repr

/-- A cascade notch awaiting its device time (R303): its time and number, whether it came late, whether the device and
the cascade scope have taken it, and the groups that have. -/
structure CasEvent where
  time : Nat
  number : Nat
  late : Bool
  applied : Bool := false
  groupsDone : BitVec 12 := 0
  deriving DecidableEq, Repr

/-- One cascade thread (R305 to R308): the credits held at the source, its destination is not in the ring, its source has stopped for a
reseal, its 0x0A32 was sent in this window. -/
structure ThreadSt where
  credits : Nat := 0
  unreachable : Bool := false
  sealing : Bool := false
  sent32 : Bool := false
  deriving DecidableEq, Repr

/-- The cascade (R289 to R313): the links, the heartbeats sent, the members that report LOCKED and those that are UNCONFIGURED, a
member whose TREF_0 is not the ring's (R311), a member that leaves at the next cascade notch (R310), a master's role being handed over
(R296), a cascade notch that the master owes (R302), the corrections of device time and PLL phase below a whole ns in fs and the device
time of the last (R299), the cascade notches awaited, the numbers of the last notch and swatch, the threads, of each group the largest
round trip of the other members of its widened set, whether those are all present and HALTED with the leader's
program, the flag tokens of a widened set awaiting their time (group, time, mask, value), the recovery streams under way
(target, slot), and whether the first has broken (R312). -/
structure CascadeSt where
  east : LinkSt := {}
  west : LinkSt := {}
  heartbeatSeq : Nat := 0
  locked : BitVec 16 := 0
  unconfigured : BitVec 16 := 0
  foreign : Bool := false
  leaving : Bool := false
  handover : Bool := false
  owing : Bool := false
  phase : Int := 0
  corrected : Nat := 0
  notches : List CasEvent := []
  notchNumber : Nat := 0
  swatchNumber : Nat := 0
  threads : List (Nat × ThreadSt) := []
  widenTrip : List (Nat × Nat) := []
  widenReady : BitVec 12 := 0
  widenFlags : List (Nat × Nat × Nat × Nat) := []
  recover : List (Nat × Nat) := []
  broken : Bool := false
  deriving DecidableEq, Repr

/-! ### Configuration images -/

/-- The fields of an image HEADER record (R317, R363). -/
structure Header where
  kind : Nat := 0
  targetId : Nat := 0xFF
  imageId : Nat := 0
  imageVersion : Nat := 0
  useOrder : Bool := false
  startupOrder : Nat := 0
  holdCommit : Bool := false
  patchMask : Nat := 0
  baseImageId : Nat := 0
  panelFrames : Nat := 0
  hardFrames : Nat := 0
  streamLength : Nat := 0
  signer : Nat := 0xFF
  keySlot : Nat := 0xFF
  bindUid : Nat := 0
  securityVersion : Nat := 0
  deriving DecidableEq, Repr

/-- Where an image stream comes from (R327 to R331, R312). -/
inductive LoadSource where
  | port | pcie | slot (s : Nat) | recovery
  deriving DecidableEq, Repr

/-- A load in progress or held (R325, R332, R336, R361): source, header, stream bytes taken; frames accepted and their
addresses; the group at hand, its frames, whether its KEY_ROLL has come, whether a short group has closed, whether the
SIGNATURE has come; the bytes of the group that the chain covers, and its cipher text, initialisation vector and epoch key; the
content key; the hash chain; setup records; timing frames by 34 group + MINOR; why the load is held; whether END has come. -/
structure LoadSt where
  source : LoadSource
  header : Header
  taken : Nat := 0
  frames : Nat := 0
  seen : List Nat := []
  group : Nat := 0
  inGroup : Nat := 0
  rolled : Bool := false
  short : Bool := false
  signed : Bool := false
  sent : List Byte := []
  cipher : List Byte := []
  iv : List Byte := []
  epochKey : List Byte := []
  cek : List Byte := []
  chain : List Byte := []
  setup : List (Nat × Nat × Word) := []
  timing : List (Nat × List Byte) := []
  held : Option Nat := none
  ended : Bool := false
  deriving DecidableEq, Repr

/-- An image that runs or has been committed (R354, R359, R381): header, C(n), and the slot it came from. -/
structure RunImage where
  header : Header
  digest : List Byte
  slot : Option Nat
  deriving DecidableEq, Repr

/-- A staged partial image (R338 to R342): its header, source, C(n) and setup records, whether staging is complete, and
whether its commit has latched. -/
structure StagedImage where
  header : Header
  source : LoadSource
  digest : List Byte := []
  setup : List (Nat × Nat × Word) := []
  valid : Bool := false
  committing : Bool := false
  deriving DecidableEq, Repr

/-- One configuration frame held in a plane: 2,048 bits of data, the 12-bit CHECK and the CRC (R319). -/
structure Frame where
  data : BitVec 2048
  check : BitVec 12
  crc : BitVec 32
  deriving DecidableEq, Repr

/-- The configuration memory and the fitting (R315 to R346): the load under way or held; the frames of the active and the
shadow plane and the block-memory frames staged, by address; the staged image; the start-up order that governs; stream bytes
not yet taken and how many more to skip; the slot being read and the position reached; whether the port forwards the image at
hand; CFG_DONE; the scrubbers' positions, the start of their pass and the patches that have finished it; 0x0160 sent in this
window; the images running; the digest of the partials committed; the patches that have a recovery source, and those whose
recovery copy is being written; the device times of the last full load and of the last commit of each patch (R486). -/
structure ConfigSt where
  load : Option LoadSt := none
  active : List (Nat × Frame) := []
  shadow : List (Nat × Frame) := []
  staging : List (Nat × Frame) := []
  staged : Option StagedImage := none
  orderInEffect : Nat := 0xE4
  streamBytes : List Byte := []
  skip : Nat := 0
  slotLoad : Option (Nat × Nat) := none
  forwarding : Bool := false
  cfgDone : Bool := false
  scrubPos : List (Nat × Nat) := []
  passStart : Nat := 0
  passDone : BitVec 54 := 0
  sent160 : Bool := false
  running : Option RunImage := none
  partials : List RunImage := []
  partialDigest : List Byte := []
  recoveryFor : BitVec 54 := 0
  copying : BitVec 54 := 0
  loadedAt : Nat := 0
  patchLoaded : List (Nat × Nat) := []
  deriving DecidableEq, Repr

/-! ### Wardrobe, keys, sessions -/

/-- The directory entry of an image slot (R352, R389): its state, the header of its image, the bytes held, the loads from it, and
whether the header of the image being written has passed its checks. -/
structure Slot where
  state : Nat := 0
  header : Header := {}
  data : List Byte := []
  reads : Nat := 0
  checked : Bool := false
  deriving DecidableEq, Repr

/-- A firmware slot (R384 to R387): 0 empty, 1 valid, 2 invalid, 3 writing. -/
structure FwSlot where
  state : Nat := 0
  version : Nat := 0
  security : Nat := 0
  data : List Byte := []
  deriving DecidableEq, Repr

/-- The recovery copy of one patch (R355): AES-256-GCM cipher text under the device unique key, with its initial vector and tag. -/
structure RecoveryPatch where
  iv : List Byte
  cipher : List Byte
  tag : List Byte
  deriving DecidableEq, Repr

/-- What the wardrobe and the battery store keep across RESET and power (R348, R351, R382, R383): the image slots; the firmware
slots, the active one and a trial; AUTO_LOAD; the event log, newest first; access counts and the exchange map of the units (R350);
the recovery copy, by patch; the golden BIST signatures, by site, slice and tension (R348, R495); repair steering and shift maps;
keys; the tamper monitor; W_model in 1/360,000 of 0.001 wear-hours, the w of each second of the last 24 hours, newest first, in
units of 0.00001, and by wear limit the notices sent (R522, R526). -/
structure Nv where
  slots : List (Nat × Slot) := []
  fwA : FwSlot := { state := 1, version := 0, security := 0, data := [] }
  fwB : FwSlot := {}
  activeB : Bool := false
  trial : Bool := false
  trialStarted : Bool := false
  autoLoad : Nat := 0xFF
  log : List LogEntry := []
  logCount : Nat := 0
  boots : Nat := 0
  unitCount : List (Nat × Nat) := []
  unitMap : List (Nat × Nat) := []
  reserve : List Nat := (List.range 256).map (fun k => 7936 + k)
  exchanged : Nat := 0
  wearPeakSeen : Nat := 0
  recovery : List (Nat × RecoveryPatch) := []
  golden : List (Nat × BitVec 64) := []
  softMap : List (Nat × Bool × Nat) := []
  shiftMaps : List (Nat × Word) := []
  integratorKeys : List Byte := []
  batteryKeys : List (Nat × List Byte) := []
  vbatLost : Bool := false
  tamperCount : Nat := 0
  tamperMask : Nat := 0
  tampered : Bool := false
  tamperUnacked : Bool := false
  tamperLate : List Nat := []
  vbatLate : Bool := false
  tamperConfig : Nat := 0x80
  tamperSeq : Nat := 0
  wearModel : Nat := 0
  wearRates : List Nat := []
  wearSent : List (Nat × Nat) := []
  deriving DecidableEq, Repr

/-- One transport session (R370 to R373): the role a session holds and the key that raised it, the challenge pending, the role asked for, and the
device time of the last failed response. -/
structure Session where
  role : Option Nat := none
  key : Nat := 0
  pending : Bool := false
  asked : Nat := 0
  challenge : List Byte := []
  failedAt : Option Nat := none
  deriving DecidableEq, Repr

/-- Security state that a reset rebuilds: sessions, the report fields latched by ATTEST_REQUEST, the slots being written, by area
the reason code of its last operation (R412). -/
structure SecSt where
  sessions : List (Nat × Session) := []
  attest : Option (List Byte) := none
  openSlot : Option Nat := none
  slotBusy : Option (Nat × Nat) := none
  fwOpen : Option Bool := none
  fwBusy : Bool := false
  /-- A line of the slot that is being verified cannot be corrected (R349). -/
  fwUnread : Bool := false
  runningB : Bool := false
  areas : List (Nat × Nat) := []
  deriving DecidableEq, Repr

/-! ### Transports -/

/-- A segmented USDO transfer in progress (R410): a write gathers its bytes up to their announced number, a read has the bytes
that remain to be sent. -/
structure UsdoSt where
  index : Nat
  sub : Nat
  write : Bool
  data : List Byte
  total : Nat
  deriving DecidableEq, Repr

/-- An access to a user object that waits for the fabric's answer (R424), with the length it names. -/
structure UserWait where
  id : Nat
  tr : Transport
  index : Nat
  sub : Nat
  write : Bool
  len : Nat
  deriving DecidableEq, Repr

/-- The run-time state of one TPDO (R411): SYNCs counted, the value last sent or first seen, and the device time of that. -/
structure PdoSt where
  syncs : Nat := 0
  last : Option (List Byte) := none
  lastTime : Nat := 0
  deriving DecidableEq, Repr

/-- The transports (R402 to R424): the notification ring and pending vectors; the last EMCY; NMT state, bus state, error counts and bit
rates in effect; the USDO transfer in progress and the area whose download awaits its final response; TPDOs by number; the
mailbox; user-object accesses waiting and the last ID; the TAP; group PLLs locked; sensor and monitor readings. -/
structure TransportSt where
  ring : List RingEntry := []
  pendingVec : BitVec 64 := 0
  emcyLast : Option Nat := none
  nmt : Nat := 0x7F
  bus : Nat := 0
  tec : Nat := 0
  recCount : Nat := 0
  nominal : Nat := 500
  dataRate : Nat := 2000
  usdo : Option UsdoSt := none
  download : Option Nat := none
  tpdo : List (Nat × PdoSt) := []
  mbSeq : Nat := 0
  mbBusy : Bool := false
  mbOverrun : Bool := false
  mbIrq : Bool := false
  mbReason : Nat := 0
  mbLength : Nat := 0
  mbBuffer : List Byte := []
  userWaits : List UserWait := []
  nextId : Nat := 0
  tap : TapSt := {}
  plls : BitVec 12 := 0
  temps : List (Nat × Int) := []
  volts : List (Nat × Nat) := []
  deriving DecidableEq, Repr

/-! ### Spool -/

/-- The descriptor that a spool channel works on (R436). -/
structure Descr where
  raw : BitVec 256 := 0
  deriving DecidableEq, Repr

/-- The three states of a spool channel (R438). -/
inductive SpState where
  | stopped | running | halted
  deriving DecidableEq, Repr

/-- One spool channel (R431 to R449): its state; the descriptor in progress, the one fetched ahead; beats issued and
beats done, bytes moved, descriptors written back since START; to host, the beats granted but not done (host bytes); the
end met at the endpoint (EOP, a gap marker's COUNT and TRUNCATED); the byte offset of the first poisoned word; open under
pacing (R441); the ABORT_RESULT an accepted abort awaits; a fetch ahead that failed (cause); 0x0621 sent in this window. -/
structure SpoolSt where
  state : SpState := .stopped
  cur : Option Descr := none
  fetched : Option Descr := none
  fetchFail : Option Nat := none
  issued : Nat := 0
  done : Nat := 0
  moved : Nat := 0
  written : Nat := 0
  buf : List (List Byte) := []
  eop : Bool := false
  ended : Bool := false
  gap : Option (Nat × Bool) := none
  poisonAt : Option Nat := none
  paceOpen : Bool := false
  abort : Option Nat := none
  sent621 : Bool := false
  deriving DecidableEq, Repr

/-! ### Tally and swatch -/

/-- Tally and dump state beside the objects (R450 to R465): the level last seen of each level source, the records held in
the dump buffer (what is left of each), dumps latched since power-on, the device time of the last, 0x0B53 sent. -/
structure TallySt where
  levels : List (Nat × Bool) := []
  buffer : List (List Byte) := []
  dumps : Nat := 0
  lastDump : Option Nat := none
  sent53 : Bool := false
  deriving DecidableEq, Repr

/-- A swatch held in a slot or under way (R466 to R475): its pieces by offset; between them the slot reads 0. -/
structure SwatchSlot where
  number : Nat := 0
  time : Nat := 0
  triggers : Nat := 0
  data : List (Nat × List Byte) := []
  deriving DecidableEq, Repr

/-- A swatch detected and not yet latched (R466 to R468): its triggers with their detail, t_d, T, CASCADE_SWATCH, LATE. -/
structure SwatchDet where
  triggers : Nat
  details : List (Nat × Nat)
  detect : Nat
  latch : Nat
  cascade : Nat
  late : Bool
  deriving DecidableEq, Repr

/-- Swatch state beside the objects: the swatch detected, the one latched and being written, the trigger bits routed to the master
with the detail of each, the slots, the swatches completed, the SYNCs counted, 0x0B61 sent in this window. -/
structure SwatchSt where
  det : Option SwatchDet := none
  busy : Option SwatchSlot := none
  routed : Nat := 0
  routedDetails : List (Nat × Nat) := []
  slots : List (Nat × SwatchSlot) := []
  number : Nat := 0
  syncs : Nat := 0
  sent61 : Bool := false
  deriving DecidableEq, Repr

/-! ### Repair, French seams, self-test -/

/-- What a fault report names beside its site: of an invalid seam digit the port or relay and the digit (R89), of a stall the watch
point, its thread and the phase (0 REQ and ACK rising, 1 falling, R108). -/
inductive FaultReport where
  | site
  | seam (unit digit : Nat)
  | stall (watch thread phase : Nat)
  deriving DecidableEq, Repr

/-- A fault reported, or a repair or planned move in progress (R484, R485, R491): patch, physical site named by the fault or
moved off or returned, SOURCE, kind (1 unplanned, 2 RETIRE, 3 RETURN), the device time of the report or request, and what else the report
names. -/
structure RepairSt where
  patch : Nat
  row : Nat
  column : Nat
  source : Nat
  kind : Nat
  started : Nat
  report : FaultReport := .site
  deriving DecidableEq, Repr

/-- A site under self-test (R495): BIST slices done, a BIST_TENSION signature that failed, the first slice whose tension-4
signature failed, and what the test is for: 0 the sweep, 1 the pending fault of R488, 2 RETURN (R491). -/
structure TestSt where
  slice : Nat := 0
  margin : Bool := false
  fail : Option Nat := none
  purpose : Nat := 0
  deriving DecidableEq, Repr

/-- One half of a French seam (R492): the shadow state (registers and controllers of its panel), the state at the emission of the output
token that is not acknowledged yet, the seam allowance (the input tokens accepted since the shadow state, by port, oldest first), and
those accepted since that emission. -/
structure FrenchHalf where
  shadow : PanelSt := {}
  next : PanelSt := {}
  waiting : Bool := false
  held : List (Nat × BitVec 12) := []
  nextHeld : List (Nat × BitVec 12) := []
  deriving DecidableEq, Repr

/-- One French seam (R492 to R494): a replay under way with the tokens still to pass in each half, and its two halves. -/
structure FrenchSt where
  replay0 : List (Nat × BitVec 12) := []
  replay1 : List (Nat × BitVec 12) := []
  half0 : FrenchHalf := {}
  half1 : FrenchHalf := {}
  deriving DecidableEq, Repr

/-- Repair and self-test state beside the objects (R478 to R505): repairs and moves in progress; faults reported, oldest
first; repairs that wait for the self-test of R488; French seams; sites under test by 102 row + column; the results of the
last sweep and those of the sweep under way; the device times at which that sweep began, the last one ended and the last test
began; RETIRED sites returned in the sweep; the rises of MARGIN_WARNINGS in it, and whether 0x0942 was sent for it (R527). -/
structure DarnSt where
  repairs : List RepairSt := []
  queue : List RepairSt := []
  waiting : List RepairSt := []
  french : List (Nat × FrenchSt) := []
  testing : List (Nat × TestSt) := []
  sites : List (Nat × Nat) := []
  sweep : List (Nat × Nat) := []
  sweepStart : Option Nat := none
  sweepEnd : Option Nat := none
  lastTest : Option Nat := none
  returned : Nat := 0
  margins : Nat := 0
  marginSent : Bool := false
  array : Bool := false
  deriving DecidableEq, Repr

/-! ### Safety -/

/-- One voltage monitor (R519): its reading is out of its band, the device time from which it has been back in it, and the
device times at which each of the two crossings was last logged. -/
structure VmonSt where
  out : Bool := false
  inSince : Option Nat := none
  leftLog : Option Nat := none
  backLog : Option Nat := none
  deriving DecidableEq, Repr

/-- Safety and health state beside the objects (R506 to R533): the permits granted, and those withdrawn and not granted again;
whether the permit gate counts as refreshed, the device time of the last refresh, and a gate timeout that the Thimble has yet to
log (R509); of a proof test under way the functions still to test and those passed (R517); the functions whose proof test was
notified as due soon, and as overdue (R518); the lining planes in use; consecutive readings at the trip level, the temperature
sensors excluded, the device time from which TJ_MAX has been low enough to clear the warning (R520, R528); the voltage monitors.
-/
structure SafetySt where
  permits : BitVec 4 := 0
  withdrawn : BitVec 4 := 0
  refreshed : Bool := false
  lastRefresh : Option Nat := none
  refreshLate : Bool := false
  proof : Option (BitVec 4 × BitVec 4) := none
  proofWarned : BitVec 4 := 0
  proofExpired : BitVec 4 := 0
  linings : BitVec 2 := 3
  tripReadings : Nat := 0
  excluded : BitVec 16 := 0
  coolSince : Option Nat := none
  vmon : List (Nat × VmonSt) := []
  deriving DecidableEq, Repr

/-! ### The device -/

/-- What lies outside the device and holds through its resets: RESET_N, the rails (bits 0 to 5: VCORE, VLANE, VLANE_HI,
VIO, VCFG, VAUX, R535), the armed detectors (R537), VBAT, which TREF inputs have edges, whether the cascade transmit PLLs are locked to
TREF_0 (R13, R429); and PEAK_TJ, which runs from power-on (R427). -/
structure Env where
  resetN : Bool := true
  rails : BitVec 6 := 0x3F
  armed : BitVec 6 := 0x3F
  vbat : Bool := true
  tref : BitVec 4 := 0
  cascadePll : Bool := false
  peakTj : Option Int := none
  deriving DecidableEq, Repr

/-- The device state machine (R29, R30): the state, device time (R427), an accepted FOLD not yet taken, the state changes
that are logged later (R557: reason, old code, new code; newest first), the hold of RESET, the reason a held BOOT shows
over JTAG (R33), the sampled straps, VCFG mode and management clock, whether outputs and writes are released,
and the start-up steps still to run (R333). -/
structure CoreSt where
  state : DevState := .reset
  time : Nat := 0
  foldPending : Bool := false
  deferred : List (Nat × Nat × Nat) := []
  holdRunning : Bool := false
  bootReason : Nat := 0
  cascadeId : Nat := 0
  nodeBase : Nat := 0
  broadcast : Bool := false
  cfgWidth : Nat := 3
  vcfg33 : Bool := false
  mgmtExt : Bool := false
  outputs : Bool := false
  gsrHeld : Bool := true
  writes : Bool := false
  gatesOpen : Bool := false
  steps : Option (List Nat) := none
  deriving DecidableEq, Repr

/-- Everything but the fuses and the queue. wiring is the routing database, which no command changes (entry 61). -/
structure Dev where
  regs : List (Nat × Word) := []
  strs : List (Nat × List Byte) := []
  staged : List Staged := []
  freeCtr : Nat := 0
  out : List Output := []
  core : CoreSt := {}
  env : Env := {}
  wiring : Wiring := {}
  nv : Nv := {}
  panels : List (Nat × PanelSt) := []
  seams : List (Nat × SeamSt) := []
  baste : Option BasteReq := none
  watch : List (Nat × WatchSt) := []
  window : Nat := 200000
  halves : List (Nat × HalfSt) := []
  hemWin : List (Nat × HemWin) := []
  bobbins : List (Nat × BobbinSt) := []
  blocks : List (Nat × BlockSt) := []
  scrub : Option ScrubReq := none
  patrol : Nat := 0
  shuttles : List (Nat × ShuttleSt) := []
  programs : List (Nat × BitVec 64) := []
  progErrs : List (Nat × BitVec 79) := []
  needles : List (Nat × NeedleSt) := []
  cal : CalSt := {}
  banks : List (Nat × BankSt) := []
  safeBalls : List (Nat × SafeBall) := []
  cascade : CascadeSt := {}
  config : ConfigSt := {}
  sec : SecSt := {}
  tr : TransportSt := {}
  spool : List (Nat × SpoolSt) := []
  rr : List (Nat × Nat) := []
  tally : TallySt := {}
  swatch : SwatchSt := {}
  darn : DarnSt := {}
  safety : SafetySt := {}
  deriving DecidableEq, Repr

/-- Fuses: they change in one direction only and survive every reset (R356 to R360, R375 to R379, R386). -/
structure Fuses where
  lifecycle : Nat := 1
  lcBegin : Option Nat := none
  keysProgrammed : BitVec 4 := 0
  keysRevoked : BitVec 4 := 0
  keyValues : List (Nat × List Byte) := []
  ownersProgrammed : BitVec 4 := 0
  ownersRevoked : BitVec 4 := 0
  ownerDigests : List (Nat × List Byte) := []
  versionMin : Nat := 0
  fwMin : Nat := 0
  identityKilled : Bool := false
  deviceKey : List Byte := []
  variant : Nat := 0
  stepping : Nat := 0x43
  uid : Nat := 0
  blockSpares : List (Nat × Nat × Nat) := []
  deriving DecidableEq, Repr

/-- The whole state: the queue of commands waiting, the fuses, and the device. -/
structure State where
  pending : List Instr := []
  fuses : Fuses := {}
  dev : Dev := {}
  deriving DecidableEq, Repr

/-- The machine right after reset, as POWER_ON_RESET leaves it (R30, R537): RESET with its hold running, the change into it (0x0B70)
in STATE_STATUS with SEQ 1 and UNACKED (R427, R400), and its log entry due at the end of BOOT (R557). Every object register not listed
holds its default. -/
def State.reset : State :=
  { pending := [], fuses := { deviceKey := Config.deviceKey }
    dev := { wiring := Config.wiring, nv := { golden := Config.golden }
             regs := [(0x200001, 0x18000), (0x200003, 0x0B70)]
             core := { holdRunning := true, deferred := [(0x0B70, 0, 1)] } } }

/-- Object key of index.sub in the register file. -/
def objKey (idx sub : Nat) : Nat := idx * 256 + sub

end Sys2Proof.Machine
end

