-- ==== Sys2Proof/Machine/Ops.lean ====
section
/-! DEFINITION. The named operations over the state: tables in canonical form, the register file of the objects, free
values, the event log, notifications and EMCYs, roles, sequence numbers and acknowledgement, staged writes, and the
ordered checks of a write. -/

namespace Sys2Proof.Machine

/-! ### Tables in canonical form: keys strictly rising, no entry equal to what its key reads as unlisted -/

/-- What key k reads as in a table whose unlisted keys read as dflt. -/
def tabGet {α : Type} (dflt : Nat → α) : List (Nat × α) → Nat → α
  | [], k => dflt k
  | (a, v) :: t, k => if a = k then v else tabGet dflt t k

/-- The table without key k. -/
def tabDel {α : Type} : List (Nat × α) → Nat → List (Nat × α)
  | [], _ => []
  | (a, v) :: t, k => if a = k then tabDel t k else (a, v) :: tabDel t k

/-- The table with key k put in at its place. -/
def tabIns {α : Type} : List (Nat × α) → Nat → α → List (Nat × α)
  | [], k, v => [(k, v)]
  | (a, u) :: t, k, v => if k < a then (k, v) :: (a, u) :: t else if a = k then (k, v) :: t else (a, u) :: tabIns t k v

/-- The table with key k reading as v. -/
def tabSet {α : Type} [DecidableEq α] (dflt : Nat → α) (t : List (Nat × α)) (k : Nat) (v : α) : List (Nat × α) :=
  if v = dflt k then tabDel t k else tabIns t k v

/-- The keys of a table rise strictly. -/
def tabSorted {α : Type} : List (Nat × α) → Bool
  | [] => true
  | [_] => true
  | (a, _) :: (b, v) :: t => a < b && tabSorted ((b, v) :: t)

/-- The canonical form of a table. -/
def tabWf {α : Type} [DecidableEq α] (dflt : Nat → α) (t : List (Nat × α)) : Bool :=
  tabSorted t && t.all (fun e => !(e.2 == dflt e.1))

/-! ### The register file -/

/-- Patch index q = 6 pr + pc of octet o (R114). -/
def octetPatch (o : Nat) : Nat := if o < 84 then o / 2 else o - 42

/-- Patch index of block m (R155). -/
def blockPatch (m : Nat) : Nat := if m < 696 then m / 29 else 24 + (m - 696) / 28

/-- Default of BOBBIN_PLACE and BLOCK_PLACE from the patch index: [15:8] pc, [7:0] pr. -/
def placeOf (q : Nat) : Word := word ((q % 6) * 256 + q / 6)

/-- The default of VMON_BAND of monitor k from the rail limits of R535; the half millivolts of VLANE are rounded outwards
(DESIGN CHOICE, entry 1). -/
def vmonDefault (k : Nat) : Word :=
  let band (hi lo : Nat) : Word := word (hi * 65536 + lo)
  if k ≤ 1 then band 900 600 else if k ≤ 3 then band 876 824 else if k = 4 then band 1260 1140 else band 1890 1710

/-- What an object register reads as while nothing has written it: the default of its table row; rows whose default
depends on the instance are computed (R114, R129, R153, R155). -/
def regDefault (key : Nat) : Word :=
  let idx := key / 256
  let sub := key % 256
  if 0x4400 ≤ idx ∧ idx ≤ 0x46FF ∧ sub = 3 then word (0x01000000 + (idx - 0x4400))
  else if 0x4400 ≤ idx ∧ idx ≤ 0x46FF ∧ sub = 4 then word 256
  else if 0x4400 ≤ idx ∧ idx ≤ 0x46FF ∧ sub = 9 then placeOf (octetPatch ((idx - 0x4400) / 8))
  else if 0x4800 ≤ idx ∧ idx ≤ 0x4DFF ∧ sub = 4 then placeOf (blockPatch (idx - 0x4800))
  else if 0x30C0 ≤ idx ∧ idx ≤ 0x30D7 ∧ sub = 0 then word 0x19
  else if idx = 0x2320 ∧ 1 ≤ sub ∧ sub ≤ 8 then vmonDefault (sub - 1)
  else match findDesc idx sub with
    | some o => word o.dflt
    | none => 0

/-- The value that object register index.sub holds. -/
def Dev.rd (d : Dev) (idx sub : Nat) : Word := tabGet regDefault d.regs (objKey idx sub)

/-- The value that object register index.sub holds, as a number. -/
def Dev.rdN (d : Dev) (idx sub : Nat) : Nat := (d.rd idx sub).toNat

/-- Object register index.sub set to v. -/
def Dev.wr (d : Dev) (idx sub : Nat) (v : Word) : Dev :=
  { d with regs := tabSet regDefault d.regs (objKey idx sub) v }

/-- Object register index.sub set to a number. -/
def Dev.wrN (d : Dev) (idx sub n : Nat) : Dev := d.wr idx sub (word n)

/-- A counting register of a width in bits moves up by n and wraps to 0. -/
def Dev.count (d : Dev) (idx sub width n : Nat) : Dev := d.wrN idx sub ((d.rdN idx sub + n) % 2 ^ width)

/-- The bytes that string or DOMAIN object index.sub holds. -/
def Dev.bytesOf (d : Dev) (idx sub : Nat) : List Byte := tabGet (fun _ => []) d.strs (objKey idx sub)

/-- String or DOMAIN object index.sub set to a byte string. -/
def Dev.setBytes (d : Dev) (idx sub : Nat) (l : List Byte) : Dev :=
  { d with strs := tabSet (fun _ => []) d.strs (objKey idx sub) l }

/-! ### The parts of the device that come in numbers -/

def Dev.panel (d : Dev) (p : Nat) : PanelSt := tabGet (fun _ => {}) d.panels p
def Dev.setPanel (d : Dev) (p : Nat) (x : PanelSt) : Dev := { d with panels := tabSet (fun _ => {}) d.panels p x }
def Dev.seam (d : Dev) (p : Nat) : SeamSt := tabGet (fun _ => {}) d.seams p
def Dev.setSeam (d : Dev) (p : Nat) (x : SeamSt) : Dev := { d with seams := tabSet (fun _ => {}) d.seams p x }
def Dev.watchSt (d : Dev) (w : Nat) : WatchSt := tabGet (fun _ => {}) d.watch w
def Dev.setWatch (d : Dev) (w : Nat) (x : WatchSt) : Dev := { d with watch := tabSet (fun _ => {}) d.watch w x }
def Dev.half (d : Dev) (h : Nat) : HalfSt := tabGet (fun _ => {}) d.halves h
def Dev.setHalf (d : Dev) (h : Nat) (x : HalfSt) : Dev := { d with halves := tabSet (fun _ => {}) d.halves h x }
def Dev.hemWinOf (d : Dev) (h : Nat) : HemWin := tabGet (fun _ => {}) d.hemWin h
def Dev.setHemWin (d : Dev) (h : Nat) (x : HemWin) : Dev := { d with hemWin := tabSet (fun _ => {}) d.hemWin h x }
def Dev.bobbin (d : Dev) (b : Nat) : BobbinSt := tabGet (fun _ => {}) d.bobbins b
def Dev.setBobbin (d : Dev) (b : Nat) (x : BobbinSt) : Dev := { d with bobbins := tabSet (fun _ => {}) d.bobbins b x }
def Dev.block (d : Dev) (m : Nat) : BlockSt := tabGet (fun _ => {}) d.blocks m
def Dev.setBlock (d : Dev) (m : Nat) (x : BlockSt) : Dev := { d with blocks := tabSet (fun _ => {}) d.blocks m x }
def Dev.shuttle (d : Dev) (g : Nat) : ShuttleSt := tabGet (fun _ => {}) d.shuttles g
def Dev.setShuttle (d : Dev) (g : Nat) (x : ShuttleSt) : Dev := { d with shuttles := tabSet (fun _ => {}) d.shuttles g x }
def Dev.needle (d : Dev) (c : Nat) : NeedleSt := tabGet (fun _ => {}) d.needles c
def Dev.setNeedle (d : Dev) (c : Nat) (x : NeedleSt) : Dev := { d with needles := tabSet (fun _ => {}) d.needles c x }
def Dev.bank (d : Dev) (b : Nat) : BankSt := tabGet (fun _ => {}) d.banks b
def Dev.setBank (d : Dev) (b : Nat) (x : BankSt) : Dev := { d with banks := tabSet (fun _ => {}) d.banks b x }
def Dev.ball (d : Dev) (k : Nat) : SafeBall := tabGet (fun _ => {}) d.safeBalls k
def Dev.setBall (d : Dev) (k : Nat) (x : SafeBall) : Dev := { d with safeBalls := tabSet (fun _ => {}) d.safeBalls k x }
def Dev.chan (d : Dev) (c : Nat) : SpoolSt := tabGet (fun _ => {}) d.spool c
def Dev.setChan (d : Dev) (c : Nat) (x : SpoolSt) : Dev := { d with spool := tabSet (fun _ => {}) d.spool c x }
def Dev.session (d : Dev) (t : Nat) : Session := tabGet (fun _ => {}) d.sec.sessions t
def Dev.setSession (d : Dev) (t : Nat) (x : Session) : Dev :=
  { d with sec := { d.sec with sessions := tabSet (fun _ => {}) d.sec.sessions t x } }
def Dev.thread (d : Dev) (t : Nat) : ThreadSt := tabGet (fun _ => {}) d.cascade.threads t
def Dev.setThread (d : Dev) (t : Nat) (x : ThreadSt) : Dev :=
  { d with cascade := { d.cascade with threads := tabSet (fun _ => {}) d.cascade.threads t x } }
def Dev.link (d : Dev) (east : Bool) : LinkSt := if east then d.cascade.east else d.cascade.west
def Dev.setLink (d : Dev) (east : Bool) (x : LinkSt) : Dev :=
  let c := d.cascade
  { d with cascade := if east then { c with east := x } else { c with west := x } }
def Dev.slot (d : Dev) (s : Nat) : Slot := tabGet (fun _ => {}) d.nv.slots s
def Dev.setSlot (d : Dev) (s : Nat) (x : Slot) : Dev :=
  { d with nv := { d.nv with slots := tabSet (fun _ => {}) d.nv.slots s x } }
def Dev.frenchSt (d : Dev) (s : Nat) : FrenchSt := tabGet (fun _ => {}) d.darn.french s
def Dev.setFrench (d : Dev) (s : Nat) (x : FrenchSt) : Dev :=
  { d with darn := { d.darn with french := tabSet (fun _ => {}) d.darn.french s x } }

/-- f applied to d for every number below n, from 0 up. -/
def forEach (n : Nat) (f : Nat → Dev → Dev) (d : Dev) : Dev := (List.range n).foldl (fun e i => f i e) d

/-- A next state from a change of the device alone. -/
def onDev (f : Dev → Dev) (s : State) : Host.Outcome State Fault Refusal := .next { s with dev := f s.dev }

/-! ### Free values -/

/-- The next free word (entry 4) and the device with the counter moved on. -/
def Dev.free (d : Dev) : Word × Dev := (Config.freeWord d.freeCtr, { d with freeCtr := d.freeCtr + 1 })

/-! ### Device state and time -/

/-- State codes of R29. -/
def DevState.code : DevState → Nat
  | .off => 0 | .reset => 1 | .boot => 2 | .unconfigured => 3 | .fitting => 4 | .run => 5 | .folded => 6 | .safe => 7

/-- VAUX is up, and with it the Thimble's supply (R34, R110). -/
def Dev.vaux (d : Dev) : Bool := d.env.rails.getLsbD 5

/-- The Thimble runs: from UNCONFIGURED on (R29), and while VAUX is up (R34). In BOOT it verifies and starts firmware. -/
def Dev.thimble (d : Dev) : Bool :=
  d.vaux && match d.core.state with
    | .unconfigured | .fitting | .run | .folded | .safe => true
    | _ => false

/-- Device time counts: from the change from RESET to BOOT on (R427), while the Thimble is supplied. -/
def Dev.timeRuns (d : Dev) : Bool :=
  d.vaux && match d.core.state with
    | .off | .reset => false
    | _ => true

/-- What the block does while no command waits: device time moves on by one nanosecond wherever it counts (R427, entry 3). -/
def Dev.idle (d : Dev) : Dev := if d.timeRuns then { d with core := { d.core with time := d.core.time + 1 } } else d

/-- The fabric runs: global set/reset is released and the gates are open (R65, R92), in RUN or, after its start-up step, in
FITTING. -/
def Dev.fabricLive (d : Dev) : Bool :=
  !d.core.gsrHeld && (d.core.state == .run || d.core.state == .fitting)

/-- Staged writes take effect at acceptance (R27). -/
def Dev.immediate (d : Dev) : Bool := d.core.state == .unconfigured || d.core.state == .fitting

/-- An output, recorded newest first. -/
def Dev.emit (d : Dev) (o : Output) : Dev := { d with out := o :: d.out }

/-- The port by which a cell for the east or the west leaves: that port, or where it is open or wrapped the other one (R292); a member that
can do neither uses whichever link is up, and with both open there is none. -/
def Dev.cellPort (d : Dev) (east : Bool) : Option Bool :=
  let sends (e : Bool) : Bool := (d.link e).up && !(d.link e).wrapped
  if sends east then some east
  else if sends (!east) then some (!east)
  else if (d.link east).up then some east
  else if (d.link (!east)).up then some (!east) else none

/-- A cell leaves eastward or westward (R290, R292). -/
def Dev.sendCell (d : Dev) (east : Bool) (c : Cell) : Dev :=
  match d.cellPort east with
  | some e => d.emit (.cell e c)
  | none => d

/-- A control cell sent in both directions (R290). -/
def Dev.broadcast (d : Dev) (kind body : Nat) : Dev :=
  let c : Cell := { type := kind, source := d.core.cascadeId, dest := 16, body := BitVec.ofNat 256 body }
  (d.sendCell true c).sendCell false c

/-! ### Access counts of the wardrobe (R350) -/

/-- The physical unit that holds unit u: the exchange map of the levelled partitions. -/
def Dev.unitOf (d : Dev) (u : Nat) : Nat := tabGet (fun k => k) d.nv.unitMap u

/-- The count of a physical unit. -/
def Dev.unitCount (d : Dev) (p : Nat) : Nat := tabGet (fun _ => 0) d.nv.unitCount p

/-- The reserve unit of the lowest count. -/
def Dev.leastUsed (d : Dev) : Option Nat :=
  d.nv.reserve.foldl (fun b u => match b with
    | some v => if d.unitCount u < d.unitCount v then some u else some v
    | none => some u) none

/-- WEAR_LEVEL_EXCHANGE: a unit of a levelled partition (recovery, log, metadata: units 7136 to 7935) whose count exceeds the
least-used reserve unit's by 10⁷ is exchanged with it (R348, R350). -/
def Dev.level (d : Dev) (u : Nat) : Dev :=
  match d.leastUsed with
  | some r =>
    let p := d.unitOf u
    if 7136 ≤ u && u < 7936 && d.unitCount r + 10000000 < d.unitCount p then
      let n := d.nv
      { d with nv := { n with
        unitMap := tabSet (fun k => k) n.unitMap u r, reserve := n.reserve.map (fun x => if x = r then p else x)
        exchanged := if 7936 ≤ r then n.exchanged + 1 else n.exchanged } }
    else d
  | none => d

/-- Count n accesses of unit u, and level it; WEAR_PEAK follows in thousands (R350, R389). -/
def Dev.touchRaw (d : Dev) (u n : Nat) : Dev :=
  let p := d.unitOf u
  let c := d.unitCount p + n
  let d := ({ d with nv := { d.nv with unitCount := tabSet (fun _ => 0) d.nv.unitCount p c } }).level u
  if d.rdN 0x2130 5 < c / 1000 then d.wrN 0x2130 5 (c / 1000) else d

/-! ### The event log (R521) and LAST_EVENT (R427) -/

/-- LAST_EVENT takes the event (0x2003). -/
def Dev.lastEvent (d : Dev) (reason inst : Nat) : Dev :=
  (d.wrN 0x2003 1 ((inst % 65536) * 65536 + reason % 65536)).wrN 0x2003 2 d.core.time

/-- Log entry N goes to slot (N − 1) mod 65,536 over the oldest, and counts an access of the unit that holds the slot
(R350, R521); time is the DEVICE_TIME it carries. -/
def Dev.enterLog (d : Dev) (time reason inst detail : Nat) : Dev :=
  let n := d.nv.logCount + 1
  let e : LogEntry := {
    number := n % 2 ^ 32, time := time, reason := reason, inst := inst, detail := detail,
    state := d.core.state.code, lifeCycle := d.rdN 0x2200 1, boots := d.nv.boots }
  let d := { d with nv := { d.nv with log := (e :: d.nv.log).take 65536, logCount := n } }
  ((d.touchRaw (7824 + ((n - 1) % 65536) / 2048) 1).wrN 0x2310 1 (n % 2 ^ 32)).lastEvent reason inst

/-! ### Hem halves: what every writer and reader shares (R130 to R142) -/

/-- The object index less 0x3000 of the hem that half h belongs to. Halves 0 to 95 are drive hems, 96 to 191 compare hems,
192 + 2n and 193 + 2n the to-island and the to-fabric half of general hem n. -/
def hemOf (h : Nat) : Nat := if h < 192 then h else 192 + (h - 192) / 2

/-- The island of a hem (R13, R136): channel c, or 96 + n. -/
def hemIsland (hem : Nat) : Nat := if hem < 96 then hem else if hem < 192 then hem - 96 else hem - 96

/-- A half carries entries towards the fabric. -/
def toFabric (h : Nat) : Bool := if h < 192 then 96 ≤ h else h % 2 == 1

/-- The fill that the writer sees (R132). -/
def HalfSt.writerFill (x : HalfSt) : Nat := (x.wptr + 512 - x.seenR) % 512

/-- The fill that the reader sees (R132). -/
def HalfSt.readerFill (x : HalfSt) : Nat := (x.seenW + 512 - x.rptr) % 512

/-- Entries free in the writer's view. -/
def HalfSt.freeEntries (x : HalfSt) : Nat := 256 - x.writerFill

/-- One entry stored, its pointer moved on. -/
def HalfSt.put (x : HalfSt) (e : HEntry) : HalfSt := { x with q := x.q ++ [e], wptr := (x.wptr + 1) % 512 }

/-- The body of a GAP entry (R142). -/
def gapBody (g : Gap) : BitVec 256 :=
  BitVec.ofNat 256 (g.firstTime % 2 ^ 64 * 2 ^ 192 + min g.slices 65535 * 2 ^ 32 + g.notchLost.toNat * 2 ^ 30 +
    g.statusLost.toNat * 2 ^ 29 + (if g.count > 65535 then 2 ^ 16 else 0) + min g.count 65535)

/-- A pending gap is written as soon as an entry is free (R141). -/
def HalfSt.flushGap (x : HalfSt) : HalfSt :=
  match x.gap with
  | some g => if 0 < x.freeEntries then { x.put { data := gapBody g, tag := 0x80 } with gap := none } else x
  | none => x

/-- The gap at hand, or a new one. -/
def HalfSt.gapNow (x : HalfSt) : Gap := x.gap.getD {}

/-- A DATA entry of a compare-direction half: written while more than 4 entries are free, otherwise dropped into the
pending gap (R141); slices and the device time of its first period are what the gap records. The Bool says dropped. -/
def HalfSt.pushData (x : HalfSt) (data : BitVec 256) (tag : BitVec 8) (slices time : Nat) : HalfSt × Bool :=
  let x := x.flushGap
  if x.gap.isNone && 4 < x.freeEntries then (x.put { data := data, tag := tag }, false)
  else
    let g := x.gapNow
    let first := if g.count = 0 then time else g.firstTime
    let g := { g with count := g.count + 1, slices := g.slices + slices, firstTime := first }
    ({ x with gap := some g, loss := (x.loss + 1) % 2 ^ 32 }, true)

/-- A NOTCH entry: written while an entry is free, otherwise recorded as NOTCH_LOST (R141). FIRST_TIME is the time of the first DATA
entry dropped, and 0 in a gap of markers alone: DESIGN CHOICE (entry 60), since R142 says only "first dropped entry" and gives a period,
which a marker has none of. -/
def HalfSt.pushNotch (x : HalfSt) (data : BitVec 256) : HalfSt × Bool :=
  let x := x.flushGap
  if x.gap.isNone && 0 < x.freeEntries then
    ({ x.put { data := data, tag := 0x40 } with markers := (x.markers + 1) % 2 ^ 32 }, false)
  else ({ x with gap := some { x.gapNow with notchLost := true }, loss := (x.loss + 1) % 2 ^ 32 }, true)

/-- A STATUS entry: written while an entry is free, otherwise recorded as STATUS_LOST (R141). -/
def HalfSt.pushStatus (x : HalfSt) (data : BitVec 256) : HalfSt × Bool :=
  let x := x.flushGap
  if x.gap.isNone && 0 < x.freeEntries then (x.put { data := data, tag := 0xC0 }, false)
  else ({ x with gap := some { x.gapNow with statusLost := true }, loss := (x.loss + 1) % 2 ^ 32 }, true)

/-- The slack of a half (R101, R141): entries ready for the island, or free entries beyond the 4 kept for markers. -/
def halfSlack (h : Nat) (x : HalfSt) : Nat := if toFabric h then x.freeEntries - 4 else x.readerFill

/-- The half stored back, its window minimum of slack taken along (R101). -/
def Dev.putHalf (d : Dev) (h : Nat) (x : HalfSt) : Dev :=
  d.setHalf h { x with minSlack := min x.minSlack (halfSlack h x) }

/-! ### Notifications and EMCYs (R402 to R405) -/

/-- The error register (R405). -/
def Dev.errorRegister (d : Dev) : Nat :=
  let held := match d.config.load with
    | some l => l.held.isSome && l.header.kind == 1
    | none => false
  (if d.core.state == .safe || held then 1 else 0) + (if bit (d.rd 0x2030 1) 14 then 8 else 0) +
    (if d.tr.bus == 1 then 16 else 0) + (if bit (d.rd 0x2000 1) 15 then 128 else 0)

/-- The node-ID (R407). -/
def Dev.nodeId (d : Dev) : Nat := 16 * d.core.nodeBase + d.core.cascadeId + 1

/-- The CAN interface is enabled (R407) and active (R36). -/
def Dev.canOn (d : Dev) : Bool := d.core.nodeBase != 7 && d.thimble

/-- An EMCY frame, subject to the inhibit time of 0x1015 and to NMT state stopped (R404). -/
def Dev.emcy (d : Dev) (code reason inst : Nat) : Dev :=
  if !d.canOn || d.tr.nmt == 4 then d
  else
    let early : Bool := match d.tr.emcyLast with
      | some t => d.core.time < t + d.rdN 0x1015 0 * 100000
      | none => false
    if early then d.count 0x2040 0x0C 32 1
    else
      let data := leBytes 2 code ++ leBytes 1 d.errorRegister ++ leBytes 2 reason ++ leBytes 2 inst ++
        leBytes 8 d.core.time ++ leBytes 1 d.core.cascadeId
      { d.emit (.can (0x080 + d.nodeId) data) with tr := { d.tr with emcyLast := some d.core.time } }

/-- An MSI-X message for a vector that is not pending; the vector becomes pending (R403). -/
def Dev.msix (d : Dev) (v : Nat) : Dev :=
  if v < 17 || d.tr.pendingVec.getLsbD v then d
  else { d.emit (.msix v) with tr := { d.tr with pendingVec := d.tr.pendingVec ||| (1 <<< v) } }

/-- An entry of the notification ring (R403). -/
def Dev.ringEntry (d : Dev) (reason inst vector : Nat) : Dev :=
  let n := (d.rdN 0x2041 1 + 1) % 2 ^ 32
  let d := if 256 < n && d.rdN 0x2041 3 < n - 256 then d.count 0x2041 4 32 1 else d
  let e : RingEntry := { number := n, time := d.core.time, inst := inst, reason := reason, vector := vector }
  let d := { d with tr := { d.tr with ring := (e :: d.tr.ring).take 256 } }
  (d.wrN 0x2041 1 n).msix vector

/-- The NOTIFY entry delivered to the fabric port (R402, R422): to-fabric half of general hem 22, the Thimble's. -/
def Dev.fabricNotify (d : Dev) (reason inst : Nat) : Dev :=
  let body : BitVec 256 := BitVec.ofNat 256 (d.core.time % 2 ^ 64 * 2 ^ 192 + inst % 65536 * 2 ^ 144 +
    reason % 65536 * 2 ^ 112 + 0xA0)
  let r := (d.half 237).pushData body 0 0 d.core.time
  let d := d.putHalf 237 r.1
  if r.2 then d.setHemWin 214 { d.hemWinOf 214 with dropped := true } else d

/-- The ring entry and the EMCY of a notification (R402). -/
def Dev.notifyRing (d : Dev) (reason inst : Nat) : Dev :=
  let route := d.rd 0x2040 (reason / 256)
  let d := d.lastEvent reason inst
  let d := if bit route 14 then d.ringEntry reason inst (bits route 5 0) else d
  if bit route 15 then d.emcy (0xFF00 + reason / 256) reason inst else d

/-- A notification, routed by 0x2040 (R402). In UNCONFIGURED every hem stays empty (R152). A NOTIFY entry that finds the Thimble's hem
full is dropped as R141 states; that drop is notified on the ring only, since the fabric cannot be told. -/
def Dev.notify (d : Dev) (reason inst : Nat) : Dev :=
  if !d.thimble then d
  else
    let d := d.notifyRing reason inst
    if bit (d.rd 0x2040 (reason / 256)) 13 && d.core.state != .unconfigured then
      let d := d.fabricNotify reason inst
      let w := d.hemWinOf 214
      if w.dropped && !w.sent331 then (d.setHemWin 214 { w with sent331 := true }).notifyRing 0x0331 118 else d
    else d

/-- The wear levels that WEAR_PEAK has passed: 8 × 10⁸ and 9.5 × 10⁸, which it shows in thousands (R350). -/
def Dev.wearLevel (d : Dev) : Nat :=
  if 950000 < d.rdN 0x2130 5 then 2 else if 800000 < d.rdN 0x2130 5 then 1 else 0

/-- WEAR_PEAK has passed 8 × 10⁸ or 9.5 × 10⁸ accesses: 0x0262 logged and notified once for each (R350). -/
def Dev.peakCheck (d : Dev) : Dev :=
  if d.nv.wearPeakSeen < d.wearLevel then
    (({ d with nv := { d.nv with wearPeakSeen := d.wearLevel } }).enterLog d.core.time 0x0262 0x2130 0).notify 0x0262 0x2130
  else d

/-- A log entry with the DEVICE_TIME given; its access counts towards WEAR_PEAK like every other (R350). -/
def Dev.logAt (d : Dev) (time reason inst detail : Nat) : Dev := (d.enterLog time reason inst detail).peakCheck

/-- An event that its chapter marks logged. Nothing is logged while the Thimble does not run (R521). -/
def Dev.log (d : Dev) (reason inst detail : Nat) : Dev :=
  if d.thimble then d.logAt d.core.time reason inst detail else d

/-- An event both logged and notified. -/
def Dev.logNotify (d : Dev) (reason inst detail : Nat) : Dev := (d.log reason inst detail).notify reason inst

/-! ### Sequence numbers, results and acknowledgement (R400) -/

/-- A result completes in status word index.sub: SEQ moves on, UNACKED is set, BUSY (if there is one) clears. -/
def Dev.complete (d : Dev) (idx sub unacked : Nat) (busy : Option Nat) : Dev :=
  let w := d.rd idx sub
  let w := setBit (setBits w 31 16 (nextSeq (bits w 31 16))) unacked true
  d.wr idx sub (match busy with
    | some b => setBit w b false
    | none => w)

/-- One bit of an object register set. -/
def Dev.setFlag (d : Dev) (idx sub i : Nat) (b : Bool) : Dev := d.wr idx sub (setBit (d.rd idx sub) i b)

/-- SEQ of a status word. -/
def Dev.seqOf (d : Dev) (idx sub : Nat) : Nat := bits (d.rd idx sub) 31 16

/-- A write of the current SEQ clears UNACKED; any other value is ignored (R400). -/
def Dev.ack (d : Dev) (idx sub unacked v : Nat) : Dev :=
  if v = d.seqOf idx sub then d.setFlag idx sub unacked false else d

/-! ### Roles (R369, R374) -/

/-- The highest open role of a life-cycle state (R369): 0 OPERATOR, 1 INTEGRATOR, 2 OWNER, 3 VENDOR. -/
def openRole (lifecycle : Nat) : Nat := if lifecycle = 1 then 2 else if lifecycle = 2 then 1 else 0

/-- The session of a path: 0 CAN FD, 1 PCI Express, 2 JTAG. -/
def sessionNo : Transport → Nat
  | .can => 0 | .window => 1 | .mailbox => 1 | .jtag => 2 | .fabric => 3

/-- Subindex of 0x2050 that records refused writes of a path (R427). -/
def recordSub (t : Transport) : Nat := sessionNo t + 1

/-- The role that a path holds (R396). -/
def Dev.roleOf (d : Dev) (t : Transport) : Nat :=
  if t == .fabric then d.rdN 0x2218 0
  else max (openRole (d.rdN 0x2200 1 % 128)) ((d.session (sessionNo t)).role.getD 0)

/-! ### Staged writes (R22 to R27) -/

/-- The notch scope of object index under a kind of scope (R22). -/
def scopeOf (k : ScopeKind) (idx : Nat) : Scope :=
  match k with
  | .device => .device
  | .cascade => .cascade
  | .group =>
    if 0x3200 ≤ idx ∧ idx < 0x3260 then .group ((idx - 0x3200) / 8) else .group (idx % 16)
  | .hem =>
    if idx < 0x3060 then .group ((idx - 0x3000) / 8) else if idx < 0x30C0 then .group ((idx - 0x3060) / 8)
    else .device

/-- The notch sequence number of a scope. -/
def Dev.scopeSeq (d : Dev) (s : Scope) : Nat :=
  match s with
  | .group g => d.rdN (0x3100 + g) 8
  | .device => d.rdN 0x2004 1
  | .cascade => d.cascade.notchNumber

/-- The pending write of an object, if there is one. -/
def Dev.pendingOf (d : Dev) (idx sub : Nat) : Option Staged := d.staged.find? (fun x => x.index == idx && x.sub == sub)

/-- A staged write accepted: the last one for its object is the one pending (R25). -/
def Dev.stage (d : Dev) (idx sub : Nat) (v : Val) (s : Scope) : Dev :=
  { d with staged := d.staged.filter (fun x => !(x.index == idx && x.sub == sub)) ++
      [{ index := idx, sub := sub, val := v, scope := s, due := (d.scopeSeq s + 1) % 2 ^ 32 }] }

/-- The value that index.sub will hold at its next notch: pending, or else in effect (R269, R345). -/
def Dev.nextVal (d : Dev) (idx sub : Nat) : Word :=
  match d.pendingOf idx sub with
  | some { val := .word w, .. } => w
  | _ => d.rd idx sub

/-! ### The ordered checks of a write (R397) -/

/-- What an object adds to the checks and effects of a write: a role gate per value or state (order 4), order 7 beyond the stated
range, order 8 beyond SAFE, the effect of an accepted write, and what a write refused at order 5 to 8 leaves behind. -/
structure Act where
  gate : Dev → Wr → Nat := fun _ _ => 0
  check : Dev → Wr → Nat := fun _ _ => 0
  allow : Dev → Wr → Nat := fun _ _ => 0
  apply : Dev → Wr → Dev
  refuse : Nat → Dev → Dev := fun _ d => d

/-- The transport record of a refused write (R427). -/
def Dev.recordRefusal (d : Dev) (t : Transport) (idx sub code : Nat) : Dev :=
  let w := d.rd 0x2050 (recordSub t)
  d.wrN 0x2050 (recordSub t) (((bits w 63 48 + 1) % 65536) * 2 ^ 48 + code * 2 ^ 32 + idx * 2 ^ 16 + sub * 2 ^ 8)

/-- The reason code with which orders 2 to 8 of R397 refuse a write, or 0. -/
def writeCheck (o : Desc) (a : Act) (w : Wr) (d : Dev) : Nat :=
  let early := o.early (a.gate d w) (d.roleOf w.path) w
  if early ≠ 0 then early
  else if !o.rangeOk w then 0x0B06
  else
    let c := a.check d w
    if c ≠ 0 then c
    else if o.safe && d.core.state == .safe then 0x0B22
    else a.allow d w

/-- A write refused by orders 5 to 8 leaves what its object states (R70 and alike); the codes of orders 1 to 4 are 0x0B01 to
0x0B03 and 0x0B07. -/
def lateCode (code : Nat) : Bool := !(code == 0x0B01 || code == 0x0B02 || code == 0x0B03 || code == 0x0B07)

/-- A transport reaches the dictionary: only once the Thimble runs (R29, R421). -/
def Dev.dictionary (d : Dev) : Bool := d.thimble

/-- A write to an object that exists: refused with its code recorded, or carried out. The number is 0 or the code. -/
def runWrite (o : Desc) (a : Act) (idx sub : Nat) (w : Wr) (d : Dev) : Dev × Nat :=
  let code := writeCheck o a w d
  if code = 0 then (a.apply d w, 0)
  else
    let d := if lateCode code then a.refuse code d else d
    (d.recordRefusal w.path idx sub code, code)

/-- A row of the table that is the write of one object. -/
def rowWrite (o : Desc) (a : Act) (idx sub : Nat) (w : Wr) (d : Dev) : Dev :=
  if d.dictionary then (runWrite o a idx sub w d).1 else d

/-- The value a write carries, as the object holds it. -/
def Desc.valOf (o : Desc) (w : Wr) : Val := if o.isBytes then .bytes w.bytes else .word (o.valueOf w)

/-- The written fixed-size value as a number. -/
def Desc.num (o : Desc) (w : Wr) : Nat := (o.valueOf w).toNat

/-- The acknowledgement of a status word as an Act (R400). -/
def ackAct (o : Desc) (idx status unacked : Nat) : Act := { apply := fun d w => d.ack idx status unacked (o.num w) }

end Sys2Proof.Machine
end

