-- ==== Sys2Proof/Machine/Bobbins.lean ====
section
/-! DEFINITION. Bobbins (R114 to R129): writes and packing, full bobbins and gap markers, packet notices and level
crossings, reads, and the objects of a bobbin. -/

namespace Sys2Proof.Machine

/-- BOBBIN_CONFIG of a head (R129). -/
def Dev.bobbinCfg (d : Dev) (h : Nat) : Word := d.rd (0x4400 + h) 3

/-- The write width W in bits (R116). -/
def wrWidth (cfg : Word) : Nat := 16 * 2 ^ min (bits cfg 31 30) 2

/-- The read width R in bits (R116). -/
def rdWidth (cfg : Word) : Nat := 64 * 2 ^ min (bits cfg 29 28) 2

/-- The number of members of the combination (R125). -/
def members (cfg : Word) : Nat := max 1 (bits cfg 27 24)

/-- The head of the combination that bobbin b belongs to: the bobbin that its HEAD names, when that is a lower one of the same octet
whose consecutive members reach b; b itself otherwise (R114, R125). -/
def Dev.bobbinHead (d : Dev) (b : Nat) : Nat :=
  let h := bits (d.bobbinCfg b) 9 0
  let cfg := d.bobbinCfg h
  if h < b && h / 8 = b / 8 && bits cfg 9 0 = h && b < h + members cfg then h else b

/-- A BOBBIN_CONFIG of bobbin b that names a combination of R114 and R125: on a head, consecutive bobbins of its octet from it on; on a
member, COMBINE 0 and a lower bobbin of its octet. -/
def combines (b : Nat) (cfg : Word) : Bool :=
  let h := bits cfg 9 0
  if h = b then b % 8 + members cfg ≤ 8 else h < b && h / 8 = b / 8 && bits cfg 27 24 = 0

/-- The capacity in read words (R125). -/
def capacity (cfg : Word) : Nat := members cfg * (32768 / rdWidth cfg)

/-- PACKET_MODE, FULL_ACTION = WAIT, and a lining side of BOBBIN_CONFIG (R129). -/
def packetMode (cfg : Word) : Bool := bit cfg 22
def fullWaits (cfg : Word) : Bool := bit cfg 23
def writeLining (cfg : Word) : Bool := bit cfg 21
def readLining (cfg : Word) : Bool := bit cfg 20

/-- No read word is free (R119): a pending marker does not hold one. -/
def BobbinSt.full (x : BobbinSt) (cfg : Word) : Bool :=
  capacity cfg ≤ x.words.length + (if x.partCount = 0 then 0 else 1)

/-- The gap marker of a drop run (R122). -/
def gapMarker (r : DropRun) : BWord :=
  { data := BitVec.ofNat 256 (min r.packets 65535 * 2 ^ 32 + r.truncated.toNat * 2 ^ 31 +
      (if r.count > 65535 then 2 ^ 16 else 0) + min r.count 65535)
    tag := 0x80 }

/-- The gap marker that replaces an uncorrectable read word (R122, R127). -/
def eccMarker : BWord := { data := BitVec.ofNat 256 (2 ^ 30 + 1), tag := 0x80 }

/-- SEQ of BOBBIN_STATUS moves on and UNACKED is set (R123, R124). -/
def Dev.bobbinSeq (d : Dev) (h : Nat) : Dev := d.complete (0x4400 + h) 1 15 none

/-- A packet of n read words is closed (R123): counted, and noticed by a combination of fewer than 8 members. -/
def Dev.closePacket (d : Dev) (h : Nat) (cfg : Word) (truncated : Bool) (n : Nat) : Dev :=
  let d := d.count (0x4400 + h) 8 32 1
  if members cfg = 8 then d
  else
    let d := d.bobbinSeq h
    if readLining cfg then d else d.emit (.token 1 h (truncated.toNat * 32768 + min n 32767))

/-- The fill of a combination of 8 after a word was added: a level crossing when it reaches BOBBIN_LEVEL (R124). -/
def Dev.levelUp (d : Dev) (h : Nat) (cfg : Word) : Dev :=
  let x := d.bobbin h
  let level := d.rdN (0x4400 + h) 4
  if members cfg = 8 && x.levelArmed && level ≤ x.words.length then
    let d := d.setBobbin h { x with levelArmed := false }
    let d := (d.bobbinSeq h).notify 0x0320 h
    if readLining cfg then d else d.emit (.token 1 h 0xFFFF)
  else d

/-- The crossing re-arms once the fill is below BOBBIN_LEVEL (R124). -/
def Dev.levelDown (d : Dev) (h : Nat) : Dev :=
  let x := d.bobbin h
  if x.words.length < d.rdN (0x4400 + h) 4 then d.setBobbin h { x with levelArmed := true } else d

/-- The gap marker is written when the drop run is closed and a read word is free (R121). -/
def Dev.gapMarkerDue (d : Dev) (h : Nat) : Dev :=
  let cfg := d.bobbinCfg h
  let x := d.bobbin h
  match x.run with
  | some r =>
    if r.closed && !x.full cfg then
      let d := d.setBobbin h { x with run := none, words := x.words ++ [gapMarker r] }
      let d := d.count (0x4400 + h) 7 32 1
      let d := if r.count > 65535 then d.setFlag (0x4400 + h) 1 13 true else d
      let d := if r.truncated then d.closePacket h cfg true r.words else d
      d.levelUp h cfg
    else d
  | none => d

/-- A write dropped into the drop run (R121); 0x0310 at most once a watch window (R129). -/
def Dev.bobbinDrop (d : Dev) (h : Nat) (cfg : Word) (eop : Bool) : Dev :=
  let x := d.bobbin h
  let newPacket := packetMode cfg && !x.pktDropping
  let r := x.run.getD { count := 0, packets := 0, truncated := packetMode cfg && x.pktStored, words := x.pktWords,
                        closed := false }
  let r := { r with count := r.count + 1, packets := r.packets + newPacket.toNat,
                    closed := !packetMode cfg || eop }
  let d := d.setBobbin h { x with run := some r, pktDropping := packetMode cfg && !eop,
                                  pktStored := packetMode cfg && !eop && x.pktStored,
                                  pktWords := if eop then 0 else x.pktWords, sent310 := true }
  let d := d.count (0x4400 + h) 6 32 1
  let d := if x.sent310 then d else d.notify 0x0310 h
  d.gapMarkerDue h

/-- A write stored: position j of the read word, closed when full or at EOP (R116 to R119). -/
def Dev.bobbinStore (d : Dev) (h : Nat) (cfg : Word) (data : BitVec 64) (eop : Bool) (bytes : Nat) : Dev :=
  let x := d.bobbin h
  let w := wrWidth cfg
  let valid := if eop && bytes ≠ 0 && bytes < w / 8 then bytes else w / 8
  let piece := data.toNat % 2 ^ (8 * valid)
  let filled := x.partData ||| BitVec.ofNat 256 (piece * 2 ^ (w * x.partCount))
  if x.partCount + 1 = rdWidth cfg / w || eop then
    let total := (w / 8 * x.partCount + valid) % (rdWidth cfg / 8)
    let tag : BitVec 8 := if eop then BitVec.ofNat 8 (0x40 + total) else 0
    let n := x.pktWords + 1
    let d := d.setBobbin h { x with words := x.words ++ [{ data := filled, tag := tag }], partCount := 0, partData := 0,
                                    pktWords := if eop then 0 else n, pktStored := packetMode cfg && !eop }
    let d := if eop then d.closePacket h cfg false n else d
    d.levelUp h cfg
  else
    d.setBobbin h { x with partCount := x.partCount + 1, partData := filled, pktStored := packetMode cfg }

/-- A write of data with its control field into the bobbin with head h (R116 to R121). -/
def Dev.bobbinWrite (d : Dev) (h : Nat) (data : BitVec 64) (ctrl : BitVec 4) : Dev :=
  let cfg := d.bobbinCfg h
  let d := d.gapMarkerDue h
  let x := d.bobbin h
  let eop := packetMode cfg && ctrl.getLsbD 3
  if x.run.isSome || x.pktDropping then d.bobbinDrop h cfg eop
  else if x.partCount = 0 && x.full cfg then
    if fullWaits cfg then d.setBobbin h { x with waiting := some (data, ctrl) } else d.bobbinDrop h cfg eop
  else d.bobbinStore h cfg data eop (ctrl.toNat % 8)

/-- A write that waits in its handshake is taken once there is room and writes are accepted (R120, R334). -/
def Dev.bobbinRetry (d : Dev) (h : Nat) : Dev :=
  let x := d.bobbin h
  match x.waiting with
  | some (data, ctrl) =>
    if d.core.writes && !(x.partCount = 0 && x.full (d.bobbinCfg h)) then
      (d.setBobbin h { x with waiting := none }).bobbinWrite h data ctrl
    else d
  | none => d

/-- One read word or gap marker taken; bad says that the stored word is uncorrectable (R127). -/
def Dev.bobbinTake (d : Dev) (h : Nat) (bad : Bool) : Dev × Option BWord :=
  let x := d.bobbin h
  match x.words with
  | [] => (d, none)
  | w :: rest =>
    let d := d.setBobbin h { x with words := rest }
    let d := if bad then d.logNotify 0x0311 h 0 else d
    let d := (d.levelDown h).gapMarkerDue h
    (d.bobbinRetry h, some (if bad then eccMarker else w))

/-- BOBBIN_WRITE: a write on the fabric write side of bobbin b, while the fabric runs. Until ENABLE_WRITES it waits in its handshake (R334); a
second write cannot be offered while one waits. -/
def execBobbinWrite (b : Fin 768) (data : BitVec 64) (ctrl : BitVec 4) (s : State) : Host.Outcome State Fault Refusal :=
  onDev (fun d =>
    let h := d.bobbinHead b.val
    let x := d.bobbin h
    if !d.fabricLive || x.waiting.isSome || writeLining (d.bobbinCfg h) then d
    else if d.core.writes then d.bobbinWrite h data ctrl
    else d.setBobbin h { x with waiting := some (data, ctrl) }) s

/-- GAP_MARKER_WRITE: the drop run is closed and a read word is free (R121). -/
def execGapMarkerWrite (b : Fin 768) (s : State) : Host.Outcome State Fault Refusal :=
  onDev (fun d => d.gapMarkerDue (d.bobbinHead b.val)) s

/-- BOBBIN_READ: the fabric read side takes one read word; it is the output of the step. -/
def execBobbinRead (b : Fin 768) (bad : Bool) (s : State) : Host.Outcome State Fault Refusal :=
  onDev (fun d =>
    let h := d.bobbinHead b.val
    if !d.fabricLive || readLining (d.bobbinCfg h) then d
    else
      let r := d.bobbinTake h bad
      match r.2 with
      | some w => r.1.emit (.token 2 h (w.tag.toNat * 2 ^ 256 + w.data.toNat))
      | none => r.1) s

/-- BOBBIN_ACK clears UNACKED, and SATURATED with it, which counts since the last acknowledgement (R129). -/
def actBobbinAck (idx : Nat) : Act :=
  { apply := fun d w =>
      if objBobbinAck.num w = d.seqOf idx 1 then (d.setFlag idx 1 15 false).setFlag idx 1 13 false else d }

def execBobbinAck (b : Fin 768) (w : Wr) (s : State) : Host.Outcome State Fault Refusal :=
  onDev (rowWrite objBobbinAck (actBobbinAck (0x4400 + b.val)) (0x4400 + b.val) 2 w) s

/-- BOBBIN_LEVEL: only the head of an 8-bobbin combination takes one, 0x0301; 1 to the capacity (R129). -/
def checkBobbinLevel (idx : Nat) (d : Dev) (w : Wr) : Nat :=
  let cfg := d.rd idx 3
  if !(bits cfg 27 24 = 8 && bits cfg 9 0 = idx - 0x4400) then 0x0301
  else if objBobbinLevel.num w = 0 || capacity cfg < objBobbinLevel.num w then 0x0B06
  else 0

/-- A level in effect at its notch: no crossing until the fill has been below it (R124). -/
def Dev.newBobbinLevel (d : Dev) (h : Nat) : Dev :=
  let x := d.bobbin h
  d.setBobbin h { x with levelArmed := x.words.length < d.rdN (0x4400 + h) 4 }

/-- Every bobbin of patch q emptied (R128); q = 54 means every bobbin. -/
def Dev.emptyBobbins (d : Dev) (q : Nat) : Dev :=
  { d with bobbins := d.bobbins.filter (fun e => !(q = 54 || octetPatch (e.1 / 8) = q)) }

end Sys2Proof.Machine
end

