-- ==== Sys2Proof/Machine/BlockMem.lean ====
section
/-! DEFINITION. Block memories (R155 to R192): the stored word and its code, port reads and writes, counting and the leaky
bucket, scrub, spare rows and columns, flip injection, and the access of the lining. -/

namespace Sys2Proof.Machine

/-! ### The stored word -/

/-- The generator polynomial of R164: (x + 1)(x⁷ + x³ + 1)(x⁷ + x³ + x² + x + 1), of degree 15. -/
def bchGenerator : Nat := 0xC599

/-- The remainder of a polynomial of n more bits than 15 by the generator. -/
def bchRem : Nat → Nat → Nat
  | 0, c => c
  | n + 1, c => bchRem n (if c.testBit (n + 15) then c ^^^ (bchGenerator <<< n) else c)

/-- The stored word of data and POISON with its check bits (R163, R164). -/
def codeword (poison : Bool) (data : BitVec 64) : BitVec 80 :=
  let m := (poison.toNat * 2 ^ 64 + data.toNat) * 2 ^ 15
  BitVec.ofNat 80 (m + bchRem 65 m)

/-- DATA of a stored word (R163). -/
def wordData (w : BitVec 80) : BitVec 64 := w.extractLsb' 15 64

/-- POISON of a stored word (R163). -/
def wordPoison (w : BitVec 80) : Bool := w.getLsbD 79

/-- The set bits of a mask, highest first. -/
def maskBits (m : BitVec 80) : List Nat := ((List.range 80).filter (fun i => m.getLsbD i)).reverse

/-- Word a of a block as written, free of errors. -/
def BlockSt.word (x : BlockSt) (a : Nat) : BitVec 80 := tabGet (fun _ => 0) x.words a

/-- The bits in error of word a. -/
def BlockSt.err (x : BlockSt) (a : Nat) : BitVec 80 := tabGet (fun _ => 0) x.errs a

/-- Word a stored afresh: no bit in error, not injected, no writeback pending (R166, R187). -/
def BlockSt.store (x : BlockSt) (a : Nat) (w : BitVec 80) : BlockSt :=
  { x with words := tabSet (fun _ => 0) x.words a w, errs := tabSet (fun _ => 0) x.errs a 0
           injected := if x.injected = some a then none else x.injected
           writeback := x.writeback.filter (fun k => k ≠ a) }

/-- Bits of word a upset. -/
def BlockSt.upset (x : BlockSt) (a : Nat) (m : BitVec 80) : BlockSt :=
  { x with errs := tabSet (fun _ => 0) x.errs a (x.err a ^^^ m) }

/-- What a decode of a stored word gives (R165): class 0 none, 1 single, 2 double, 3 uncorrectable; the bits corrected; the
data and POISON returned. -/
structure Decoded where
  cls : Nat
  fixed : List Nat
  data : BitVec 64
  poison : Bool
  deriving DecidableEq, Repr

/-- The decode of word a (R165). With 4 or more bits in error the outcome is not defined: class, bits, data and POISON are
free values (entry 4); a word found uncorrectable is returned as stored (R167). -/
def Dev.decode (d : Dev) (x : BlockSt) (a : Nat) : Decoded × Dev :=
  let w := x.word a
  let bad := maskBits (x.err a)
  match bad.length with
  | 0 => ({ cls := 0, fixed := [], data := wordData w, poison := wordPoison w }, d)
  | 1 => ({ cls := 1, fixed := bad, data := wordData w, poison := wordPoison w }, d)
  | 2 => ({ cls := 2, fixed := bad, data := wordData w, poison := wordPoison w }, d)
  | 3 => ({ cls := 3, fixed := [], data := wordData (w ^^^ x.err a), poison := wordPoison (w ^^^ x.err a) }, d)
  | _ =>
    let f := d.free
    let g := f.2.free
    let cls := bits g.1 1 0
    let hi := bits g.1 9 3 % 80
    let lo := bits g.1 16 10 % 80
    let fixed := if cls = 1 then [hi] else if cls = 2 then [max hi lo, min hi lo] else []
    if cls = 3 then
      ({ cls := 3, fixed := [], data := wordData (w ^^^ x.err a), poison := wordPoison (w ^^^ x.err a) }, g.2)
    else ({ cls := cls, fixed := fixed, data := f.1, poison := bit g.1 2 }, g.2)

/-- A word with 4 or more bits in error that was miscorrected: what the decode took it for is the word from now on, with the
corrected bits in error until they are written back (R165, entry 4). -/
def BlockSt.settle (x : BlockSt) (a : Nat) (r : Decoded) : BlockSt :=
  if (maskBits (x.err a)).length < 4 || r.cls = 0 || r.cls = 3 then x
  else { x with words := tabSet (fun _ => 0) x.words a (codeword r.poison r.data)
                errs := tabSet (fun _ => 0) x.errs a (BitVec.ofNat 80 (maskOf 80 (fun i => r.fixed.contains i))) }

/-! ### Counting, the bucket, hard faults -/

/-- L of the bucket (R173). -/
def Dev.bucket (d : Dev) (m : Nat) : Nat := d.rdN (0x4800 + m) 7

/-- A correction adds n to L; a rise through the threshold of an armed bucket is noticed and disarms it (R173, R174). -/
def Dev.bucketAdd (d : Dev) (m n : Nat) : Dev :=
  let old := d.bucket m
  let new := min 65535 (old + n)
  let thr := d.rdN 0x3700 2
  let d := d.wrN (0x4800 + m) 7 new
  if old < thr && thr ≤ new && bit (d.rd (0x4800 + m) 1) 14 then
    (((d.complete (0x4800 + m) 1 15 none).setFlag (0x4800 + m) 1 14 false)).notify 0x0701 m
  else d

/-- A leak instant for one block (R173, R174). -/
def Dev.leak (d : Dev) (m : Nat) : Dev :=
  let new := d.bucket m - 1
  let d := d.wrN (0x4800 + m) 7 new
  if new ≤ d.rdN 0x3700 2 / 2 then d.setFlag (0x4800 + m) 1 14 true else d

/-- An error again at a recorded address and bit (R182). -/
def BlockSt.isHard (x : BlockSt) (a : Nat) (fixed : List Nat) : Bool :=
  x.recent.any (fun e => e.1 == a && e.2.any (fun b => fixed.contains b))

/-- The column of stored bit i of word a (R156). -/
def columnOf (a i : Nat) : Nat := 4 * i + a % 4

/-- A detection (R172, R182, R188): BLOCK_LAST_ERROR takes each one; while a writeback of the word is pending it is counted no further
(R166). A detection at an injected word moves neither L nor the hard faults. -/
def Dev.detect (d : Dev) (m a : Nat) (r : Decoded) : Dev :=
  let x := d.block m
  let inj := x.injected == some a
  let pending := x.writeback.contains a
  let hard := !inj && !pending && r.cls ≠ 3 && x.isHard a r.fixed
  let b1 := (r.fixed[0]?).getD 0x7F
  let b2 := (r.fixed[1]?).getD 0x7F
  let d := d.wrN (0x4800 + m) 0x0C
    (r.cls * 2 ^ 30 + inj.toNat * 2 ^ 29 + hard.toNat * 2 ^ 28 + a * 2 ^ 18 + b1 * 2 ^ 11 + b2 * 2 ^ 4)
  if pending then d
  else
    let d := d.count (0x4800 + m) (if r.cls = 3 then 6 else 5) 32 1
    let d := if inj || r.cls = 3 then d else d.bucketAdd m (if r.cls = 1 then 1 else 4)
    if hard then
      let col := columnOf a ((r.fixed.find? (fun b => x.recent.any (fun e => e.1 == a && e.2.contains b))).getD 0)
      let d := d.setBlock m { x with hard := (a / 4, col) :: x.hard, hardDue := x.hardDue ++ [(a / 4, col)] }
      (d.setFlag (0x4800 + m) 1 10 true).log 0x0703 m a
    else d

/-- The corrected word written back: recorded among the last 8 (R166, R182). -/
def Dev.writeBack (d : Dev) (m a : Nat) : Dev :=
  let x := d.block m
  let fixed := maskBits (x.err a)
  d.setBlock m { (x.store a (x.word a)) with recent := ((a, fixed) :: x.recent).take 8 }

/-- An uncorrectable word keeps its data as stored with POISON = 1; 0x0702 logged, notified once a window (R167). -/
def Dev.poisonWord (d : Dev) (m a : Nat) (data : BitVec 64) : Dev :=
  let x := d.block m
  let d := d.setBlock m { (x.store a (codeword true data)) with sent702 := true }
  let d := d.log 0x0702 m a
  if x.sent702 then d else d.notify 0x0702 m

/-- A read of word a through a port or the lining: the decode, counted unless a writeback of the word is pending (R166);
a correction is left for its writeback, an uncorrectable word is poisoned (R165 to R167). -/
def Dev.portRead (d : Dev) (m a : Nat) (up : BitVec 80) : Decoded × Dev :=
  let d := d.setBlock m ((d.block m).upset a up)
  let x := d.block m
  let p := d.decode x a
  let r := p.1
  let d := p.2.setBlock m (x.settle a r)
  let pending := x.writeback.contains a
  let d := if r.cls = 0 then d else d.detect m a r
  if r.cls = 3 then (r, d.poisonWord m a r.data)
  else if r.cls = 0 || pending then (r, d)
  else (r, d.setBlock m { d.block m with writeback := (d.block m).writeback ++ [a] })

/-- A visit of the maintenance path with correction: corrected at once or poisoned (R175). -/
def Dev.scrubWord (d : Dev) (m a : Nat) (correct : Bool) : Decoded × Dev :=
  let x := d.block m
  let p := d.decode x a
  let r := p.1
  let d := p.2.setBlock m (x.settle a r)
  let d := if r.cls = 0 then d else d.detect m a r
  if !correct || r.cls = 0 then (r, d)
  else if r.cls = 3 then (r, d.poisonWord m a r.data)
  else (r, d.writeBack m a)

/-! ### Port requests -/

/-- The binding of port A (false) or B (true) and its access and WRITE_RESP (R191). -/
def portBinding (cfg : Word) (b : Bool) : Nat := if b then bits cfg 29 28 else bits cfg 31 30
def portAccess (cfg : Word) (b : Bool) : Nat := if b then bits cfg 23 22 else bits cfg 25 24
def portWriteResp (cfg : Word) (b : Bool) : Bool := if b then bit cfg 26 else bit cfg 27

/-- The response of a fabric port: its data and STATUS (R159). -/
def Dev.respond (d : Dev) (m : Nat) (b : Bool) (data : BitVec 64) (status : Nat) : Dev :=
  d.emit (.token 3 (2 * m + b.toNat) (status * 2 ^ 64 + data.toNat))

/-- A READ performed (R157, R159, R165). -/
def Dev.doRead (d : Dev) (m : Nat) (b : Bool) (a : Nat) (up : BitVec 80) (badOp : Bool) : Dev :=
  let p := d.portRead m a up
  let r := p.1
  let status := r.poison.toNat * 128 + (if r.cls = 3 then 64 else 0) + (if r.cls = 1 || r.cls = 2 then 32 else 0) +
    badOp.toNat * 4
  p.2.respond m b r.data status

/-- Byte k of the merged word is the new one where BE bit k is set (R158). -/
def mergeBytes (old new : BitVec 64) (be : BitVec 8) : BitVec 64 :=
  let mask : BitVec 64 := BitVec.ofNat 64 ((List.range 8).foldl (fun s k => if be.getLsbD k then s + 255 * 2 ^ (8 * k) else s) 0)
  (new &&& mask) ||| (old &&& ~~~ mask)

/-- A WRITE performed: the whole word with POISON = 0, or a merge with the corrected old word (R168). What a partial write corrects or
finds uncorrectable in the old word is a detection too (R172). -/
def Dev.doWrite (d : Dev) (m : Nat) (b : Bool) (a : Nat) (data : BitVec 64) (be : BitVec 8) (up : BitVec 80)
    (badOp : Bool) : Dev :=
  let d := d.setBlock m ((d.block m).upset a up)
  let full := be == 0xFF
  let p := d.decode (d.block m) a
  let d := if full then d else if p.1.cls = 0 then p.2 else p.2.detect m a p.1
  let mergeBad := !full && (p.1.cls = 3 || p.1.poison)
  let value := if full then data else mergeBytes p.1.data data be
  let d := d.setBlock m ((d.block m).store a (codeword mergeBad value))
  if portWriteResp (d.rd (0x4800 + m) 3) b then
    d.respond m b 0 (mergeBad.toNat * 128 + 16 + mergeBad.toNat * 8 + badOp.toNat * 4)
  else d

/-- A WRITE_POISON performed: all 8 bytes with POISON = 1 (R168). -/
def Dev.doWritePoison (d : Dev) (m : Nat) (b : Bool) (a : Nat) (data : BitVec 64) : Dev :=
  let d := d.setBlock m ((d.block m).store a (codeword true data))
  if portWriteResp (d.rd (0x4800 + m) 3) b then d.respond m b 0 (128 + 16) else d

/-- A request of a fabric port is performed: the port is bound to the fabric, the fabric runs, and writes are accepted from
the start-up step ENABLE_WRITES on (R157, R334). -/
def Dev.portOpen (d : Dev) (m : Nat) (b : Bool) : Bool :=
  d.fabricLive && portBinding (d.rd (0x4800 + m) 3) b = 1

/-- BLOCK_READ: CMD.OP READ, or the reserved code with badOp; on a write-only port it is performed as WRITE (R157, R158).
up are the bits of the word upset since it was last accessed. -/
def execBlockRead (m : Fin 1536) (b : Bool) (a : Fin 1024) (data : BitVec 64) (be : BitVec 8) (badOp : Bool)
    (up : BitVec 80) (s : State) : Host.Outcome State Fault Refusal :=
  onDev (fun d =>
    if !d.portOpen m.val b then d
    else if portAccess (d.rd (0x4800 + m.val) 3) b = 2 then
      if d.core.writes then d.doWrite m.val b a.val data be up badOp else d
    else d.doRead m.val b a.val up badOp) s

/-- BLOCK_WRITE: on a read-only port it is performed as READ (R157). -/
def execBlockWrite (m : Fin 1536) (b : Bool) (a : Fin 1024) (data : BitVec 64) (be : BitVec 8) (up : BitVec 80)
    (s : State) : Host.Outcome State Fault Refusal :=
  onDev (fun d =>
    if !d.portOpen m.val b then d
    else if portAccess (d.rd (0x4800 + m.val) 3) b = 1 then d.doRead m.val b a.val up false
    else if d.core.writes then d.doWrite m.val b a.val data be up false else d) s

/-- BLOCK_WRITE_POISON: on a read-only port it is performed as READ (R157). -/
def execBlockWritePoison (m : Fin 1536) (b : Bool) (a : Fin 1024) (data : BitVec 64) (up : BitVec 80) (s : State) :
    Host.Outcome State Fault Refusal :=
  onDev (fun d =>
    if !d.portOpen m.val b then d
    else if portAccess (d.rd (0x4800 + m.val) 3) b = 1 then d.doRead m.val b a.val up false
    else if d.core.writes then d.doWritePoison m.val b a.val data else d) s

/-- CORRECTION_WRITEBACK: the first pending corrected word of the block is written back (R166). -/
def execCorrectionWriteback (m : Fin 1536) (s : State) : Host.Outcome State Fault Refusal :=
  onDev (fun d =>
    match (d.block m.val).writeback with
    | a :: _ => d.writeBack m.val a
    | [] => d) s

/-- The blocks whose bucket holds a level, each once. -/
def Dev.leaking (d : Dev) : List Nat :=
  ((d.regs.filter (fun e => e.1 % 256 == 7 && 0x4800 ≤ e.1 / 256 && e.1 / 256 ≤ 0x4DFF)).map
    (fun e => e.1 / 256 - 0x4800)).eraseDups

/-- LEAK_INSTANT: every block's bucket leaks at one instant (R173). -/
def execLeakInstant (s : State) : Host.Outcome State Fault Refusal :=
  onDev (fun d => d.leaking.foldl (fun e m => e.leak m) d) s

/-- PATROL_SCRUB_VISIT: the patrol visits the next word; it pauses for a requested scrub, and PATROL_PASS = 0 stops it
(R175, R176). A visit to a block whose patch is being committed does not wait and finds the contents that stand then: DESIGN CHOICE
(entry 60), since R178 speaks of a requested scrub only. -/
def execPatrolScrubVisit (up : BitVec 80) (s : State) : Host.Outcome State Fault Refusal :=
  onDev (fun d =>
    if !d.thimble || d.scrub.isSome || d.rdN 0x3700 5 = 0 then d
    else
      let m := d.patrol / 1024
      let a := d.patrol % 1024
      let d := d.setBlock m ((d.block m).upset a up)
      let d := (d.scrubWord m a true).2
      if d.patrol + 1 = 1536 * 1024 then ({ d with patrol := 0 }).count 0x3700 6 32 1
      else { d with patrol := d.patrol + 1 }) s

/-! ### Requested scrub (R176 to R179) -/

/-- A patch's commit is running (R341): its edge gates are closed for it. -/
def Dev.committing (d : Dev) (q : Nat) : Bool :=
  match d.config.staged with
  | some i => i.committing && i.header.patchMask.testBit q
  | none => false

def scrubFirst (v : Word) : Nat := bits v 10 0
def scrubLast (v : Word) : Nat := bits v 21 11

/-- A block of the range lies in a patch that is being committed (R178). -/
def Dev.scrubMeets (d : Dev) (first last : Nat) : Bool :=
  (List.range 54).any (fun q => d.committing q && (List.range (last + 1)).any (fun m => first ≤ m && blockPatch m == q))

/-- SCRUB_REQUEST. COMMIT_WAIT is set here already when a block of the range is in a patch being committed at the request: DESIGN CHOICE
(entry 60), since R178 gives no instant at which the scrub reaches each block. -/
def actScrubRequest : Act where
  check := fun _ w =>
    let v := objScrubRequest.valueOf w
    if scrubLast v < scrubFirst v || 1535 < scrubLast v then 0x0721 else 0
  allow := fun d _ =>
    if bit (d.rd 0x3701 1) 15 then 0x0720
    else if d.core.state == .boot || d.core.state == .fitting then 0x0722 else 0
  apply := fun d w =>
    let v := objScrubRequest.valueOf w
    let d := (d.setFlag 0x3701 1 15 true).wrN 0x3701 3 0
    let wait := d.scrubMeets (scrubFirst v) (scrubLast v)
    { d with scrub := some {
        first := scrubFirst v, last := scrubLast v, correct := bit v 31, accepted := d.core.time, commitWait := wait } }
  refuse := fun code d => d.wrN 0x3701 3 code

/-- SCRUB_REQUEST (R176). -/
def execScrubRequest (w : Wr) (s : State) : Host.Outcome State Fault Refusal :=
  onDev (rowWrite objScrubRequest actScrubRequest 0x3701 2 w) s

/-- What a scrub counts (R179). -/
structure ScrubSum where
  single : Nat := 0
  double : Nat := 0
  unc : Nat := 0
  poisoned : Nat := 0
  firstBad : Option (Nat × Nat) := none
  deriving DecidableEq, Repr

/-- One word of a requested scrub. -/
def Dev.scrubStep (correct : Bool) (m a : Nat) (p : ScrubSum × Dev) : ScrubSum × Dev :=
  let r := p.2.scrubWord m a correct
  let t := p.1
  ({ single := t.single + (if r.1.cls = 1 then 1 else 0)
     double := t.double + (if r.1.cls = 2 then 1 else 0)
     unc := t.unc + (if r.1.cls = 3 then 1 else 0)
     poisoned := t.poisoned + (if r.1.cls ≠ 3 && r.1.poison then 1 else 0)
     firstBad := if r.1.cls = 3 && t.firstBad.isNone then some (m, a) else t.firstBad }, r.2)

/-- The words of a block that hold anything but the all-zero word, in order of their address. -/
def BlockSt.listed (x : BlockSt) : List Nat :=
  (List.range 1024).filter (fun a => x.words.any (fun e => e.1 == a) || x.errs.any (fun e => e.1 == a))

/-- The 32 bytes of SCRUB_SUMMARY (R179). -/
def scrubSummary (q : ScrubReq) (t : ScrubSum) (now : Nat) : List Byte :=
  let bad := t.firstBad.getD (0x7FF, 0)
  leBytes 32 (now % 2 ^ 64 * 2 ^ 192 + (now - q.accepted) % 2 ^ 32 * 2 ^ 160 + (q.last + 1 - q.first) * 1024 * 2 ^ 128 +
    t.single * 2 ^ 96 + t.double * 2 ^ 64 + min t.unc 65535 * 2 ^ 48 + min t.poisoned 65535 * 2 ^ 32 + bad.1 * 2 ^ 21 +
    bad.2 * 2 ^ 11 + q.correct.toNat * 2 ^ 10 + q.commitWait.toNat * 2 ^ 9)

/-- SCRUB_COMPLETE: every word of the range is visited in order and the summary completes as one change (R176, R179); a block whose
patch is being committed keeps it waiting (R178). ups are
the words of the range upset since their last access: block, address, bits. -/
def execScrubComplete (ups : List (Nat × Nat × BitVec 80)) (s : State) : Host.Outcome State Fault Refusal :=
  onDev (fun d =>
    match d.scrub with
    | none => d
    | some q =>
      if d.scrubMeets q.first q.last then { d with scrub := some { q with commitWait := true } }
      else
      let d := ups.foldl (fun e u => if u.1 < 1536 && u.2.1 < 1024 then e.setBlock u.1 ((e.block u.1).upset u.2.1 u.2.2) else e) d
      let todo := (d.blocks.filter (fun e => q.first ≤ e.1 && e.1 ≤ q.last)).flatMap (fun e => e.2.listed.map (fun a => (e.1, a)))
      let p := todo.foldl (fun p k => Dev.scrubStep q.correct k.1 k.2 p) (({} : ScrubSum), d)
      let d := { p.2 with scrub := none }
      let d := (d.setBytes 0x3702 0 (scrubSummary q p.1 d.core.time)).wrN 0x3701 3 0
      d.complete 0x3701 1 14 (some 15)) s

def execScrubAck (w : Wr) (s : State) : Host.Outcome State Fault Refusal :=
  onDev (rowWrite objScrubAck (ackAct objScrubAck 0x3701 1 14) 0x3701 4 w) s

def execBlockAck (m : Fin 1536) (w : Wr) (s : State) : Host.Outcome State Fault Refusal :=
  onDev (rowWrite objBlockAck (ackAct objBlockAck (0x4800 + m.val) 1 15) (0x4800 + m.val) 2 w) s

/-! ### Spare rows and columns (R180 to R186) -/

/-- Spares of a kind are all used: 8 rows or 2 columns, by fuse and in service together (R156, R191). -/
def noSpare (spares : Word) (column : Bool) : Bool :=
  if column then 2 ≤ bits spares 7 6 + bits spares 5 4 else 8 ≤ bits spares 15 12 + bits spares 11 8

/-- A repair accepted: REPAIR_BUSY (R184). -/
def Dev.startRepair (d : Dev) (m : Nat) (column : Bool) (n : Nat) : Dev :=
  (d.setBlock m { d.block m with repair := some (column, n) }).setFlag (0x4800 + m) 1 13 true

def repairKind (v : Word) : Nat := bits v 31 30
def repairTarget (v : Word) : Nat := bits v 8 0

def actBlockRepair (m : Nat) : Act where
  check := fun _ w =>
    let v := objBlockRepair.valueOf w
    if repairKind v = 0 || repairKind v = 3 then 0x0B05
    else if (repairKind v = 1 && 255 < repairTarget v) || (repairKind v = 2 && 319 < repairTarget v) then 0x0713 else 0
  allow := fun d w =>
    let v := objBlockRepair.valueOf w
    if bit (d.rd (0x4800 + m) 1) 13 then 0x0714
    else if noSpare (d.rd (0x4800 + m) 8) (repairKind v = 2) then 0x0712 else 0
  apply := fun d w => d.startRepair m (repairKind (objBlockRepair.valueOf w) = 2) (repairTarget (objBlockRepair.valueOf w))

/-- The automatic repair of the oldest hard fault of a block that awaits one (R183, R186): a column when another row has one in the same
column. With AUTO_REPAIR = 0 a hard fault that would find no spare sets no EXHAUSTED and sends no 0x0712: DESIGN CHOICE (entry 60), since
no repair looks for a spare then. -/
def Dev.autoRepair (d : Dev) (m : Nat) : Dev :=
  let x := d.block m
  match x.hardDue with
  | [] => d
  | (row, col) :: _ =>
    if d.rdN 0x3700 4 = 0 || x.noAuto || x.repair.isSome then d
    else
      let column := x.hard.any (fun e => e.2 == col && !(e.1 == row))
      if noSpare (d.rd (0x4800 + m) 8) column then
        ((d.setBlock m { x with noAuto := true }).setFlag (0x4800 + m) 1 11 true).logNotify 0x0712 m 0
      else d.startRepair m column (if column then col else row)

/-- BLOCK_REPAIR: a write of the object, or, with none, the automatic repair of a hard fault (R183, R185). -/
def execBlockRepair (m : Fin 1536) (w : Option Wr) (s : State) : Host.Outcome State Fault Refusal :=
  onDev (fun d =>
    match w with
    | some w => rowWrite objBlockRepair (actBlockRepair m.val) (0x4800 + m.val) 9 w d
    | none => if d.thimble then d.autoRepair m.val else d) s

/-- The words that a repair copies: 4 of a row, 256 of a column (R156, R184). -/
def repairWords (column : Bool) (n : Nat) : List Nat :=
  if column then (List.range 256).map (fun r => 4 * r + n % 4) else (List.range 4).map (fun k => 4 * n + k)

/-- One word copied into the spare: corrected, or poisoned when uncorrectable (R184). A column repair copies one bit of it: bit i alone
then stands as the corrected word has it, and whatever else the word is stays. -/
def Dev.copyWord (d : Dev) (m a : Nat) (column : Option Nat) : Dev :=
  let x := d.block m
  if (maskBits (x.err a)).length = 0 then d
  else
    let p := d.decode x a
    if p.1.cls = 3 then p.2.poisonWord m a p.1.data
    else
      let w := codeword p.1.poison p.1.data
      p.2.setBlock m (match column with
        | none => x.store a w
        | some i =>
          let one : BitVec 80 := BitVec.ofNat 80 (2 ^ i)
          { x with errs := tabSet (fun _ => 0) x.errs a ((x.err a &&& ~~~ one) ||| ((w ^^^ x.word a) &&& one)) })

/-- BLOCK_REPAIR_COMPLETE: the spare is in, the counts and the soft map follow (R181, R184); HARD_PENDING stays while another hard fault
awaits its repair (R183, R191). mapFails says that the write of the soft-repair map failed. -/
def execBlockRepairComplete (m : Fin 1536) (mapFails : Bool) (s : State) : Host.Outcome State Fault Refusal :=
  onDev (fun d =>
    match (d.block m.val).repair with
    | none => d
    | some (column, n) =>
      let idx := 0x4800 + m.val
      let d := (repairWords column n).foldl (fun e a => e.copyWord m.val a (if column then some (n / 4) else none)) d
      let due := (d.block m.val).hardDue.filter (fun e => (if column then e.2 else e.1) != n)
      let d := d.setBlock m.val { d.block m.val with repair := none, hardDue := due }
      let d := (d.setFlag idx 1 13 false).setFlag idx 1 10 (!due.isEmpty)
      let sp := d.rd idx 8
      let d := d.wr idx 8 (if column then setBits sp 5 4 (bits sp 5 4 + 1) else setBits sp 11 8 (bits sp 11 8 + 1))
      let d := d.log (if column then 0x0711 else 0x0710) m.val n
      if mapFails then d.log 0x0715 m.val 0
      else { d with nv := { d.nv with softMap := d.nv.softMap ++ [(m.val, column, n)] } }) s

/-! ### Flip injection (R187 to R189) -/

/-- The life-cycle states that permit flip injection (R378). -/
def injectPermitted (lc : Nat) : Bool := lc = 1 || lc = 2 || lc = 3 || lc = 5

def actFlipInject (m : Nat) : Act where
  allow := fun d _ =>
    if (d.block m).injected.isSome then 0x0730
    else if !injectPermitted (d.rdN 0x2200 1 % 128) then 0x0731 else 0
  apply := fun d w =>
    let v := objBlockFlipInject.valueOf w
    let a := bits v 9 0
    let p := d.decode (d.block m) a
    let mask := BitVec.ofNat 80 (bits v 31 16 * 2 ^ 64 + d.rdN (0x4800 + m) 0x0A)
    let x := ((p.2.block m).store a (codeword p.1.poison p.1.data)).upset a mask
    p.2.setBlock m { x with injected := some a }

/-- FLIP_INJECT (R187). -/
def execFlipInject (m : Fin 1536) (w : Wr) (s : State) : Host.Outcome State Fault Refusal :=
  onDev (rowWrite objBlockFlipInject (actFlipInject m.val) (0x4800 + m.val) 0x0B w) s

/-! ### The lining's access (R169) -/

/-- The port of a block that is lining-bound, A before B (R434). -/
def liningPort (cfg : Word) : Option Bool :=
  if portBinding cfg false = 2 then some false else if portBinding cfg true = 2 then some true else none

/-- A token of a lining-bound port (R169): its 64 bytes, and of each word POISON, UNCORRECTABLE and CORRECTED. -/
structure LiningToken where
  bytes : List Byte := []
  poison : List Bool := []
  uncorrectable : List Bool := []
  corrected : List Bool := []
  deriving DecidableEq, Repr

/-- The first word of a token that reports POISON or UNCORRECTABLE (R434). -/
def LiningToken.firstBad (t : LiningToken) : Option Nat :=
  (List.range 8).find? (fun k => t.poison.getD k false || t.uncorrectable.getD k false)

/-- A READ of 8 words from word a on. -/
def Dev.liningFetch (d : Dev) (m a : Nat) : LiningToken × Dev :=
  (List.range 8).foldl (fun (p : LiningToken × Dev) k =>
    let r := p.2.portRead m (a + k) 0
    let t := p.1
    ({ bytes := t.bytes ++ leBytes 8 r.1.data.toNat, poison := t.poison ++ [r.1.poison]
       uncorrectable := t.uncorrectable ++ [r.1.cls == 3], corrected := t.corrected ++ [r.1.cls == 1 || r.1.cls == 2] }, r.2)) ({}, d)

/-- The access of the lining-bound port of block m (R157, R191): 1 read-only, 2 write-only. -/
def Dev.liningAccess (d : Dev) (m : Nat) : Nat :=
  let cfg := d.rd (0x4800 + m) 3
  portAccess cfg ((liningPort cfg).getD false)

/-- A token of 8 words from word a on written, each whole with POISON = 0 (R434); a read-only port performs it as READ (R157). -/
def Dev.liningWrite (d : Dev) (m a : Nat) (data : List Byte) : Dev :=
  if d.liningAccess m = 1 then (d.liningFetch m a).2
  else
    forEach 8 (fun k e => e.setBlock m ((e.block m).store (a + k) (codeword false (BitVec.ofNat 64 (leAt data (8 * k) 8))))) d

/-- A token of 8 words from word a on read (R169). A write-only port performs it as WRITE (R157): the request of a read carries no data,
so each word takes a free value (entry 4), and the token is 64 zero bytes, as the response to a write is (R159). -/
def Dev.liningRead (d : Dev) (m a : Nat) : LiningToken × Dev :=
  if d.liningAccess m = 2 then
    ({ bytes := List.replicate 64 0 }, forEach 8 (fun k e =>
      let f := e.free
      f.2.setBlock m ((f.2.block m).store (a + k) (codeword false f.1))) d)
  else d.liningFetch m a

/-! ### Contents at changes (R171) -/

/-- The contents of a block all zero; spares, counters and the bucket stay (R171). -/
def BlockSt.cleared (x : BlockSt) : BlockSt :=
  { x with words := [], errs := [], injected := none, writeback := [] }

/-- Every block whose patch passes p holds all-zero words (R171). -/
def Dev.clearBlocks (d : Dev) (p : Nat → Bool) : Dev :=
  d.blocks.foldl (fun e k => if p (blockPatch k.1) then e.setBlock k.1 (e.block k.1).cleared else e) d

end Sys2Proof.Machine
end

