-- ==== Sys2Proof/Machine/Spool.lean ====
section
/-! DEFINITION. The spool (R431 to R450): descriptors, endpoints, bursts and beats, completion, bus errors, aborts, and what a
change of device state or a partial commit does to a channel. -/

namespace Sys2Proof.Machine

/-! ### Descriptors (R436) and the channel's configuration (R449) -/

def Descr.host (x : Descr) : Nat := (x.raw.extractLsb' 0 64).toNat
def Descr.length (x : Descr) : Nat := (x.raw.extractLsb' 64 32).toNat
def Descr.device (x : Descr) : Nat := (x.raw.extractLsb' 96 32).toNat
def Descr.irq (x : Descr) : Bool := x.raw.getLsbD 159
def Descr.fromHost (x : Descr) : Bool := x.raw.getLsbD 158
def Descr.eop (x : Descr) : Bool := x.raw.getLsbD 157
def Descr.own (x : Descr) : Bool := x.raw.getLsbD 248

/-- The beats of the descriptor. -/
def Descr.beats (x : Descr) : Nat := x.length / 64

def Dev.spCfg (d : Dev) (c : Nat) : Word := d.rd (0x3400 + c) 6
def endKind (cfg : Word) : Nat := bits cfg 31 29
def endIndex (cfg : Word) : Nat := bits cfg 15 0
/-- BOBBIN_SIDE: the read side, to host. -/
def readSide (cfg : Word) : Bool := bit cfg 22
/-- BURST in beats. -/
def burstBeats (cfg : Word) : Nat := 2 ^ bits cfg 26 25

def Dev.spHead (d : Dev) (c : Nat) : Nat := d.rdN (0x3400 + c) 8
def Dev.spTail (d : Dev) (c : Nat) : Nat := d.rdN (0x3400 + c) 9
def Dev.spRing (d : Dev) (c : Nat) : Nat := d.rdN (0x3400 + c) 5

/-- The head of the bobbin combination that a kind 1 endpoint is served by (R432). -/
def Dev.spBobbin (d : Dev) (c : Nat) : Nat := d.bobbinHead (endIndex (d.spCfg c) % 768)

/-- The bobbin has a lining side where the configuration names it (R115, R432). -/
def Dev.bobbinBound (d : Dev) (c : Nat) : Bool :=
  let cfg := d.bobbinCfg (d.spBobbin c)
  if readSide (d.spCfg c) then readLining cfg else writeLining cfg

/-- The endpoint is bound on the configured side (R438). -/
def Dev.endpointBound (d : Dev) (c : Nat) : Bool :=
  match endKind (d.spCfg c) with
  | 1 => d.bobbinBound c
  | 2 | 3 | 4 => true
  | _ => false

/-- A fetched descriptor is invalid (R437). -/
def Dev.descrInvalid (d : Dev) (c : Nat) (x : Descr) : Bool :=
  let reserved := (x.raw.extractLsb' 249 7).toNat ≠ 0 || (x.raw.extractLsb' 128 29).toNat ≠ 0 ||
    (x.raw.extractLsb' 208 2).toNat ≠ 0
  let shape := x.host % 64 ≠ 0 || x.length % 64 ≠ 0 || x.length < 64 || 16777152 < x.length
  let endpoint :=
    match endKind (d.spCfg c) with
    | 1 => x.device ≠ 0 || (x.fromHost == readSide (d.spCfg c))
    | 2 =>
      let m := x.device / 1024
      let a := x.device % 1024
      1535 < m || a % 8 ≠ 0 || 1024 < a + x.length / 8 || (liningPort (d.rd (0x4800 + m) 3)).isNone
    | 3 => x.device ≠ 0 || x.fromHost
    | 4 => 2 ^ 22 ≤ x.device || (x.device / 2 ^ 19) % 2 = 1 || x.device % 64 ≠ 0 ||
        524288 < x.device % 2 ^ 19 + x.length || x.fromHost
    | _ => true
  reserved || shape || endpoint

/-! ### Events and completion -/

/-- The reason code of a cause of SPOOL_ERROR_INFO (R450). -/
def causeReason (cause : Nat) : Nat :=
  if cause ≤ 2 then 0x0610 else if cause = 3 then 0x0611 else if cause = 4 then 0x0612 else if cause = 5 then 0x0613
  else if cause = 6 then 0x0620 else 0x0622

/-- A channel event completes (R400, R449). -/
def Dev.spoolEvent (d : Dev) (c result reason info : Nat) (addr : Word) : Dev :=
  let idx := 0x3400 + c
  let d := d.wr idx 1 (setBits (d.rd idx 1) 10 8 result)
  ((((d.complete idx 1 15 none).wr idx 0x0A addr).wrN idx 0x0B info).wrN idx 0x0C reason)

/-- SPOOL_ERROR_INFO from its fields. -/
def errorInfo (kind : Nat) (fromHost : Bool) (cause index : Nat) : Nat :=
  kind * 2 ^ 28 + fromHost.toNat * 2 ^ 27 + cause * 2 ^ 24 + index

/-- The channel with nothing of a descriptor at hand. -/
def SpoolSt.clean (x : SpoolSt) : SpoolSt :=
  { x with cur := none, issued := 0, done := 0, moved := 0, buf := [], eop := false, ended := false, gap := none,
           poisonAt := none, abort := none }

/-- The status of the descriptor at hand for a completion and cause, with COMMIT (R436). -/
def SpoolSt.status (x : SpoolSt) (completion cause : Nat) (more commit : Bool) : Nat :=
  let g := x.gap.getD (0, false)
  completion * 2 ^ 28 + cause * 2 ^ 24 + x.poisonAt.isSome.toNat * 2 ^ 23 + x.gap.isSome.toNat * 2 ^ 22 +
    x.eop.toNat * 2 ^ 21 + more.toNat * 2 ^ 20 + g.2.toNat * 2 ^ 19 + commit.toNat * 2 ^ 18 + g.1

/-- The status writeback of the descriptor at HEAD (R439): bytes 20 to 30, HEAD advances, byte 31 clears OWN. -/
def Dev.writeback (d : Dev) (c status : Nat) : Dev :=
  let idx := 0x3400 + c
  let x := d.chan c
  let h := d.spHead c
  let addr := d.rdN idx 4 + 32 * h
  let d := d.emit (.hostWrite (addr + 20) (leBytes 4 x.moved ++ leBytes 4 status ++ leBytes 3 (x.poisonAt.getD 0)))
  let d := d.wrN idx 8 (if h + 1 < d.spRing c then h + 1 else 0)
  let d := d.emit (.hostWrite (addr + 31) [0])
  let d := d.count idx 0x0E 32 1
  let d := if x.poisonAt.isSome then d.count 0x3410 4 32 1 else d
  d.setChan c { x.clean with written := x.written + 1 }

/-- A channel halts without a writeback (R437, R442). -/
def Dev.spoolHalt (d : Dev) (c kind cause index : Nat) (fromHost : Bool) : Dev :=
  let f := d.free
  let d := f.2.setChan c { (f.2.chan c).clean with state := .halted, fetched := none, fetchFail := none }
  let reason := causeReason cause
  let d := if cause = 6 then d else d.log reason c 0
  ((d.spoolEvent c 0 reason (errorInfo kind fromHost cause index) f.1).notify reason c).emit (.msix c)

/-- The descriptor at HEAD fails: written back as ERROR, and the channel halts (R437, R443, R446). -/
def Dev.spoolFail (d : Dev) (c kind cause : Nat) (fromHost : Bool) (addr : Word) : Dev :=
  let x := d.chan c
  let h := d.spHead c
  let d := d.writeback c (x.status 2 cause false false)
  let d := d.setChan c { d.chan c with state := .halted, fetched := none, fetchFail := none }
  let d := d.emit (.msix c)
  let reason := causeReason cause
  let d := if cause = 6 then d else d.log reason c 0
  (d.spoolEvent c (if x.abort.isSome then 3 else 0) reason (errorInfo kind fromHost cause h) addr).notify reason c

/-- A fetched descriptor starts, or halts the channel as invalid or not owned (R437). -/
def Dev.startDescr (d : Dev) (c : Nat) (x : Descr) : Dev :=
  if !x.own then d.spoolHalt c 1 6 (d.spHead c) true
  else if d.descrInvalid c x then
    let f := d.free
    f.2.spoolFail c 1 6 true f.1
  else d.setChan c { (d.chan c).clean with cur := some x }

/-- The descriptor fetched ahead becomes the one in progress, or its failed fetch halts the channel. -/
def Dev.promote (d : Dev) (c : Nat) : Dev :=
  let x := d.chan c
  if x.state ≠ .running then d
  else match x.fetched, x.fetchFail with
    | some r, _ => (d.setChan c { x with fetched := none }).startDescr c r
    | none, some cause => d.spoolHalt c 1 cause (d.spHead c) true
    | none, none => d

/-- The packet continues in the next descriptor (R433, R463): LENGTH was reached first. -/
def Dev.continues (d : Dev) (c : Nat) (x : SpoolSt) : Bool :=
  match endKind (d.spCfg c) with
  | 1 => readSide (d.spCfg c) && packetMode (d.bobbinCfg (d.spBobbin c)) && !x.eop && x.gap.isNone
  | 3 => !x.eop
  | _ => false

/-- The descriptor at hand ends well (R439). -/
def Dev.descrDone (d : Dev) (c : Nat) (commit : Bool) : Dev :=
  let x := d.chan c
  match x.cur with
  | none => d
  | some k =>
    let more := !commit && d.continues c x
    let d := d.writeback c (x.status 1 0 more commit)
    let d := if k.irq then d.emit (.msix c) else d
    d.promote c

/-- An accepted abort or state stop whose issued bursts are done (R445, R447): the descriptor, if one was posted, is
written back ABORTED with the exact count, and the channel is STOPPED. -/
def Dev.abortEnd (d : Dev) (c result : Nat) : Dev :=
  let x := d.chan c
  let h := d.spHead c
  let dir : Bool := match x.cur with
    | some k => k.fromHost
    | none => false
  let d := if h = d.spTail c && x.cur.isNone then d else (d.writeback c (x.status 3 0 false false)).emit (.msix c)
  let d := d.setChan c { (d.chan c).clean with state := .stopped, fetched := none, fetchFail := none }
  let d := if result = 4 then d.log 0x0640 c 0 else d
  let f := d.free
  f.2.spoolEvent c result (if result = 4 then 0x0640 else 0) (errorInfo 0 dir 0 h) f.1

/-- What follows once beats are done: an abort ends, or the descriptor does. -/
def Dev.settle (d : Dev) (c : Nat) : Dev :=
  let x := d.chan c
  match x.cur with
  | none => d
  | some k =>
    if x.issued ≠ x.done then d
    else match x.abort with
      | some r => d.abortEnd c r
      | none => if x.ended || x.issued = k.beats then d.descrDone c false else d

/-! ### Endpoints, to host -/

/-- One beat from the words at hand, k read words of rb bytes at most: its valid bytes, whether it ends a packet, words taken.
A gap marker ends it before the marker; none when neither a full beat nor an end is there (R433). -/
def beatOf (rb : Nat) : Nat → List BWord → Option (List Byte × Bool × Nat)
  | 0, _ => some ([], false, 0)
  | _ + 1, [] => none
  | k + 1, w :: t =>
    if w.tag.getLsbD 7 then some ([], false, 0)
    else if w.tag.getLsbD 6 then
      let n := w.tag.toNat % 64
      some (leBytes (if n = 0 then rb else n) w.data.toNat, true, 1)
    else (beatOf rb k t).map (fun r => (leBytes rb w.data.toNat ++ r.1, r.2.1, r.2.2 + 1))

/-- The next word is a gap marker. -/
def atMarker : List BWord → Option (Nat × Bool)
  | w :: _ => if w.tag.getLsbD 7 then some (w.data.toNat % 65536, w.data.getLsbD 31) else none
  | [] => none

/-- Beats ready at a bobbin's read side, at most n. -/
def readyBeats (rb : Nat) : Nat → List BWord → Nat
  | 0, _ => 0
  | n + 1, l =>
    match beatOf rb (64 / rb) l with
    | some (_, eop, used) => if used = 0 then 0 else if eop then 1 else 1 + readyBeats rb n (l.drop used)
    | none => 0

/-- Words taken from the bobbin's lining read side. -/
def Dev.takeWords (d : Dev) (h : Nat) : Nat → Dev
  | 0 => d
  | n + 1 => ((d.bobbinTake h false).1).takeWords h n

/-- One byte of a swatch slot. -/
def SwatchSlot.byteAt (x : SwatchSlot) (off : Nat) : Byte :=
  match x.data.find? (fun p => p.1 ≤ off && off < p.1 + p.2.length) with
  | some p => (p.2[off - p.1]?).getD 0
  | none => 0

/-- Bytes of swatch slot s as a reader gets them: the panel section reads as 0 where the life-cycle state does not permit panel
capture (R378, R474). -/
def Dev.slotBytes (d : Dev) (s off n : Nat) : List Byte :=
  let x := tabGet (fun _ => ({} : SwatchSlot)) d.swatch.slots s
  let lc := d.rdN 0x2200 1 % 128
  let redacted := lc = 4 || lc = 6
  (List.range n).map (fun k =>
    if redacted && 0x100 ≤ off + k && off + k < 0x72D00 then 0 else x.byteAt (off + k))

/-- One beat is granted to host: its bytes are taken from the endpoint (R432 to R434, R463, R474). A gap marker behind the full beat with
which the descriptor reaches LENGTH is left for the next descriptor (R433). -/
def Dev.grantBeat (d : Dev) (c : Nat) : Dev :=
  let x := d.chan c
  match x.cur with
  | none => d
  | some k =>
    let push (d : Dev) (b : List Byte) (eop ended : Bool) (gap : Option (Nat × Bool)) : Dev :=
      d.setChan c { x with issued := x.issued + 1, buf := x.buf ++ [b], eop := eop, ended := ended, gap := gap }
    match endKind (d.spCfg c) with
    | 1 =>
      let h := d.spBobbin c
      let rb := rdWidth (d.bobbinCfg h) / 8
      match beatOf rb (64 / rb) (d.bobbin h).words with
      | none => d
      | some (b, eop, used) =>
        let d := d.takeWords h used
        match atMarker (d.bobbin h).words with
        | some g =>
          if eop then push d b true true none
          else if used = 64 / rb && x.issued + 1 = k.beats then push d b false false none
          else push (d.bobbinTake h false).1 b false true (some g)
        | none => push d b eop eop none
    | 2 =>
      let r := d.liningRead (k.device / 1024) (k.device % 1024 + 8 * x.issued)
      let d := push r.2 r.1.bytes false false none
      match r.1.firstBad with
      | some w =>
        let y := d.chan c
        let d := d.setChan c { y with poisonAt := some (y.poisonAt.getD (64 * x.issued + 8 * w)), sent621 := true }
        if y.sent621 then d else d.notify 0x0621 c
      | none => d
    | 3 =>
      match d.tally.buffer with
      | [] => d
      | r :: rest =>
        let left := r.drop 64
        let d := { d with tally := { d.tally with buffer := if left.isEmpty then rest else left :: rest } }
        push d (r.take 64) left.isEmpty left.isEmpty none
    | _ => push d (d.slotBytes (k.device / 2 ^ 20 % 4) (k.device % 2 ^ 19 + 64 * x.issued) 64) false false none

/-- n beats granted to host. -/
def Dev.grantBeats (d : Dev) (c : Nat) : Nat → Dev
  | 0 => d
  | n + 1 => (d.grantBeat c).grantBeats c n

/-! ### Arbitration (R440, R441) -/

/-- The pacing condition follows the bobbin's fill (R441). -/
def Dev.pace (d : Dev) (c : Nat) : Dev :=
  let cfg := d.spCfg c
  if !bit cfg 24 then d
  else
    let x := d.chan c
    let fill := (d.bobbin (d.spBobbin c)).words.length
    let v := d.rd (0x3400 + c) 7
    let up := bits v 31 16 ≤ fill
    let down := fill ≤ bits v 15 0
    let opens := if readSide cfg then up else down
    let closes := if readSide cfg then down else up
    d.setChan c { x with paceOpen := if opens then true else if closes then false else x.paceOpen }

/-- The block that a descriptor names stands in a patch whose commit runs: its accesses wait for the end of it (R171, R448). -/
def Dev.lockedBlock (d : Dev) (k : Descr) : Bool := d.committing (blockPatch (k.device / 1024))

/-- What is left of the to-host descriptor at a bobbin ends at a packet end or a gap marker among the words at hand: it then ends whether
the channel is open or not (R433, R441; DEDUCED, entry 47). -/
def Dev.endInSight (d : Dev) (c left : Nat) : Bool :=
  let h := d.spBobbin c
  let rb := rdWidth (d.bobbinCfg h) / 8
  endKind (d.spCfg c) == 1 && ((d.bobbin h).words.take (left * (64 / rb))).any (fun w => w.tag.getLsbD 7 || w.tag.getLsbD 6)

/-- The beats of a burst ready on channel c in a direction; 0 when none (R440). -/
def Dev.burstReady (d : Dev) (c : Nat) (fromHost : Bool) : Nat :=
  let x := d.chan c
  let cfg := d.spCfg c
  match x.cur with
  | none => 0
  | some k =>
    let left := k.beats - x.issued
    let shut := bit cfg 24 && !x.paceOpen && (fromHost || !d.endInSight c left)
    if x.state ≠ .running || x.abort.isSome || x.ended || k.fromHost ≠ fromHost || shut then 0
    else
      let edge := (4096 - (k.host + 64 * x.issued) % 4096) / 64
      let most := min (min (burstBeats cfg) left) edge
      match endKind cfg with
      | 1 =>
        let h := d.spBobbin c
        let bc := d.bobbinCfg h
        let b := d.bobbin h
        if fromHost then
          let free := (capacity bc - b.words.length) * rdWidth bc - b.partCount * wrWidth bc
          min most (free / 512 - (x.issued - x.done))
        else min most (readyBeats (rdWidth bc / 8) most b.words)
      | 2 => if d.lockedBlock k then 0 else most
      | 3 =>
        match d.tally.buffer with
        | [] => 0
        | r :: _ => min most (r.length / 64)
      | _ => most

/-- WAITING of SPOOL_STATUS: RUNNING and waiting for a descriptor, data, room or pacing (R438, R449). -/
def Dev.spoolWaiting (d : Dev) (c : Nat) : Bool :=
  let x := d.chan c
  let more : Bool := match x.cur with
    | some k => !x.ended && x.abort.isNone && decide (x.issued < k.beats)
    | none => true
  x.state == .running && more && d.burstReady c true == 0 && d.burstReady c false == 0

/-- A to-host descriptor whose endpoint shows a gap marker next, and nothing outstanding, ends there, paced or not (R433,
R441). -/
def Dev.markerEnd (d : Dev) (c : Nat) : Dev :=
  let x := d.chan c
  match x.cur with
  | none => d
  | some k =>
    if x.state ≠ .running || k.fromHost || endKind (d.spCfg c) ≠ 1 || x.ended || x.issued ≠ x.done then d
    else
      let h := d.spBobbin c
      match atMarker (d.bobbin h).words with
      | some g => ((d.bobbinTake h false).1.setChan c { x with ended := true, gap := some g }).settle c
      | none => d

/-- The channel that arbitration grants: highest priority first, round robin within a level (R440). -/
def Dev.arbitrate (d : Dev) (fromHost : Bool) : Option Nat :=
  let ready := (List.range 16).filter (fun c => 0 < d.burstReady c fromHost)
  let level := (List.range 4).find? (fun p => ready.any (fun c => bits (d.spCfg c) 28 27 == p))
  level.bind (fun p =>
    let last := tabGet (fun _ => 15) d.rr (4 * fromHost.toNat + p)
    let order := (List.range 16).map (fun k => (last + 1 + k) % 16)
    order.find? (fun c => ready.contains c && bits (d.spCfg c) 28 27 == p))

/-- The i-th read word from now on at the bobbin of channel c is uncorrectable: a gap marker with ECC = 1 takes its place, 0x0311 logged and
notified (R127). -/
def Dev.spoilWord (d : Dev) (c i : Nat) : Dev :=
  let h := d.spBobbin c
  let x := d.bobbin h
  if i < x.words.length then (d.setBobbin h { x with words := x.words.set i eccMarker }).logNotify 0x0311 h 0 else d

/-- What the burst granted to host reads: bad names the first read word of a bobbin's lining read side that is found uncorrectable in it.
The burst then ends at the word before, and the descriptor at the marker (R127, R433). -/
def Dev.grantBurst (d : Dev) (c n : Nat) (bad : Option (Fin 64)) : Dev :=
  let rb := rdWidth (d.bobbinCfg (d.spBobbin c)) / 8
  match bad.filter (fun i => endKind (d.spCfg c) == 1 && i.val < n * (64 / rb)) with
  | none => d.grantBeats c n
  | some i =>
    let d := d.spoilWord c i.val
    let n := d.burstReady c false
    if n = 0 then d.markerEnd c else d.grantBeats c n

/-- BURST_GRANT: one burst of the direction is granted (R440). From host, its reads are asked for. -/
def execBurstGrant (b : Burst) (s : State) : Host.Outcome State Fault Refusal :=
  onDev (fun d =>
    let d := forEach 16 (fun c e => (e.pace c).markerEnd c) d
    match d.arbitrate b.fromHost with
    | none => d
    | some c =>
      let n := d.burstReady c b.fromHost
      let d := { d with rr := tabSet (fun _ => 15) d.rr (4 * b.fromHost.toNat + bits (d.spCfg c) 28 27) c }
      if b.fromHost then
        let x := d.chan c
        match x.cur with
        | some k => (d.setChan c { x with issued := x.issued + n }).emit (.hostRead (k.host + 64 * x.issued) (64 * n))
        | none => d
      else d.grantBurst c n b.bad) s

/-- A from-host beat is written into its endpoint (R433, R434). -/
def Dev.storeBeat (d : Dev) (c : Nat) (k : Descr) (beat : Nat) (data : BitVec 512) : Dev :=
  match endKind (d.spCfg c) with
  | 1 =>
    let h := d.spBobbin c
    let w := wrWidth (d.bobbinCfg h)
    let n := 512 / w
    forEach n (fun i e =>
      let last : Bool := k.eop && beat + 1 == k.beats && i + 1 == n
      e.bobbinWrite h ((data.extractLsb' (w * i) w).setWidth 64) (if last then 8 else 0)) d
  | _ => d.liningWrite (k.device / 1024) (k.device % 1024 + 8 * beat) (leBytes 64 data.toNat)

/-- BEAT_COMPLETE: the next issued beat of channel c, in address order, completes; data is what the host returned (R433). -/
def execBeatComplete (c : Fin 16) (data : BitVec 512) (s : State) : Host.Outcome State Fault Refusal :=
  onDev (fun d =>
    let x := d.chan c.val
    match x.cur with
    | none => d
    | some k =>
      if x.issued ≤ x.done || (k.fromHost && endKind (d.spCfg c.val) == 2 && d.lockedBlock k) then d
      else
        let idx := 0x3400 + c.val
        if k.fromHost then
          let d := d.storeBeat c.val k x.done data
          let d := (d.count idx 0x0D 48 64).count 0x3410 3 48 64
          (d.setChan c.val { x with done := x.done + 1, moved := x.moved + 64 }).settle c.val
        else match x.buf with
          | [] => d
          | b :: rest =>
            let d := d.emit (.hostWrite (k.host + 64 * x.done) b)
            let d := (d.count idx 0x0D 48 b.length).count 0x3410 2 48 b.length
            (d.setChan c.val { x with done := x.done + 1, moved := x.moved + b.length, buf := rest }).settle c.val) s

/-- DESCRIPTOR_FETCH: the descriptor at HEAD, or the one after it while HEAD is in progress, never beyond TAIL (R437). -/
def execDescriptorFetch (c : Fin 16) (raw : BitVec 256) (s : State) : Host.Outcome State Fault Refusal :=
  onDev (fun d =>
    let x := d.chan c.val
    let h := d.spHead c.val
    let next := if h + 1 < d.spRing c.val then h + 1 else 0
    if x.state ≠ .running || h = d.spTail c.val then d
    else if x.cur.isNone then d.startDescr c.val { raw := raw }
    else if x.fetched.isNone && x.fetchFail.isNone && next ≠ d.spTail c.val then
      d.setChan c.val { x with fetched := some { raw := raw } }
    else d) s

/-- BUS_ERROR: kind 1 a descriptor fetch, 2 the next beat of the descriptor in progress, 3 the status writeback of the last
descriptor, which may have ended the channel's run; cause 1 to 5 (R442 to R446). -/
def execBusError (c : Fin 16) (kind : Fin 4) (cause : Fin 6) (s : State) : Host.Outcome State Fault Refusal :=
  onDev (fun d =>
    let x := d.chan c.val
    let h := d.spHead c.val
    if (x.state ≠ .running && kind.val ≠ 3) || cause.val = 0 then d
    else if kind.val = 1 then
      if x.cur.isNone then if h = d.spTail c.val then d else d.spoolHalt c.val 1 cause.val h true
      else d.setChan c.val { x with fetchFail := some cause.val }
    else if kind.val = 2 then
      match x.cur with
      | some k =>
        if x.done < x.issued then d.spoolFail c.val 2 cause.val k.fromHost (word (k.host + 64 * x.done)) else d
      | none => d
    else if kind.val = 3 then
      if x.written = 0 then d
      else d.spoolHalt c.val 3 cause.val (if h = 0 then d.spRing c.val - 1 else h - 1) false
    else d) s

/-! ### Commands (R438, R445) -/

/-- INDEX was written back since the last START (R445). -/
def Dev.wasWritten (d : Dev) (c i : Nat) : Bool :=
  let n := d.spRing c
  let back := (d.spHead c + n - i) % n
  let ahead := (i + n - d.spHead c) % n
  let posted := (d.spTail c + n - d.spHead c) % n
  i < n && posted ≤ ahead && 1 ≤ back && back ≤ (d.chan c).written

/-- SPOOL_COMMAND: START and ABORT. -/
def actSpoolCommand (c : Nat) : Act where
  check := fun _ w =>
    let op := bits (objSpoolCommand.valueOf w) 31 24
    if op = 1 || op = 2 then 0 else 0x0B05
  allow := fun d w =>
    let v := objSpoolCommand.valueOf w
    let i := bits v 15 0
    let x := d.chan c
    if bits v 31 24 = 1 then
      let other : Bool := endKind (d.spCfg c) == 3 && (List.range 16).any (fun k =>
        k != c && endKind (d.spCfg k) == 3 && (d.chan k).state == .running)
      let here : Bool := d.core.state == .unconfigured || d.core.state == .run || d.core.state == .folded
      if x.state == .running || d.spRing c ≤ i || d.spRing c = 0 || d.rdN (0x3400 + c) 4 % 32 ≠ 0 ||
        !d.endpointBound c || !here || other then 0x0602 else 0
    else if x.state != .running then 0x0630
    else if d.wasWritten c i || i = d.spHead c then 0 else 0x0631
  apply := fun d w =>
    let v := objSpoolCommand.valueOf w
    let i := bits v 15 0
    let x := d.chan c
    if bits v 31 24 = 1 then
      (d.wrN (0x3400 + c) 8 i).setChan c { x.clean with state := .running, fetched := none, fetchFail := none, written := 0 }
    else if i ≠ d.spHead c || d.wasWritten c i then
      let f := d.free
      f.2.spoolEvent c 2 0 (errorInfo 0 false 0 i) f.1
    else if x.issued = x.done then d.abortEnd c 1
    else d.setChan c { x with abort := some 1 }

/-- SPOOL_START (R438). -/
def execSpoolStart (c : Fin 16) (path : Transport) (index : BitVec 16) (s : State) : Host.Outcome State Fault Refusal :=
  onDev (rowWrite objSpoolCommand (actSpoolCommand c.val) (0x3400 + c.val) 3
    { path := path, len := 4, value := word (0x01000000 + index.toNat) }) s

/-- SPOOL_ABORT (R445). -/
def execSpoolAbort (c : Fin 16) (path : Transport) (index : BitVec 16) (s : State) : Host.Outcome State Fault Refusal :=
  onDev (rowWrite objSpoolCommand (actSpoolCommand c.val) (0x3400 + c.val) 3
    { path := path, len := 4, value := word (0x02000000 + index.toNat) }) s

/-- The registers of a channel: locked while RUNNING (R438), with the checks of R441 and R449. -/
def actSpoolReg (c sub : Nat) : Act where
  check := fun d w =>
    let n := (lowBytes 8 w.value).toNat
    if sub = 5 then
      if [0, 2, 4, 8, 16, 32, 64, 128, 256, 512, 1024, 2048, 4096, 8192, 16384, 32768].contains (n % 65536) then 0 else 0x0B05
    else if sub = 6 then
      let v := word n
      if 4 < endKind v then 0x0B05
      else if (if endKind v = 1 then 767 else 0) < endIndex v then 0x0B06 else 0
    else if sub = 9 then if d.spRing c ≤ n % 65536 then 0x0603 else 0
    else 0
  allow := fun d w =>
    let n := (lowBytes 4 w.value).toNat
    if sub ≠ 9 && (d.chan c).state == .running then 0x0601
    else
      let cfg := if sub = 6 then word n else d.spCfg c
      let pace := if sub = 7 then word n else d.rd (0x3400 + c) 7
      if (sub = 6 || sub = 7) && bit cfg 24 && (endKind cfg ≠ 1 || bits pace 31 16 ≤ bits pace 15 0) then 0x0604 else 0
  apply := fun d w => d.wr (0x3400 + c) sub (lowBytes (if sub = 5 || sub = 9 then 2 else if sub = 4 then 8 else 4) w.value)

/-- SPOOL_DOORBELL: a write of SPOOL_TAIL, or, with a page offset, a write into the channel's doorbell page (R435). -/
def execSpoolDoorbell (c : Fin 16) (page : Option Nat) (w : Wr) (s : State) : Host.Outcome State Fault Refusal :=
  onDev (fun d =>
    let idx := 0x3400 + c.val
    match page with
    | none => rowWrite objSpoolTail (actSpoolReg c.val 9) idx 9 w d
    | some off =>
      if !d.dictionary then d
      else if off ≠ 0 || w.len ≠ 4 || bits w.value 31 16 ≠ 0 then d.recordRefusal .window idx 9 0x0B04
      else rowWrite objSpoolTail (actSpoolReg c.val 9) idx 9 { w with path := .window } d) s

def execSpoolAck (c : Fin 16) (w : Wr) (s : State) : Host.Outcome State Fault Refusal :=
  onDev (rowWrite objSpoolAck (ackAct objSpoolAck (0x3400 + c.val) 1 15) (0x3400 + c.val) 2 w) s

/-! ### Device states and commits (R447, R448) -/

/-- Every RUNNING channel stops as an accepted abort would, with STATE_STOP (R447). Bursts issued are taken as done with
what has moved. -/
def Dev.spoolStop (d : Dev) : Dev :=
  forEach 16 (fun c e => if (e.chan c).state == .running then e.abortEnd c 4 else e) d

/-- Channel c loses its endpoint with the commit: KIND ENDPOINT, cause 7, 0x0622 (R443, R448). -/
def Dev.endpointLost (d : Dev) (c : Nat) (fromHost : Bool) : Dev :=
  if (d.chan c).cur.isSome then d.spoolFail c 4 7 fromHost 0
  else
    let e := d.setChan c { (d.chan c).clean with state := .halted, fetched := none, fetchFail := none }
    (((e.log 0x0622 c 0).spoolEvent c 0 0x0622 (errorInfo 4 fromHost 7 (d.spHead c)) 0).notify 0x0622 c).emit (.msix c)

/-- The block of the descriptor in progress on channel c stands in a patch of p and has no lining-bound port any more. -/
def Dev.blockLost (d : Dev) (p : Nat → Bool) (c : Nat) : Bool :=
  match (d.chan c).cur with
  | some k =>
    let m := k.device / 1024
    endKind (d.spCfg c) == 2 && p (blockPatch m) && (liningPort (d.rd (0x4800 + m) 3)).isNone
  | none => false

/-- A partial commit has replaced the patches that p holds for: it has emptied their bobbins, and may have unbound a bobbin or a block
(R448). -/
def Dev.spoolCommit (d : Dev) (p : Nat → Bool) : Dev :=
  forEach 16 (fun c e =>
    let cfg := e.spCfg c
    if (e.chan c).state != .running then e
    else if e.blockLost p c then
      e.endpointLost c (match (e.chan c).cur with
        | some k => k.fromHost
        | none => false)
    else if !(endKind cfg == 1 && p (octetPatch (endIndex cfg / 8))) then e
    else if !e.bobbinBound c then e.endpointLost c (!readSide cfg)
    else e.descrDone c true) d

end Sys2Proof.Machine
end

