-- ==== Sys2Proof/Machine/Hems.lean ====
section
/-! DEFINITION. Hems (R130 to R154): islands that run, entries written, crossing and taken, gaps and markers, status entries,
flushing, and requests into a stopped island. -/

namespace Sys2Proof.Machine

/-! ### Islands (R13, R15, R29) -/

/-- Group island g runs: its PLL is locked, in FITTING and in a wake from PLL_LOCK on, and in RUN (R29, R334). -/
def Dev.groupRuns (d : Dev) (g : Nat) : Bool :=
  d.vaux && d.tr.plls.getLsbD g &&
    (d.core.state == .run || d.core.state == .fitting || (d.core.state == .folded && d.core.steps.isSome))

/-- The island with a number of R136 runs: a cascade transmit island while its PLL is locked to TREF_0, a cascade receive island while
its link gives it a clock, or while the other one does in a ring wrapped here, whose cells come to its hem too (R13, R15, R29, R292;
DEDUCED, entry 65). -/
def Dev.islandOn (d : Dev) (n : Nat) : Bool :=
  if n < 96 then d.groupRuns (n / 8)
  else if n < 108 then d.groupRuns (n - 96)
  else if n = 109 || n = 111 then d.thimble && d.env.cascadePll
  else if n = 108 || n = 110 then
    d.thimble && ((d.link (n = 108)).up || ((d.link (n = 108)).wrapped && (d.link (n ≠ 108)).up))
  else if 112 ≤ n && n < 116 then
    d.thimble && d.core.state != .folded && !(d.bank (n - 112)).extMissing && !(d.bank (n - 112)).switching
  else d.thimble

/-- The hems of the islands named have their island stopped in this window (STOPPED, R153). -/
def Dev.markStopped (d : Dev) (p : Nat → Bool) : Dev :=
  forEach 216 (fun hem e => if p (hemIsland hem) then e.setHemWin hem { e.hemWinOf hem with stopped := true } else e) d

/-- The islands named begin to run: their hems have beats in this window from now on (R101). -/
def Dev.markRan (d : Dev) (p : Nat → Bool) : Dev :=
  forEach 216 (fun hem e =>
    let w := e.hemWinOf hem
    if p (hemIsland hem) && w.startOff then e.setHemWin hem { w with stopped := true, startOff := false } else e) d

/-- A request into a stopped island is ended (R136): logged with the island, HANG set, notified. -/
def Dev.stoppedRequest (d : Dev) (hem : Nat) : Dev :=
  (d.setHemWin hem { d.hemWinOf hem with hang := true }).logNotify 0x0350 (hemIsland hem) 0

/-- ISLAND_REQUEST_TIMEOUT: a request of the lining or of the fabric into a stopped island is ended and withdrawn; a fabric
requester receives its completion token with the error bit (R136). compare picks the compare hem of a channel island. -/
def execIslandRequestTimeout (island : Fin 120) (compare fabric : Bool) (s : State) : Host.Outcome State Fault Refusal :=
  onDev (fun d =>
    if !d.thimble || d.islandOn island.val then d
    else
      let hem := if island.val < 96 then (if compare then 96 + island.val else island.val) else 96 + island.val
      let d := d.stoppedRequest hem
      if fabric then d.emit (.token 5 island.val 1) else d) s

/-! ### Writing into a compare-direction half -/

/-- A half stored after a push that may have dropped an entry: DROPPED, and 0x0331 once a window (R141, R153). -/
def Dev.pushed (d : Dev) (h : Nat) (r : HalfSt × Bool) : Dev :=
  let d := d.putHalf h r.1
  if !r.2 then d
  else
    let hem := hemOf h
    let w := d.hemWinOf hem
    let d := d.setHemWin hem { w with dropped := true, sent331 := true }
    if w.sent331 then d else d.notify 0x0331 (hemIsland hem)

/-- The half that carries the status stream of group g (R130). -/
def statusHalf (g : Nat) : Nat := 193 + 2 * g

/-- A STATUS entry of group g (R144, R224). -/
def Dev.status (d : Dev) (g event time slice hems : Nat) : Dev :=
  let body : BitVec 256 := BitVec.ofNat 256
    (time % 2 ^ 64 * 2 ^ 192 + slice % 2 ^ 64 * 2 ^ 128 + hems * 2 ^ 16 + event * 2 ^ 8)
  d.pushed (statusHalf g) ((d.half (statusHalf g)).pushStatus body)

/-- What a notch marker says beside its hem (R143); ahead is 1 when the device notch it carries is not counted yet. -/
structure Marker where
  time : Nat
  groups : Nat
  device : Bool
  cascade : Bool
  host : Bool
  source : Nat
  ahead : Nat := 0
  deriving DecidableEq, Repr

/-- The body of the NOTCH entry placed in a hem of group g, whose slice count is n (R143). -/
def Dev.markerBody (d : Dev) (m : Marker) (g n : Nat) : BitVec 256 :=
  let own := m.groups.testBit g
  BitVec.ofNat 256 (m.time % 2 ^ 64 * 2 ^ 192 + (if own then d.rdN (0x3100 + g) 8 else 0) * 2 ^ 160 +
    (if m.device then (d.rdN 0x2004 1 + m.ahead) % 2 ^ 32 else 0) * 2 ^ 128 + n % 2 ^ 64 * 2 ^ 64 + m.cascade.toNat * 2 ^ 15 +
    m.device.toNat * 2 ^ 14 + own.toNat * 2 ^ 13 + m.host.toNat * 2 ^ 12 + g * 2 ^ 8 + m.source * 2 ^ 4)

/-- The open entry of compare hem c closed and written (R140). -/
def Dev.closeEntry (d : Dev) (c : Nat) : Dev :=
  let h := 96 + c
  let x := d.half h
  let n := x.openSlices.length
  if n = 0 then d
  else
    let data := ofLe (x.openSlices.flatMap (fun e => leBytes 8 e.1.toNat))
    let inv := maskOf n (fun i => ((x.openSlices[i]?).getD (0, false)).2)
    d.pushed h (({ x with openSlices := [] } : HalfSt).pushData (BitVec.ofNat 256 data)
      (BitVec.ofNat 8 ((n - 1) * 16 + inv)) n x.openTime)

/-- A slice of results recorded by compare hem c; the fourth closes the entry (R140). -/
def Dev.recordSlice (d : Dev) (c time : Nat) (results : BitVec 64) (invalid : Bool) : Dev :=
  let h := 96 + c
  let x := d.half h
  let x := { x with openSlices := x.openSlices ++ [(results, invalid)],
                    openTime := if x.openSlices.isEmpty then time else x.openTime }
  let d := d.setHalf h x
  if x.openSlices.length = 4 then d.closeEntry c else d

/-- A hem is enabled (R153). -/
def Dev.hemEnabled (d : Dev) (hem : Nat) : Bool := bit (d.rd (0x3000 + hem) 0x0A) 15

/-! ### The fabric side (R131) -/

/-- The to-island half of a cascade receive hem, which carries nothing (R305). -/
def carriesNone (h : Nat) : Bool := h = 216 || h = 220

/-- The tag that the fabric gives an entry: of a drive hem only COUNT (R137), of a cascade hem no bit 5 or 4 (R305). -/
def fabricTag (h : Nat) (tag : BitVec 8) : BitVec 8 :=
  if h < 96 then tag &&& 0x30 else if 216 ≤ h && h < 224 then tag &&& 0xCF else tag

/-- HEM_FABRIC_WRITE: the fabric port latches one entry; a full half does not acknowledge. -/
def execHemFabricWrite (h : Fin 240) (data : BitVec 256) (tag : BitVec 8) (s : State) : Host.Outcome State Fault Refusal :=
  onDev (fun d =>
    let x := d.half h.val
    if !d.fabricLive || toFabric h.val || carriesNone h.val || x.freeEntries = 0 then d
    else d.putHalf h.val (x.put { data := data, tag := fabricTag h.val tag })) s

/-- The events of R150 for the uncorrectable words of one entry: each is logged with its word, and ECC is set. With several such words in
one entry each word is an event of its own, the tag word last: DESIGN CHOICE (entry 60), since R150 speaks of a word and not of how many
an entry may have. -/
def Dev.hemEcc (d : Dev) (hem : Nat) (bad : BitVec 5) : Dev :=
  if bad = 0 then d
  else
    let d := d.setHemWin hem { d.hemWinOf hem with ecc := true }
    forEach 5 (fun k e => if bad.getLsbD k then e.logNotify 0x0332 (hemIsland hem) (if k = 4 then 0xFF else k) else e) d

/-- HEM_ENTRY_CROSS: the next entry of the half becomes readable on the other side, and the writer's sample of the read pointer
is renewed (R132, R134). bad names the stored words that are found uncorrectable: bits 0 to 3 data, bit 4 the tag (R150). -/
def execHemEntryCross (h : Fin 240) (bad : BitVec 5) (s : State) : Host.Outcome State Fault Refusal :=
  onDev (fun d =>
    let hem := hemOf h.val
    if !d.islandOn (hemIsland hem) then d
    else
      let x : HalfSt := { d.half h.val with seenR := (d.half h.val).rptr }
      if x.seenW = x.wptr then d.putHalf h.val x
      else
        let i := x.readerFill
        let mark (e : HEntry) : HEntry :=
          if bad = 0 then e
          else if toFabric h.val then { data := BitVec.ofNat 256 (2 ^ 31 + 1), tag := 0x80 }
          else { e with bad := bad }
        let q := x.q.modify i mark
        let x := { x with q := q, seenW := (x.seenW + 1) % 512, tokens := (x.tokens + 1) % 2 ^ 48, crossed := x.crossed + 1 }
        (d.putHalf h.val x).hemEcc hem bad) s

/-- The entry at the head of a half, when the reader sees one (R132). -/
def HalfSt.head (x : HalfSt) : Option HEntry := if x.readerFill = 0 then none else x.q.head?

/-- The head entry removed. -/
def HalfSt.pop (x : HalfSt) : HalfSt := { x with q := x.q.tail, rptr := (x.rptr + 1) % 512 }

/-- HEM_FABRIC_TAKE: the fabric takes one offered entry of a compare-direction half (R131); from a receive hem the token's
credit goes back to its source (R306): the thread, and 16 added for a westward one. -/
def execHemFabricTake (h : Fin 240) (s : State) : Host.Outcome State Fault Refusal :=
  onDev (fun d =>
    let x := d.half h.val
    match x.head with
    | none => d
    | some e =>
      if !d.fabricLive || !toFabric h.val then d
      else
        let d := d.putHalf h.val x.pop
        let d := d.emit (.token 4 h.val (e.tag.toNat * 2 ^ 256 + e.data.toNat))
        let west := h.val = 217
        if (west || h.val = 221) && e.tag.toNat < 64 then
          let t := e.tag.toNat % 16 + (if west then 16 else 0)
          let map := d.rd (0x2410 + t) 2
          d.sendCell west { type := 4, source := d.core.cascadeId, dest := bits map 15 12, body := BitVec.ofNat 256 t }
        else d) s

/-- PENDING_GAP_WRITE: the pending gap is written once an entry is free (R141). -/
def execPendingGapWrite (h : Fin 240) (s : State) : Host.Outcome State Fault Refusal :=
  onDev (fun d => d.putHalf h.val (d.half h.val).flushGap) s

/-! ### Flushing (R151, R152) -/

/-- The half emptied by a flush; an entry already offered to the fabric stays (R151). -/
def HalfSt.flush (x : HalfSt) (fabricSide : Bool) : HalfSt :=
  let kept := if fabricSide && 0 < x.readerFill then x.q.take 1 else []
  let r := (x.wptr + 512 - kept.length) % 512
  { x with q := kept, rptr := r, seenW := x.wptr, seenR := r, gap := none, cur := [], openSlices := [], discard := 0 }

/-- The half emptied by a device state (R152); its counts, and the minimum slack of the window, go on. -/
def HalfSt.emptied (x : HalfSt) : HalfSt :=
  { tokens := x.tokens, loss := x.loss, markers := x.markers, crossed := x.crossed, minSlack := x.minSlack }

/-- The head of the to-island half of bank b has left it without being applied (R265). -/
def Dev.dropHead (d : Dev) (b : Nat) : Dev := d.setBank b { d.bank b with headRead := false }

/-- Every hem emptied (R152). -/
def Dev.emptyHems (d : Dev) : Dev :=
  forEach 4 (fun b e => e.dropHead b) ((d.halves.map (fun e => e.1)).foldl (fun e h => e.setHalf h (e.half h).emptied) d)

/-- The group of a hem, if it belongs to one. -/
def hemGroup (hem : Nat) : Option Nat :=
  if hem < 96 then some (hem / 8) else if hem < 192 then some ((hem - 96) / 8)
  else if hem < 204 then some (hem - 192) else none

/-- The halves of a hem. -/
def halvesOf (hem : Nat) : List Nat := if hem < 192 then [hem] else [2 * hem - 192, 2 * hem - 191]

def actHemCommand (hem : Nat) : Act where
  allow := fun d _ =>
    if !d.islandOn (hemIsland hem) then 0x0350
    else match hemGroup hem with
      | some g => if (d.shuttle g).state == .halted then 0 else 0x0302
      | none => 0
  apply := fun d _ =>
    let d := (halvesOf hem).foldl (fun e h => e.putHalf h ((e.half h).flush (toFabric h))) d
    if 208 ≤ hem && hem < 212 then d.dropHead (hem - 208) else d
  refuse := fun code d => if code = 0x0350 then d.stoppedRequest hem else d

/-- HEM_FLUSH: 0x01 written to HEM_COMMAND (R151). -/
def execHemFlush (hem : Fin 216) (path : Transport) (s : State) : Host.Outcome State Fault Refusal :=
  onDev (rowWrite objHemCommand (actHemCommand hem.val) (0x3000 + hem.val) 0x0B { path := path, len := 1, value := 1 }) s

def execHemAck (hem : Fin 216) (w : Wr) (s : State) : Host.Outcome State Fault Refusal :=
  onDev (rowWrite objHemAck (ackAct objHemAck (0x3000 + hem.val) 1 15) (0x3000 + hem.val) 2 w) s

/-- HEM_SLACK_ALARM: the range of its half (R153). -/
def checkHemAlarm (idx sub : Nat) (w : Wr) : Nat :=
  let drive := idx < 0x3060 || (0x30C0 ≤ idx && sub = 4)
  if (if drive then 256 else 252) < (lowBytes 2 w.value).toNat then 0x0B05 else 0

end Sys2Proof.Machine
end

