-- ==== Sys2Proof/Machine/Needles.lean ====
section
/-! DEFINITION. Needles (R226 to R256): timing sets, drive actions, strobes and judgement period by period, the results sent to the
compare hems and the shuttle, and raw lanes. -/

namespace Sys2Proof.Machine

/-! ### Timing sets (R234 to R237) -/

/-- An edge field: its offset when enabled. -/
def edgeOf (v : Nat) : Option Nat := if v.testBit 31 then some (v % 2 ^ 24) else none

/-- PERIOD of set k of a table; an absent table has R237's. -/
def periodOf (table : List Byte) (k : Nat) : Nat := if table.isEmpty then 4000 else leAt table (272 * k) 3

/-- The record of channel position i in set k of a table (R234). -/
def recordOf (table : List Byte) (k i : Nat) : ChanTiming :=
  if table.isEmpty then {}
  else
    let o := 272 * k + 16 + 32 * i
    { period := periodOf table k, format := leAt table o 1 / 64, strobeEnd := edgeOf (leAt table (o + 8) 4),
      strobe := edgeOf (leAt table (o + 12) 4), eOff := edgeOf (leAt table (o + 16) 4), eRet := edgeOf (leAt table (o + 20) 4),
      eData := edgeOf (leAt table (o + 24) 4), eOn := edgeOf (leAt table (o + 28) 4) }

/-- The timing table in effect of group g; empty stands for R237's. -/
def Dev.table (d : Dev) (g : Nat) : List Byte := d.bytesOf (0x3300 + g) 1

/-- What channel c runs under set k, deskew included. -/
def Dev.timing (d : Dev) (c k : Nat) : ChanTiming :=
  { recordOf (d.table (c / 8)) k (c % 8) with
    tx := signedOf 4 (d.rd (0x3200 + c) 3), rx := signedOf 4 (d.rd (0x3200 + c) 4) }

/-- The smallest PERIOD of the table in effect (R206, R257). -/
def Dev.shortest (d : Dev) (g : Nat) : Nat :=
  (List.range 32).foldl (fun m k => min m (periodOf (d.table g) k)) (periodOf (d.table g) 0)

/-! ### Checks of a timing table (R238 to R240) -/

/-- Bits of a channel record that are reserved, by byte number: 0 all but FORMAT, 1 to 7 all, the edge fields [30:24]. -/
def recordReserved (n b : Nat) : Bool :=
  if n = 0 then b % 64 ≠ 0 else if n < 8 then b ≠ 0 else n % 4 = 3 && b % 128 ≠ 0

/-- The first byte with a reserved bit set: the DETAIL of its set and channel position (255 in a header). -/
def reservedAt (g : Nat) (l : List Byte) : Option Nat :=
  ((List.range 8704).find? (fun p =>
    let b := ((l[p]?).getD 0).toNat
    let n := p % 272
    if n < 16 then 3 ≤ n && b ≠ 0 else recordReserved ((n - 16) % 32) b)).map
    (fun p => 256 * (p / 272) + (if p % 272 < 16 then 0xFF else 8 * g + (p % 272 - 16) / 32))

/-- Each of a list is at least 250 after the one before. -/
def spaced : List Nat → Bool
  | a :: b :: t => a + 250 ≤ b && spaced (b :: t)
  | _ => true

/-- The code with which R238 or R239 refuses a channel record, or 0. -/
def recordCode (t : ChanTiming) : Nat :=
  let drive := [t.eOn, t.eData, t.eRet, t.eOff].filterMap id
  let all := drive ++ [t.strobe, t.strobeEnd].filterMap id
  if all.any (fun e => t.period ≤ e) then 0x0512
  else if 1000 ≤ t.period then
    let span := (drive.getLast?.getD 0) - (drive.head?.getD 0)
    let window : Bool := match t.strobe, t.strobeEnd with
      | some a, some b => a + 250 ≤ b && b - a + 250 ≤ t.period
      | _, _ => true
    if spaced drive && (drive.isEmpty || span + 250 ≤ t.period) && window then 0 else 0x0513
  else
    let one := match drive with
      | [] => true
      | e :: rest => rest.all (fun x => x == e)
    if t.format = 0 && t.eRet.isNone && t.strobeEnd.isNone && one then 0 else 0x0514

/-- The first fault of a set: its header's PERIOD, then the records in order. -/
def setFault (g : Nat) (l : List Byte) (k : Nat) : Option (Nat × Nat) :=
  if periodOf l k < 250 then some (0x0511, 256 * k + 0xFF)
  else ((List.range 8).find? (fun i => recordCode (recordOf l k i) ≠ 0)).map
    (fun i => (recordCode (recordOf l k i), 256 * k + 8 * g + i))

/-- The code and DETAIL with which a timing table is refused (R240), or none. -/
def tableFault (g : Nat) (l : List Byte) : Option (Nat × Nat) :=
  if l.length ≠ 8704 then some (0x0510, 0xFFFF)
  else match reservedAt g l with
    | some p => some (0x0B05, p)
    | none => (List.range 32).findSome? (setFault g l)

/-! ### Lane and drive state -/

/-- The TX level of a drive state (R227). -/
def Drive.level : Drive → Nat
  | .low => 0 | .off => 1 | .term => 2 | .high => 3

def Drive.driving : Drive → Bool
  | .low | .high => true
  | _ => false

/-- The drive state that puts out a value. -/
def driveOf (x : Bool) : Drive := if x then .high else .low

/-- NEEDLE_MODE in effect is RAW. -/
def Dev.rawMode (d : Dev) (c : Nat) : Bool := d.rdN (0x3200 + c) 2 == 1

/-- The TX lane is out of electrical idle (R36, R37). -/
def Dev.laneActive (d : Dev) (c : Nat) : Bool := d.core.outputs && d.groupRuns (c / 8) && d.tr.tap.instr != .highz

/-- A calibration is measuring group g (R244 to R246). -/
def Dev.calibrating (d : Dev) (g : Nat) : Bool :=
  match d.cal.busy with
  | some q => q.groups.testBit g
  | none => false

/-- An instant not before 62.5 ps after the previous one, and whether it was moved (R230). -/
def notBefore (last : Option Int) (t : Int) : Int × Bool :=
  match last with
  | some l => if t < l + 250 then (l + 250, true) else (t, false)
  | none => (t, false)

/-- Moves counted in EDGE_SLIPS; 0x0502 once a window (R230). -/
def Dev.slips (d : Dev) (c n : Nat) : Dev :=
  if n = 0 then d
  else
    let d := d.count (0x3200 + c) 0x0A 32 n
    let x := d.needle c
    if x.sent502 then d else (d.setNeedle c { x with sent502 := true }).notify 0x0502 c

/-- The lane of channel c moves to a level at a pin time, or 62.5 ps after its last transition (R226, R230). -/
def Dev.moveLane (d : Dev) (c : Nat) (t : Int) (level : Nat) : Dev :=
  let x := d.needle c
  let r := notBefore x.lastTx t
  ((d.emit (.lane c r.1 level)).setNeedle c { x with lastTx := some r.1 }).slips c r.2.toNat

/-- The needle returns to drive state OFF with v = LOW; an active lane moves to level 1 at once (R233). In the hold period of a mode switch
the lane keeps its level (R272). -/
def Dev.needleOff (d : Dev) (c : Nat) : Dev :=
  let x := d.needle c
  let moves := x.drive != .off && d.laneActive c && !d.rawMode c && !x.holding
  let d := if moves then d.moveLane c (4000 * d.core.time) 1 else d
  d.setNeedle c { d.needle c with drive := .off, v := false }

/-- The needles of the groups in a mask return to OFF. -/
def Dev.groupsOff (d : Dev) (groups : Nat) : Dev :=
  forEach 96 (fun c e => if groups.testBit (c / 8) then e.needleOff c else e) d

/-! ### Drive actions (R231, R232) -/

/-- The steps of the drive action A(x): edge and state. -/
def actionA (t : ChanTiming) (driving x : Bool) : List (Option Nat × Drive) :=
  let first := if driving then t.eData else t.eOn.or t.eData
  match t.format with
  | 0 => [(first, driveOf x)]
  | 1 => (first, driveOf x) :: (if x then [(t.eRet, .low)] else [])
  | 2 => (first, driveOf x) :: (if x then [] else [(t.eRet, .high)])
  | _ => [(t.eOn, driveOf (!x)), (t.eData, driveOf x), (t.eRet, driveOf (!x)), (t.eOff, .off)]

/-- The steps of a symbol and v after it. -/
def symbolSteps (code : Nat) (t : ChanTiming) (drive : Drive) (v : Bool) : List (Option Nat × Drive) × Bool :=
  let drv := drive.driving
  match code with
  | 0x0 | 0x8 => (actionA t drv false, false)
  | 0x1 | 0x9 => (actionA t drv true, true)
  | 0x2 => ([(t.eOff, .off)], v)
  | 0x3 => (if drv then actionA t drv v else [], v)
  | 0xA => (actionA t drv (!v), !v)
  | 0xB => ([(t.eOff, .term)], v)
  | 0xE => ([(if drv then t.eData else t.eOn.or t.eData, .high), (t.eRet, .low)], false)
  | _ => ([], v)

/-- The strobe of a symbol: none, or the level expected, if one is (R231). -/
def symbolStrobe (code : Nat) : Option (Option Nat) :=
  match code with
  | 0x4 | 0x8 => some (some 0)
  | 0x5 | 0x9 => some (some 2)
  | 0x6 => some (some 1)
  | 0x7 | 0xC => some none
  | _ => none

/-- Drive state, last transition, moves so far, and transitions made (newest first). -/
structure Lane where
  drive : Drive
  last : Option Int
  moved : Nat := 0
  made : List (Int × Nat) := []
  deriving DecidableEq, Repr

/-- One step of a drive action in the period that starts at tp (R230, R232, R235). -/
def laneStep (tp tx : Int) (x : Lane) (e : Option Nat × Drive) : Lane :=
  match e.1 with
  | none => x
  | some off =>
    if e.2 = x.drive then x
    else
      let r := notBefore x.last (tp + off + tx)
      { drive := e.2, last := some r.1, moved := x.moved + r.2.toNat, made := (r.1, e.2.level) :: x.made }

/-- LEVEL and FAIL of a strobe: rx are the levels present in the window from its start, or the one at the edge; a lane without
a signal reads level 3 (R228, R242, R243). -/
def judge (window : Bool) (expect : Option Nat) (rx : List (Fin 4)) : Nat × Bool :=
  let first := ((rx.head?).getD 3).val
  match expect with
  | none => (first, false)
  | some e =>
    if window then
      match rx.find? (fun l => l.val ≠ e) with
      | some l => (l.val, true)
      | none => if rx.isEmpty then (3, true) else (e, false)
    else (first, first ≠ e)

/-! ### One period (R231 to R243) -/

/-- The notch markers and closes at the head of a needle's stream are carried out (R20, R140). -/
def Dev.drain (d : Dev) (c : Nat) : List NItem → Dev
  | .notch body :: rest =>
    let d := d.closeEntry c
    let d := d.pushed (96 + c) ((d.half (96 + c)).pushNotch body)
    d.drain c rest
  | .close :: rest => (d.closeEntry c).drain c rest
  | rest => d.setNeedle c { d.needle c with stream := rest }

/-- Bit i of the fail vector of slice s of group g set (R205). -/
def Dev.setVec (d : Dev) (g s i : Nat) : Dev :=
  let x := d.shuttle g
  d.setShuttle g { x with vecs := tabSet (fun _ => 0) x.vecs s (tabGet (fun _ => 0) x.vecs s ||| (1 <<< i)) }

/-! ### Widened sets (R309) -/

/-- The set of group g in effect, 0 for none. -/
def Dev.widenSet (d : Dev) (g : Nat) : Nat := d.rdN (0x2440 + g) 2

def Dev.widened (d : Dev) (g : Nat) : Bool := d.widenSet g != 0

/-- The groups of this device in the set of group g, g among them. -/
def Dev.localSet (d : Dev) (g : Nat) : List Nat :=
  if d.widened g then (List.range 12).filter (fun k => d.widenSet k == d.widenSet g) else [g]

/-- Other members hold groups of the set (WIDEN_STATUS). -/
def Dev.remoteMembers (d : Dev) (g : Nat) : Bool :=
  d.widened g && ((List.range 16).any (fun m => m != d.core.cascadeId && bit (d.rd (0x2440 + g) 1) m))

/-- Group g leads its set (WIDEN_STATUS). -/
def Dev.leads (d : Dev) (g : Nat) : Bool := bit (d.rd (0x2440 + g) 1) 31

/-- The needles of group g have finished every slice up to index j. -/
def Dev.vecReady (d : Dev) (g j : Nat) : Bool :=
  (List.range 8).all (fun i => (d.needle (8 * g + i)).stream.all (fun it =>
    match it with
    | .slice index _ _ _ _ _ => j < index
    | _ => true))

/-- The vector of slice j of group g goes to the other members of its widened set, once its eight needles have finished that slice
(R309). -/
def Dev.sendVec (d : Dev) (g j : Nat) : Dev :=
  if d.remoteMembers g && d.vecReady g j then
    d.broadcast 16 ((d.widenSet g * 2 ^ 64 + j) * 2 ^ 8 + (tabGet (fun _ => 0) (d.shuttle g).vecs j).toNat)
  else d

/-- A slice's sixteen results are complete: the compare hem records them, the shuttle takes the fail flag. -/
def Dev.sliceDone (d : Dev) (c index start : Nat) (invalid record : Bool) (rest : List NItem) : Dev :=
  let x := d.needle c
  let d := d.setNeedle c { x with period := 0, results := 0, failed := false }
  let d := if record then d.recordSlice c (start / 4000) x.results invalid else d
  let d := if x.failed then d.setVec (c / 8) index (c % 8) else d
  (d.drain c rest).sendVec (c / 8) index

/-- The hold period after a needle has entered channel mode (R272): the lane keeps its level, the symbol is not carried out, and its
result is 0x0. -/
def Dev.holdPeriod (d : Dev) (c : Nat) (index start : Nat) (invalid record : Bool) (rest : List NItem) : Dev :=
  let x := d.needle c
  let d := d.setNeedle c { x with holding := false, period := x.period + 1 }
  if x.period + 1 = 16 then d.sliceDone c index start invalid record rest else d

/-- The drive state, the level and the steps of a period, at the start tp of the second period after a switch to channel mode: the lane
goes to level 1 there, unless an edge of the period itself moves it by then (R272). -/
def firstLane (x : NeedleSt) (tp tx : Int) (steps : List (Option Nat × Drive)) : Lane :=
  let edge (e : Option Nat × Drive) : Bool := match e.1 with
    | some off => tp + off + tx ≤ tp && e.2 != .off
    | none => false
  if !x.toOff || steps.any edge then { drive := x.drive, last := x.lastTx }
  else
    let r := notBefore x.lastTx tp
    { drive := x.drive, last := some r.1, moved := r.2.toNat, made := [(r.1, 1)] }

/-- The RX levels that a strobe finds: before "release outputs" the RX lanes are ignored, so they read as lanes without a signal (R279,
DEDUCED, entry 64). -/
def Dev.rxSeen (d : Dev) (rx : List (Fin 4)) : List (Fin 4) := if d.core.outputs then rx else []

/-- One period of channel c whose symbol is code: the drive action, the strobe and its result (R231 to R243). rx are the RX
levels from the strobe instant on. -/
def Dev.period (d : Dev) (c code : Nat) (rx : List (Fin 4)) : Dev :=
  let x := d.needle c
  match x.stream with
  | .slice index start t symbols invalid record :: rest =>
    if !d.groupRuns (c / 8) || symbols.toNat / 16 ^ x.period % 16 ≠ code then d
    else if x.holding then d.holdPeriod c index start invalid record rest
    else
      let idx := 0x3200 + c
      let tp : Int := start + x.period * t.period
      let st := symbolSteps code t x.drive x.v
      let lane := st.1.foldl (laneStep tp t.tx) (firstLane x tp t.tx st.1)
      let d := if d.laneActive c then lane.made.reverse.foldl (fun e m => e.emit (.lane c m.1 m.2)) d else d
      let x := { x with drive := lane.drive, v := st.2, lastTx := lane.last, toOff := false }
      let d := if code = 0xD then d.count idx 0x0B 32 1 else d
      let d := if code = 0xD && !x.sent501 then d.notify 0x0501 c else d
      let x := if code = 0xD then { x with sent501 := true } else x
      let r : Nat × Bool × Option Int × Bool × Dev :=
        match symbolStrobe code, t.strobe with
        | none, _ => (0, false, x.lastStrobe, false, d)
        | some _, none => (0, false, x.lastStrobe, false, d.count idx 0x0D 32 1)
        | some expect, some off =>
          let at' := notBefore x.lastStrobe (tp + off + t.rx)
          let j := judge t.strobeEnd.isSome expect (d.rxSeen rx)
          let d := d.count idx 8 48 1
          let d := if j.2 then d.count idx 9 48 1 else d
          (j.2.toNat * 8 + j.1 * 2 + 1, j.2, some at'.1, at'.2, d)
      let results := x.results ||| BitVec.ofNat 64 (r.1 * 16 ^ x.period)
      let n := x.period
      let d := r.2.2.2.2.setNeedle c
        { x with results := results, failed := x.failed || r.2.1, lastStrobe := r.2.2.1, period := n + 1 }
      let d := d.slips c (lane.moved + r.2.2.2.1.toNat)
      if n + 1 = 16 then d.sliceDone c index start invalid record rest else d
  | _ => d

/-- D0: A(LOW). -/
def execD0 (c : Fin 96) (rx : List (Fin 4)) (s : State) : Host.Outcome State Fault Refusal := onDev (fun d => d.period c.val 0x0 rx) s
/-- D1: A(HIGH). -/
def execD1 (c : Fin 96) (rx : List (Fin 4)) (s : State) : Host.Outcome State Fault Refusal := onDev (fun d => d.period c.val 0x1 rx) s
/-- DZ: OFF at E_OFF. -/
def execDz (c : Fin 96) (rx : List (Fin 4)) (s : State) : Host.Outcome State Fault Refusal := onDev (fun d => d.period c.val 0x2 rx) s
/-- DK: A(v) while driving. -/
def execDk (c : Fin 96) (rx : List (Fin 4)) (s : State) : Host.Outcome State Fault Refusal := onDev (fun d => d.period c.val 0x3 rx) s
/-- CL: a strobe that expects level 0. -/
def execCl (c : Fin 96) (rx : List (Fin 4)) (s : State) : Host.Outcome State Fault Refusal := onDev (fun d => d.period c.val 0x4 rx) s
/-- CH: a strobe that expects level 2. -/
def execCh (c : Fin 96) (rx : List (Fin 4)) (s : State) : Host.Outcome State Fault Refusal := onDev (fun d => d.period c.val 0x5 rx) s
/-- CM: a strobe that expects level 1. -/
def execCm (c : Fin 96) (rx : List (Fin 4)) (s : State) : Host.Outcome State Fault Refusal := onDev (fun d => d.period c.val 0x6 rx) s
/-- CX: a strobe whose result is masked. -/
def execCx (c : Fin 96) (rx : List (Fin 4)) (s : State) : Host.Outcome State Fault Refusal := onDev (fun d => d.period c.val 0x7 rx) s
/-- D0CL: A(LOW) and a strobe that expects level 0. -/
def execD0cl (c : Fin 96) (rx : List (Fin 4)) (s : State) : Host.Outcome State Fault Refusal := onDev (fun d => d.period c.val 0x8 rx) s
/-- D1CH: A(HIGH) and a strobe that expects level 2. -/
def execD1ch (c : Fin 96) (rx : List (Fin 4)) (s : State) : Host.Outcome State Fault Refusal := onDev (fun d => d.period c.val 0x9 rx) s
/-- DN: A(inverse of v). -/
def execDn (c : Fin 96) (rx : List (Fin 4)) (s : State) : Host.Outcome State Fault Refusal := onDev (fun d => d.period c.val 0xA rx) s
/-- TE: TERM at E_OFF. -/
def execTe (c : Fin 96) (rx : List (Fin 4)) (s : State) : Host.Outcome State Fault Refusal := onDev (fun d => d.period c.val 0xB rx) s
/-- CC: a strobe that captures the raw level. -/
def execCc (c : Fin 96) (rx : List (Fin 4)) (s : State) : Host.Outcome State Fault Refusal := onDev (fun d => d.period c.val 0xC rx) s
/-- RESERVED_SYMBOL: as NOP, counted and notified. -/
def execReservedSymbol (c : Fin 96) (rx : List (Fin 4)) (s : State) : Host.Outcome State Fault Refusal :=
  onDev (fun d => d.period c.val 0xD rx) s
/-- ED: HIGH, then LOW at E_RET. -/
def execEd (c : Fin 96) (rx : List (Fin 4)) (s : State) : Host.Outcome State Fault Refusal := onDev (fun d => d.period c.val 0xE rx) s
/-- NOP: no effect but its place in the slice. -/
def execNop (c : Fin 96) (rx : List (Fin 4)) (s : State) : Host.Outcome State Fault Refusal := onDev (fun d => d.period c.val 0xF rx) s

/-! ### Line codes of raw lanes (R253; the code tables are those of IEEE 802.3 clause 36, entry 7) -/

/-- The six-bit sub-blocks abcdei at negative disparity, a as the highest bit, of D.0 to D.31. -/
def sixBit : List Nat :=
  [0b100111, 0b011101, 0b101101, 0b110001, 0b110101, 0b101001, 0b011001, 0b111000,
   0b111001, 0b100101, 0b010101, 0b110100, 0b001101, 0b101100, 0b011100, 0b010111,
   0b011011, 0b100011, 0b010011, 0b110010, 0b001011, 0b101010, 0b011010, 0b111010,
   0b110011, 0b100110, 0b010110, 0b110110, 0b001110, 0b101110, 0b011110, 0b101011]

/-- The four-bit sub-blocks fghj at negative disparity of data and of control characters. -/
def fourBitD : List Nat := [0b1011, 0b1001, 0b0101, 0b1100, 0b1101, 0b1010, 0b0110, 0b1110]
def fourBitK : List Nat := [0b1011, 0b0110, 0b1010, 0b1100, 0b1101, 0b0101, 0b1001, 0b0111]

/-- The bits of a sub-block of n bits, first sent first. -/
def subBits (n v : Nat) : List Bool := (List.range n).map (fun i => v.testBit (n - 1 - i))

def ones (l : List Bool) : Nat := (l.filter id).length

/-- Running disparity after a sub-block: more ones make it positive, fewer negative; 000111 and 0011 make it positive, 111000 and 1100
negative. -/
def dispAfter (rd : Bool) (l : List Bool) : Bool :=
  if l = [false, false, false, true, true, true] || l = [false, false, true, true] then true
  else if l = [true, true, true, false, false, false] || l = [true, true, false, false] then false
  else if 2 * ones l = l.length then rd else l.length < 2 * ones l

/-- Running disparity after the two sub-blocks of a character. -/
def dispAfter10 (rd : Bool) (l : List Bool) : Bool := dispAfter (dispAfter rd (l.take 6)) (l.drop 6)

/-- A byte is a valid control character. -/
def validK (b : Nat) : Bool := b % 32 = 28 || ((b % 32 = 23 || b % 32 = 27 || b % 32 = 29 || b % 32 = 30) && b / 32 = 7)

/-- One character to its ten line bits, and the running disparity after it. -/
def encode10 (rd k : Bool) (b : Nat) : List Bool × Bool :=
  let x := b % 32
  let y := b / 32 % 8
  let six := if k && x = 28 then 0b001111 else (sixBit[x]?).getD 0
  let s := subBits 6 six
  let s := if rd && (ones s ≠ 3 || x = 7) then s.map (!·) else s
  let rd' := dispAfter rd s
  let alt := if rd' then x = 11 || x = 13 || x = 14 else x = 17 || x = 18 || x = 20
  let four := if k then (fourBitK[y]?).getD 0 else if y = 7 && alt then 0b0111 else (fourBitD[y]?).getD 0
  let f := subBits 4 four
  let f := if rd' && (k || ones f ≠ 2 || y = 3) then f.map (!·) else f
  (s ++ f, dispAfter rd' f)

/-- The character of ten line bits: K and byte under the disparity at hand, or under the other one. -/
def decode10 (rd : Bool) (l : List Bool) : Option (Bool × Nat) :=
  let cand := (List.range 256).map (fun b => (false, b)) ++ ((List.range 256).filter validK).map (fun b => (true, b))
  cand.find? (fun p => (encode10 rd p.1 p.2).1 == l)

/-- One bit scrambled by x^58 + x^39 + 1: the line bit and the register, newest bit lowest. -/
def scrambleBit (s : BitVec 58) (b : Bool) : Bool × BitVec 58 :=
  let o := b ^^ s.getLsbD 38 ^^ s.getLsbD 57
  (o, (s <<< 1) ||| BitVec.ofNat 58 o.toNat)

/-- Bits scrambled in order. -/
def scramble : List Bool → BitVec 58 → List Bool × BitVec 58
  | [], s => ([], s)
  | b :: t, s =>
    let r := scrambleBit s b
    let q := scramble t r.2
    (r.1 :: q.1, q.2)

/-- Received bits descrambled in order. -/
def descramble : List Bool → BitVec 58 → List Bool × BitVec 58
  | [], s => ([], s)
  | b :: t, s =>
    let o := b ^^ s.getLsbD 38 ^^ s.getLsbD 57
    let q := descramble t ((s <<< 1) ||| BitVec.ofNat 58 b.toNat)
    (o :: q.1, q.2)

/-- The n low bits of a number, least significant first. -/
def lsbBits (n v : Nat) : List Bool := (List.range n).map (fun i => v.testBit i)

/-- The number that bits spell, least significant first. -/
def ofBits (l : List Bool) : Nat := l.foldr (fun b n => b.toNat + 2 * n) 0

/-! ### Raw lanes (R251 to R255) -/

def Dev.rawCfg (d : Dev) (c : Nat) : Word := d.rd (0x3200 + c) 5
def coding (cfg : Word) : Nat := bits cfg 31 30

/-- Line bits sent, inverted when TX_INVERT is set; an idle lane shows nothing. -/
def Dev.sendRaw (d : Dev) (c : Nat) (l : List Bool) : Dev :=
  if d.laneActive c then d.emit (.rawBits c (if bit (d.rawCfg c) 28 then l.map (!·) else l)) else d

/-- Characters sent in 8b/10b; an invalid control character goes as K28.5 and counts in RAW_ERRORS (R253). -/
def Dev.sendChars (d : Dev) (c : Nat) : List Nat → List Bool → Dev
  | [], acc => d.sendRaw c acc
  | ch :: t, acc =>
    let x := d.needle c
    let k := ch.testBit 8
    let b := ch % 256
    let bad := k && !validK b
    let e := encode10 x.raw.txDisp k (if bad then 0xBC else b)
    let d := d.setNeedle c { x with raw := { x.raw with txDisp := e.2 } }
    let d := if bad then d.count (0x3200 + c) 7 32 1 else d
    d.sendChars c t (acc ++ e.1)

/-- A block sent in 64b/66b, scrambled when SCRAMBLE is set (R253). -/
def Dev.sendBlock (d : Dev) (c header : Nat) (payload : Nat) : Dev :=
  let x := d.needle c
  let p := lsbBits 64 payload
  if bit (d.rawCfg c) 29 then
    let r := scramble p x.raw.scrambler
    (d.setNeedle c { x with raw := { x.raw with scrambler := r.2 } }).sendRaw c (lsbBits 2 header ++ r.1)
  else d.sendRaw c (lsbBits 2 header ++ p)

/-- The hold period of a switch into raw mode is over: one period of the timing set of the first slice after the notch. With no slice to
follow, in a group whose shuttle is HALTED, it is a period of set 0: DESIGN CHOICE (entry 60), since R272 names no set then. -/
def Dev.holdOver (d : Dev) (c : Nat) : Bool :=
  let g := c / 8
  let x := d.needle c
  let now := 4000 * d.core.time
  match (d.shuttle g).hist.reverse.find? (fun e => 4000 * x.heldFrom ≤ e.1) with
  | some e => e.1 + (e.2.1 - e.1) / 16 ≤ now
  | none => (d.shuttle g).state == .halted && 4000 * x.heldFrom + periodOf (d.table g) 0 ≤ now

/-- The raw lane of channel c runs: its island does, no calibration holds it (R246), and the hold period of its switch is over (R272). -/
def Dev.rawRuns (d : Dev) (c : Nat) : Bool :=
  d.groupRuns (c / 8) && d.rawMode c && !d.calibrating (c / 8) && (!(d.needle c).holding || d.holdOver c)

/-- The raw receiver of channel c runs: RX lanes are ignored before "release outputs" (R279). -/
def Dev.rawHears (d : Dev) (c : Nat) : Bool := d.rawRuns c && d.core.outputs

/-- The hold period of a raw lane is done with. -/
def Dev.rawBegins (d : Dev) (c : Nat) : Dev := d.setNeedle c { d.needle c with holding := false }

/-- The drive hem has an entry ready for the serialiser. -/
def Dev.rawHead (d : Dev) (c : Nat) : Option HEntry := if d.hemEnabled c then (d.half c).head else none

/-- RAW_SERIALISER_TAKE: the next drive entry goes out (R252, R253). A word found uncorrectable goes out as stored. -/
def execRawSerialiserTake (c : Fin 96) (s : State) : Host.Outcome State Fault Refusal :=
  onDev (fun d =>
    match d.rawHead c.val with
    | none => d
    | some e =>
      if !d.rawRuns c.val then d
      else
        let d := (d.putHalf c.val (d.half c.val).pop).rawBegins c.val
        let v := e.data.toNat
        match coding (d.rawCfg c.val) with
        | 0 => d.sendRaw c.val (lsbBits 256 v)
        | 1 => d.sendChars c.val ((List.range (min 24 (v / 2 ^ 248))).map (fun k => v / 2 ^ (10 * k) % 512)) []
        | _ =>
          forEach 2 (fun j d =>
            let b := v / 2 ^ (128 * j)
            if b.testBit 127 then d.sendBlock c.val (b / 2 ^ 64 % 4) (b % 2 ^ 64) else d) d) s

/-- RAW_IDLE_UNIT: no drive entry is ready; an idle unit goes out and a loss is counted (R254). -/
def execRawIdleUnit (c : Fin 96) (s : State) : Host.Outcome State Fault Refusal :=
  onDev (fun d =>
    if !d.rawRuns c.val || (d.rawHead c.val).isSome then d
    else
      let x := d.half c.val
      let d := (d.setHalf c.val { x with loss := (x.loss + 1) % 2 ^ 32 }).rawBegins c.val
      let d := match coding (d.rawCfg c.val) with
        | 0 => d.sendRaw c.val ((List.range 256).map (fun i => i % 2 == 0))
        | 1 => d.sendChars c.val [0x1BC] []
        | _ => d.sendBlock c.val 2 0x1E
      let n := d.needle c.val
      if n.sent531 then d else (d.setNeedle c.val { n with sent531 := true }).notify 0x0531 c.val) s

/-- The received line bits after RX_INVERT. -/
def Dev.rawLine (d : Dev) (c : Nat) (l : List Bool) : List Bool := if bit (d.rawCfg c) 27 then l.map (!·) else l

/-- Ten line bits are a K28.5 comma, of either disparity. -/
def isComma (l : List Bool) : Bool := (encode10 false true 0xBC).1 == l || (encode10 true true 0xBC).1 == l

/-- The commas of a line of characters, from its end back, at the alignment of the end. -/
def commaCount : Nat → List Bool → Nat
  | 0, _ => 0
  | n + 1, l => (isComma (l.drop (l.length - 10))).toNat + commaCount n (l.take (l.length - 10))

/-- A sync header of two bits is valid. -/
def headerValid (l : List Bool) : Bool := l == [true, false] || l == [false, true]

/-- The last n blocks of a line have valid headers, at the alignment of the end. -/
def headersValid : Nat → List Bool → Bool
  | 0, _ => true
  | n + 1, l =>
    66 ≤ l.length && headerValid ((l.drop (l.length - 66)).take 2) && headersValid n (l.take (l.length - 66))

/-- The condition of LOCKED on the line bits received since the receiver last began to acquire, which end at this instant (R255): with
8b/10b ALIGN and a third comma at one alignment, with 64b/66b 64 valid sync headers in a row; without a code the receiver's clock alone. -/
def Dev.locksOn (d : Dev) (c : Nat) (line : List Bool) : Bool :=
  match coding (d.rawCfg c) with
  | 0 => true
  | 1 => bit (d.rawCfg c) 26 && isComma (line.drop (line.length - 10)) && 3 ≤ commaCount (line.length / 10) line
  | _ => headersValid 64 line

/-- RAW_RX_LOCK: the receiver reaches LOCKED (R255); line holds the line bits it has received, first received first, and its
units begin at bit start. The running disparity follows the comma, and the descrambler starts with the last 58 bits. -/
def execRawRxLock (c : Fin 96) (line : List Bool) (start : Nat) (s : State) : Host.Outcome State Fault Refusal :=
  onDev (fun d =>
    let l := (d.rawLine c.val line).drop start
    if !d.rawHears c.val || !d.locksOn c.val l then d
    else
      let x := d.needle c.val
      let seed : BitVec 58 := BitVec.ofNat 58 (ofBits (l.reverse.take 58))
      let disp := dispAfter10 false (l.drop (l.length - 10))
      let d := d.setNeedle c.val { x with
        holding := false, raw := { x.raw with rxDisp := disp, descrambler := seed, recent := [] } }
      d.setFlag (0x3200 + c.val) 6 31 true) s

/-- A compare entry of the raw receiver (R253, R255). -/
def Dev.rawEntry (d : Dev) (c v : Nat) : Dev :=
  if d.hemEnabled (96 + c) then d.pushed (96 + c) ((d.half (96 + c)).pushData (BitVec.ofNat 256 v) 0 0 d.core.time) else d

/-- LOCKED of RAW_STATUS. -/
def Dev.rawLocked (d : Dev) (c : Nat) : Bool := bit (d.rd (0x3200 + c) 6) 31

/-- The errors that drop the lock: 4 among the last 16 characters, or 16 among the last 64 headers (R255). -/
def lockFails (recent : List Bool) (headers : Bool) : Bool := (if headers then 16 else 4) ≤ (recent.filter id).length

/-- The receiver drops its lock (R255). -/
def Dev.dropLock (d : Dev) (c : Nat) : Dev := (d.setFlag (0x3200 + c) 6 31 false).notify 0x0530 c

/-- A character or header judged: the marks of the last ones, and RAW_ERRORS (R255). -/
def Dev.rawMark (d : Dev) (c keep : Nat) (err : Bool) : Dev :=
  let x := d.needle c
  let d := d.setNeedle c { x with raw := { x.raw with recent := (err :: x.raw.recent).take keep } }
  if err then d.count (0x3200 + c) 7 32 1 else d

/-- One received character: its 10 bits of the entry, and the receiver after it (R253, R255). A character that is no code word
has free data. -/
def Dev.rawChar (d : Dev) (c : Nat) (l : List Bool) : Nat × Dev :=
  let x := d.needle c
  let rd := x.raw.rxDisp
  let put (err : Bool) (d : Dev) : Dev :=
    (d.setNeedle c { x with raw := { x.raw with rxDisp := dispAfter10 rd l } }).rawMark c 16 err
  match decode10 rd l with
  | some (k, b) => (k.toNat * 256 + b, put false d)
  | none =>
    match decode10 (!rd) l with
    | some (k, b) => (512 + k.toNat * 256 + b, put true d)
    | none =>
      let f := d.free
      (512 + f.1.toNat % 512, put true f.2)

/-- Received characters of 10 bits each, the k-th first, until n more are there or errors drop the lock: how many, the body they make,
whether the lock dropped, and the device after them. -/
def Dev.rawChars (d : Dev) (c : Nat) : Nat → Nat → List Bool → Nat × Nat × Bool × Dev
  | 0, k, _ => (k, 0, false, d)
  | n + 1, k, l =>
    let r := d.rawChar c (l.take 10)
    if lockFails (r.2.needle c).raw.recent false then (k + 1, r.1 * 2 ^ (10 * k), true, r.2)
    else
      let q := r.2.rawChars c n (k + 1) (l.drop 10)
      (q.1, r.1 * 2 ^ (10 * k) + q.2.1, q.2.2)

/-- One received block of 66 bits: sync header, descrambled payload (R253, R255). -/
def Dev.rawBlock (d : Dev) (c j : Nat) (l : List Bool) : Nat × Dev :=
  let x := d.needle c
  let header := ofBits (l.take 2)
  let p := descramble (l.drop 2) x.raw.descrambler
  let scr := bit (d.rawCfg c) 29
  let payload := ofBits (if scr then p.1 else l.drop 2)
  let d := (d.setNeedle c { x with raw := { x.raw with descrambler := p.2 } }).rawMark c 64 (header = 0 || header = 3)
  ((2 ^ 127 + header * 2 ^ 64 + payload) * 2 ^ (128 * j), d)

/-- Characters collected from a line: once 24 are there, or errors drop the lock, they go as one entry (R255). -/
def Dev.takeChars (d : Dev) (c n : Nat) (l : List Bool) : Dev :=
  let r := d.rawChars c n 0 l
  let e := r.2.2.2.rawEntry c (r.1 * 2 ^ 248 + r.2.1)
  if r.2.2.1 then e.dropLock c else e

/-- Two blocks collected from a line go as one entry; one block after which the lock drops goes in none (R255; the block is lost by a
DESIGN CHOICE, entry 60). -/
def Dev.takeBlocks (d : Dev) (c : Nat) (l : List Bool) : Dev :=
  let a := d.rawBlock c 0 (l.take 66)
  if lockFails (a.2.needle c).raw.recent true then a.2.dropLock c
  else
    let b := a.2.rawBlock c 1 ((l.drop 66).take 66)
    let e := b.2.rawEntry c (a.1 + b.1)
    if lockFails (b.2.needle c).raw.recent true then e.dropLock c else e

/-- RAW_RECEIVER_ENTRY: 256 bits, 24 characters or two blocks have been collected; line holds their bits, first received first
(bit 0 up) (R255). -/
def execRawReceiverEntry (c : Fin 96) (line : BitVec 256) (s : State) : Host.Outcome State Fault Refusal :=
  onDev (fun d =>
    if !d.rawHears c.val || !d.rawLocked c.val then d
    else
      let l := d.rawLine c.val (lsbBits 256 line.toNat)
      match coding (d.rawCfg c.val) with
      | 0 => d.rawEntry c.val (ofBits l)
      | 1 => d.takeChars c.val 24 l
      | _ => d.takeBlocks c.val l) s

/-- RAW_LOCK_LOST: the receiver drops its lock within the n characters collected so far, which are written as one entry, or at the block
at hand, n being 1 (R255); line holds their bits. Without that many errors nothing is lost. Without a code the receiver's clock has lost
lock. -/
def execRawLockLost (c : Fin 96) (n : Fin 24) (line : BitVec 256) (s : State) : Host.Outcome State Fault Refusal :=
  onDev (fun d =>
    if !d.rawHears c.val || !d.rawLocked c.val then d
    else
      let l := d.rawLine c.val (lsbBits 256 line.toNat)
      match coding (d.rawCfg c.val) with
      | 0 => d.dropLock c.val
      | 1 => if (d.rawChars c.val n.val 0 l).2.2.1 then d.takeChars c.val n.val l else d
      | _ =>
        let a := d.rawBlock c.val 0 (l.take 66)
        if n.val = 1 && lockFails (a.2.needle c.val).raw.recent true then a.2.dropLock c.val else d) s

/-- RAW_CONFIG's own conditions (R256). -/
def checkRawConfig (v : Word) : Nat :=
  if coding v = 3 || bits v 25 11 ≠ 0 then 0x0B05
  else if bits v 10 0 < 64 || 1024 < bits v 10 0 || (bit v 29 && coding v ≠ 2) then 0x0532 else 0

end Sys2Proof.Machine
end

