-- ==== Sys2Proof/Machine/Permits.lean ====
section
/-! DEFINITION. The permits of the safety functions (R276, R507) and the drive of the SAFE balls as they bear on it (R275). -/

namespace Sys2Proof.Machine

/-- The patch index of a panel site. -/
def sitePatch (column row : Nat) : Nat := 6 * (row / 8) + column / 17

/-- Patch q is isolated (ISOLATED_MASK, R345, R488). -/
def Dev.isolated (d : Dev) (q : Nat) : Bool := bit (d.rd 0x3900 8) q

/-- FRENCH_BINDING of French seam n; all ones is not bound (R504). -/
def Dev.frenchBinding (d : Dev) (n : Nat) : Word := d.rd (0x3980 + n) 3
def Dev.frenchBound (d : Dev) (n : Nat) : Bool := d.frenchBinding n != BitVec.allOnes 64

/-- The patches of the two halves of French seam n. -/
def Dev.frenchPatches (d : Dev) (n : Nat) : List Nat :=
  let b := d.frenchBinding n
  [sitePatch (bits b 63 56) (bits b 55 48), sitePatch (bits b 47 40) (bits b 39 32)]

/-- A proof test of function f passed less than PROOF_INTERVAL ago (R507, R518). -/
def Dev.proofCurrent (d : Dev) (f : Nat) : Bool :=
  let last := d.rdN (0x3A10 + f) 4
  last != 0 && d.core.time < last + d.rdN (0x3A10 + f) 3 * 1000000000

/-- The conditions of R507 that fail for function f, as the low bits of FUNCTION_STATUS. -/
def Dev.permitFails (d : Dev) (f : Nat) : Nat :=
  let cfg := d.rd (0x3A10 + f) 2
  let n := bits cfg 5 0
  let controller := d.frenchBound n && bit (d.frenchBinding n) 0 && !bit (d.rd (0x3980 + n) 1) 14
  let isolated := d.frenchBound n && (d.frenchPatches n).any d.isolated
  let sh := (d.shuttle (bits cfg 27 24)).state
  (d.core.state != .run).toNat * 128 + (!bit cfg 31).toNat * 64 + (!controller).toNat * 32 + isolated.toNat * 16 +
    (bit cfg 30 && bit (d.rd 0x2030 1) 14).toNat * 8 + (bit cfg 29 && !d.proofCurrent f).toNat * 4 +
    (bit cfg 28 && !(sh == .running || sh == .holding)).toNat * 2 + (!d.safety.refreshed).toNat

/-- Both balls of function f undriven; a new permit drives them only from the second charge on (R275, R507). -/
def Dev.dropBalls (d : Dev) (f : Nat) : Dev :=
  let off (k : Nat) (e : Dev) : Dev := e.setBall k { e.ball k with driven := false, charged := false }
  off (2 * f + 1) (off (2 * f) d)

/-- The permit of function f withdrawn; counted while the device is in RUN (R507). -/
def Dev.withdraw (d : Dev) (f : Nat) : Dev :=
  if d.safety.permits.getLsbD f then
    let m : BitVec 4 := BitVec.ofNat 4 (2 ^ f)
    let d := { d with safety := { d.safety with permits := d.safety.permits &&& ~~~ m, withdrawn := d.safety.withdrawn ||| m } }
    let d := d.dropBalls f
    if d.core.state = .run then d.count (0x3A10 + f) 5 32 1 else d
  else d

/-- The permit of function f granted. -/
def Dev.grant (d : Dev) (f : Nat) : Dev :=
  let m : BitVec 4 := BitVec.ofNat 4 (2 ^ f)
  { d with safety := { d.safety with permits := d.safety.permits ||| m, withdrawn := d.safety.withdrawn &&& ~~~ m } }

/-- Function f is the one at hand of a proof test (R517). -/
def Dev.proving (d : Dev) (f : Nat) : Bool :=
  match d.safety.proof with
  | some m => (List.range 4).find? (fun i => m.1.getLsbD i) == some f
  | none => false

/-- The permits follow their conditions (R507). A function under proof test waits for its end. -/
def Dev.updatePermits (d : Dev) : Dev :=
  forEach 4 (fun f e =>
    if e.proving f then e.withdraw f
    else if e.permitFails f = 0 then e.grant f else e.withdraw f) d

end Sys2Proof.Machine
end

