-- ==== Sys2Proof/Machine/Runs.lean ====
section
/-! DEFINITION. Runs of the shuttles as the rest of the device sees them (R193 to R208, R309): how a run ends, and the fail-branch
latency. -/

namespace Sys2Proof.Machine

/-- The object index of shuttle g. -/
def shIdx (g : Nat) : Nat := 0x3100 + g

/-- An item at the end of a needle's stream; what stands before the next slice is carried out at once. -/
def Dev.feed (d : Dev) (c : Nat) (i : NItem) : Dev := d.drain c ((d.needle c).stream ++ [i])

/-- A run of shuttle g ends (R199, R200): the summary, the status entry and the closing of the compare entries (R140). A time is
in ns of pin time. -/
def Dev.runEnd (d : Dev) (g time pc reason event slices hems : Nat) : Dev :=
  let idx := shIdx g
  let x := d.shuttle g
  let d := d.setShuttle g { x with state := .halted, stopReq := .none, floorFault := false, curSubst := false }
  let d := (((d.wrN idx 0x13 time).wrN idx 0x14 (slices % 2 ^ 48)).wrN idx 0x15 pc).wrN idx 0x16 reason
  let d := d.complete idx 1 15 none
  let d := if event = 0 then d else d.status g event time slices hems
  let d := (forEach 8 (fun i e => e.feed (8 * g + i) .close) d).updatePermits
  if reason = 0 || reason = 0x0B22 || reason = 0x0361 then d else d.logNotify reason g 0

/-- Every shuttle is HALTED. -/
def Dev.allHalted (d : Dev) : Bool := (List.range 12).all (fun g => (d.shuttle g).state == .halted)

/-- The slices of shuttle g issued but not started at the device time at hand. -/
def Dev.unstarted (d : Dev) (g : Nat) : Nat :=
  ((d.shuttle g).hist.filter (fun e => 4000 * d.core.time ≤ e.1)).length

/-- The slices of shuttle g retired at device time t since it last started; for a halted one those of its last run (R143,
R203). -/
def Dev.retired (d : Dev) (g t : Nat) : Nat :=
  let x := d.shuttle g
  if x.state = .halted then x.slices else x.slices - (x.hist.filter (fun e => 4000 * t < e.2.1)).length

/-- The needles of group g stop: what is left of the slices at hand never runs (R201). -/
def Dev.cutNeedles (d : Dev) (g : Nat) : Dev :=
  forEach 8 (fun i e =>
    let c := 8 * g + i
    let x := e.needle c
    e.setNeedle c { x with stream := [], period := 0, results := 0, failed := false }) d

/-- A run ends at once (R199, R201): an ARMED shuttle returns to HALTED with no run. closes says that the compare entries close
now; after a clock loss they close when the PLL locks again. -/
def Dev.cutRun (d : Dev) (g reason : Nat) (closes : Bool) : Dev :=
  let x := d.shuttle g
  match x.state with
  | .halted => d
  | .armed => d.setShuttle g { x with state := .halted, stopReq := .none }
  | _ =>
    let idx := shIdx g
    let started := x.hist.filter (fun e => e.1 < 4000 * d.core.time)
    let pc := match started with
      | e :: _ => e.2.2
      | [] => x.pc
    let n := x.slices - d.unstarted g
    let d := d.cutNeedles g
    let d := d.setShuttle g { x with state := .halted, stopReq := .none, floorFault := false, curSubst := false, slices := n }
    let d := (((d.wrN idx 0x13 d.core.time).wrN idx 0x14 (n % 2 ^ 48)).wrN idx 0x15 pc).wrN idx 0x16 reason
    let d := d.complete idx 1 15 none
    let d := d.updatePermits
    if closes then forEach 8 (fun i e => e.closeEntry (8 * g + i)) d else d

/-! ### Fail-branch latency (R206, R207) -/

/-- The largest FAIL_ROUND_TRIP that counts for group g. -/
def Dev.roundTrip (d : Dev) (g : Nat) : Nat :=
  (d.localSet g).foldl (fun m k => max m (d.rdN (shIdx k) 0x0B))
    (if d.widened g then tabGet (fun _ => 0) d.cascade.widenTrip g else 0)

/-- FAIL_LATENCY_MIN before its bound of 255. -/
def Dev.latencyMin (d : Dev) (g : Nat) : Nat :=
  let rt := d.roundTrip g
  if rt = 0xFFFF then 255
  else
    let t := (rt + (if d.widened g then d.rdN (0x2440 + g) 3 else 0)) * 4000
    let s := 16 * d.shortest g
    max 1 ((t + s - 1) / s)

/-- A recomputation of the minimum; a running shuttle faults at this notch when it passes 255, and FAIL_LATENCY rises with
it (R207). -/
def Dev.recompute (d : Dev) (g : Nat) : Dev :=
  let idx := shIdx g
  let m := d.latencyMin g
  let d := d.wrN idx 0x0A (min 255 m)
  let x := d.shuttle g
  let d := if 255 < m && x.state != .halted then d.setShuttle g { x with floorFault := true } else d
  if d.rdN idx 9 < min 255 m then (d.wrN idx 9 (min 255 m)).log 0x0413 g 0 else d

end Sys2Proof.Machine
end

