-- ==== Sys2Proof/Machine/Tally.lean ====
section
/-! DEFINITION. Tally counters and dumps (R451 to R465), and the triggers of swatches (R466 to R468) with the part of the cascade that
routes them (R294, R304). -/

namespace Sys2Proof.Machine

/-! ### The cascade as the rest of the device sees it -/

/-- ROLE (R294): 0 ALONE, 1 JOINING, 2 MEMBER, 3 MASTER. -/
def Dev.role (d : Dev) : Nat := bits (d.rd 0x2400 1) 14 12

def Dev.isMaster (d : Dev) : Bool := d.role == 3

/-- The ring is established (R294): it has a master and every member reports LOCKED. -/
def Dev.established (d : Dev) : Bool :=
  (d.role == 2 || d.role == 3) && d.rdN 0x2400 9 != 0xFF && bit (d.rd 0x2400 1) 0 &&
    (d.rdN 0x2400 3 &&& (0xFFFF - d.cascade.locked.toNat)) == 0

/-- A request cell for the master: what is asked for (1 leave, 2 notch, 3 swatch), and the device time that it counts from (R302, R304). -/
def Dev.askMaster (d : Dev) (what t : Nat) : Dev :=
  d.sendCell true {
    type := 7, source := d.core.cascadeId, dest := d.rdN 0x2400 9, body := BitVec.ofNat 256 (what * 2 ^ 64 + t % 2 ^ 64) }

/-- NOTCH_LEAD in effect. -/
def Dev.notchLead (d : Dev) : Nat := d.rdN 0x2400 7

/-- The master issues a cascade notch for device time t (R302). -/
def Dev.issueNotch (d : Dev) (t : Nat) : Dev :=
  let n := (d.cascade.notchNumber + 1) % 2 ^ 32
  let e : CasEvent := { time := t, number := n, late := false }
  { d.broadcast 2 (n * 2 ^ 64 + t) with cascade := { d.cascade with notchNumber := n, notches := d.cascade.notches ++ [e] } }

/-! ### Swatch triggers (R466 to R468, R473) -/

/-- A notice sent at most once per watch window. -/
def Dev.swatchMissed (d : Dev) : Dev :=
  let d := d.count 0x3600 6 32 1
  if d.swatch.sent61 then d else ({ d with swatch := { d.swatch with sent61 := true } }).notify 0x0B61 0

/-- A trigger is detected: it takes the controller, joins a swatch detected in the same Thimble tick, or is missed or lost. -/
def Dev.swatchDetect (d : Dev) (triggers : Nat) (details : List (Nat × Nat)) (latch cascade : Nat) (late : Bool) : Dev :=
  if !d.thimble then d
  else match d.swatch.det with
    | some x =>
      if x.detect / 5 = d.core.time / 5 then
        let x := { x with triggers := x.triggers ||| triggers, details := x.details ++ details, cascade := max x.cascade cascade }
        { d with swatch := { d.swatch with det := some x } }
      else d.swatchMissed
    | none =>
      if d.swatch.busy.isSome then d.swatchMissed
      else if bit (d.rd 0x3600 4) 7 && d.rdN 0x3600 8 + 3 < d.swatch.number then (d.count 0x3600 7 32 1).notify 0x0B62 0
      else
        let x : SwatchDet := {
          triggers := triggers, details := details, detect := d.core.time, latch := latch, cascade := cascade, late := late }
        ({ d with swatch := { d.swatch with det := some x } }).setFlag 0x3600 1 14 true

/-- A cascade swatch of number n for device time t reaches this member (R304). -/
def Dev.cascadeSwatch (d : Dev) (n t : Nat) : Dev :=
  let late := t < d.core.time
  let d := if late then d.log 0x0A21 0 0 else d
  let own := d.swatch.routed
  let details := d.swatch.routedDetails
  let d := { d with swatch := { d.swatch with routed := 0, routedDetails := [] }, cascade := { d.cascade with swatchNumber := n } }
  d.swatchDetect (64 + own) details (max t d.core.time) n late

/-- The master issues a cascade swatch requested at device time t0 (R304). -/
def Dev.issueSwatch (d : Dev) (t0 : Nat) : Dev :=
  let n := (d.cascade.swatchNumber + 1) % 2 ^ 32
  let t := t0 + d.notchLead
  (d.broadcast 3 (n * 2 ^ 64 + t)).cascadeSwatch n t

/-- A swatch request that goes to the master (R467): bit k of TRIGGERS with its SOURCE_DETAIL. -/
def Dev.routeSwatch (d : Dev) (k detail : Nat) : Dev :=
  let w := d.swatch
  let d := { d with swatch := { w with routed := w.routed ||| 2 ^ k, routedDetails := w.routedDetails ++ [(k, detail)] } }
  if d.isMaster then d.issueSwatch d.core.time else d.askMaster 3 d.core.time

/-- A local trigger (R467): bit k of TRIGGERS with its SOURCE_DETAIL. -/
def Dev.swatchTrigger (d : Dev) (k detail : Nat) : Dev :=
  if !d.thimble then d
  else if bit (d.rd 0x3600 4) 6 then
    if d.established then d.routeSwatch k detail
    else (d.swatchDetect (2 ^ k) [(k, detail)] (d.core.time + 100) 0 false).log 0x0B63 0 0
  else d.swatchDetect (2 ^ k) [(k, detail)] (d.core.time + 100) 0 false

/-! ### Counters (R451 to R457) -/

def tallyIdx (n : Nat) : Nat := 0x4000 + n

/-- TALLY_CONFIG of counter n. -/
def Dev.tallyCfg (d : Dev) (n : Nat) : Word := d.rd (tallyIdx n) 3

/-- Counter n chains from the one before it (R456). -/
def Dev.chained (d : Dev) (n : Nat) : Bool := 0 < n && n < 1024 && bit (d.tallyCfg n) 30

/-- A crossing of counter n (R457). A threshold that STEP carries past 48 bits is a free value: R457 states none. -/
def Dev.crossing (d : Dev) (n : Nat) : Dev :=
  let idx := tallyIdx n
  let cfg := d.tallyCfg n
  let d := (d.complete idx 1 15 none).count 0x3500 2 32 1
  let step := d.rdN idx 6
  let d :=
    if step = 0 then d.setFlag idx 1 12 false
    else
      let t := d.rdN idx 5 + step
      if t < 2 ^ 48 then d.wrN idx 5 t
      else
        let f := d.free
        f.2.wrN idx 5 (f.1.toNat % 2 ^ 48)
  let d := if bit cfg 26 then d.notify 0x0B51 n else d
  if bit cfg 27 && bit (d.rd 0x3600 5) 61 then d.swatchTrigger 4 n else d

/-- Counter n adds 1, with the carry into the counters that chain from it (R456); fuel bounds the chain. -/
def Dev.tallyAdd (d : Dev) : Nat → Nat → Dev
  | 0, _ => d
  | fuel + 1, n =>
    let idx := tallyIdx n
    let v := (d.rdN idx 4 + 1) % 2 ^ 48
    let d := d.wrN idx 4 v
    let d :=
      if v = 0 then
        let d := d.setFlag idx 1 12 true
        if d.chained (n + 1) then d.tallyAdd fuel (n + 1) else (d.setFlag idx 1 14 true).notify 0x0B52 n
      else d
    let thr := d.rdN idx 5
    if thr ≠ 0 && v = thr && bit (d.rd idx 1) 12 then d.crossing n else d

/-- The source of a TALLY_CONFIG is a level source (R452). -/
def levelSource (cfg : Word) : Bool :=
  let cls := bits cfg 23 16
  let ev := bits cfg 3 0
  (cls = 1 && ev = 7) || (cls = 2 && ev = 5) || (cls = 4 && ev = 6) || (cls = 5 && (ev = 2 || ev = 5)) ||
    (cls = 6 && ev = 3) || (cls = 7 && ev = 1) || (cls = 8 && ev = 2) || (cls = 9 && (ev = 0 || ev = 7))

/-- The source of a TALLY_CONFIG is one of R452's. -/
def sourceExists (cfg : Word) : Bool :=
  let cls := bits cfg 23 16
  let inst := bits cfg 15 4
  let ev := bits cfg 3 0
  match cls with
  | 0 => inst = 0 && ev = 0
  | 1 => inst < 216 && ev ≤ 7
  | 2 => inst < 768 && ev ≤ 5
  | 3 => inst < 1536 && ev ≤ 4
  | 4 => inst < 96 && ev ≤ 6
  | 5 => inst < 12 && ev ≤ 6
  | 6 => inst < 512 && ev ≤ 3
  | 7 => inst < 64 && ev ≤ 1
  | 8 => inst < 16 && ev ≤ 2
  | 9 => inst = 0 && ev ≤ 8
  | _ => false

/-- The level of a counter's source at a tick of it (R452), from the state of the hem's island, the bobbin, the raw receiver, the shuttle,
the GPIO pin (its presented level, R263), the spool channel or the device. What a watch point samples inside the fabric, unhindered time
(R105), comes with the event. -/
def Dev.tallyLevel (d : Dev) (cfg : Word) (level : Bool) : Bool :=
  let p := bits cfg 15 4
  match bits cfg 23 16 with
  | 1 => !d.islandOn (hemIsland p)
  | 2 => d.rdN (0x4400 + d.bobbinHead p) 4 ≤ (d.bobbin (d.bobbinHead p)).words.length
  | 4 => d.rawLocked p
  | 5 => (d.shuttle p).state == (if bits cfg 3 0 = 2 then .holding else .running)
  | 6 => level
  | 7 => (d.bank (p / 16)).shown.getLsbD (p % 16)
  | 8 => d.spoolWaiting p
  | _ => bits cfg 3 0 = 0 || bit (d.rd 0x2030 1) 14

/-- TALLY_EVENT: an event of counter n's source, or a tick of it, at which the level of a watch point is as given (R453). -/
def execTallyEvent (n : Fin 1024) (level : Bool) (s : State) : Host.Outcome State Fault Refusal :=
  onDev (fun d =>
    let cfg := d.tallyCfg n.val
    if !d.thimble || d.chained n.val || bits cfg 23 16 = 0 then d
    else if levelSource cfg then
      let level := d.tallyLevel cfg level
      let old := tabGet (fun _ => false) d.tally.levels n.val
      let d := { d with tally := { d.tally with levels := tabSet (fun _ => false) d.tally.levels n.val level } }
      let counts : Bool := if bits cfg 29 28 = 1 then level else level && !old
      if counts then d.tallyAdd 1024 n.val else d
    else if bits cfg 23 16 = 7 && !d.tallyLevel cfg true then d
    else d.tallyAdd 1024 n.val) s

/-! ### Clears and configuration (R455 to R459) -/

/-- Counter n at 0, OVERFLOW clear, armed again (R455, R457). -/
def Dev.tallyZero (d : Dev) (n : Nat) : Dev :=
  ((d.wrN (tallyIdx n) 4 0).setFlag (tallyIdx n) 1 14 false).setFlag (tallyIdx n) 1 12 true

/-- The role that LOCK asks for (R458). -/
def tallyGate (n : Nat) (d : Dev) : Nat := if bit (d.tallyCfg n) 31 then 1 else 0

def actTallyClear (n : Nat) : Act where
  gate := fun d _ => tallyGate n d
  apply := fun d _ => d.tallyZero n

/-- TALLY_CLEAR of counter n: the write of 0x01 (R455). -/
def execTallyClear (n : Fin 1024) (w : Wr) (s : State) : Host.Outcome State Fault Refusal :=
  onDev (rowWrite objTallyClear (actTallyClear n.val) (tallyIdx n.val) 8 w) s

def actTallyClearRange : Act where
  check := fun _ w => let v := objTallyClearRange.valueOf w; if bits v 25 16 < bits v 9 0 then 0x0B50 else 0
  apply := fun d w =>
    let v := objTallyClearRange.valueOf w
    forEach 1024 (fun n e => if bits v 9 0 ≤ n && n ≤ bits v 25 16 then e.tallyZero n else e) d

/-- TALLY_CLEAR_RANGE (R455, R464). -/
def execTallyClearRange (w : Wr) (s : State) : Host.Outcome State Fault Refusal :=
  onDev (rowWrite objTallyClearRange actTallyClearRange 0x3500 3 w) s

/-- TALLY_CONFIG: reserved fields and sources are 0x0B05; LEVEL on an event source and CHAIN on counter 0 are 0x0B50. -/
def actTallyConfig (n : Nat) : Act where
  gate := fun d w =>
    if bit (d.tallyCfg n) 31 || bit (objTallyConfig.valueOf w) 31 then 1 else 0
  check := fun _ w =>
    let v := objTallyConfig.valueOf w
    if bits v 29 28 > 1 || bits v 25 24 ≠ 0 || !sourceExists v then 0x0B05
    else if (bits v 29 28 = 1 && !levelSource v && bits v 23 16 ≠ 0) || (bit v 30 && n = 0) then 0x0B50 else 0
  apply := fun d w =>
    let v := objTallyConfig.valueOf w
    let old := d.tallyCfg n
    let d := (d.wr (tallyIdx n) 3 v).setFlag (tallyIdx n) 1 13 (bit v 30)
    if bits v 23 0 ≠ bits old 23 0 || bits v 30 28 ≠ bits old 30 28 then
      { d.tallyZero n with tally := { d.tally with levels := tabDel d.tally.levels n } }
    else d

/-- TALLY_CONFIG_WRITE (R455, R458). -/
def execTallyConfigWrite (n : Fin 1024) (w : Wr) (s : State) : Host.Outcome State Fault Refusal :=
  onDev (rowWrite objTallyConfig (actTallyConfig n.val) (tallyIdx n.val) 3 w) s

/-- TALLY_THRESHOLD and TALLY_STEP: a threshold write re-arms the counter (R457). -/
def actTallyThreshold (o : Desc) (n sub : Nat) : Act where
  gate := fun d _ => tallyGate n d
  apply := fun d w =>
    let d := d.wr (tallyIdx n) sub (o.valueOf w)
    if sub = 5 then d.setFlag (tallyIdx n) 1 12 true else d

def execTallyAck (n : Fin 1024) (w : Wr) (s : State) : Host.Outcome State Fault Refusal :=
  onDev (rowWrite objTallyAck (ackAct objTallyAck (tallyIdx n.val) 1 15) (tallyIdx n.val) 2 w) s

/-! ### Dumps (R460 to R462) -/

/-- Counter n as a dump value (R461). -/
def Dev.dumpValue (d : Dev) (n : Nat) : Nat := (bit (d.rd (tallyIdx n) 1) 14).toNat * 2 ^ 63 + d.rdN (tallyIdx n) 4

/-- The record of a dump of the configured range (R461). -/
def Dev.dumpRecord (d : Dev) (time trigger : Nat) : List Byte :=
  let cfg := d.rd 0x3501 3
  let first := bits cfg 19 10
  let last := bits cfg 29 20
  let head := leBytes 64 (time % 2 ^ 64 * 2 ^ 448 + (d.tally.dumps + 1) % 2 ^ 32 * 2 ^ 416 + d.rdN 0x3501 6 * 2 ^ 384 +
    trigger * 2 ^ 376 + first * 2 ^ 366 + last * 2 ^ 356 + d.rdN 0x2004 1 * 2 ^ 288 + 0x4B544C59)
  let body := ((List.range (last + 1 - first)).map (fun k => d.dumpValue (first + k))).flatMap (leBytes 8)
  head ++ body ++ List.replicate ((64 - body.length % 64) % 64) 0

/-- Bytes held in the dump buffer. -/
def Dev.dumpFill (d : Dev) : Nat := d.tally.buffer.foldl (fun n r => n + r.length) 0

/-- A byte of a record with a trigger bit added (TRIGGER is byte 47). -/
def addTrigger (r : List Byte) (trigger : Nat) : List Byte := r.modify 47 (fun b => b ||| BitVec.ofNat 8 trigger)

/-- A dump latched at a device time; one that falls on the same instant joins it (R460, R462). -/
def Dev.latchDump (d : Dev) (time trigger : Nat) : Dev :=
  if d.tally.lastDump = some time then
    let old := d.bytesOf 0x3502 0
    let d := { d with tally := { d.tally with buffer := d.tally.buffer.map (fun r => if r = old then addTrigger r trigger else r) } }
    d.setBytes 0x3502 0 (addTrigger old trigger)
  else
    let r := d.dumpRecord time trigger
    let fits := d.dumpFill + r.length ≤ 32768
    let t := d.tally
    let t := { t with dumps := t.dumps + 1, lastDump := some time, buffer := if fits then t.buffer ++ [r] else t.buffer }
    let d := { d with tally := t }
    let d := (d.setBytes 0x3502 0 r).complete 0x3501 1 15 none
    if fits then d
    else
      let d := d.count 0x3501 6 32 1
      if d.tally.sent53 then d else ({ d with tally := { d.tally with sent53 := true } }).notify 0x0B53 0

def Dev.dumpMode (d : Dev) : Nat := bits (d.rd 0x3501 3) 31 30

def checkDumpConfig (_ : Dev) (w : Wr) : Nat :=
  let v := objDumpConfig.valueOf w
  if bits v 29 20 < bits v 19 10 then 0x0B50 else 0

def actDumpRequest : Act where
  allow := fun d _ => if d.dumpMode = 3 then 0x0B54 else 0
  apply := fun d _ => d.latchDump d.core.time 3

/-- DUMP_REQUEST (R460). -/
def execDumpRequest (w : Wr) (s : State) : Host.Outcome State Fault Refusal :=
  onDev (rowWrite objDumpRequest actDumpRequest 0x3501 5 w) s

/-- DUMP_PERIOD_EXPIRY: in mode 1, at a whole multiple of DUMP_PERIOD × 1,000 ns (R460). -/
def execDumpPeriodExpiry (s : State) : Host.Outcome State Fault Refusal :=
  onDev (fun d =>
    if d.thimble && d.dumpMode = 1 && d.core.time % (d.rdN 0x3501 4 * 1000) = 0 then d.latchDump d.core.time 1 else d) s

def execDumpAck (w : Wr) (s : State) : Host.Outcome State Fault Refusal :=
  onDev (rowWrite objDumpAck (ackAct objDumpAck 0x3501 1 15) 0x3501 2 w) s

end Sys2Proof.Machine
end

