-- ==== Sys2Proof/Machine/Selvedge.lean ====
section
/-! DEFINITION. The selvedge (R259 to R278): GPIO banks, their ticks, entries, clocks and pin functions, and the pump ports of the
SAFE balls. -/

namespace Sys2Proof.Machine

/-! ### Pins of a bank -/

/-- The pins of a bank that meet p, as a mask. -/
def pinMask (p : Nat → Bool) : BitVec 16 := BitVec.ofNat 16 (maskOf 16 p)

/-- The bits of a mask replaced. -/
def mergePins (old mask new : BitVec 16) : BitVec 16 := (old &&& ~~~ mask) ||| (new &&& mask)

/-- The objects of bank b and of pin n of it. -/
def bankIdx (b : Nat) : Nat := 0x2801 + b
def pinIdx (b n : Nat) : Nat := 0x2810 + 16 * b + n

/-- The first change of function that a pin has still to make (R270). -/
def Dev.pinChange (d : Dev) (b n : Nat) : Option (Nat × Nat × Nat) := (d.bank b).changing.find? (fun e => e.1 == n)

/-- The function that acts on a pin (R270): until its tick k + 1 the old one. -/
def Dev.pinActs (d : Dev) (b n : Nat) : Nat :=
  match d.pinChange b n with
  | some e => e.2.2
  | none => d.rdN (pinIdx b n) 2

/-- The bank's last tick is tick k of a change of pin n, or comes after it: the first at or after the notch + 20 ns (R270). -/
def Dev.pinDue (d : Dev) (b n : Nat) : Bool := (d.pinChange b n).any (fun e => e.2.1 ≤ (d.bank b).time1)

/-- The level that a function puts on a pin (R268). -/
def Dev.pinSource (d : Dev) (b n fn : Nat) : Bool :=
  let x := d.bank b
  if fn = 2 || fn = 3 then x.outVal.getLsbD n
  else if fn = 4 then bit (d.rd (bankIdx b) 4) n
  else if fn = 7 then x.notchHigh else false

/-- A function drives its pin (R268). -/
def Dev.pinDrives (d : Dev) (b n fn : Nat) : Bool :=
  fn = 2 || fn = 4 || fn = 7 || (fn = 3 && (d.bank b).outEn.getLsbD n)

/-- Whether pin n of bank b is driven, and its level (R266, R270, R279): only once outputs are released, and not while HIGHZ is held. At
tick k it holds what it had before that tick. A drive-capable boundary-scan instruction drives it from its cells (R38, R282, R283). -/
def Dev.pinState (d : Dev) (b n : Nat) : Bool × Bool :=
  let x := d.bank b
  let tap := d.tr.tap
  if tap.driving then (tap.cells.gpioEn.getLsbD (16 * b + n), tap.cells.gpioOut.getLsbD (16 * b + n))
  else if !d.core.outputs || tap.instr == .highz then (false, false)
  else match x.holding.find? (fun e => e.1 == n) with
    | some e => (e.2.2.1, e.2.1)
    | none =>
      if d.pinDue b n then (x.wasDriven.getLsbD n, x.wasLevel.getLsbD n)
      else (d.pinDrives b n (d.pinActs b n), d.pinSource b n (d.pinActs b n))

/-- What a GPIO ball shows (R266, R279, R280): floating, pulled, or driven. -/
inductive PinShow where
  | floats
  | pulled (up : Bool)
  | driven (level : Bool)
  deriving DecidableEq, Repr

/-- What ball n of bank b shows. With VIO down, or in OFF, it floats; its pull acts only while outputs are released. -/
def Dev.pinBall (d : Dev) (b n : Nat) : PinShow :=
  let p := d.pinState b n
  let pull := d.rdN (pinIdx b n) 3
  if !d.env.rails.getLsbD 3 || d.core.state == .off then .floats
  else if p.1 then .driven p.2
  else if d.core.outputs && !d.tr.tap.driving && (pull == 1 || pull == 2) then .pulled (pull == 1)
  else .floats

/-- What the TX lane of a channel shows (R36, R279, R282): high impedance, electrical idle, or a level. A raw lane's levels are its line
bits (R252). -/
inductive LaneShow where
  | hiZ
  | idle
  | level (n : Nat)
  | lineBits
  deriving DecidableEq, Repr

/-- What the TX lane of channel c shows. An AC drive of boundary scan uses levels 0 and 3 only; a lane being calibrated is shown at level 1,
which it holds but for the levels of LOOP between (R246). -/
def Dev.laneBall (d : Dev) (c : Nat) : LaneShow :=
  let tap := d.tr.tap
  if d.core.state == .off || !d.env.rails.getLsbD 2 || tap.instr == .highz then .hiZ
  else if tap.driving then .level (if tap.cells.tx.getLsbD c then 3 else 0)
  else if !d.laneActive c then .idle
  else if d.calibrating (c / 8) then .level 1
  else if d.rawMode c then .lineBits
  else .level (d.needle c).drive.level

/-! ### Ticks (R263, R264, R268) -/

/-- An entry of the bank's to-fabric half (R264). -/
def Dev.bankEntry (d : Dev) (b time tick changed levels : Nat) : Dev :=
  let body := BitVec.ofNat 256 (time % 2 ^ 64 * 2 ^ 192 + tick % 2 ^ 32 * 2 ^ 160 + changed * 2 ^ 16 + levels)
  d.pushed (225 + 2 * b) ((d.half (225 + 2 * b)).pushData body 0 0 time)

/-- The sample entries due at a tick that presents levels captured two ticks earlier (R264). The hems of UNCONFIGURED stay
empty and those of SAFE are held (R152), so entries are written in FITTING and RUN only. -/
def Dev.bankSample (d : Dev) (b : Nat) (old new : BitVec 16) (time : Nat) : Dev :=
  let cfg := d.rd (bankIdx b) 5
  let x := d.bank b
  let tick := d.rdN (bankIdx b) 6 + 2 ^ 48 - 2
  if !(d.core.state == .run || d.core.state == .fitting) then d
  else if bit cfg 31 then
    if x.baseline then d.setBank b { x with baseline := false, interval := 0 }
    else if x.interval + 1 = bits cfg 30 16 then
      (d.setBank b { x with interval := 0 }).bankEntry b time tick (old ^^^ new).toNat new.toNat
    else d.setBank b { x with interval := x.interval + 1 }
  else if bits cfg 15 0 = 0 then d
  else if x.baseline then (d.setBank b { x with baseline := false }).bankEntry b time tick 0 new.toNat
  else if (old ^^^ new).toNat &&& bits cfg 15 0 ≠ 0 then d.bankEntry b time tick (old ^^^ new).toNat new.toNat
  else d

/-- BANK_TICK: the bank captures levels and presents those captured two ticks earlier; a waiting BANK_OUT write and a
due NOTCH_OUT pulse act (R263, R264, R268, R285). -/
def execBankTick (b : Fin 4) (levels : BitVec 16) (s : State) : Host.Outcome State Fault Refusal :=
  onDev (fun d =>
    if !d.thimble || d.core.state = .folded || (d.bank b.val).switching then d
    else
      let x := d.bank b.val
      let i := bankIdx b.val
      let was (n : Nat) : Bool × Bool := d.pinState b.val n
      let objPins := pinMask (fun n => d.pinActs b.val n == 4 || d.rdN (pinIdx b.val n) 2 == 4)
      let d := d.count i 6 48 1
      let new := x.cap2
      let d := match x.objWait with
        | some (m, v) =>
          let m := m &&& objPins
          d.wrN i 4 (mergePins (BitVec.ofNat 16 (d.rdN i 4)) m v).toNat
        | none => d
      let due := x.notchDue.any (fun t => t ≤ d.core.time)
      let d := d.setBank b.val { x with
        extMissing := false, cap1 := levels, cap2 := x.cap1, time1 := d.core.time, time2 := x.time1, shown := new,
        objWait := none, notchHigh := due, notchDue := x.notchDue.filter (fun t => d.core.time < t), applied := false
        wasDriven := pinMask (fun n => (was n).1), wasLevel := pinMask (fun n => (was n).2), newVal := 0, newEn := 0
        newObj := (x.objWait.map (fun o => o.1 &&& objPins)).getD 0 }
      let d := if x.extMissing then d.markRan (fun n => n = 112 + b.val) else d
      let d := d.bankSample b.val x.shown new x.time2
      forEach 16 (fun n e =>
        if e.core.outputs && e.pinActs b.val n = 5 && new.getLsbD n && !x.shown.getLsbD n && bit (e.rd 0x3600 5) 63 then
          e.swatchTrigger 2 (16 * b.val + n)
        else e) d) s

/-! ### To-island entries (R265, R271) -/

/-- An entry applied: VALUE acts on FABRIC_OUT and FABRIC_IO pins, OE on FABRIC_IO pins; a pin that is switching records both
(R271). -/
def Dev.bankApply (d : Dev) (b : Nat) (body : BitVec 256) : Dev :=
  let x := d.bank b
  let is (n : Nat) (p : Nat → Bool) : Bool := p (d.pinActs b n) || p (d.rdN (pinIdx b n) 2)
  let vm := body.extractLsb' 16 16 &&& pinMask (fun n => is n (fun f => f == 2 || f == 3))
  let em := body.extractLsb' 48 16 &&& pinMask (fun n => is n (fun f => f == 3))
  d.setBank b { x with
    outVal := mergePins x.outVal vm (body.extractLsb' 0 16), outEn := mergePins x.outEn em (body.extractLsb' 32 16)
    newVal := x.newVal ||| vm, newEn := x.newEn ||| em, applied := true }

/-- GPIO_ENTRY_APPLY: at one tick the bank reads at most one entry; one whose APPLY_TIME lies ahead waits at the head (R265). An entry of
another KIND is discarded unread, and takes no tick. -/
def execGpioEntryApply (b : Fin 4) (s : State) : Host.Outcome State Fault Refusal :=
  onDev (fun d =>
    let h := 224 + 2 * b.val
    let x := d.bank b.val
    if !d.islandOn (112 + b.val) then d
    else match (d.half h).head with
      | none => d
      | some e =>
        let t := e.data.toNat / 2 ^ 192
        if e.bad ≠ 0 || e.tag.toNat / 64 ≠ 0 then d.putHalf h (d.half h).pop
        else if x.applied then d
        else if d.core.time < t then d.setBank b.val { x with headRead := true }
        else
          let d := d.putHalf h (d.half h).pop
          let d := if t ≠ 0 && t < d.core.time && !x.headRead then d.count (bankIdx b.val) 7 32 1 else d
          (d.setBank b.val { x with headRead := false }).bankApply b.val e.data) s

/-! ### Clocks (R260 to R262) -/

/-- EXT_CLOCK_MISSING: no edge on the external clock for 1 µs; the next tick clears it (R261). -/
def execExtClockMissing (b : Fin 4) (s : State) : Host.Outcome State Fault Refusal :=
  onDev (fun d =>
    if d.thimble && bit (d.rd (bankIdx b.val) 2) 31 then
      (d.setBank b.val { d.bank b.val with extMissing := true }).markStopped (fun n => n = 112 + b.val)
    else d) s

/-- A bank whose BANK_CLOCK names group g leaves the clock it ticks from when that group's island starts or stops (R262). -/
def Dev.followGroup (d : Dev) (g : Nat) : Dev :=
  forEach 4 (fun b e =>
    let cfg := e.rd (bankIdx b) 2
    if !bit cfg 31 && bits cfg 27 24 = g && (e.bank b).fallback == e.groupRuns g then
      (e.setBank b { e.bank b with switching := true }).markStopped (fun n => n = 112 + b)
    else e) d

/-- FALLBACK of BANK_STATUS: an INTERNAL source ticks from the Thimble clock (R262). -/
def Dev.bankFallback (d : Dev) (b : Nat) : Bool :=
  d.islandOn (112 + b) && !bit (d.rd (bankIdx b) 2) 31 && (d.bank b).fallback

/-- BANK_CLOCK_SWITCH: a bank that has left its clock ticks on the one that BANK_CLOCK in effect and the group's island call for (R260,
R262). -/
def execBankClockSwitch (b : Fin 4) (s : State) : Host.Outcome State Fault Refusal :=
  onDev (fun d =>
    if !(d.bank b.val).switching then d
    else
      let cfg := d.rd (bankIdx b.val) 2
      let fall := !d.groupRuns (bits cfg 27 24)
      (d.setBank b.val { d.bank b.val with switching := false, fallback := fall, extMissing := false }).markRan
        (fun n => n = 112 + b.val)) s

/-- BANK_OUT: values wait for the next tick (R285). -/
def actBankOut (b : Nat) : Act where
  allow := fun d _ => if d.islandOn (112 + b) then 0 else 0x0350
  apply := fun d w =>
    let v := objBankOut.valueOf w
    let m := BitVec.ofNat 16 (bits v 31 16)
    let x := BitVec.ofNat 16 (bits v 15 0)
    let old := (d.bank b).objWait.getD (0, 0)
    d.setBank b { d.bank b with objWait := some (old.1 ||| m, mergePins old.2 m x) }
  refuse := fun code d => if code = 0x0350 then d.stoppedRequest (208 + b) else d

def execBankOutWrite (b : Fin 4) (w : Wr) (s : State) : Host.Outcome State Fault Refusal :=
  onDev (rowWrite objBankOut (actBankOut b.val) (bankIdx b.val) 4 w) s

/-! ### Pin functions (R268 to R271) -/

/-- A new function for a pin: the old one acts until the switch (R270); t is the device time of the notch. A change that follows before an
earlier one has been made has a switch of its own after it. -/
def Dev.changePin (d : Dev) (b n fn t : Nat) : Dev :=
  let x := d.bank b
  let old := d.rdN (pinIdx b n) 2
  if old = fn then d
  else (d.wrN (pinIdx b n) 2 fn).setBank b { x with changing := x.changing ++ [(n, t + 20, old)] }

/-- Pin n of bank b begins to hold at the bank's last tick, at a level and a drive (R270). The value, the enable and the BANK_OUT bit of the
pin start at 0 for the new function, but for what this tick has recorded (R268, R271). -/
def Dev.beginHold (d : Dev) (b n : Nat) (driven level : Bool) : Dev :=
  let x := d.bank b
  let m : BitVec 16 := BitVec.ofNat 16 (2 ^ n)
  let clear (new : BitVec 16) : BitVec 16 := ~~~ (m &&& ~~~ new)
  let d := if x.newObj.getLsbD n then d else d.wr (bankIdx b) 4 (setBit (d.rd (bankIdx b) 4) n false)
  d.setBank b { x with
    holding := x.holding ++ [(n, level, driven, d.rdN (bankIdx b) 6)], outVal := x.outVal &&& clear x.newVal
    outEn := x.outEn &&& clear x.newEn }

/-- The changes of a pin that have the bank's last tick as their tick k are one, from the first one's old function to the last one's new
one. -/
def dueAsOne (n now : Nat) : List (Nat × Nat × Nat) → List (Nat × Nat × Nat)
  | [] => []
  | e :: t => if e.1 = n then e :: t.filter (fun x => !(x.1 == n && x.2.1 ≤ now)) else e :: dueAsOne n now t

/-- PIN_FUNCTION_SWITCH: one bank tick of a pin's switch, the tick of the last BANK_TICK. At tick k the pin begins to hold; at tick k + 1
the new function takes over, or the hold of a change that is due goes on (R268, R270). -/
def execPinFunctionSwitch (b : Fin 4) (n : Fin 16) (s : State) : Host.Outcome State Fault Refusal :=
  onDev (fun d =>
    let x := d.bank b.val
    if !d.islandOn (112 + b.val) then d
    else match x.holding.find? (fun e => e.1 == n.val) with
      | some h =>
        if d.rdN (bankIdx b.val) 6 = h.2.2.2 then d
        else
          let d := d.setBank b.val { x with
            holding := x.holding.filter (fun e => e.1 ≠ n.val), changing := x.changing.eraseP (fun e => e.1 == n.val) }
          if d.pinDue b.val n.val then d.beginHold b.val n.val h.2.2.1 h.2.1 else d
      | none =>
        if !d.pinDue b.val n.val then d
        else
          let d := d.beginHold b.val n.val (x.wasDriven.getLsbD n.val) (x.wasLevel.getLsbD n.val)
          let y := d.bank b.val
          d.setBank b.val { y with changing := dueAsOne n.val y.time1 y.changing }) s

/-- The pins of a bank start afresh with a new full image or a cleared array: values, enables and BANK_OUT at 0 (R268). -/
def Dev.freshPins (d : Dev) : Dev :=
  forEach 4 (fun b e =>
    (e.wrN (bankIdx b) 4 0).setBank b { e.bank b with
      outVal := 0, outEn := 0, objWait := none, changing := [], holding := [], newVal := 0, newEn := 0, newObj := 0 }) d

/-- A device notch at device time t gives every NOTCH_OUT pin its pulse (R268). -/
def Dev.notchPulse (d : Dev) (t : Nat) : Dev :=
  forEach 4 (fun b e => e.setBank b { e.bank b with notchDue := (e.bank b).notchDue ++ [t + 20] }) d

/-! ### Pump ports (R274, R275) -/

/-- The patch of the half that feeds the port of a ball is isolated, and its pumps are stopped (R274, R345, R488). -/
def Dev.pumpStopped (d : Dev) (ball : Nat) : Bool :=
  let n := bits (d.rd (0x3A10 + ball / 2) 2) 5 0
  d.frenchBound n && ((d.frenchPatches n)[ball % 2]?).any d.isolated

/-- PUMP_CHARGE: the port of a ball takes a digit. Ball 2f is SAFE_f_A, 2f + 1 SAFE_f_B. Below the VCORE threshold no charge is
delivered (R276), and from an isolated patch none (R345). The first digit a port takes has none before it to differ from (entry 1). After
a permit was withdrawn only the charges that follow its grant count (R507). -/
def execPumpCharge (ball : Fin 8) (digit : BitVec 2) (s : State) : Host.Outcome State Fault Refusal :=
  onDev (fun d =>
    let x := d.ball ball.val
    let f := ball.val / 2
    if !d.fabricLive || !d.vaux || digit = 0 || digit = 3 then d
    else
      let x' := { x with lastDigit := some digit }
      let alternates : Bool := match x.lastDigit with
        | some old => old != digit
        | none => false
      if !alternates || !d.env.rails.getLsbD 0 || d.pumpStopped ball.val then d.setBall ball.val x'
      else
        let v := d.rdN 0x2880 (2 + f)
        let a := v % 2 ^ 32
        let b := v / 2 ^ 32
        let d := if ball.val % 2 = 0 then d.wrN 0x2880 (2 + f) (b * 2 ^ 32 + (a + 1) % 2 ^ 32)
          else d.wrN 0x2880 (2 + f) ((b + 1) % 2 ^ 16 * 2 ^ 32 + a)
        let near := x.charged && d.core.time ≤ x.lastCharge + 2500
        let granted := d.safety.permits.getLsbD f
        d.setBall ball.val { x' with
          charged := granted || !d.safety.withdrawn.getLsbD f, lastCharge := d.core.time
          driven := granted && (x.driven || near) }) s

/-- PUMP_DECAY: no charge has arrived for the decay time, which is no shorter than 2.5 µs (R275). -/
def execPumpDecay (ball : Fin 8) (s : State) : Host.Outcome State Fault Refusal :=
  onDev (fun d =>
    let x := d.ball ball.val
    if x.charged && d.core.time < x.lastCharge + 2500 then d
    else d.setBall ball.val { x with driven := false, charged := false }) s

end Sys2Proof.Machine
end

