-- ==== Sys2Proof/Machine/DeviceState.lean ====
section
/-! DEFINITION. Changes of the device state (R29 to R38, R557) and what each takes with it: runs, calibrations, the spool, permits,
outputs, staged writes, and the contents of the array. -/

namespace Sys2Proof.Machine

/-- A state change (R30, R557): sequence number, reason and time, and the log entry with both state codes in DETAIL; into SAFE
the instance is its cause's (R402). -/
def Dev.changeState (d : Dev) (new : DevState) (reason : Nat) (inst : Nat := 0) : Dev :=
  let old := d.core.state
  let d := { d with core := { d.core with state := new } }
  let d := ((d.complete 0x2000 1 15 none).wrN 0x2000 3 reason).wrN 0x2000 4 d.core.time
  d.log reason inst (old.code * 256 + new.code)

/-- Every run ends at once (R199). -/
def Dev.endRuns (d : Dev) : Dev := forEach 12 (fun g e => e.cutRun g 0x0B22 true) d

/-! ### The levels of a calibration (R246) -/

/-- The instants of n levels after the one that begins at last, each at least 62.5 ps long and all over by stop; more gives what a level
lasts beyond that. -/
def calTimes (more : Nat → Nat) (stop : Int) : Nat → Int → List Int
  | 0, _ => []
  | n + 1, last =>
    let t := max (last + 250) (min (last + 250 + more n) (stop - 250 * (n + 1)))
    t :: calTimes more stop n t

/-- How many levels follow the first within a span of 250 fs steps: whole passes of 0, 3 and 1 for a request that completes. The device
chooses their number (free). -/
def calCount (f : Word) (span : Nat) (whole : Bool) : Nat :=
  let most := span / 250 - 1
  if whole then (if most < 3 then 0 else 3 * (1 + f.toNat % (most / 3))) else f.toNat % (most + 1)

/-- The levels that LOOP has put on the active TX lanes of its groups up to its end, back at level 1 there; the device chooses their
instants (free). -/
def Dev.calLevels (d : Dev) (q : CalReq) (whole : Bool) : Dev :=
  if q.kind ≠ 2 then d
  else
    let f := d.free
    let stop : Int := 4000 * d.core.time
    let n := calCount f.1 (4000 * (d.core.time - q.since)) whole
    forEach 96 (fun c e =>
      if q.groups.testBit (c / 8) && e.laneActive c then
        let more (k : Nat) : Nat := (Config.freeLevel d.freeCtr (96 * k + c)).toNat
        let times := calTimes more stop n (4000 * q.since) ++ (if n % 3 = 0 then [] else [stop])
        let level (k : Nat) : Nat := if k = n || k % 3 = 2 then 1 else if k % 3 = 0 then 0 else 3
        let e := times.zipIdx.foldl (fun e p => e.emit (.lane c p.1 (level p.2))) e
        e.setNeedle c { e.needle c with lastTx := times.getLast?.or (e.needle c).lastTx }
      else e) f.2

/-- A request ends: its TX lanes are at level 1, and its needles return to drive state OFF with v = LOW (R233, R246). -/
def Dev.calEnd (d : Dev) (q : CalReq) (whole : Bool) : Dev :=
  let d := d.calLevels q whole
  forEach 96 (fun c e =>
    if q.groups.testBit (c / 8) then e.setNeedle c { e.needle c with drive := .off, v := false } else e)
    { d with cal := { d.cal with busy := none } }

/-- A calibration in progress ends because the device leaves RUN (R245). -/
def Dev.calAbort (d : Dev) : Dev :=
  match d.cal.busy with
  | none => d
  | some q =>
    let d := ((d.calEnd q false).wrN 0x3340 3 0x0526).wrN 0x3340 6 0
    let d := d.wr 0x3340 1 (setBits (d.rd 0x3340 1) 7 0 q.kind)
    let d := forEach 12 (fun g e => if q.groups.testBit g then e.log 0x0526 g 0 else e) d
    d.complete 0x3340 1 14 (some 15)

/-- Rolling self-tests and an ARRAY run end (R499). -/
def Dev.endTests (d : Dev) : Dev :=
  { d with darn := { d.darn with testing := [], array := false } }

/-- Outputs return to the behaviour before "release outputs" (R36), and the group islands stop (R15, R29). -/
def Dev.dropOutputs (d : Dev) : Dev :=
  let d := d.markStopped (fun n => n < 108)
  let d := { d with core := { d.core with outputs := false }, tr := { d.tr with plls := 0 } }
  forEach 12 (fun g e => e.followGroup g) d

/-- The staged image discarded before its commit latches (R342). -/
def Dev.discardPartial (d : Dev) : Dev :=
  match d.config.staged with
  | some i =>
    if i.committing then d
    else
      let d := { d with config := { d.config with staged := none, staging := [], shadow := [] } }
      let d := d.wr 0x2110 1 (setBits (d.rd 0x2110 1) 13 11 0)
      ((d.wrN 0x2110 7 0x0120).wrN 0x2110 8 0xFFFFFFFF).log 0x0120 0 0
  | none => d

/-- Every staged write still pending is discarded (R27). -/
def Dev.discardStaged (d : Dev) : Dev := { d with staged := [], cal := { d.cal with staged := [] } }

/-- All four swatch slots at zero (R475). -/
def Dev.clearSlots (d : Dev) : Dev :=
  let d := { d with swatch := { d.swatch with slots := [] } }
  forEach 4 (fun s e => ((e.wrN (0x3601 + s) 1 0).wrN (0x3601 + s) 2 0).wrN (0x3601 + s) 3 0) d

/-- What entry to SAFE, to FITTING and a request to clear end alike (R199, R245, R447, R499). -/
def Dev.endWork (d : Dev) : Dev := ((d.endRuns.calAbort).spoolStop).endTests

/-- Dangerous faults (R510). -/
def dangerous (reason : Nat) : Bool :=
  reason = 0x0831 || reason = 0x0910 || reason = 0x0920 || reason = 0x0921 || reason = 0x0361 || reason = 0x0931

/-- Entry to SAFE (R30, R36, R404, R511). A full load in progress ends with it (entry 8). -/
def Dev.enterSafe (d : Dev) (reason inst : Nat) : Dev :=
  match d.core.state with
  | .unconfigured | .fitting | .run | .folded =>
    let d := d.endWork.dropOutputs
    let d := match d.config.load with
      | some l =>
        if l.header.kind = 1 then
          let d := { d with config := { d.config with load := none, slotLoad := none } }
          let d := (d.setFlag 0x2100 1 15 false).setFlag 0x2100 1 13 false
          d.wr 0x2100 1 (setBits (d.rd 0x2100 1) 7 0 0)
        else d
      | none => d
    let d := d.setFlag 0x2100 1 12 false
    let d := { d with core := { d.core with foldPending := false, gatesOpen := false, steps := none }
                      config := { d.config with cfgDone := false }
                      tr := { d.tr with tap := { d.tr.tap with driving := false } } }
    let d := if dangerous reason then d.count 0x3A00 5 32 1 else d
    let d := d.changeState .safe reason inst
    let d := (d.wrN 0x2000 5 (d.seqOf 0x2000 1)).setFlag 0x2030 1 13 (reason == 0x0902)
    (d.updatePermits).emcy (0xFF00 + reason / 256) reason inst
  | _ => d

/-- Of every site only the tension offset that its bundles have adopted stays (R63). -/
def Dev.tensionsOnly (d : Dev) : Dev :=
  { d with panels := (d.panels.map (fun e => (e.1, ({ tension := e.2.tension } : PanelSt)))).filter (fun e => e.2 != {}) }

/-- The register is a WATCH_BINDING (R103). -/
def bindingKey (key : Nat) : Bool := 0x3B8000 ≤ key && key < 0x3C0000 && key % 16 = 0 && key % 256 ≠ 0

/-- No watch point is bound: no image is loaded (R103). -/
def Dev.releaseWatch (d : Dev) : Dev := { d with regs := d.regs.filter (fun r => !bindingKey r.1) }

/-- The array cleared (R35, R152, R171): configuration, registers, block memory, bobbins and hems; global set/reset held, gates
closed, writes waiting; no image loaded, and the recovery copy discarded (R355). -/
def Dev.clearArray (d : Dev) : Dev :=
  let d := (d.clearBlocks (fun _ => true)).emptyBobbins 54
  let d := d.emptyHems.clearSlots.freshPins
  let c := d.config
  let core := { d.core with gsrHeld := true, gatesOpen := false, writes := false, foldPending := false, steps := none }
  let dn := d.darn
  let d := { d.releaseWatch.tensionsOnly with
    darn := { dn with repairs := [], queue := [], waiting := [], french := [] }
    config := {
      orderInEffect := c.orderInEffect, streamBytes := [], skip := 0, forwarding := c.forwarding, loadedAt := c.loadedAt }
    core := core, seams := [], nv := { d.nv with recovery := [] } }
  let d := ((d.wrN 0x2100 6 0).wrN 0x2100 7 0).wrN 0x2120 6 0
  let d := d.wr 0x2100 1 (setBits (d.rd 0x2100 1) 13 12 0)
  let d := d.wr 0x2100 1 (setBits (setBit (d.rd 0x2100 1) 15 false) 7 0 0)
  (d.wr 0x2110 1 (setBit (setBits (d.rd 0x2110 1) 13 10 0) 15 false)).wrN 0x2100 0x0B 0

/-- Boot-up: the CAN node enters pre-operational and says so (R408, R409). -/
def Dev.bootUp (d : Dev) : Dev :=
  let d := { d with tr := { d.tr with nmt := 0x7F } }
  if d.canOn then d.emit (.can (0x700 + d.nodeId) [0]) else d

/-- Entry to UNCONFIGURED with the array cleared: by a request to clear (0x0B79), the fitting timeout (0x0132) or the
acknowledgement of SAFE (0x0B7A). Boot-up is sent once on each entry (R36, R408). -/
def Dev.enterUnconfigured (d : Dev) (reason : Nat) : Dev :=
  let d := d.endWork.dropOutputs.discardPartial.discardStaged
  let d := d.clearArray
  (d.changeState .unconfigured reason).updatePermits.bootUp

/-- What only the acknowledgement of SAFE adds (R204, R219, R233, R237, R404, R518). -/
def Dev.acknowledgeSafe (d : Dev) : Dev :=
  let d := d.enterUnconfigured 0x0B7A
  let d := { d with programs := [], progErrs := [] }
  let d := forEach 12 (fun g e =>
    let e := e.setBytes (0x3300 + g) 1 []
    let e := e.setShuttle g { e.shuttle g with flags := 0, badWords := [] }
    e.recompute g) d
  let d := forEach 4 (fun f e => e.wrN (0x3A10 + f) 4 0) (d.groupsOff 0xFFF)
  d.emcy 0 0 0

/-! ### Reset (R537) -/

/-- What a reset keeps of a register: the spares of a block (R181) and its bucket with its arming, which change only as R173 and R174
state. -/
def keptReg (r : Nat × Word) : Option (Nat × Word) :=
  if 0x480000 ≤ r.1 && r.1 < 0x4E0000 then
    if r.1 % 256 = 8 || r.1 % 256 = 7 then some r
    else if r.1 % 256 = 1 && !bit r.2 14 then some (r.1, 0) else none
  else none

/-- The highest access count of any unit, in thousands: WEAR_PEAK (R350, R389). -/
def Dev.wearPeak (d : Dev) : Nat := d.nv.unitCount.foldl (fun n e => max n e.2) 0 / 1000

/-- Everything that a reset rebuilds at its defaults. What the wardrobe, the battery store and the outside hold stays, and so
do the counts that run from power-on (R427, R461, R472), the count of state changes (R30), the spares in use (R181), and the buckets
(R173). -/
def Dev.rebuilt (d : Dev) : Dev :=
  let e : Dev := {
    nv := d.nv, env := d.env, wiring := d.wiring, out := d.out, freeCtr := d.freeCtr, regs := d.regs.filterMap keptReg }
  let e := { e with tally := { e.tally with dumps := d.tally.dumps }, swatch := { e.swatch with number := d.swatch.number } }
  let e := (e.wr 0x2030 3 (d.rd 0x2030 3)).wrN 0x2310 1 (d.nv.logCount % 2 ^ 32)
  (e.wrN 0x2130 5 d.wearPeak).wrN 0x2000 1 (d.seqOf 0x2000 1 * 2 ^ 16)

/-- Entry to RESET from a powered state (R30). In RESET only the hold starts again (entry 9). hold says that the last cause has
ended already. -/
def Dev.enterReset (d : Dev) (reason : Nat) (hold : Bool) : Dev :=
  if d.core.state = .reset then { d with core := { d.core with holdRunning := hold } }
  else
    let old := d.core.state
    let e := d.rebuilt
    let e := { e with core := { e.core with state := .reset, holdRunning := hold, deferred := [(reason, old.code, 1)] } }
    (e.complete 0x2000 1 15 none).wrN 0x2000 3 reason

end Sys2Proof.Machine
end

