-- ==== Sys2Proof/Machine/Notch.lean ====
section
/-! DEFINITION. Notches (R18 to R28): what takes effect at one, the markers it places, and host notches. -/

namespace Sys2Proof.Machine

/-! ### One staged value takes effect -/

/-- The words of a program record from byte 4 on (R220). -/
def recordWords (l : List Byte) : List (BitVec 64) :=
  (List.range ((l.length - 4) / 8)).map (fun k => BitVec.ofNat 64 (leAt l (4 + 8 * k) 8))

/-- Word a of program memory g. -/
def Dev.progWord (d : Dev) (g a : Nat) : BitVec 64 := tabGet (fun _ => 0) d.programs (g * 16384 + a)

/-- Word a of program memory g written (R194, R219): no bit in error, its uncorrectable report forgotten. -/
def Dev.setProgWord (d : Dev) (g a : Nat) (w : BitVec 64) : Dev :=
  let x := d.shuttle g
  let d := { d with programs := tabSet (fun _ => 0) d.programs (g * 16384 + a) w
                    progErrs := tabSet (fun _ => 0) d.progErrs (g * 16384 + a) 0 }
  d.setShuttle g { x with badWords := x.badWords.filter (fun b => b ≠ a) }

/-- A program record takes effect (R219 to R221). -/
def Dev.applyRecord (d : Dev) (g : Nat) (l : List Byte) : Dev :=
  let a := leAt l 0 4 % 2 ^ 14
  (recordWords l).zipIdx.foldl (fun e p => e.setProgWord g (a + p.2) p.1) d

/-- THREAD_MAP takes effect: the thread's credits start at CREDITS (R306), and its status follows. -/
def Dev.applyThread (d : Dev) (idx : Nat) (v : Word) : Dev :=
  let t := idx - 0x2410
  let en := bit v 31
  let src := en && bits v 15 12 = d.core.cascadeId
  let dst := en && bits v 11 8 = d.core.cascadeId
  let n := if src then bits v 7 0 else 0
  let d := (d.wr idx 2 v).setThread t { d.thread t with credits := n, unreachable := false }
  d.wrN idx 1 (en.toNat * 2 ^ 31 + src.toNat * 2 ^ 30 + dst.toNat * 2 ^ 29 + n)

/-- WIDEN_STATUS of a group follows its set and the members known to hold a group of it: the leader is the lowest group of
the member with the lowest CASCADE_ID (R309). -/
def Dev.setWiden (d : Dev) (g members : Nat) : Dev :=
  let own := d.widened g
  let m := if own then members ||| 2 ^ d.core.cascadeId else 0
  let lowest := (List.range d.core.cascadeId).all (fun i => !m.testBit i)
  let first := (d.localSet g).all (fun k => g ≤ k)
  d.wrN (0x2440 + g) 1 ((own && lowest && first).toNat * 2 ^ 31 + m)

/-- NEEDLE_MODE takes effect at device time t (R251, R272): the needle's pin holds one period. Into channel mode the drive state is OFF with
v = LOW, and the lane has still to go to level 1; into raw mode the line coder and the receiver start afresh. -/
def Dev.switchMode (d : Dev) (c mode t : Nat) : Dev :=
  if d.rdN (0x3200 + c) 2 = mode then d
  else
    let x := d.needle c
    let d := (d.wrN (0x3200 + c) 2 mode).setFlag (0x3200 + c) 6 31 false
    let x := { x with holding := true, heldFrom := t, toOff := mode = 0 }
    if mode = 0 then d.setNeedle c { x with drive := .off, v := false } else d.setNeedle c { x with raw := {} }

/-- One RWN value takes effect, at a notch whose boundary has device time t, or at acceptance (R22, R27). -/
def Dev.applyValue (d : Dev) (idx sub : Nat) (v : Val) (t : Nat) : Dev :=
  match v with
  | .bytes l =>
    if 0x3300 ≤ idx ∧ idx < 0x330C then d.setBytes idx sub l
    else if 0x3110 ≤ idx ∧ idx < 0x311C then (d.applyRecord (idx - 0x3110) l).setBytes idx sub l
    else d.setBytes idx sub l
  | .word w =>
    if 0x3200 ≤ idx ∧ idx < 0x3260 ∧ sub = 2 then d.switchMode (idx - 0x3200) w.toNat t
    else if 0x2801 ≤ idx ∧ idx < 0x2805 ∧ sub = 2 then
      let b := idx - 0x2801
      (d.wr idx sub w).setBank b { d.bank b with switching := (d.bank b).switching || d.rd idx sub != w }
    else if 0x2801 ≤ idx ∧ idx < 0x2805 ∧ sub = 5 then
      let b := idx - 0x2801
      (d.wr idx sub w).setBank b { d.bank b with baseline := true, interval := 0 }
    else if 0x2810 ≤ idx ∧ idx < 0x2850 ∧ sub = 2 then d.changePin ((idx - 0x2810) / 16) ((idx - 0x2810) % 16) w.toNat t
    else if 0x4400 ≤ idx ∧ idx < 0x4700 ∧ sub = 4 then (d.wr idx sub w).newBobbinLevel (idx - 0x4400)
    else if 0x2410 ≤ idx ∧ idx < 0x2430 then d.applyThread idx w
    else if 0x2440 ≤ idx ∧ idx < 0x244C then (d.wr idx sub w).setWiden (idx - 0x2440) 0
    else d.wr idx sub w

/-- A value that bears on the fail-branch latency of group g (R206, R207). -/
def latencyGroup (idx sub : Nat) : Option Nat :=
  if 0x3300 ≤ idx ∧ idx < 0x330C then some (idx - 0x3300)
  else if 0x3100 ≤ idx ∧ idx < 0x310C ∧ sub = 9 then some (idx - 0x3100)
  else if 0x2440 ≤ idx ∧ idx < 0x244C then some (idx - 0x2440)
  else none

/-- A value takes effect at acceptance, as a notional notch of its own (R27). -/
def Dev.applyNow (d : Dev) (idx sub : Nat) (v : Val) : Dev :=
  let d := d.applyValue idx sub v d.core.time
  match latencyGroup idx sub with
  | some g => d.recompute g
  | none => d

/-- An accepted write of a staged object: at once where R27 says so, else staged for its scope's next notch (R22). -/
def Dev.stageOrApply (o : Desc) (idx sub : Nat) (d : Dev) (w : Wr) : Dev :=
  if d.immediate then d.applyNow idx sub (o.valOf w) else d.stage idx sub (o.valOf w) (scopeOf o.scope idx)

/-! ### Scopes -/

/-- A staged write takes effect at the notch at hand; WIDEN_SET waits until its group's shuttle is HALTED (R313). -/
def Dev.due (d : Dev) (scopes : List Scope) (x : Staged) : Bool :=
  scopes.any (fun s => decide (s = x.scope)) &&
    !(0x2440 ≤ x.index && x.index < 0x244C && (d.shuttle (x.index - 0x2440)).state != .halted)

/-- Every staged write of the scopes takes effect (R23 to R25). -/
def Dev.applyScopes (d : Dev) (scopes : List Scope) (t : Nat) : Dev :=
  let now := d.staged.filter (d.due scopes)
  let d := { d with staged := d.staged.filter (fun x => !d.due scopes x) }
  now.foldl (fun e x => e.applyValue x.index x.sub x.val t) d

/-- No staged write takes effect, and no commit latches, in FOLDED and in SAFE (R27). -/
def Dev.frozen (d : Dev) : Bool := d.core.state == .folded || d.core.state == .safe

/-- The groups whose latency a set of staged writes bears on. -/
def Dev.latencyGroups (d : Dev) (scopes : List Scope) : List Nat :=
  (d.staged.filter (d.due scopes)).filterMap (fun x => latencyGroup x.index x.sub)

/-- A calibration's staged results take effect (R245, R249). -/
def Dev.applyCal (d : Dev) (x : CalStaged) : Dev :=
  let d :=
    if x.kind = 1 then
      let c := d.cal
      let c := { c with temp := tabIns (tabDel c.temp x.group) x.group x.temp }
      ({ d with cal := c }).setFlag 0x3340 5 x.group false
    else x.loop.foldl (fun e p => e.wrN (0x3200 + p.1) 0x0C p.2) d
  match x.roundTrip with
  | some rt => d.wrN (shIdx x.group) 0x0B rt
  | none => d

/-- The calibration results staged for the groups of a mask take effect. -/
def Dev.applyCals (d : Dev) (groups : Nat) : Dev :=
  let now := d.cal.staged.filter (fun x => groups.testBit x.group)
  let d := { d with cal := { d.cal with staged := d.cal.staged.filter (fun x => !groups.testBit x.group) } }
  now.foldl (fun e x => e.applyCal x) d

/-! ### Commits (R340) -/

/-- Patch q is repairing, or has a panel out of service for rolling self-test. -/
def Dev.patchBusy (d : Dev) (q : Nat) : Bool :=
  d.darn.repairs.any (fun r => r.patch == q) || d.darn.testing.any (fun t => sitePatch (t.1 % 102) (t.1 / 102) == q)

/-- A staged image latches its commit at a device notch at which its conditions hold (R340, R341 step 1). -/
def Dev.latchCommit (d : Dev) : Dev :=
  match d.config.staged with
  | some i =>
    let released := !i.header.holdCommit || d.rdN 0x2110 3 = i.header.imageId
    let busy := (List.range 54).any (fun q => i.header.patchMask.testBit q && d.patchBusy q)
    if !i.valid || i.committing || !released || d.frozen then d
    else if busy then
      if bit (d.rd 0x2110 1) 12 then d else (d.setFlag 0x2110 1 12 true).log 0x0121 0 0
    else
      let c := d.config
      let c := { c with staged := some { i with committing := true } }
      let d := { d with config := c }
      ((d.setFlag 0x2110 1 13 false).setFlag 0x2110 1 12 false).setFlag 0x2110 1 10 true
  | none => d

/-! ### Markers (R20, R143) -/

/-- The markers of a notch in the hems of group g: one in each compare hem for a group notch, one in the status hem. A stopped
island and a disabled compare hem take none. -/
def Dev.placeMarkers (d : Dev) (m : Marker) (g : Nat) : Dev :=
  if !d.groupRuns g then d
  else
    let body := d.markerBody m g (if m.groups.testBit g then (d.shuttle g).slices else d.retired g m.time)
    let d :=
      if m.groups.testBit g then
        forEach 8 (fun i e =>
          let c := 8 * g + i
          e.feed c (if e.hemEnabled (96 + c) then .notch body else .close)) d
      else d
    d.pushed (statusHalf g) ((d.half (statusHalf g)).pushNotch body)

/-! ### The notch -/

/-- The scopes of a notch. -/
def Marker.scopes (m : Marker) : List Scope :=
  ((List.range 12).filter (fun g => m.groups.testBit g)).map Scope.group ++ (if m.device then [.device] else [])

/-- The changes due at a notch take effect, with what they recompute (R23, R206); none does where R27 holds them. -/
def Dev.applyDue (d : Dev) (m : Marker) (scopes : List Scope) : Dev :=
  if d.frozen then d
  else
    let again := d.latencyGroups scopes ++ (d.cal.staged.filter (fun x => m.groups.testBit x.group)).map (fun x => x.group)
    again.eraseDups.foldl (fun e g => e.recompute g) ((d.applyScopes scopes m.time).applyCals m.groups)

/-- A notch (R18, R23, R214): sequence numbers, the changes due, and for a device notch pin pulses, commits and dumps. -/
def Dev.notchEffect (d : Dev) (m : Marker) (scopes : List Scope) : Dev :=
  let d := forEach 12 (fun g e => if m.groups.testBit g then e.count (shIdx g) 8 32 1 else e) d
  let d := if m.device then d.count 0x2004 1 32 1 else d
  let d := d.applyDue m scopes
  if m.device then
    let d := (d.notchPulse m.time).latchCommit
    if d.thimble && d.dumpMode = 2 then d.latchDump m.time 2 else d
  else d

/-- A notch and its markers, in the groups named. -/
def Dev.notch (d : Dev) (m : Marker) : Dev :=
  let d := d.notchEffect m m.scopes
  forEach 12 (fun g e => if m.device || m.groups.testBit g then e.placeMarkers m g else e) d

/-- Each notch of the group named in CASCADE_NOTCH_SOURCE makes the master issue a cascade notch, which a group of another member asks it
for with the pin time of its boundary; none is issued outside an established ring (R295, R302). The group notch that a cascade notch
itself is does not (entry 10). -/
def Dev.sourceNotch (d : Dev) (g t : Nat) : Dev :=
  if !d.established || d.rdN 0x2403 1 ≠ 16 * d.core.cascadeId + g then d
  else if d.isMaster then d.issueNotch (t + d.notchLead) else d.askMaster 2 t

/-! ### Host notches (R21) -/

/-- The device takes part in a cascade. -/
def Dev.inCascade (d : Dev) : Bool := d.established

/-- HOST_NOTCH (R21): its conditions, and the notch it issues. A GROUPS bit of the halted group that 0x2004.02 names, written without the
DEVICE bit, is a group notch only: DESIGN CHOICE (entry 60), since R18 and R21 leave open whether it is the device notch too. -/
def actHostNotch : Act where
  allow := fun d w =>
    let v := objHostNotch.num w
    let src := d.rdN 0x2004 2
    let groups := (List.range 12).all (fun g => !v.testBit g || (d.shuttle g).state == .halted)
    let device := !d.inCascade && (src == 0xFE || (d.shuttle src).state == .halted)
    if d.core.state == .folded then 0x0B27
    else if !groups || (v.testBit 15 && !device) then 0x0B21 else 0
  apply := fun d w =>
    let v := objHostNotch.num w
    let d := d.notch {
      time := d.core.time, groups := v % 2 ^ 12, device := v.testBit 15, cascade := false, host := true, source := 0xF }
    forEach 12 (fun g e => if v.testBit g then e.sourceNotch g e.core.time else e) d

/-- HOST_NOTCH (R21). -/
def execHostNotch (w : Wr) (s : State) : Host.Outcome State Fault Refusal :=
  onDev (rowWrite objHostNotch actHostNotch 0x2004 3 w) s

end Sys2Proof.Machine
end

