-- ==== Sys2Proof/Machine/Programs.lean ====
section
/-! DEFINITION. Program memories of the shuttles (R193, R194, R219 to R221): instruction words, records, fetches, the scrub port, and
the sample buffers (R218). -/

namespace Sys2Proof.Machine

/-! ### The instruction word (R209 to R211) -/

def opOf (w : BitVec 64) : Nat := bits w 63 58
def notchOf (w : BitVec 64) : Bool := bit w 57
def sampleOf (w : BitVec 64) : Bool := bit w 56
def tsetOf (w : BitVec 64) : Nat := bits w 55 51
/-- SRC: 0 HEM, 1 KEEP, 2 IMM, 3 NOP (R210). -/
def srcOf (w : BitVec 64) : Nat := bits w 50 49
def targetOf (w : BitVec 64) : Nat := bits w 13 0
/-- The CTR field of LOOP and of the match waits. -/
def ctrOf (w : BitVec 64) : Nat := bits w 15 14
def fmaskOf (w : BitVec 64) : Nat := bits w 47 32
def fvalueOf (w : BitVec 64) : Nat := bits w 31 16
def chmaskOf (w : BitVec 64) : BitVec 8 := BitVec.ofNat 8 (bits w 47 40)
def senseOf (w : BitVec 64) : Bool := bit w 15

/-- The opcode is one of R211's. -/
def opExists (op : Nat) : Bool := (1 ≤ op && op ≤ 0x0B) || op == 0x3F

/-- The operand bits that R211 leaves reserved for an opcode. -/
def operandReserved (op : Nat) : Nat :=
  match op with
  | 0x01 => 0
  | 0x02 => 0xFFFFFFFFC000
  | 0x03 => 0xFFFC00000000
  | 0x04 => 0xFFFFFFFF0000
  | 0x05 => 0xFFFFFFFFC000
  | 0x07 => 0x4000
  | 0x08 => 0x007FFFFF4000
  | 0x09 => 0
  | 0x0A => 0x00FFFFFF0000
  | _ => 0xFFFFFFFFFFFF

/-- A program word that R220 admits in a record. -/
def wordAllowed (w : BitVec 64) : Bool :=
  let op := opOf w
  opExists op && !bit w 48 && w.toNat % 2 ^ 48 &&& operandReserved op == 0 &&
    (op == 1 || srcOf w != 2) && (op != 1 || srcOf w == 2 || bits w 31 0 == 0) &&
    ((op != 7 && op != 9) || fvalueOf w &&& (0xFFFF - fmaskOf w) == 0)

/-- The DETAIL with which R220 refuses a record of at most limit words, or none. -/
def recordFault (limit : Nat) (l : List Byte) : Option Nat :=
  let n := (l.length - 4) / 8
  let start := leAt l 0 4
  if l.length < 12 || (l.length - 4) % 8 ≠ 0 || limit < n || 2 ^ 14 ≤ start || 16384 < start + n then some 0xFFFFFFFF
  else ((recordWords l).zipIdx.find? (fun p => !wordAllowed p.1)).map (fun p => start + p.2)

/-! ### Fetches and the scrub port (R194) -/

/-- The number of bits in error of word a. -/
def Dev.progErr (d : Dev) (g a : Nat) : BitVec 79 := tabGet (fun _ => 0) d.progErrs (g * 16384 + a)

def weight79 (m : BitVec 79) : Nat := ((List.range 79).filter (fun i => m.getLsbD i)).length

/-- Bits of word a upset. -/
def Dev.progUpset (d : Dev) (g a : Nat) (up : BitVec 79) : Dev :=
  { d with progErrs := tabSet (fun _ => 0) d.progErrs (g * 16384 + a) (d.progErr g a ^^^ up) }

/-- A correction is written back and counted (R194). -/
def Dev.progCorrect (d : Dev) (g a : Nat) (w : BitVec 64) : Dev := (d.setProgWord g a w).count (shIdx g) 0x17 32 1

/-- A word read through its code: up to two bits in error are corrected and written back, three are uncorrectable; with four or
more the outcome is not defined, so both the class and the word are free (R165, R194). none is uncorrectable. -/
def Dev.readProg (d : Dev) (g a : Nat) (up : BitVec 79) : Option (BitVec 64) × Dev :=
  let d := d.progUpset g a up
  let n := weight79 (d.progErr g a)
  let w := d.progWord g a
  if n = 0 then (some w, d)
  else if n ≤ 2 then (some w, d.progCorrect g a w)
  else if n = 3 then (none, d)
  else
    let f := d.free
    let v := f.2.free
    if f.1.getLsbD 0 then (none, v.2) else (some v.1, v.2.progCorrect g a v.1)

/-- PROGRAM_SCRUB_VISIT: the scrub port of a running group island visits one word; up are the bits of it upset since (R194). A
word left uncorrectable is counted and reported once until it is rewritten. -/
def execProgramScrubVisit (g : Fin 12) (up : BitVec 79) (s : State) : Host.Outcome State Fault Refusal :=
  onDev (fun d =>
    if !d.groupRuns g.val then d
    else
      let x := d.shuttle g.val
      let a := x.scrubPtr
      let d := d.setShuttle g.val { x with scrubPtr := (a + 1) % 16384 }
      let r := d.readProg g.val a up
      match r.1 with
      | some _ => r.2
      | none =>
        let d := r.2
        let x := d.shuttle g.val
        if x.badWords.contains a then d
        else
          let d := d.setShuttle g.val { x with badWords := a :: x.badWords }
          (d.count (shIdx g.val) 0x18 32 1).logNotify 0x0431 g.val a) s

/-- The 131,072 bytes of a program memory in effect (R223). -/
def Dev.progBytes (d : Dev) (g : Nat) : List Byte := (List.range 16384).flatMap (fun a => leBytes 8 (d.progWord g a).toNat)

/-- PROGRAM_CRC (R223). -/
def Dev.progCrc (d : Dev) (g : Nat) : Nat := crc32c (d.progBytes g)

/-! ### Records (R219 to R221) -/

/-- A record refused for what it holds is logged with its DETAIL (R220). -/
def Dev.recordRefused (d : Dev) (g limit code : Nat) (w : Wr) : Dev :=
  if code = 0x0411 then d.log 0x0411 g ((recordFault limit w.bytes).getD 0xFFFFFFFF) else d

def checkRecord (limit : Nat) (_ : Dev) (w : Wr) : Nat := if (recordFault limit w.bytes).isSome then 0x0411 else 0

def actProgram (g : Nat) (w : Wr) : Act where
  check := checkRecord 16384
  allow := fun d _ => if !d.groupRuns g then 0x0350 else if (d.shuttle g).state == .halted then 0 else 0x0410
  apply := fun d w => d.applyRecord g w.bytes
  refuse := fun code d => if code = 0x0350 then d.stoppedRequest (192 + g) else d.recordRefused g 16384 code w

/-- PROGRAM_WRITE (R219); the write needs the group island (R136, R201). -/
def execProgramWrite (g : Fin 12) (w : Wr) (s : State) : Host.Outcome State Fault Refusal :=
  onDev (rowWrite objProgram (actProgram g.val w) (0x3110 + g.val) 1 w) s

def actProgramPatch (g : Nat) (w : Wr) : Act where
  check := checkRecord 256
  apply := Dev.stageOrApply objProgramPatch (0x3110 + g) 2
  refuse := fun code d => d.recordRefused g 256 code w

/-- PROGRAM_PATCH_WRITE (R219, R221). -/
def execProgramPatchWrite (g : Fin 12) (w : Wr) (s : State) : Host.Outcome State Fault Refusal :=
  onDev (rowWrite objProgramPatch (actProgramPatch g.val w) (0x3110 + g.val) 2 w) s

/-- COUNTER is writable only while HALTED (R222); the write needs the group island (R136, R201). -/
def actCounter (g sub : Nat) : Act where
  allow := fun d _ => if !d.groupRuns g then 0x0350 else if (d.shuttle g).state == .halted then 0 else 0x0412
  apply := fun d w => d.wr (shIdx g) sub (objCounter.valueOf w)
  refuse := fun code d => if code = 0x0350 then d.stoppedRequest (192 + g) else d

def actFailLatency (g : Nat) : Act where
  check := fun d w => if objFailLatency.num w < d.rdN (shIdx g) 0x0A then 0x0413 else 0
  apply := Dev.stageOrApply objFailLatency (shIdx g) 9

/-- FAIL_LATENCY_WRITE (R207). -/
def execFailLatencyWrite (g : Fin 12) (w : Wr) (s : State) : Host.Outcome State Fault Refusal :=
  onDev (rowWrite objFailLatency (actFailLatency g.val) (shIdx g.val) 9 w) s

/-! ### Precise sampling (R218) -/

def sampleIdx (g : Nat) : Nat := 0x3120 + g

/-- The fields of a sample entry that the shuttle latches (R215, R218). -/
structure Sample where
  time : Nat
  slice : Nat
  flags : BitVec 16
  fv : BitVec 8
  sticky : BitVec 8
  pc : Nat
  depth : Nat
  tset : Nat
  deriving DecidableEq, Repr

/-- Entry n of group g (R218). -/
def Dev.sampleBody (d : Dev) (g n : Nat) (x : Sample) : BitVec 512 :=
  let cfg := d.rd (sampleIdx g) 3
  let ctr (k : Nat) : Nat := d.rdN (shIdx g) (0x0C + k)
  BitVec.ofNat 512 (x.time % 2 ^ 64 * 2 ^ 448 + n * 2 ^ 416 + x.slice % 2 ^ 48 * 2 ^ 368 +
    d.rdN (0x4000 + bits cfg 9 0) 4 * 2 ^ 320 + d.rdN (0x4000 + bits cfg 19 10) 4 * 2 ^ 272 + ctr 3 * 2 ^ 240 +
    ctr 2 * 2 ^ 208 + ctr 1 * 2 ^ 176 + ctr 0 * 2 ^ 144 + x.flags.toNat * 2 ^ 128 + x.fv.toNat * 2 ^ 120 +
    x.sticky.toNat * 2 ^ 112 + x.pc * 2 ^ 98 + x.depth * 2 ^ 94 + x.tset * 2 ^ 89)

/-- A sample entry written, or in STOP mode with 512 unacknowledged ones lost (R218). -/
def Dev.sample (d : Dev) (g : Nat) (v : Sample) : Dev :=
  let idx := sampleIdx g
  let n := d.rdN idx 4
  if bit (d.rd idx 3) 31 && 512 ≤ n - d.rdN idx 5 then
    let d := d.count idx 6 32 1
    let x := d.shuttle g
    if x.sent441 then d else (d.setShuttle g { x with sent441 := true }).notify 0x0441 g
  else
    let x := d.shuttle g
    let body := d.sampleBody g n v
    (d.setShuttle g { x with samples := tabSet (fun _ => 0) x.samples (n % 512) body }).count idx 4 32 1

def actSampleAck (g : Nat) : Act where
  apply := fun d w =>
    let n := objSampleAck.num w
    let idx := sampleIdx g
    if d.rdN idx 5 ≤ n && n ≤ d.rdN idx 4 then d.wrN idx 5 n else d

/-- SAMPLE_ACK (R218). -/
def execSampleAck (g : Fin 12) (w : Wr) (s : State) : Host.Outcome State Fault Refusal :=
  onDev (rowWrite objSampleAck (actSampleAck g.val) (sampleIdx g.val) 2 w) s

def execShuttleAck (g : Fin 12) (w : Wr) (s : State) : Host.Outcome State Fault Refusal :=
  onDev (rowWrite objShuttleAck (ackAct objShuttleAck (shIdx g.val) 1 15) (shIdx g.val) 2 w) s

end Sys2Proof.Machine
end

