-- ==== Sys2Proof/Machine/Shuttles.lean ====
section
/-! DEFINITION. The shuttles (R193 to R218): commands, slice boundaries, control actions, starvation, holds, flags, and the widened
sets of R309. Pin times are in steps of 250 fs, device times in ns. -/

namespace Sys2Proof.Machine

/-! ### Fail vectors (R205, R208) -/

/-- The fail vector of slice j that group g sees: its own, and those of the other groups of its widened set on this device;
what arrived from other members has been joined to its own (R309). -/
def Dev.failVec (d : Dev) (g j : Nat) : BitVec 8 :=
  (d.localSet g).foldl (fun v k => v ||| tabGet (fun _ => 0) (d.shuttle k).vecs j) (tabGet (fun _ => 0) (d.shuttle g).vecs j)

/-- L in effect. -/
def Dev.latency (d : Dev) (g : Nat) : Nat := d.rdN (shIdx g) 9

/-- The vectors up to index n − 1 become visible: those after the last CLEAR join the sticky vector (R208). -/
def Dev.joinVisible (d : Dev) (g n : Nat) : Dev :=
  let x := d.shuttle g
  let first := max x.seen x.clearMark
  let sticky := (List.range (n - first)).foldl (fun v k => v ||| d.failVec g (first + k)) x.sticky
  d.setShuttle g { x with sticky := sticky, seen := max x.seen n, vecs := x.vecs.filter (fun e => n < e.1 + 256) }

/-! ### Control actions (R212, R213) -/

/-- Where the control action of an instruction leads. -/
inductive Ctl where
  | next (pc : Nat)
  | again
  | fault (code : Nat)
  | halt
  deriving DecidableEq, Repr

/-- What a control action does: where it leads, the counter it writes, the stack after it, a CLEAR, a match timeout. -/
structure CtlStep where
  ctl : Ctl
  counter : Option (Nat × Nat) := none
  stack : List Nat
  clear : Bool := false
  timeout : Bool := false
  deriving DecidableEq, Repr

/-- The end of one repetition of a match wait (R213). -/
def matchStep (x : ShuttleSt) (cnt : Nat → Nat) (ok : Bool) : CtlStep :=
  let k := ctrOf x.word
  if ok then { ctl := .next ((x.pc + 1) % 16384), stack := x.stack }
  else if cnt k ≤ 1 then { ctl := .next (targetOf x.word), counter := some (k, 0), stack := x.stack, timeout := true }
  else { ctl := .again, counter := some (k, cnt k - 1), stack := x.stack }

/-- The control action at the end of a slice of the instruction at hand: cnt gives the counters, fv the fail vector, seenRep
whether slice s − L is an unsubstituted repetition of this execution (R212, R213). -/
def control (x : ShuttleSt) (cnt : Nat → Nat) (fv : BitVec 8) (seenRep : Bool) : CtlStep :=
  let w := x.word
  let after := (x.pc + 1) % 16384
  let go (pc : Nat) : CtlStep := { ctl := .next pc, stack := x.stack }
  match opOf w with
  | 0x01 => if x.reps < bits w 47 32 then { ctl := .again, stack := x.stack } else go after
  | 0x02 => go (targetOf w)
  | 0x03 => { go after with counter := some (bits w 33 32, bits w 31 0) }
  | 0x04 =>
    let k := ctrOf w
    if cnt k = 0 then go after
    else { go (if cnt k - 1 ≠ 0 then targetOf w else after) with counter := some (k, cnt k - 1) }
  | 0x05 =>
    if x.stack.length = 8 then { ctl := .fault 0x0421, stack := x.stack }
    else { ctl := .next (targetOf w), stack := after :: x.stack }
  | 0x06 =>
    match x.stack with
    | [] => { ctl := .fault 0x0422, stack := [] }
    | a :: rest => { ctl := .next a, stack := rest }
  | 0x07 =>
    let hit := x.flags.toNat &&& fmaskOf w == fvalueOf w
    go (if hit != senseOf w then targetOf w else after)
  | 0x08 =>
    let v := if bit w 39 then x.sticky else fv
    let hit := v &&& chmaskOf w != 0
    go (if hit != senseOf w then targetOf w else after)
  | 0x09 => matchStep x cnt (x.flags.toNat &&& fmaskOf w == fvalueOf w)
  | 0x0A => if seenRep then matchStep x cnt (fv &&& chmaskOf w == 0) else { ctl := .again, stack := x.stack }
  | 0x0B => { go after with clear := true }
  | 0x3F => { ctl := .halt, stack := x.stack }
  | _ => { ctl := .fault 0x0420, stack := x.stack }

/-! ### Symbols (R138, R150, R210, R231) -/

/-- NOP in all 16 periods. -/
def nopSlice : DriveSlice := { word := BitVec.allOnes 64, invalid := false }
def invalidSlice : DriveSlice := { word := BitVec.allOnes 64, invalid := true }

/-- The slices of a drive entry (R138); an uncorrectable data word makes its slice NOP, an uncorrectable tag all four (R150). -/
def entrySlices (e : HEntry) : List DriveSlice :=
  if e.bad.getLsbD 4 then List.replicate 4 invalidSlice
  else (List.range (e.tag.toNat / 16 % 4 + 1)).map (fun k =>
    if e.bad.getLsbD k then invalidSlice else { word := e.data.extractLsb' (64 * k) 64, invalid := false })

/-- The next slice of a drive half, if it has one. -/
def HalfSt.nextSlice (x : HalfSt) : Option (DriveSlice × HalfSt) :=
  match x.cur with
  | a :: rest => some (a, { x with cur := rest })
  | [] =>
    match x.head with
    | some e =>
      match entrySlices e with
      | a :: rest => some (a, { x.pop with cur := rest })
      | [] => none
    | none => none

/-- The shuttle takes symbols for channel c from its drive hem: it is enabled and the lane is not raw (R145, R252). -/
def Dev.drives (d : Dev) (c : Nat) : Bool := d.hemEnabled c && !d.rawMode c

/-- The slices that a hem of a widened set still owes are discarded as it delivers them (R309). -/
def Dev.discardOwed (d : Dev) (c : Nat) : Nat → Dev
  | 0 => d
  | n + 1 =>
    let x := d.half c
    if x.discard = 0 then d
    else match x.nextSlice with
      | some p => (d.putHalf c { p.2 with discard := x.discard - 1 }).discardOwed c n
      | none => d

/-- The drive hems of group g that starve, as bits (R145). -/
def Dev.starved (d : Dev) (g : Nat) : Nat :=
  maskOf 8 (fun i => d.drives (8 * g + i) && ((d.half (8 * g + i)).nextSlice).isNone)

/-- The slice that channel c takes from its hem; NOP where it takes none. -/
def Dev.takeSlice (d : Dev) (c : Nat) : DriveSlice × Dev :=
  if d.drives c then
    match (d.half c).nextSlice with
    | some p => (p.1, d.putHalf c p.2)
    | none => (invalidSlice, d)
  else (nopSlice, d)

/-- The slices of all eight channels, in order. -/
def Dev.takeSlices (d : Dev) (g : Nat) : List DriveSlice × Dev :=
  (List.range 8).foldl (fun p i => let q := p.2.takeSlice (8 * g + i); (p.1 ++ [q.1], q.2)) ([], d)

/-- The symbol of channel position i under SRC = IMM, in all 16 periods. -/
def immSlice (w : BitVec 64) (i : Nat) : DriveSlice :=
  { word := BitVec.ofNat 64 (w.toNat / 16 ^ i % 16 * 0x1111111111111111), invalid := false }

/-- The slices of a source that takes nothing from the hems. -/
def fixedSlices (x : ShuttleSt) : List DriveSlice :=
  match srcOf x.word with
  | 1 => match x.keep with
    | some l => l.map (fun v => { word := v, invalid := false })
    | none => List.replicate 8 nopSlice
  | 2 => (List.range 8).map (immSlice x.word)
  | _ => List.replicate 8 nopSlice

/-! ### Issuing a slice (R202 steps 5 and 6) -/

/-- A slice of group g goes down to the needles of its channel lanes; subst says that it stands in for the pending one. -/
def Dev.issue (d : Dev) (g : Nat) (syms : List DriveSlice) (subst : Bool) : Dev :=
  let x := d.shuttle g
  let k := tsetOf x.word
  let stop := x.pin + 16 * periodOf (d.table g) k
  let d := forEach 8 (fun i e =>
    let c := 8 * g + i
    let y := (syms[i]?).getD nopSlice
    if e.rawMode c then e
    else e.feed c (.slice x.slices x.pin (e.timing c k) y.word (subst || y.invalid) (e.hemEnabled (96 + c)))) d
  d.setShuttle g { d.shuttle g with
    state := .running, curSubst := subst, slices := x.slices + 1, pin := stop,
    subst := if subst then x.slices :: x.subst else x.subst,
    lastPc := if subst then x.lastPc else x.pc,
    hist := ((x.pin, stop, if subst then x.lastPc else x.pc) :: x.hist).take 40 }

/-- A starved hem: STARVED, HEM_LOSS, and 0x0360 once a window where the policy notifies it (R147 to R149). -/
def Dev.markStarved (d : Dev) (c : Nat) (notify : Bool) : Dev :=
  let x := d.half c
  let w := d.hemWinOf c
  let d := d.setHalf c { x with loss := (x.loss + 1) % 2 ^ 32 }
  let d := d.setHemWin c { w with starved := true, sent360 := w.sent360 || notify }
  if notify && !w.sent360 then d.notify 0x0360 c else d

/-- The pending slice takes its symbols from the hems and starts. -/
def Dev.startFromHems (d : Dev) (g : Nat) : Dev :=
  let p := d.takeSlices g
  let x := p.2.shuttle g
  (p.2.setShuttle g { x with keep := some (p.1.map (fun y => y.word)) }).issue g p.1 false

/-- Starvation at a boundary under the policy of group g (R147 to R149, R309). -/
def Dev.starve (d : Dev) (g starved : Nat) : Dev :=
  let policy := d.rdN (shIdx g) 0x20
  let x := d.shuttle g
  let t := x.pin / 4000
  let d := forEach 8 (fun i e => if starved.testBit i then e.markStarved (8 * g + i) (policy != 2) else e) d
  match policy with
  | 0 =>
    let d := d.status g 1 t x.slices starved
    if d.widened g then
      let d := d.startFromHems g
      forEach 8 (fun i e =>
        if starved.testBit i then
          let h := e.half (8 * g + i)
          e.setHalf (8 * g + i) { h with discard := h.discard + 1 }
        else e) d
    else d.issue g (List.replicate 8 nopSlice) true
  | 1 => (d.status g 2 t x.slices starved).setShuttle g { x with state := .holding }
  | _ =>
    let first := ((List.range 8).find? (fun i => starved.testBit i)).getD 0
    (d.runEnd g t x.lastPc 0x0361 8 x.slices starved).enterSafe 0x0361 (8 * g + first)

/-- Steps 4 to 6 of R202 for the pending slice. -/
def Dev.startPending (d : Dev) (g : Nat) : Dev :=
  if srcOf (d.shuttle g).word = 0 then
    let d := forEach 8 (fun i e => e.discardOwed (8 * g + i) (e.half (8 * g + i)).discard) d
    let starved := d.starved g
    if starved = 0 then d.startFromHems g else d.starve g starved
  else d.issue g (fixedSlices (d.shuttle g)) false

/-! ### Notches at a boundary (R18, R19, R214) -/

/-- A cascade notch awaits group g at a boundary with a device time. -/
def CasEvent.dueFor (e : CasEvent) (g t : Nat) : Bool := e.time ≤ t && !e.groupsDone.getLsbD g

/-- Group g has taken the cascade notches due at a boundary; one that every scope and group has taken is done with. -/
def Dev.takeCascade (d : Dev) (g t : Nat) : Dev :=
  let mark (e : CasEvent) : CasEvent :=
    if e.dueFor g t then { e with groupsDone := e.groupsDone ||| BitVec.ofNat 12 (2 ^ g) } else e
  let l := (d.cascade.notches.map mark).filter (fun e => !(e.applied && e.groupsDone == BitVec.allOnes 12))
  { d with cascade := { d.cascade with notches := l } }

/-- The notch of a boundary of group g at device time t: for a NOTCH bit, for the cascade notches due, or for both as one. -/
def Dev.boundaryNotch (d : Dev) (g t : Nat) (own : Bool) : Dev :=
  let due := d.cascade.notches.filter (fun e => e.dueFor g t)
  let cascade := !due.isEmpty
  let device := own && !d.established && d.rdN 0x2004 2 == g
  if !own && !cascade then d
  else
    let m : Marker := {
      time := t, groups := 2 ^ g, device := device, cascade := cascade, host := false, source := if device then g else 0xF }
    let d := (d.notchEffect m m.scopes).takeCascade g t
    let shown := { m with
      device := device || cascade, ahead := (!due.isEmpty && due.all (fun e => !e.applied)).toNat }
    let d := d.placeMarkers shown g
    let d := if device then forEach 12 (fun k e => if k = g then e else e.placeMarkers m k) d else d
    if own then d.sourceNotch g t else d

/-! ### The boundary (R202) -/

/-- What follows step 3 of R202: the run ends, or the pending instruction is fetched and starts. first marks the start
instant, whose STARTED entry a word that cannot execute does not get (R217). -/
def Dev.proceed (d : Dev) (g : Nat) (halted notched first : Bool) (up : BitVec 79) : Dev :=
  let x := d.shuttle g
  let t := x.pin / 4000
  if halted then d.runEnd g t x.pc 0 5 x.slices 0
  else if x.floorFault then d.runEnd g t x.lastPc 0x0405 8 x.slices 0
  else
    let r := d.readProg g x.pc up
    match r.1 with
    | none => r.2.runEnd g t x.pc 0x0430 8 x.slices 0
    | some w =>
      if !opExists (opOf w) then r.2.runEnd g t x.pc 0x0420 8 x.slices 0
      else if x.stopAt ≤ t && (x.stopReq == .stop || notched && x.stopReq == .atNotch) then
        r.2.runEnd g t x.lastPc 0 6 x.slices 0
      else
        let d := r.2.setShuttle g { r.2.shuttle g with word := w }
        let d := if first then d.status g 4 t 0 0 else d
        d.startPending g

/-- Slice s − L is an unsubstituted repetition of the execution at hand (R213). -/
def seenRep (x : ShuttleSt) (s lat : Nat) : Bool :=
  lat ≤ s && x.execFrom ≤ s - lat && !x.subst.contains (s - lat)

/-- The shuttle after a control action. -/
def Dev.afterControl (d : Dev) (g s : Nat) (r : CtlStep) : Dev :=
  let d := match r.counter with
    | some (k, v) => d.wrN (shIdx g) (0x0C + k) v
    | none => d
  let x := d.shuttle g
  let x := { x with
    stack := r.stack
    sticky := if r.clear then 0 else x.sticky
    clearMark := if r.clear then s + 1 else x.clearMark }
  match r.ctl with
  | .next pc => d.setShuttle g { x with pc := pc, reps := 0, execFrom := s + 1, subst := [] }
  | .again => d.setShuttle g { x with reps := x.reps + 1 }
  | _ => d.setShuttle g x

/-- The final boundary of an instruction, its control action r done: MATCH_TIMEOUT, sample entry, notch (R202 steps 2, 3). -/
def Dev.finalBoundary (d : Dev) (g s : Nat) (before : ShuttleSt) (fv : BitVec 8) (r : CtlStep) (up : BitVec 79) : Dev :=
  let t := before.pin / 4000
  let w := before.word
  let v : Sample := {
    time := t, slice := s, flags := before.flags, fv := fv, sticky := before.sticky, pc := before.pc,
    depth := before.stack.length, tset := tsetOf w }
  let d := if r.timeout then (d.status g 7 t before.slices 0).notify 0x0440 g else d
  let d := if sampleOf w then d.sample g v else d
  let d := if sampleOf w && bit (d.rd 0x3600 5) 62 && bit (d.rd 0x3600 5) (32 + g) then d.swatchTrigger 3 g else d
  let d := d.afterControl g s r
  let own := notchOf w
  let notched := own || d.cascade.notches.any (fun e => e.dueFor g t)
  (d.boundaryNotch g t own).proceed g (r.ctl == .halt) notched false up

/-- The run of every group of this device in the widened set of group g ends with 0x0A42: a fail vector of the set is late (R309). -/
def Dev.lateVector (d : Dev) (g : Nat) : Dev :=
  (d.localSet g).foldl (fun e k =>
    let x := e.shuttle k
    if x.state == .running then e.runEnd k (x.pin / 4000) x.lastPc 0x0A42 8 x.slices 0 else e) d

/-- A boundary of a run of group g (R202). up are the bits upset in the word to be fetched; remote is the vector of slice s − L
from the other members of a widened set, if it has arrived (R309). -/
def Dev.boundary (d : Dev) (g : Nat) (up : BitVec 79) (remote : Option (BitVec 8)) : Dev :=
  let x := d.shuttle g
  let s := x.slices - 1
  let lat := d.latency g
  let t := x.pin / 4000
  if x.state != .running || !d.groupRuns g || (lat ≤ s && !d.vecReady g (s - lat)) then d
  else if d.remoteMembers g && lat ≤ s && remote.isNone then (d.lateVector g).broadcast 10 ((d.widenSet g * 4 + 3) * 2 ^ 78)
  else
    let d := if lat ≤ s then
        let own := tabGet (fun _ => 0) x.vecs (s - lat)
        let joined := tabSet (fun _ => 0) x.vecs (s - lat) (own ||| remote.getD 0)
        (d.setShuttle g { x with vecs := joined }).joinVisible g (s - lat + 1)
      else d
    let x := d.shuttle g
    let quiet (d : Dev) : Dev :=
      let notched := d.cascade.notches.any (fun e => e.dueFor g t)
      (d.boundaryNotch g t false).proceed g false notched false up
    if x.curSubst then quiet d
    else
      let fv := if lat ≤ s then d.failVec g (s - lat) else 0
      let r := control x (fun k => d.rdN (shIdx g) (0x0C + k)) fv (seenRep x s lat)
      match r.ctl with
      | .fault code => d.runEnd g t x.pc code 8 x.slices 0
      | .again => quiet (d.afterControl g s r)
      | _ => d.finalBoundary g s x fv r up

/-- A STOP accepted while the shuttle holds ends the run at the next group beat (R199). -/
def Dev.stopHolding (d : Dev) (g : Nat) : Dev :=
  let x := d.shuttle g
  if x.stopReq == .stop && x.stopAt ≤ d.core.time && d.groupRuns g then
    (d.status g 6 d.core.time x.slices 0).runEnd g (x.pin / 4000) x.lastPc 0 0 x.slices 0
  else d

/-- SLICE_BOUNDARY: the boundary beat of a running group, or a group beat of a holding one. -/
def execSliceBoundary (g : Fin 12) (up : BitVec 79) (remote : Option (BitVec 8)) (s : State) :
    Host.Outcome State Fault Refusal :=
  onDev (fun d => if (d.shuttle g.val).state == .holding then d.stopHolding g.val else d.boundary g.val up remote) s

/-- The boundary that ends a slice of an instruction with opcode op; a substituted slice is none of its own. -/
def Dev.opBoundary (d : Dev) (op g : Nat) (up : BitVec 79) (remote : Option (BitVec 8)) : Dev :=
  let x := d.shuttle g
  if x.state == .running && !x.curSubst && opOf x.word == op then d.boundary g up remote else d

/-- SLICE: opcode 0x01. -/
def execSlice (g : Fin 12) (up : BitVec 79) (remote : Option (BitVec 8)) (s : State) : Host.Outcome State Fault Refusal :=
  onDev (fun d => d.opBoundary 0x01 g.val up remote) s
/-- JUMP: opcode 0x02. -/
def execJump (g : Fin 12) (up : BitVec 79) (remote : Option (BitVec 8)) (s : State) : Host.Outcome State Fault Refusal :=
  onDev (fun d => d.opBoundary 0x02 g.val up remote) s
/-- LOAD: opcode 0x03. -/
def execLoad (g : Fin 12) (up : BitVec 79) (remote : Option (BitVec 8)) (s : State) : Host.Outcome State Fault Refusal :=
  onDev (fun d => d.opBoundary 0x03 g.val up remote) s
/-- LOOP: opcode 0x04. -/
def execLoop (g : Fin 12) (up : BitVec 79) (remote : Option (BitVec 8)) (s : State) : Host.Outcome State Fault Refusal :=
  onDev (fun d => d.opBoundary 0x04 g.val up remote) s
/-- CALL: opcode 0x05. -/
def execCall (g : Fin 12) (up : BitVec 79) (remote : Option (BitVec 8)) (s : State) : Host.Outcome State Fault Refusal :=
  onDev (fun d => d.opBoundary 0x05 g.val up remote) s
/-- RETURN: opcode 0x06. -/
def execRet (g : Fin 12) (up : BitVec 79) (remote : Option (BitVec 8)) (s : State) : Host.Outcome State Fault Refusal :=
  onDev (fun d => d.opBoundary 0x06 g.val up remote) s
/-- BRANCH_FLAG: opcode 0x07. -/
def execBranchFlag (g : Fin 12) (up : BitVec 79) (remote : Option (BitVec 8)) (s : State) : Host.Outcome State Fault Refusal :=
  onDev (fun d => d.opBoundary 0x07 g.val up remote) s
/-- BRANCH_FAIL: opcode 0x08. -/
def execBranchFail (g : Fin 12) (up : BitVec 79) (remote : Option (BitVec 8)) (s : State) : Host.Outcome State Fault Refusal :=
  onDev (fun d => d.opBoundary 0x08 g.val up remote) s
/-- MATCH_FLAG: opcode 0x09. -/
def execMatchFlag (g : Fin 12) (up : BitVec 79) (remote : Option (BitVec 8)) (s : State) : Host.Outcome State Fault Refusal :=
  onDev (fun d => d.opBoundary 0x09 g.val up remote) s
/-- MATCH_FAIL: opcode 0x0A. -/
def execMatchFail (g : Fin 12) (up : BitVec 79) (remote : Option (BitVec 8)) (s : State) : Host.Outcome State Fault Refusal :=
  onDev (fun d => d.opBoundary 0x0A g.val up remote) s
/-- CLEAR: opcode 0x0B. -/
def execClear (g : Fin 12) (up : BitVec 79) (remote : Option (BitVec 8)) (s : State) : Host.Outcome State Fault Refusal :=
  onDev (fun d => d.opBoundary 0x0B g.val up remote) s
/-- HALT: opcode 0x3F. -/
def execHalt (g : Fin 12) (up : BitVec 79) (remote : Option (BitVec 8)) (s : State) : Host.Outcome State Fault Refusal :=
  onDev (fun d => d.opBoundary 0x3F g.val up remote) s

/-! ### Starts and holds (R148, R197, R198) -/

/-- Every enabled drive hem of group g has at least START_FILL entries in its reader's view (R198). -/
def Dev.filled (d : Dev) (g n : Nat) : Bool :=
  (List.range 8).all (fun i => !d.drives (8 * g + i) || n ≤ (d.half (8 * g + i)).readerFill)

/-- The start instant of an ARMED shuttle: it is startAt, or under START_FILL the later instant at which the fill has held
(R198). -/
def Dev.runStart (d : Dev) (g startAt : Nat) (up : BitVec 79) : Dev :=
  let x := d.shuttle g
  let at' := if x.startFill = 0 then x.startAt else startAt
  if x.state != .armed || !d.groupRuns g || at' < x.startAt || !d.filled g x.startFill then d
  else if x.stopReq == .stop && x.stopAt ≤ at' then d.setShuttle g { x with state := .halted, stopReq := .none }
  else
    let d := (d.setShuttle g { x with state := .running, pin := 4000 * at' }).updatePermits
    let notched := d.cascade.notches.any (fun e => e.dueFor g at')
    (d.boundaryNotch g at' false).proceed g false notched true up

/-- RUN_START (R198). -/
def execRunStart (g : Fin 12) (startAt : Nat) (up : BitVec 79) (s : State) : Host.Outcome State Fault Refusal :=
  onDev (fun d => d.runStart g.val startAt up) s

/-- HOLD_END: after a whole number of beats no enabled drive hem starves; the pin timeline goes on (R148). -/
def execHoldEnd (g : Fin 12) (beats : Nat) (s : State) : Host.Outcome State Fault Refusal :=
  onDev (fun d =>
    let x := d.shuttle g.val
    if x.state != .holding || beats = 0 || !d.groupRuns g.val || x.stopReq == .stop && x.stopAt ≤ d.core.time ||
        d.starved g.val ≠ 0 then d
    else
      let x := { x with pin := x.pin + 4000 * beats }
      let d := (d.setShuttle g.val x).status g.val 3 (x.pin / 4000) x.slices 0
      d.startFromHems g.val) s

/-- RESERVED_OPCODE_FAULT: a word with a reserved opcode becomes the pending instruction, at a boundary or at the start instant;
the run ends with 0x0420 (R217). -/
def execReservedOpcodeFault (g : Fin 12) (startAt : Nat) (up : BitVec 79) (remote : Option (BitVec 8)) (s : State) :
    Host.Outcome State Fault Refusal :=
  onDev (fun d =>
    let e := if (d.shuttle g.val).state == .armed then d.runStart g.val startAt up else d.boundary g.val up remote
    if (d.shuttle g.val).state != .halted && (e.shuttle g.val).state == .halted && e.rdN (shIdx g.val) 0x16 = 0x0420 then e
    else d) s

/-! ### Commands (R197 to R200, R309) -/

/-- A START accepted for group g: the run state of R197. -/
def Dev.armRun (d : Dev) (g pc startAt startFill : Nat) : Dev :=
  let x := d.shuttle g
  let x := { x with
    state := .armed, pc := pc, lastPc := pc, reps := 0, stack := [], sticky := 0, clearMark := 0, seen := 0,
    startAt := startAt, startFill := startFill, slices := 0, execFrom := 0, subst := [], vecs := [], keep := none,
    stopReq := .none, stopAt := 0, floorFault := false, lost := none, curSubst := false, hist := [] }
  (((d.setShuttle g x).wrN (sampleIdx g) 4 0).wrN (sampleIdx g) 5 0).wrN (sampleIdx g) 6 0

/-- A STOP or STOP_AT_NOTCH acts on group g from a device time on; a STOP once accepted stands (R199). -/
def Dev.stopRun (d : Dev) (g : Nat) (req : StopReq) (from' : Nat) : Dev :=
  let x := d.shuttle g
  if x.state == .halted then d
  else if x.state == .armed && req == .stop && from' ≤ d.core.time then
    d.setShuttle g { x with state := .halted, stopReq := .none }
  else if x.stopReq == .stop then
    if req == .stop then d.setShuttle g { x with stopAt := min x.stopAt from' } else d
  else d.setShuttle g { x with stopReq := req, stopAt := from' }

/-- A START of a widened set is possible (R309): no START_FILL, every group of the set HALTED with the leader's program. -/
def Dev.widenStarts (d : Dev) (g : Nat) : Bool :=
  d.rdN (shIdx g) 5 = 0 && (!d.remoteMembers g || d.cascade.widenReady.getLsbD g) &&
    (d.localSet g).all (fun k => (d.shuttle k).state == .halted && (k == g || d.progCrc k == d.progCrc g))

/-- The code with which a START is refused, or 0. -/
def Dev.startRefusal (d : Dev) (g : Nat) : Nat :=
  let t := d.rdN (shIdx g) 4
  if (d.shuttle g).state != .halted then 0x0401
  else if (d.localSet g).any d.calibrating then 0x0521
  else if 255 < d.latencyMin g then 0x0405
  else if d.widened g && !d.widenStarts g then 0x0A40
  else if t ≠ 0 && t < d.core.time + 2000 then 0x0403 else 0

/-- The command of a widened set goes to the other members (R309): group, command, START_PC, device time. -/
def Dev.widenSend (d : Dev) (g cmd pc t : Nat) : Dev :=
  if d.remoteMembers g then d.broadcast 10 (((d.widenSet g * 4 + cmd) * 2 ^ 14 + pc) * 2 ^ 64 + t) else d

def actShuttleCommand (g : Nat) : Act where
  check := fun _ w =>
    let v := objShuttleCommand.valueOf w
    let cmd := bits v 31 24
    if cmd = 0 || 3 < cmd || bits v 23 14 ≠ 0 then 0x0B05 else if cmd ≠ 1 && bits v 13 0 ≠ 0 then 0x0B06 else 0
  allow := fun d w =>
    let cmd := bits (objShuttleCommand.valueOf w) 31 24
    if !d.groupRuns g then 0x0350
    else if d.widened g && !d.leads g then 0x0A41
    else if cmd = 1 then d.startRefusal g
    else if (d.shuttle g).state == .halted then 0x0402 else 0
  apply := fun d w =>
    let v := objShuttleCommand.valueOf w
    let cmd := bits v 31 24
    let pc := bits v 13 0
    let lead := if d.widened g then d.notchLead else 0
    if cmd = 1 then
      let t := max (d.rdN (shIdx g) 4) (d.core.time + 2000 + lead)
      ((d.localSet g).foldl (fun e k => e.armRun k pc t (e.rdN (shIdx g) 5)) d).widenSend g cmd pc t
    else
      let t := if d.widened g then d.core.time + lead else 0
      let req := if cmd = 2 then StopReq.stop else StopReq.atNotch
      ((d.localSet g).foldl (fun e k => e.stopRun k req t) d).widenSend g cmd 0 t
  refuse := fun code d =>
    if code = 0x0350 then d.stoppedRequest (192 + g)
    else if code = 0x0405 then d.logNotify 0x0405 g 0 else d

/-- A write of SHUTTLE_COMMAND. -/
def Dev.command (d : Dev) (g cmd pc : Nat) (path : Transport) : Dev :=
  rowWrite objShuttleCommand (actShuttleCommand g) (shIdx g) 3 { path := path, len := 4, value := word (cmd * 2 ^ 24 + pc) } d

/-- SHUTTLE_START (R197). -/
def execShuttleStart (g : Fin 12) (startPc : BitVec 14) (path : Transport) (s : State) : Host.Outcome State Fault Refusal :=
  onDev (fun d => d.command g.val 1 startPc.toNat path) s

/-- SHUTTLE_STOP (R199). -/
def execShuttleStop (g : Fin 12) (path : Transport) (s : State) : Host.Outcome State Fault Refusal :=
  onDev (fun d => d.command g.val 2 0 path) s

/-- SHUTTLE_STOP_AT_NOTCH (R199). -/
def execShuttleStopAtNotch (g : Fin 12) (path : Transport) (s : State) : Host.Outcome State Fault Refusal :=
  onDev (fun d => d.command g.val 3 0 path) s

/-- WIDEN_COMMAND_RECEIVE: a command of the leader of a widened set reaches this member's group g: START, STOP, STOP_AT_NOTCH, or the end
of every run because a member lacked a fail vector (R309). A START finds the set's conditions met, as the leader has checked them. -/
def execWidenCommandReceive (g : Fin 12) (cmd : Fin 4) (startPc : BitVec 14) (time : Nat) (s : State) :
    Host.Outcome State Fault Refusal :=
  onDev (fun d =>
    if !d.remoteMembers g.val || !d.groupRuns g.val then d
    else if cmd.val = 0 then
      if (d.shuttle g.val).state == .halted && !d.calibrating g.val then d.armRun g.val startPc.toNat time 0 else d
    else if cmd.val = 3 then d.lateVector g.val
    else d.stopRun g.val (if cmd.val = 1 then .stop else .atNotch) time) s

/-! ### Flags (R204, R309) -/

/-- The flag register takes a token's bits. -/
def Dev.putFlags (d : Dev) (g mask value : Nat) : Dev :=
  let x := d.shuttle g
  let m := BitVec.ofNat 16 mask
  d.setShuttle g { x with flags := (x.flags &&& ~~~m) ||| (BitVec.ofNat 16 value &&& m) }

/-- FLAG_TOKEN_READ: the shuttle reads one entry of the to-island half of its general hem (R204). In a widened set only the
leader's tokens count, and they act WIDEN_DELAY later on every member (R309). Cell kind 11 carries one. -/
def execFlagTokenRead (g : Fin 12) (s : State) : Host.Outcome State Fault Refusal :=
  onDev (fun d =>
    let h := 192 + 2 * g.val
    match (d.half h).head with
    | none => d
    | some e =>
      if !d.groupRuns g.val then d
      else
        let d := d.putHalf h (d.half h).pop
        let mask := e.data.toNat / 2 ^ 16 % 2 ^ 16
        let value := e.data.toNat % 2 ^ 16
        if e.bad ≠ 0 || e.tag.toNat / 64 ≠ 0 then d
        else if !d.widened g.val then d.putFlags g.val mask value
        else if !d.leads g.val then d
        else
          let t := d.core.time + d.rdN (0x2440 + g.val) 3
          let queued := (d.localSet g.val).map (fun k => (k, t, mask, value))
          let d := { d with cascade := { d.cascade with widenFlags := d.cascade.widenFlags ++ queued } }
          if d.remoteMembers g.val then d.broadcast 11 (((d.widenSet g.val * 2 ^ 16 + mask) * 2 ^ 16 + value) * 2 ^ 64 + t)
          else d) s

/-- WIDEN_FLAG_APPLY: a flag token of the leader takes effect on group g of the set, at the first boundary beat at or after its
time: one that came from another member, or the oldest one queued here (R309). -/
def execWidenFlagApply (g : Fin 12) (token : Option (BitVec 16 × BitVec 16)) (s : State) : Host.Outcome State Fault Refusal :=
  onDev (fun d =>
    if !d.widened g.val then d
    else match token with
      | some (m, v) => d.putFlags g.val m.toNat v.toNat
      | none =>
        match d.cascade.widenFlags.find? (fun e => e.1 == g.val) with
        | some e =>
          if d.core.time < e.2.1 then d
          else
            let rest := d.cascade.widenFlags.erase e
            ({ d with cascade := { d.cascade with widenFlags := rest } }).putFlags g.val e.2.2.1 e.2.2.2
        | none => d) s

/-! ### Clock loss (R201) -/

/-- The clock of island g stops: a run ends at once, and the FAULT entry and the closing of the compare entries wait until the PLL
locks again (R201). -/
def Dev.clockLost (d : Dev) (g : Nat) : Dev :=
  let st := (d.shuttle g).state
  let d := d.cutRun g 0x0406 false
  let d := { d with tr := { d.tr with plls := d.tr.plls &&& ~~~ BitVec.ofNat 12 (2 ^ g) } }
  let d := d.markStopped (fun n => n = 96 + g || (n < 96 && n / 8 = g))
  let x := d.shuttle g
  let d := (d.setShuttle g { x with unlocked := true, lost := if st == .halted then x.lost else some d.core.time }).followGroup g
  if st == .halted then d else d.logNotify 0x0406 g 0

/-- GROUP_CLOCK_LOST: the group PLL has lost lock or its reference (R201). -/
def execGroupClockLost (g : Fin 12) (s : State) : Host.Outcome State Fault Refusal :=
  onDev (fun d => if d.tr.plls.getLsbD g.val then d.clockLost g.val else d) s

end Sys2Proof.Machine
end

