-- ==== Sys2Proof/Machine/Calib.lean ====
section
/-! DEFINITION. Calibration (R244 to R249), and the write rows of timing tables and raw lanes (R236, R240, R256). -/

namespace Sys2Proof.Machine

/-! ### Requests (R244, R245) -/

/-- The lane of channel c is not known to be at level 1: it drives another one, or its needle has just changed its mode. -/
def Dev.offLevel1 (d : Dev) (c : Nat) : Bool :=
  let x := d.needle c
  x.drive.level != 1 || x.holding || x.toOff || d.rawMode c

/-- Every active TX lane of the groups of a mask that is not at level 1 goes there at once, one in a hold period too (R246). -/
def Dev.calStart (d : Dev) (groups : Nat) : Dev :=
  forEach 96 (fun c e =>
    if groups.testBit (c / 8) && e.laneActive c && e.offLevel1 c then
      let e := e.moveLane c (4000 * e.core.time) 1
      e.setNeedle c { e.needle c with toOff := false }
    else e) d

def actCalRequest : Act where
  check := fun _ w =>
    let v := objCalRequest.valueOf w
    let kind := bits v 31 24
    if kind ≠ 1 && kind ≠ 2 then 0x0B05 else if bits v 11 0 = 0 then 0x0525 else 0
  allow := fun d w =>
    let groups := bits (objCalRequest.valueOf w) 11 0
    let halted := (List.range 12).all (fun g => !groups.testBit g || (d.shuttle g).state == .halted)
    if d.core.state != .run || !halted then 0x0521 else if d.cal.busy.isSome then 0x0522 else 0
  apply := fun d w =>
    let v := objCalRequest.valueOf w
    let q : CalReq := { kind := bits v 31 24, groups := bits v 11 0, since := d.core.time }
    (({ d with cal := { d.cal with busy := some q } }).setFlag 0x3340 1 15 true).calStart (bits v 11 0)

/-- A write of CAL_REQUEST. -/
def Dev.calRequest (d : Dev) (kind groups : Nat) (path : Transport) : Dev :=
  rowWrite objCalRequest actCalRequest 0x3340 2 { path := path, len := 4, value := word (kind * 2 ^ 24 + groups) } d

/-- CAL_INTERNAL: KIND 0x01 for the groups named (R244). -/
def execCalInternal (groups : BitVec 12) (path : Transport) (s : State) : Host.Outcome State Fault Refusal :=
  onDev (fun d => d.calRequest 1 groups.toNat path) s

/-- CAL_LOOP: KIND 0x02 for the groups named (R244). -/
def execCalLoop (groups : BitVec 12) (path : Transport) (s : State) : Host.Outcome State Fault Refusal :=
  onDev (fun d => d.calRequest 2 groups.toNat path) s

/-! ### Completion (R245, R247) -/

/-- TEMPERATURE of sensor k, in units of 0.125 °C; an excluded sensor reads 0x7FFF (R520). -/
def Dev.temperature (d : Dev) (k : Nat) : Int := if d.safety.excluded.getLsbD k then 0x7FFF else tabGet (fun _ => 0) d.tr.temps k

/-- The temperature nearest group g: sensor g, by SENSOR_MAP (0x2020.1A). -/
def Dev.groupTemp (d : Dev) (g : Nat) : Int := d.temperature g

/-- FAIL_ROUND_TRIP of the loop delays of a group's channels (R247). For a group with no channel in channel mode, and beyond
16 bits, R247 states no value: it is free. -/
def Dev.roundTripOf (d : Dev) (delays : List Nat) : Nat × Dev :=
  let rt := 24 + (delays.foldl max 0 + 3999) / 4000
  if delays.isEmpty || 0xFFFF < rt then
    let f := d.free
    (f.1.toNat % 2 ^ 16, f.2)
  else (rt, d)

/-- The results of a calibration of group g staged (R245): loop gives each channel's measured delay, none where no step
returned. The Bool says that the group succeeded. -/
def Dev.calGroup (d : Dev) (kind g : Nat) (loop : List (Option (BitVec 32))) : Dev × Bool :=
  let base : CalStaged := {
    group := g, kind := kind, temp := d.groupTemp g, loop := [], roundTrip := none,
    due := (d.scopeSeq (.group g) + 1) % 2 ^ 32 }
  let put (e : Dev) (x : CalStaged) : Dev := { e with cal := { e.cal with staged := e.cal.staged ++ [x] } }
  if kind = 1 then (put d base, true)
  else
    let chans := ((List.range 8).map (fun i => 8 * g + i)).filter (fun c => !d.rawMode c)
    let delay (c : Nat) : Option (BitVec 32) := (loop[c]?).getD none
    let values := chans.map (fun c => (c, match delay c with
      | some v => v.toNat
      | none => 0xFFFFFFFF))
    if chans.any (fun c => (delay c).isNone) then ((put d { base with loop := values }).log 0x0523 g 0, false)
    else
      let r := d.roundTripOf (values.map (fun p => p.2))
      (put r.2 { base with loop := values, roundTrip := some r.1 }, true)

/-- CAL_COMPLETE: the request in progress completes; loop are the delays measured, by channel, in steps of 250 fs (R245 to R247). -/
def execCalComplete (loop : List (Option (BitVec 32))) (s : State) : Host.Outcome State Fault Refusal :=
  onDev (fun d =>
    match d.cal.busy with
    | none => d
    | some q =>
      let step (p : Dev × Nat) (g : Nat) : Dev × Nat :=
        if q.groups.testBit g then
          let r := p.1.calGroup q.kind g loop
          (r.1, if r.2 then p.2 + 2 ^ g else p.2)
        else p
      let r := (List.range 12).foldl step (d, 0)
      let d := r.1.calEnd q true
      let d := (d.wrN 0x3340 3 (if r.2 = q.groups then 0 else 0x0523)).wrN 0x3340 6 r.2
      let d := d.wr 0x3340 1 (setBits (d.rd 0x3340 1) 7 0 q.kind)
      d.complete 0x3340 1 14 (some 15)) s

def execCalAck (w : Wr) (s : State) : Host.Outcome State Fault Refusal :=
  onDev (rowWrite objCalAck (ackAct objCalAck 0x3340 1 14) 0x3340 4 w) s

/-- CAL_STALE of group g set; 0x0520 notified when the bit becomes 1 (R249). -/
def Dev.calStale (d : Dev) (g : Nat) : Dev :=
  if bit (d.rd 0x3340 5) g then d else (d.setFlag 0x3340 5 g true).notify 0x0520 g

/-! ### Writes of staged needle objects -/

def actTimingTable (g : Nat) (w : Wr) : Act where
  check := fun _ w => match tableFault g w.bytes with
    | some p => p.1
    | none => 0
  apply := Dev.stageOrApply objTimingTable (0x3300 + g) 1
  refuse := fun code d => match tableFault g w.bytes with
    | some p => if code = p.1 then d.log code g p.2 else d
    | none => d

/-- TIMING_TABLE_WRITE (R236, R240). -/
def execTimingTableWrite (g : Fin 12) (w : Wr) (s : State) : Host.Outcome State Fault Refusal :=
  onDev (rowWrite objTimingTable (actTimingTable g.val w) (0x3300 + g.val) 1 w) s

def actRawConfig (c : Nat) : Act where
  check := fun _ w => checkRawConfig (objRawConfig.valueOf w)
  apply := Dev.stageOrApply objRawConfig (0x3200 + c) 5

/-- RAW_CONFIG_WRITE (R256). -/
def execRawConfigWrite (c : Fin 96) (w : Wr) (s : State) : Host.Outcome State Fault Refusal :=
  onDev (rowWrite objRawConfig (actRawConfig c.val) (0x3200 + c.val) 5 w) s

/-- TX_DESKEW and RX_DESKEW lie within 4 ns (R248). -/
def actDeskew (o : Desc) (idx sub : Nat) : Act where
  check := fun _ w => if (o.intOf w) < -16000 || 16000 < o.intOf w then 0x0524 else 0
  apply := Dev.stageOrApply o idx sub

end Sys2Proof.Machine
end

