-- ==== Sys2Proof/Machine/Pins.lean ====
section
/-! DEFINITION. What the selvedge adds once notches are defined: pin functions and bank clocks as staged writes (R269), the read-back
of the SAFE balls (R278), and boundary scan (R282, R283). -/

namespace Sys2Proof.Machine

/-! ### Staged writes of the selvedge (R269) -/

/-- PIN_FUNCTION: CLOCK_IN (6) only on pin 15, and not taken from a pin 15 that clocks its bank (R269); a reserved code is refused
before, at order 6 of R397. -/
def actPinFunction (b n : Nat) : Act where
  check := fun d w =>
    let f := objPinFunction.num w
    let ext := bit (d.nextVal (bankIdx b) 2) 31
    if (f = 6 && n ≠ 15) || (n = 15 && f ≠ 6 && ext && (d.nextVal (pinIdx b n) 2).toNat = 6) then 0x0B30 else 0
  apply := Dev.stageOrApply objPinFunction (pinIdx b n) 2

/-- PIN_FUNCTION_WRITE (R269). -/
def execPinFunctionWrite (b : Fin 4) (n : Fin 16) (w : Wr) (s : State) : Host.Outcome State Fault Refusal :=
  onDev (rowWrite objPinFunction (actPinFunction b.val n.val) (pinIdx b.val n.val) 2 w) s

/-- BANK_CLOCK: divider and group in range; EXTERNAL only with CLOCK_IN on pin 15 (R269). -/
def actBankClock (b : Nat) : Act where
  check := fun d w =>
    let v := objBankClock.valueOf w
    let div := bits v 9 0
    if div < 3 || 1000 < div || 11 < bits v 27 24 || (bit v 31 && (d.nextVal (pinIdx b 15) 2).toNat ≠ 6) then 0x0B31 else 0
  apply := Dev.stageOrApply objBankClock (bankIdx b) 2

/-- BANK_CLOCK_WRITE (R269). -/
def execBankClockWrite (b : Fin 4) (w : Wr) (s : State) : Host.Outcome State Fault Refusal :=
  onDev (rowWrite objBankClock (actBankClock b.val) (bankIdx b.val) 2 w) s

/-- CAPTURE_CONFIG: INTERVAL 0 is reserved in PERIODIC (R285). -/
def actCaptureConfig (b : Nat) : Act where
  check := fun _ w =>
    let v := objCaptureConfig.valueOf w
    if bit v 31 && bits v 30 16 = 0 then 0x0B05 else 0
  apply := Dev.stageOrApply objCaptureConfig (bankIdx b) 5

/-! ### Read-back of the SAFE balls (R278) -/

/-- One ball read: bad counts consecutive readings of each kind of mismatch. Ball 2f is A, active high; 2f + 1 is B, active
low. -/
def Dev.readBall (d : Dev) (k : Nat) (level : Bool) : Dev :=
  let x := d.ball k
  let active : Bool := if k % 2 = 0 then level else !level
  let wrongActive := active && !x.driven
  let wrongSafe := !active && x.driven
  let d := if wrongActive || wrongSafe then d.count 0x2880 6 32 1 else d
  let a := if wrongActive then x.badActive + 1 else 0
  let b := if wrongSafe then x.badSafe + 1 else 0
  let d := d.setBall k { x with level := level, badActive := a, badSafe := b }
  if b = 2 then d.logNotify 0x0911 (k / 2) 0 else d

/-- SAFE_READBACK: the Thimble reads both balls of every function; bit k of levels is ball k (R278). -/
def execSafeReadback (levels : BitVec 8) (s : State) : Host.Outcome State Fault Refusal :=
  onDev (fun d =>
    if !d.thimble then d
    else
      let d := forEach 8 (fun k e => e.readBall k (levels.getLsbD k)) d
      match (List.range 8).find? (fun k => 2 ≤ (d.ball k).badActive) with
      | some k => d.enterSafe 0x0910 (k / 2)
      | none => d) s

/-! ### Boundary scan (R282, R283; the instructions are those of IEEE 1149.1 and 1149.6) -/

/-- The TAP answers from BOOT on (R279, R421). -/
def Dev.tapOn (d : Dev) : Bool := d.vaux && d.core.state != .off && d.core.state != .reset

/-- The TAP holds a new instruction; a drive of the one before ends (R283). -/
def Dev.tapInstr (d : Dev) (i : TapInstr) : Dev :=
  { d with tr := { d.tr with tap := { d.tr.tap with instr := i, driving := false } } }

/-- What the drive cells capture (R282): the outputs and enables of the GPIO pins, and the TX lanes that drive their high level; of the
interfaces, whose outputs the model does not hold, the cells' own values. -/
def Dev.scanOut (d : Dev) : ScanDrive :=
  let pin (f : Bool × Bool → Bool) : BitVec 64 := BitVec.ofNat 64 (maskOf 64 (fun p => f (d.pinState (p / 16) (p % 16))))
  { d.tr.tap.cells with
    gpioEn := pin (fun p => p.1), gpioOut := pin (fun p => p.2)
    tx := BitVec.ofNat 96 (maskOf 96 (fun c => d.laneBall c == .level 3)) }

/-- What the input cells capture (R282): the levels at the balls; a GPIO pin that is driven shows its own. -/
def Dev.scanIn (d : Dev) (pins : ScanIn) : ScanIn :=
  let o := d.scanOut
  { pins with gpio := (pins.gpio &&& ~~~ o.gpioEn) ||| (o.gpioOut &&& o.gpioEn), resetN := d.env.resetN }

/-- Pins sampled and cells preloaded. -/
def Dev.tapSample (d : Dev) (pins : ScanIn) (cells : ScanDrive) : Dev :=
  { d with tr := { d.tr with tap := { d.tr.tap with sampleOut := d.scanOut, sample := d.scanIn pins, cells := cells } } }

/-- The data register of the TAP captured. -/
def Dev.tapCapture (d : Dev) (v : BitVec 128) : Dev :=
  { d with tr := { d.tr with tap := { d.tr.tap with captured := v } } }

/-- BYPASS: the one-bit register captures 0. -/
def execBypass (s : State) : Host.Outcome State Fault Refusal :=
  onDev (fun d => if d.tapOn then (d.tapInstr .bypass).tapCapture 0 else d) s

/-- IDCODE: the register captures the device's IDCODE. -/
def execIdcode (s : State) : Host.Outcome State Fault Refusal :=
  onDev (fun d => if d.tapOn then (d.tapInstr .idcode).tapCapture (Config.idcode.setWidth 128) else d) s

/-- SAMPLE/PRELOAD: the pins are captured and the cells preloaded; no pin changes. -/
def execSamplePreload (pins : ScanIn) (cells : ScanDrive) (s : State) : Host.Outcome State Fault Refusal :=
  onDev (fun d => if d.tapOn then (d.tapInstr .samplePreload).tapSample pins cells else d) s

/-- HIGHZ: every scanned output goes to high impedance while it is held. -/
def execHighz (s : State) : Host.Outcome State Fault Refusal :=
  onDev (fun d => if d.tapOn then (d.tapInstr .highz).tapCapture 0 else d) s

/-- A drive-capable instruction takes effect on the pins in UNCONFIGURED only; elsewhere it runs as SAMPLE/PRELOAD and 0x0B33 is
logged (R283). -/
def Dev.tapDrive (d : Dev) (i : TapInstr) (pins : ScanIn) (cells : ScanDrive) : Dev :=
  if !d.tapOn then d
  else if d.core.state = .unconfigured then
    let d := (d.tapInstr i).tapSample pins cells
    { d with tr := { d.tr with tap := { d.tr.tap with driving := true } } }
  else ((d.tapInstr .samplePreload).tapSample pins cells).log 0x0B33 0 0

/-- EXTEST: the cells drive the scanned pins. -/
def execExtest (pins : ScanIn) (cells : ScanDrive) (s : State) : Host.Outcome State Fault Refusal :=
  onDev (fun d => d.tapDrive .extest pins cells) s

/-- CLAMP: the cells as preloaded hold the scanned pins, with the bypass register selected. -/
def execClamp (pins : ScanIn) (s : State) : Host.Outcome State Fault Refusal :=
  onDev (fun d => d.tapDrive .clamp pins d.tr.tap.cells) s

/-- EXTEST_PULSE: the cells drive one pulse on the AC pins. -/
def execExtestPulse (pins : ScanIn) (cells : ScanDrive) (s : State) : Host.Outcome State Fault Refusal :=
  onDev (fun d => d.tapDrive .extestPulse pins cells) s

/-- EXTEST_TRAIN: the cells drive a train of pulses on the AC pins. -/
def execExtestTrain (pins : ScanIn) (cells : ScanDrive) (s : State) : Host.Outcome State Fault Refusal :=
  onDev (fun d => d.tapDrive .extestTrain pins cells) s

end Sys2Proof.Machine
end

