-- ==== Sys2Proof/Machine/Bands.lean ====
section
/-! DEFINITION. Patches, bands and shift maps (R479 to R482, R503), panel faults (R483, R484), and the configuration frames of panel sites
(R321, R322). -/

namespace Sys2Proof.Machine

/-! ### Life-cycle permissions (R378) -/

/-- LC_STATE of this run: 1 VIRGIN, 2 PROVISIONED, 3 DEPLOYED, 4 SECURED, 5 RETURNED, 6 SCRAPPED. -/
def Dev.lc (d : Dev) : Nat := d.rdN 0x2200 1 % 128

/-- Panel capture is permitted (R378); swatches are redacted where it is not (R474). -/
def Dev.captureAllowed (d : Dev) : Bool := d.lc != 4 && d.lc != 6

/-! ### Shift maps (R479, R503) -/

/-- The map of a patch in which no logic has moved: every row FREE at the gusset. -/
def freeMap : Word := 0x1010101010101010

/-- SHIFT_MAP of patch q. -/
def Dev.shiftMap (d : Dev) (q : Nat) : Word := tabGet (fun _ => freeMap) d.nv.shiftMaps q

/-- Vacant position of patch row r, 0 to 16. -/
def Dev.vacant (d : Dev) (q r : Nat) : Nat := bits (d.shiftMap q) (8 * r + 4) (8 * r)

/-- Kind of patch row r: 0 FREE, 1 RETIRED, 2 TESTING. -/
def Dev.rowKind (d : Dev) (q r : Nat) : Nat := bits (d.shiftMap q) (8 * r + 7) (8 * r + 5)

/-- Lowest row of the band of patch row r (BANDS). -/
def Dev.bandOf (d : Dev) (q r : Nat) : Nat := bits (d.rd (0x3910 + q) 3) (4 * r + 3) (4 * r)

/-- The rows of the band that patch row r belongs to (R480). -/
def Dev.bandRows (d : Dev) (q r : Nat) : List Nat := (List.range 8).filter (fun k => d.bandOf q k == d.bandOf q r)

/-- Every row of a band at one vacant position and kind (R480). -/
def Dev.setBand (d : Dev) (q r v kind : Nat) : Dev :=
  let m := (d.bandRows q r).foldl (fun m k => setBits m (8 * k + 7) (8 * k) (kind * 32 + v)) (d.shiftMap q)
  { d with nv := { d.nv with shiftMaps := tabSet (fun _ => freeMap) d.nv.shiftMaps q m } }

/-- The physical column of logical site (column, row): logical patch column k sits at k below the vacant position and at k + 1
from it on; the gusset's own logical column stands for the vacant site. -/
def Dev.physColumn (d : Dev) (column row : Nat) : Nat :=
  let q := sitePatch column row
  let k := column % 17
  let v := d.vacant q (row % 8)
  17 * (column / 17) + (if k = 16 then v else if k < v then k else k + 1)

/-- The logical column that physical site (column, row) holds; none at the vacant position. -/
def Dev.logicalColumn (d : Dev) (column row : Nat) : Option Nat :=
  let q := sitePatch column row
  let p := column % 17
  let v := d.vacant q (row % 8)
  if p = v then none else some (17 * (column / 17) + (if p < v then p else p - 1))

/-- A site number: 102 row + column. -/
def siteNo (column row : Nat) : Nat := 102 * row + column

/-- Patch q is repairing (R485), or waits for the self-test of R488. -/
def Dev.repairing (d : Dev) (q : Nat) : Bool :=
  d.darn.repairs.any (fun r => r.patch == q && r.kind == 1) || d.darn.waiting.any (fun r => r.patch == q)

/-- Patch q has a planned move under way (R491). -/
def Dev.moving (d : Dev) (q : Nat) : Bool := d.darn.repairs.any (fun r => r.patch == q && r.kind != 1)

/-- Patch q is named in a staged partial image whose commit has not latched. -/
def Dev.stagedFor (d : Dev) (q : Nat) : Bool :=
  match d.config.staged with
  | some i => i.valid && !i.committing && i.header.patchMask.testBit q
  | none => false

/-- Patch q holds its tokens: a repair, a move or a commit is between quiesce and release (R341, R485). -/
def Dev.patchHeld (d : Dev) (q : Nat) : Bool := d.repairing q || d.moving q || d.committing q

/-- A logical site is a half of a broken French seam, which has stopped (R494). -/
def Dev.brokenHalf (d : Dev) (site : Nat) : Bool :=
  (List.range 64).any (fun n =>
    let v := d.frenchBinding n
    d.frenchBound n && bit (d.rd (0x3980 + n) 1) 14 &&
      (siteNo (bits v 63 56) (bits v 55 48) == site || siteNo (bits v 47 40) (bits v 39 32) == site))

/-- The logic of a site runs: the fabric is live, its patch does not hold, and it is no half of a broken French seam. -/
def Dev.siteLive (d : Dev) (site : Nat) : Bool :=
  d.fabricLive && !d.patchHeld (sitePatch (site % 102) (site / 102)) && !d.brokenHalf site

/-- A panel fault at a physical site, with what its report names beside the site (R89, R108, R483, R484): queued for repair in RUN and
FOLDED, and in FITTING once global set/reset is released; only logged in SAFE. -/
def Dev.panelFault (d : Dev) (source column row : Nat) (report : FaultReport := .site) : Dev :=
  let f : RepairSt := {
    patch := sitePatch column row, row := row, column := column, source := source, kind := 1, started := d.core.time
    report := report }
  match d.core.state with
  | .safe => d.log source (256 * column + row) 0
  | .run | .folded => { d with darn := { d.darn with queue := d.darn.queue ++ [f] } }
  | .fitting => if d.core.gsrHeld then d else { d with darn := { d.darn with queue := d.darn.queue ++ [f] } }
  | _ => d

/-- The seam gates at the edge of patch q are closed: it holds its tokens, or is isolated (R91, R92, R345, R488). -/
def Dev.edgeClosed (d : Dev) (q : Nat) : Bool := d.patchHeld q || d.isolated q

/-- A track crossing between two sites passes transitions: they lie in one patch, or the gates of both patches are open (R91). -/
def Dev.crossOpen (d : Dev) (a b : Nat) : Bool :=
  let q := sitePatch (a % 102) (a / 102)
  let r := sitePatch (b % 102) (b / 102)
  q == r || (!d.edgeClosed q && !d.edgeClosed r)

/-! ### Self-tests that give way (R498, R499) -/

/-- The tests in patch q end, that of a RETURN too; a band that a test has vacated shifts back. Results are discarded. The test of R488
goes on: it is a repair's (R498; DEDUCED, entry 51). -/
def Dev.endPatchTests (d : Dev) (q : Nat) : Dev :=
  let d := { d with darn := { d.darn with
    testing := d.darn.testing.filter (fun t => sitePatch (t.1 % 102) (t.1 / 102) != q || t.2.purpose == 1) } }
  (List.range 8).foldl (fun e r => if e.rowKind q r = 2 then e.setBand q r 16 0 else e) d

/-! ### Frames of panel sites (R321, R322) -/

/-- A frame of address a that was never loaded: all zero, with check fields that fit. -/
def blankFrame (a : Nat) : Frame := { data := 0, check := 0, crc := frameCrc a 0 0 }

/-- The active frame of address a. -/
def Dev.frame (d : Dev) (a : Nat) : Frame := tabGet blankFrame d.config.active a

/-- The address of panel frame MINOR of logical site (column, row). -/
def panelAddr (column row minor : Nat) : Nat := column * 2 ^ 16 + row * 2 ^ 8 + minor

/-- Bits of a frame's data from bit lo on. -/
def Frame.field (f : Frame) (lo width : Nat) : Nat := (f.data.extractLsb' lo width).toNat

/-- TABLE of stitch s of a logical site (R43, R322). -/
def Dev.stitchTable (d : Dev) (column row s : Nat) : BitVec 64 :=
  (d.frame (panelAddr column row (s / 32))).data.extractLsb' (64 * (s % 32)) 64

/-- Control word of stitch s (R46, R322). -/
def Dev.stitchWord (d : Dev) (column row s : Nat) : Word :=
  word ((d.frame (panelAddr column row 4)).field (16 * s) 16)

/-- Control word of bundle b (R47, R322). -/
def Dev.bundleWord (d : Dev) (column row b : Nat) : Word :=
  word ((d.frame (panelAddr column row 5)).field (32 * b) 32)

/-- The registers of a site that store: those not in BYPASS mode. lo is the place of the mode in the control word: 12 of A, 10 of B
(R44, R46). -/
def Dev.storing (d : Dev) (column row lo : Nat) : BitVec 128 :=
  BitVec.ofNat 128 (maskOf 128 (fun s => bits (d.stitchWord column row s) (lo + 1) lo != 0))

/-- INIT value of every register of a site (R44, R65): bit s is register A (i = 9), or B (i = 8), of stitch s. In BYPASS mode INIT is
ignored. -/
def Dev.initRegs (d : Dev) (column row i : Nat) : BitVec 128 :=
  BitVec.ofNat 128 (maskOf 128 (fun s => bit (d.stitchWord column row s) i)) &&& d.storing column row (2 * i - 6)

/-- INIT_TOKEN of every bundle of a site (R47). -/
def Dev.initTokens (d : Dev) (column row : Nat) : BitVec 16 :=
  BitVec.ofNat 16 (maskOf 16 (fun b => bit (d.bundleWord column row b) 24))

/-- A site at its INIT values and its bundles at their INIT_TOKEN condition (R65, R66, R68); the tension it has adopted stays. -/
def Dev.initPanel (d : Dev) (site : Nat) : Dev :=
  let column := site % 102
  let row := site / 102
  d.setPanel site {
    regA := d.initRegs column row 9, regB := d.initRegs column row 8, outFull := d.initTokens column row,
    tension := (d.panel site).tension }

/-- A site as it stands: at INIT, with REQ low on every thread, while global set/reset is held (R65). -/
def Dev.panelNow (d : Dev) (column row : Nat) : PanelSt :=
  let p := d.panel (siteNo column row)
  if d.core.gsrHeld then { p with regA := d.initRegs column row 9, regB := d.initRegs column row 8, outFull := 0 } else p

/-- The logical sites that hold a frame of the active plane: what is not configured is all zero. -/
def Dev.configuredSites (d : Dev) : List Nat :=
  ((d.config.active.filter (fun e => e.1 < 2 ^ 30)).map (fun e => siteNo (e.1 / 2 ^ 16) (e.1 / 256 % 256))).eraseDups

end Sys2Proof.Machine
end

