-- ==== Sys2Proof/Machine/Fabric.lean ====
section
/-! DEFINITION. Stitches, bundles and their handshake (R41 to R68), seam ports and relays (R77 to R92), French halves as tokens pass
(R492), panel captures (R69 to R75). What a stitch's inputs carry and which controllers a handshake reaches follow from the local
thread selects and select groups of the active frames, read with the routing database that the spec leaves out (R322, entry 61). -/

namespace Sys2Proof.Machine

/-! ### The stitch (R43 to R46, R54) -/

/-- What one bundle of a coupled group finds at its inputs when its token is accepted (R42): IN_0 to IN_5 of its 8 stitches, 6 bits
each, BX of each stitch, and the control inputs. -/
structure BundleIn where
  ins : BitVec 48
  bx : BitVec 8 := 0
  ce : Bool := true
  sr : Bool := false
  gate : Bool := true
  deriving DecidableEq, Repr

/-- IN_5 to IN_0 of stitch k of a bundle as a number; in a MERGE bundle IN_5 carries SIDE (R50). -/
def stitchIn (x : BundleIn) (side : Option Bool) (k : Nat) : Nat :=
  let n := (x.ins.extractLsb' (6 * k) 6).toNat
  match side with
  | some s => n % 32 + 32 * s.toNat
  | none => n

/-- What the table of one stitch gives (R43): the sources of registers A and B, and CO. A reserved LUT_MODE gives the free
bits (entry 4). -/
def tableOut (mode : Nat) (table : BitVec 64) (n : Nat) (ci freeA freeB freeC : Bool) : Bool × Bool × Bool :=
  let m := n % 32
  let lower := table.getLsbD m
  let upper := table.getLsbD (32 + m)
  match mode with
  | 0 => (table.getLsbD n, table.getLsbD n, ci)
  | 1 => (lower, upper, ci)
  | 2 => (lower ^^ ci, upper, if lower then ci else upper)
  | _ => (freeA, freeB, freeC)

/-- The tables of a bundle from stitch k up, the carry passing from CO to CI (R43, R53): per stitch the sources of A and B, and the
last CO. -/
def tableChain (word : Nat → Word) (table : Nat → BitVec 64) (n : Nat → Nat) (free : Word) :
    Nat → Nat → Bool → List (Bool × Bool) × Bool
  | 0, _, ci => ([], ci)
  | fuel + 1, k, ci =>
    let o := tableOut (bits (word k) 15 14) (table k) (n k) ci (bit free (3 * k)) (bit free (3 * k + 1)) (bit free (3 * k + 2))
    let r := tableChain word table n free fuel (k + 1) o.2.2
    ((o.1, o.2.1) :: r.1, r.2)

/-- The select of a two-way stage of the multiplexer tree: 1 takes the upper input (PRESUMED). -/
def muxTwo (sel low high : Bool) : Bool := if sel then high else low

/-- The outputs of the multiplexer tree of a bundle by stage (R54): o is the table output of a stitch, x its BX. -/
def mux8 (o x : Nat → Bool) (k : Nat) : Bool := muxTwo (x (2 * k)) (o (2 * k)) (o (2 * k + 1))
def mux16 (o x : Nat → Bool) (k : Nat) : Bool := muxTwo (x (4 * k + 1)) (mux8 o x (2 * k)) (mux8 o x (2 * k + 1))
def mux32 (o x : Nat → Bool) : Bool := muxTwo (x 3) (mux16 o x 0) (mux16 o x 1)

/-- The tree's output at stitch k of a bundle, if k is an output stitch of MUX_TREE; over64 is the 64:1 output for a bundle whose
lower neighbour carries MUX_TREE 4. -/
def treeOut (tree : Nat) (o x : Nat → Bool) (over64 : Option Bool) (k : Nat) : Option Bool :=
  match over64 with
  | some v => if k = 7 then some v else none
  | none =>
    match tree with
    | 1 => if k % 2 = 1 then some (mux8 o x (k / 2)) else none
    | 2 => if k % 4 = 3 then some (mux16 o x (k / 4)) else none
    | 3 => if k = 7 then some (mux32 o x) else none
    | _ => none

/-- A stitch of a tree of the bundle that is not an output stitch: its register A carries no defined value (R55). -/
def inTree (tree : Nat) (over64 : Option Bool) (k : Nat) : Bool :=
  match over64 with
  | some _ => k != 7
  | none => (tree = 1 && k % 2 = 0) || (tree = 2 && k % 4 != 3) || (tree = 3 && k != 7) || tree = 4

/-- A register's value after an accepted token (R44). A BYPASS register stores nothing. A reserved mode gives the free bit
(entry 4). -/
def regNext (mode : Nat) (srEn srval sr ce old data free : Bool) : Bool :=
  match mode with
  | 0 => false
  | 1 => if sr && srEn then srval else data
  | 2 => if sr && srEn then srval else if ce then data else old
  | _ => free

/-! ### Coupled groups (R52) -/

/-- Bundle b of logical site (column, row) joins the group of the bundle above it. -/
def Dev.coupleUp (d : Dev) (column row b : Nat) : Bool := bit (d.bundleWord column row b) 21

/-- The bundle below, within the patch. -/
def bundleBelow (row b : Nat) : Option (Nat × Nat) :=
  if 0 < b then some (row, b - 1) else if row % 8 = 0 then none else some (row - 1, 15)

/-- The coupled group of a head, as (row, bundle) from the lowest up; fuel bounds its 128 bundles. -/
def Dev.coupledGroup (d : Dev) (column : Nat) : Nat → Nat → Nat → List (Nat × Nat)
  | 0, row, b => [(row, b)]
  | fuel + 1, row, b =>
    match bundleBelow row b with
    | some (r, k) => if d.coupleUp column r k then d.coupledGroup column fuel r k ++ [(row, b)] else [(row, b)]
    | none => [(row, b)]

/-- Effective tension of a bundle of a group with the head given (R52, R63, R75). -/
def Dev.tensionOf (d : Dev) (column row b : Nat) : Nat :=
  let p := d.panel (siteNo column row)
  min 15 (bits (d.bundleWord column row b) 31 28 + (p.tension.extractLsb' (4 * b) 4).toNat)

/-- The head of the group of a bundle: the last of the chain (R52); fuel bounds the chain. -/
def Dev.headOf (d : Dev) (column : Nat) : Nat → Nat → Nat → Nat × Nat
  | 0, row, b => (row, b)
  | fuel + 1, row, b =>
    if !d.coupleUp column row b then (row, b)
    else if b < 15 then d.headOf column fuel row (b + 1)
    else if row % 8 = 7 then (row, b) else d.headOf column fuel (row + 1) 0

/-! ### Acceptance of a token (R48 to R56) -/

/-- What a bundle of a group hands to the bundle above it: CO of its stitch 7, and its half of a 64:1 tree with the last select. -/
structure Chain where
  carry : Option Bool := none
  half64 : Option (Bool × Bool) := none
  deriving DecidableEq, Repr

/-- What the tables and multiplexers of one bundle give: the sources of registers A and B of its 8 stitches, and its chain. -/
structure BundleData where
  a : BitVec 8 := 0
  b : BitVec 8 := 0
  chain : Chain := {}
  deriving DecidableEq, Repr

/-- The tables, the carry and the multiplexer tree of one bundle (R43, R46, R47, R53 to R55). Free bits (entry 4) stand for CI of the
lowest bundle of a group with CARRY_IN = 1, for A_SRC = 1 on a stitch that is no output stitch of a tree, and for register A of a tree's
other stitches. -/
def Dev.bundleData (d : Dev) (column row b : Nat) (x : BundleIn) (side : Option Bool) (c : Chain) (free : Word) : BundleData :=
  let bw := d.bundleWord column row b
  let w (k : Nat) : Word := d.stitchWord column row (8 * b + k)
  let ci := if bit bw 20 then c.carry.getD (bit free 24) else bit bw 19
  let r := tableChain w (fun k => d.stitchTable column row (8 * b + k)) (stitchIn x side) free 8 0 ci
  let a (k : Nat) : Bool := ((r.1[k]?).getD (false, false)).1
  let g (k : Nat) : Bool := ((r.1[k]?).getD (false, false)).2
  let bx (k : Nat) : Bool := x.bx.getLsbD k
  let tree := bits bw 18 16
  let over64 := c.half64.map (fun h => muxTwo h.2 h.1 (mux32 a bx))
  let dataA (k : Nat) : Bool :=
    if bit (w k) 3 then (treeOut tree a bx over64 k).getD (bit free (32 + k))
    else if inTree tree over64 k then bit free (32 + k) else a k
  let dataB (k : Nat) : Bool := if bit (w k) 2 then bx k else g k
  { a := BitVec.ofNat 8 (maskOf 8 dataA), b := BitVec.ofNat 8 (maskOf 8 dataB)
    chain := { carry := some r.2, half64 := if tree = 4 && b % 2 = 0 then some (mux32 a bx, bx 7) else none } }

/-- One bundle of a group captures its token: registers A and B of its 8 stitches (R44). Its tables' undefined bits, listed at
Dev.bundleData, and the value after a reserved register mode are free (entry 4). -/
def Dev.captureBundle (d : Dev) (column row b : Nat) (x : BundleIn) (side : Option Bool) (c : Chain) : Dev × Chain :=
  let f := d.free
  let d := f.2
  let free := f.1
  let site := siteNo column row
  let p := d.panel site
  let w (k : Nat) : Word := d.stitchWord column row (8 * b + k)
  let r := d.bundleData column row b x side c free
  let nextA (s : Nat) : Bool :=
    let k := s - 8 * b
    if s / 8 = b then regNext (bits (w k) 13 12) (bit (w k) 5) (bit (w k) 7) x.sr x.ce (p.regA.getLsbD s) (r.a.getLsbD k) (bit free (40 + k))
    else p.regA.getLsbD s
  let nextB (s : Nat) : Bool :=
    let k := s - 8 * b
    if s / 8 = b then regNext (bits (w k) 11 10) (bit (w k) 4) (bit (w k) 6) x.sr x.ce (p.regB.getLsbD s) (r.b.getLsbD k) (bit free (48 + k))
    else p.regB.getLsbD s
  let d := d.setPanel site { p with regA := BitVec.ofNat 128 (maskOf 128 nextA), regB := BitVec.ofNat 128 (maskOf 128 nextB) }
  (d, r.chain)

/-- The bundles of a group capture, from the lowest up. -/
def Dev.captureGroup (d : Dev) (column : Nat) (side : Option Bool) : List ((Nat × Nat) × BundleIn) → Chain → Dev
  | [], _ => d
  | (m, x) :: t, c =>
    let r := d.captureBundle column m.1 m.2 x side c
    r.1.captureGroup column side t r.2

/-- The watch point that binding v names is on bundle b of (column, row). -/
def boundTo (v : Word) (column row b : Nat) : Bool :=
  v != BitVec.allOnes 64 && bits v 63 56 = column && bits v 55 48 = row && bits v 47 44 = b

/-- WATCH_BINDING of watch point w (R103). -/
def Dev.watchBinding (d : Dev) (w : Nat) : Word := d.rd (0x3B80 + w / 4) (0x10 * (w % 4 + 1))

/-- WATCH_CONFIG of watch point w. -/
def Dev.watchCfg (d : Dev) (w : Nat) : Word := d.rd (0x3B80 + w / 4) (0x10 * (w % 4 + 1) + 1)

/-- A token on the thread of watch point w (R103 to R105, R466). -/
def Dev.watchToken (d : Dev) (w : Nat) : Dev :=
  let d := d.count (0x3B80 + w / 4) (0x10 * (w % 4 + 1) + 6) 48 1
  let x := d.watchSt w
  let d := d.setWatch w { x with tokens := x.tokens + 1 }
  let t := d.rd 0x3600 5
  if bit t 60 && bits t 8 0 = w then d.swatchTrigger 5 w else d

/-- Every watch point bound to bundle b of (column, row). -/
def Dev.watchTokens (d : Dev) (column row b : Nat) : Dev :=
  forEach 512 (fun w e => if boundTo (e.watchBinding w) column row b then e.watchToken w else e) d

/-- One bit of a 16-bit mask replaced. -/
def setMask (m : BitVec 16) (b : Nat) (v : Bool) : BitVec 16 :=
  if v then m ||| BitVec.ofNat 16 (2 ^ b) else m &&& ~~~ BitVec.ofNat 16 (2 ^ b)

/-- Seam unit numbers of a site: inbound port or relay input u at u, the second half's input of a French receiver at 24 + u, outbound
port or relay output at 32 + u; ports are units 0 to 7, relays 8 to 23. -/
def seamIn (site u : Nat) : Nat := 64 * site + u
def seamOut (site u : Nat) : Nat := 64 * site + 32 + u

/-! ### French halves (R492) -/

/-- The French seam and the half that a logical site is, if one is bound to it and not broken. -/
def Dev.frenchHalf (d : Dev) (site : Nat) : Option (Nat × Bool) :=
  (List.range 64).findSome? (fun n =>
    let v := d.frenchBinding n
    if !d.frenchBound n || bit (d.rd (0x3980 + n) 1) 14 then none
    else if siteNo (bits v 63 56) (bits v 55 48) = site then some (n, false)
    else if siteNo (bits v 47 40) (bits v 39 32) = site then some (n, true)
    else none)

/-- A half of a French seam read and replaced. -/
def FrenchSt.half (f : FrenchSt) (second : Bool) : FrenchHalf := if second then f.half1 else f.half0
def FrenchSt.setHalf (f : FrenchSt) (second : Bool) (h : FrenchHalf) : FrenchSt :=
  if second then { f with half1 := h } else { f with half0 := h }

/-- The tokens that a half has still to replay, and the seam with others in their place (R493). -/
def FrenchSt.replay (f : FrenchSt) (second : Bool) : List (Nat × BitVec 12) := if second then f.replay1 else f.replay0
def FrenchSt.setReplay (f : FrenchSt) (second : Bool) (l : List (Nat × BitVec 12)) : FrenchSt :=
  if second then { f with replay1 := l } else { f with replay0 := l }

/-- Tokens that a site, as a half, has still to replay. -/
def Dev.replayOf (d : Dev) (site : Nat) : List (Nat × BitVec 12) :=
  match d.frenchHalf site with
  | none => []
  | some (n, k) => (d.frenchSt n).replay k

/-- ALLOWANCE_PEAK follows the fill of a half's seam allowance (R504). -/
def Dev.peakAllowance (d : Dev) (n fill : Nat) : Dev :=
  if d.rdN (0x3980 + n) 7 < fill then d.wrN (0x3980 + n) 7 fill else d

/-- An input token accepted by a half enters its seam allowance (R492). -/
def Dev.frenchInput (d : Dev) (site u : Nat) (w : BitVec 12) : Dev :=
  match d.frenchHalf site with
  | none => d
  | some (n, k) =>
    let f := d.frenchSt n
    let h := f.half k
    let h := { h with held := h.held ++ [(u, w)], nextHeld := h.nextHeld ++ [(u, w)] }
    (d.setFrench n (f.setHalf k h)).peakAllowance n h.held.length

/-- The seam allowance of a site is full: an input waits in its handshake. What is still to be replayed keeps its place. -/
def Dev.allowanceFull (d : Dev) (site : Nat) : Bool :=
  match d.frenchHalf site with
  | none => false
  | some (n, k) => 64 ≤ ((d.frenchSt n).half k).held.length

/-- A half still waits for the acknowledge of an earlier output token. -/
def Dev.frenchWaits (d : Dev) (site : Nat) : Bool :=
  match d.frenchHalf site with
  | none => false
  | some (n, k) => ((d.frenchSt n).half k).waiting

/-- A half emits an output token: the state at this instant is what its acknowledge will make the shadow. -/
def Dev.frenchEmit (d : Dev) (site : Nat) : Dev :=
  match d.frenchHalf site with
  | none => d
  | some (n, k) =>
    let f := d.frenchSt n
    d.setFrench n (f.setHalf k { f.half k with next := d.panel site, nextHeld := [], waiting := true })

/-- The output token of a half is acknowledged: its shadow state moves on. -/
def Dev.frenchAck (d : Dev) (site : Nat) : Dev :=
  match d.frenchHalf site with
  | none => d
  | some (n, k) =>
    let f := d.frenchSt n
    let h := f.half k
    if !h.waiting then d
    else
      d.setFrench n (f.setHalf k { h with shadow := h.next, held := h.nextHeld, waiting := false })

/-- The oldest token still to be replayed on port u is taken; ROLLING ends when both halves have replayed their allowance (R493). -/
def Dev.frenchReplay (d : Dev) (site u : Nat) : Dev :=
  match d.frenchHalf site with
  | none => d
  | some (n, k) =>
    let f := d.frenchSt n
    let f := f.setReplay k ((f.replay k).eraseP (fun e => e.1 == u))
    let d := d.setFrench n f
    if f.replay0.isEmpty && f.replay1.isEmpty then d.setFlag (0x3980 + n) 1 12 false else d

/-! ### What a bundle's inputs and a port's signals carry (R40 to R42, R322) -/

/-- The source that the select of an item of frame MINOR picks, as the routing database has it. -/
def Dev.select (d : Dev) (column row minor item : Nat) : Option Src :=
  match d.wiring.selects.find? (fun x => x.site == siteNo column row && x.minor == minor && x.item == item) with
  | some x => x.options[(d.frame (panelAddr column row minor)).field x.lo x.width]?
  | none => none

/-- The number of width bits that frame 18 holds for an item. -/
def Dev.place (d : Dev) (column row item width : Nat) : Nat :=
  match d.wiring.places.find? (fun x => x.site == siteNo column row && x.item == item) with
  | some x => (d.frame (panelAddr column row 18)).field x.lo width
  | none => 0

/-- The source of input i of bundle b: IN 0 to 47, BX 48 to 55, CE 56, SR 57, GATE 58; one that is not routed is tied to its default
(R42). -/
def Dev.inputSrc (d : Dev) (column row b i : Nat) : Src :=
  (d.select column row (if b < 8 then 5 else 6) (64 * b + i)).getD (.const (i == 56 || i == 58))

/-- The source of bit k of the word of outbound port u; an unused bit is sent at its default (R79). -/
def Dev.portSrc (d : Dev) (column row u k : Nat) : Src :=
  (d.select column row 18 (16 * u + k)).getD (.const (k == 8 || k == 10))

/-- The digits of the thread of a port, 1 to 6 (R79, R80); item u is inbound port u, 32 + u outbound port u. -/
def Dev.portDigits (d : Dev) (column row item : Nat) : Nat := max 1 (min 6 (d.place column row item 3))

/-- The word that inbound port u offers: in a replay the oldest token of its port that is still to pass, else what it has latched
(R80, R493). -/
def Dev.portWord (d : Dev) (site u : Nat) : Option (BitVec 12) :=
  match (d.replayOf site).find? (fun e => e.1 == u) with
  | some e => some e.2
  | none => (d.seam (seamIn site u)).word

/-- OUT_A (B) of stitch s as its register holds it. -/
def Dev.stored (d : Dev) (column row : Nat) (src : Src) : Bool :=
  let p := d.panelNow column row
  match src with
  | .const v => v
  | .outA s => p.regA.getLsbD s
  | .outB s => p.regB.getLsbD s
  | .port u k => ((d.portWord (siteNo column row) u).getD 0).getLsbD k

/-- The inputs of bundle b with the levels of its sources (R42). -/
def Dev.bundleIn (d : Dev) (level : Src → Bool) (column row b : Nat) : BundleIn :=
  let v (i : Nat) : Bool := level (d.inputSrc column row b i)
  { ins := BitVec.ofNat 48 (maskOf 48 v), bx := BitVec.ofNat 8 (maskOf 8 (fun k => v (48 + k)))
    ce := v 56, sr := v 57, gate := v 58 }

/-- SIDE of the group of a head: of a MERGE bundle the thread that holds the grant (R50). -/
def Dev.sideOf (d : Dev) (column row head : Nat) : Option Bool :=
  if bits (d.bundleWord column row head) 23 22 = 2 then some ((d.panel (siteNo column row)).grantSide.getLsbD head) else none

/-- What the tables of bundle b give at present, the carry passing up its group from the lowest bundle (R43, R53). -/
def Dev.bundleNow (d : Dev) (level : Nat → Src → Bool) (column row b : Nat) : BundleData :=
  let h := d.headOf column 127 row b
  (d.coupledGroup column 127 row b).foldl (fun (acc : BundleData) m =>
    d.bundleData column m.1 m.2 (d.bundleIn (level m.1) column m.1 m.2) (d.sideOf column h.1 h.2) acc.chain
      (Config.freeLevel d.freeCtr (16 * siteNo column m.1 + m.2))) {}

/-- The level of a source: a BYPASS output follows its source combinationally (R44). The number bounds the chain of BYPASS levels, which
Swivi keeps to one (R45). -/
def Dev.levelOf (d : Dev) (column : Nat) : Nat → Nat → Src → Bool
  | 0, row, src => d.stored column row src
  | n + 1, row, src =>
    match src with
    | .outA s =>
      if bits (d.stitchWord column row s) 13 12 = 0 then (d.bundleNow (d.levelOf column n) column row (s / 8)).a.getLsbD (s % 8)
      else d.stored column row src
    | .outB s =>
      if bits (d.stitchWord column row s) 11 10 = 0 then (d.bundleNow (d.levelOf column n) column row (s / 8)).b.getLsbD (s % 8)
      else d.stored column row src
    | _ => d.stored column row src

/-- A level as a reader of the panel finds it. -/
def Dev.levelNow (d : Dev) (column row : Nat) (src : Src) : Bool := d.levelOf column 2 row src

/-! ### Threads and handshakes (R41, R56) -/

/-- The bundle whose output a source is. -/
def srcBundle : Src → Option Nat
  | .outA s => some (s / 8)
  | .outB s => some (s / 8)
  | _ => none

/-- The bundle of the panel that outbound port u carries a thread of. -/
def Dev.portBundle (d : Dev) (column row u : Nat) : Option Nat :=
  (List.range 12).findSome? (fun k => srcBundle (d.portSrc column row u k))

/-- Bundle r draws an input from bundle b of its panel. Outputs of its own coupled group need no handshake: one controller accepts for
all of it (R52, entry 62). -/
def Dev.draws (d : Dev) (column row r b : Nat) : Bool :=
  d.headOf column 127 row r != d.headOf column 127 row b &&
    (List.range 59).any (fun i => srcBundle (d.inputSrc column row r i) == some b)

/-- The receivers of the output threads of bundle b, in the order of its thread numbers (R41): bundles of the panel, and 16 + u for outbound
port u. -/
def Dev.receivers (d : Dev) (column row b : Nat) : List Nat :=
  (List.range 16).filter (fun r => d.draws column row r b) ++
    ((List.range 8).filter (fun u => d.portBundle column row u == some b)).map (fun u => 16 + u)

/-- The token of bundle b waits for receiver r: REQ is high and r has not acknowledged it. -/
def PanelSt.offers (p : PanelSt) (b r : Nat) : Bool := p.outFull.getLsbD b && !p.taken.getLsbD (24 * b + r)

/-- Once every receiver has acknowledged the token of bundle b its REQ falls, and the handshake returns to zero (R56). -/
def Dev.settleBundle (d : Dev) (column row b : Nat) : Dev :=
  let site := siteNo column row
  let p := d.panel site
  if p.outFull.getLsbD b && (d.receivers column row b).all (fun r => p.taken.getLsbD (24 * b + r)) then
    d.setPanel site { p with outFull := setMask p.outFull b false, returning := setMask p.returning b true }
  else d

/-- Receiver r acknowledges the token of bundle b. -/
def Dev.ackBundle (d : Dev) (column row b r : Nat) : Dev :=
  let site := siteNo column row
  let p := d.panel site
  (d.setPanel site { p with taken := p.taken ||| BitVec.ofNat 384 (2 ^ (24 * b + r)) }).settleBundle column row b

/-- A thread that feeds a coupled group: from bundle b to bundle r of a row's panel, or the word of port u there. -/
inductive InThread where
  | bundle (row b r : Nat)
  | port (row u : Nat)
  deriving DecidableEq, Repr

/-- The port whose word a source is. -/
def srcPort : Src → Option Nat
  | .port u _ => some u
  | _ => none

/-- The threads that feed bundle r. -/
def Dev.bundleThreads (d : Dev) (column row r : Nat) : List InThread :=
  (((List.range 59).filterMap (fun i => srcBundle (d.inputSrc column row r i))).eraseDups.filter (fun b => d.draws column row r b)).map
      (fun b => .bundle row b r) ++
    ((List.range 59).filterMap (fun i => srcPort (d.inputSrc column row r i))).eraseDups.map (fun u => .port row u)

/-- The threads that feed a group, in the order of its bundles (R41). -/
def Dev.groupThreads (d : Dev) (column : Nat) (group : List (Nat × Nat)) : List InThread :=
  (group.flatMap (fun m => d.bundleThreads column m.1 m.2)).eraseDups

/-- The thread has raised its request (R48). An input of a French half whose allowance is full waits (R492). -/
def Dev.raised (d : Dev) (column : Nat) (t : InThread) : Bool :=
  match t with
  | .bundle row b r => (d.panel (siteNo column row)).offers b r
  | .port row u => (d.portWord (siteNo column row) u).isSome && !d.allowanceFull (siteNo column row)

/-- The word that inbound port u offers is taken by its bundle (R80); a replayed input comes from the seam allowance (R493), and either
enters it. -/
def Dev.takePort (d : Dev) (site u : Nat) : Dev :=
  let w := (d.portWord site u).getD 0
  let d := if (d.replayOf site).any (fun e => e.1 == u) then d.frenchReplay site u
    else d.setSeam (seamIn site u) { d.seam (seamIn site u) with word := none }
  d.frenchInput site u w

/-- The token of a thread is acknowledged by the group that it feeds. -/
def Dev.takeThread (d : Dev) (column : Nat) (t : InThread) : Dev :=
  match t with
  | .bundle row b r => d.ackBundle column row b r
  | .port row u => d.takePort (siteNo column row) u

/-- A bundle emits one output token on its threads (R48): REQ rises, and the token carries OUT_A of its 8 stitches in the low byte and
OUT_B above. -/
def Dev.emitBundle (d : Dev) (column row b : Nat) : Dev :=
  let site := siteNo column row
  let p := d.panel site
  let out (f : Nat → Src) : Nat := maskOf 8 (fun k => d.levelNow column row (f (8 * b + k)))
  let keep : BitVec 384 := ~~~ BitVec.ofNat 384 ((2 ^ 24 - 1) * 2 ^ (24 * b))
  let value := out .outB * 256 + out .outA
  let d := d.setPanel site { p with
    outFull := setMask p.outFull b true, taken := p.taken &&& keep, returning := setMask p.returning b false
    reqWait := setMask p.reqWait b false }
  ((d.emit (.token 0 (16 * site + b) value)).watchTokens column row b).settleBundle column row b

/-- Every bundle of a group emits. -/
def Dev.emitGroup (d : Dev) (column : Nat) (group : List (Nat × Nat)) : Dev :=
  group.foldl (fun e m => e.emitBundle column m.1 m.2) d

/-! ### The bundle events -/

/-- A bundle of the group holds an output token that some receiver has not acknowledged (R56). -/
def Dev.groupFull (d : Dev) (column : Nat) (group : List (Nat × Nat)) : Bool :=
  group.any (fun m => (d.panel (siteNo column m.1)).outFull.getLsbD m.2)

/-- The threads whose tokens the next acceptance of a group takes: of a MERGE bundle the one that holds the grant (R41, R50). -/
def Dev.dueThreads (d : Dev) (column row head : Nat) (group : List (Nat × Nat)) : List InThread :=
  let l := d.groupThreads column group
  match d.sideOf column row head with
  | some side => (l[side.toNat]?).toList
  | none => l

/-- The conditions of an acceptance (R41, R48, R50, R56): the site runs, head is the head of its group, every receiver has
acknowledged the group's previous tokens, and each thread due has raised its request. A bundle that no thread feeds accepts nothing. -/
def Dev.canAccept (d : Dev) (site head : Nat) : Bool :=
  let column := site % 102
  let row := site / 102
  let group := d.coupledGroup column 127 row head
  let p := d.panel site
  let due := d.dueThreads column row head group
  d.siteLive site && !d.coupleUp column row head && !d.groupFull column group && !p.reqWait.getLsbD head &&
    ((d.sideOf column row head).isNone || p.granted.getLsbD head) && !due.isEmpty && due.all (fun t => d.raised column t)

/-- The levels at the inputs of a group, lowest bundle first, with GATE of the head. -/
def Dev.groupIn (d : Dev) (column : Nat) (group : List (Nat × Nat)) : List ((Nat × Nat) × BundleIn) :=
  group.map (fun m => (m, d.bundleIn (d.levelNow column m.1) column m.1 m.2))

/-- BUNDLE_TOKEN_ACCEPT: the group of a head whose input requests are all raised captures one token and acknowledges it, and emits
one output token on every thread (R48, R52). The last three operands say that the ACKs for the previous token of its receivers in
the panel, at the ports, and in hard blocks have fallen; until all have, REQ of the new token waits, and the same event raises it
(R56). A FILTER bundle with GATE 0 takes the token and emits nothing (R49); that it waits for the acknowledge of its previous
output token too is a DESIGN CHOICE (entry 60). A MERGE bundle uses its grant (R50). -/
def execBundleTokenAccept (site : Fin 7344) (head : Fin 16) (inPanel atPorts inHard : Bool) (s : State) :
    Host.Outcome State Fault Refusal :=
  let fallen := inPanel && atPorts && inHard
  onDev (fun d =>
    let column := site.val % 102
    let row := site.val / 102
    let group := d.coupledGroup column 127 row head.val
    let p := d.panel site.val
    if d.siteLive site.val && p.reqWait.getLsbD head.val then
      if fallen then d.emitGroup column group else d
    else if !d.canAccept site.val head.val then d
    else
      let inputs := d.groupIn column group
      let side := d.sideOf column row head.val
      let gate := (inputs.getLast?.map (fun x => x.2.gate)).getD true
      let e := (d.dueThreads column row head.val group).foldl (fun e t => e.takeThread column t) d
      if bits (d.bundleWord column row head.val) 23 22 = 1 && !gate then e
      else
        let e := e.captureGroup column side inputs {}
        let q := e.panel site.val
        let e := e.setPanel site.val { q with granted := setMask q.granted head.val false }
        if fallen then e.emitGroup column group
        else
          let q := e.panel site.val
          e.setPanel site.val { q with reqWait := setMask q.reqWait head.val true }) s

/-- MERGE_GRANT: the mutual-exclusion element of a MERGE bundle grants one of the threads that wait; a contested grant goes to the
thread that did not get the previous contested one, the first of them to either, as second says (R50, R51). Thread 0 is the first that
feeds the bundle in the order of its inputs (entry 62). -/
def execMergeGrant (column : Fin 102) (row : Fin 72) (b : Fin 16) (second : Bool) (s : State) :
    Host.Outcome State Fault Refusal :=
  onDev (fun d =>
    let site := siteNo column.val row.val
    let p := d.panel site
    let l := d.groupThreads column.val (d.coupledGroup column.val 127 row.val b.val)
    let req (k : Nat) : Bool := (l[k]?).any (fun t => d.raised column.val t)
    if !d.siteLive site || (d.sideOf column.val row.val b.val).isNone || p.granted.getLsbD b.val || !(req 0 || req 1) then d
    else if req 0 && req 1 then
      let side := if p.contested.getLsbD b.val then !p.lastContested.getLsbD b.val else second
      d.setPanel site { p with
        granted := setMask p.granted b.val true, grantSide := setMask p.grantSide b.val side,
        contested := setMask p.contested b.val true, lastContested := setMask p.lastContested b.val side }
    else d.setPanel site { p with
      granted := setMask p.granted b.val true, grantSide := setMask p.grantSide b.val (req 1) }) s

/-- TENSION_ADOPT: bundle b adopts the offset in effect while no rising request is inside its replica (R64). -/
def execTensionAdopt (site : Fin 7344) (b : Fin 16) (s : State) : Host.Outcome State Fault Refusal :=
  onDev (fun d =>
    let p := d.panel site.val
    let keep := p.tension &&& ~~~ BitVec.ofNat 64 (15 * 16 ^ b.val)
    d.setPanel site.val { p with tension := keep ||| BitVec.ofNat 64 (d.rdN 0x2150 0 % 16 * 16 ^ b.val) }) s

/-! ### Seam ports and relays (R77 to R92) -/

/-- The wires with one transition made for each digit of a word (R77, R79). -/
def launchWires (wires : BitVec 24) (w : BitVec 12) (n : Nat) : BitVec 24 :=
  (List.range n).foldl (fun v k => v ^^^ BitVec.ofNat 24 (2 ^ (4 * k + (w.extractLsb' (2 * k) 2).toNat))) wires

/-- The seam word that the signals of outbound port u make; bit 11 is sent as 0 (R79). -/
def Dev.portOut (d : Dev) (column row u : Nat) : BitVec 12 :=
  BitVec.ofNat 12 (maskOf 11 (fun k => d.levelNow column row (d.portSrc column row u k)))

/-- The bits of select group g of a site (R87, R322). -/
def Dev.selectGroup (d : Dev) (site g : Nat) : BitVec 12 :=
  (d.frame (panelAddr (site % 102) (site / 102) (8 + g / 170))).data.extractLsb' (12 * (g % 170)) 12

/-- The sources that the set bits of a select group gate (R87). -/
def Dev.groupSources (d : Dev) (site g : Nat) : List SeamSrc :=
  match d.wiring.groups.find? (fun x => x.site == site && x.group == g) with
  | some x => (x.sources.zipIdx.filter (fun e => (d.selectGroup site g).getLsbD e.2)).map (fun e => e.1)
  | none => []

/-- The ports, relays and hard blocks whose digits reach the output of a select group through the bits that are set, each with the
site it stands at (R82, R87). The number bounds the hops of a route. -/
def Dev.leaves (d : Dev) : Nat → Nat → Nat → List (Nat × SeamSrc)
  | 0, _, _ => []
  | n + 1, site, g =>
    (d.groupSources site g).flatMap (fun x => match x with
      | .group s k => d.leaves n s k
      | y => [(site, y)])

/-- Every track crossing that feeds a select group has its gates open (R91). -/
def Dev.routeOpen (d : Dev) : Nat → Nat → Nat → Bool
  | 0, _, _ => true
  | n + 1, site, g =>
    (d.groupSources site g).all (fun x => match x with
      | .group s k => d.crossOpen site s && d.routeOpen n s k
      | _ => true)

/-- Hops that a route may have. -/
def maxHops : Nat := 256

/-- The select group that feeds a digit of a receiver. -/
def Dev.sinkGroup (d : Dev) (site unit k : Nat) : Option Nat :=
  (d.wiring.sinks.find? (fun x => x.site == site && x.unit == unit && x.digit == k)).map (fun x => x.group)

/-- The four wires of a source digit; a hard block's are what its event gives. -/
def Dev.leafWires (d : Dev) (hard : BitVec 4) (e : Nat × SeamSrc) : BitVec 4 :=
  match e.2 with
  | .port u k => (d.seam (seamOut e.1 u)).wires.extractLsb' (4 * k) 4
  | .relay r => (d.seam (seamOut e.1 (8 + r))).wires.extractLsb' 0 4
  | _ => hard

/-- The levels at digit k of a receiver: the AND-OR multiplexers of its route pass what their set bits gate (R87). Through a closed gate no
transition comes, so the digit stays at the receiver's reference; the same where no select group feeds it (R91). -/
def Dev.digitLevels (d : Dev) (hard refs : BitVec 24) (site unit k : Nat) : BitVec 4 :=
  match d.sinkGroup site unit k with
  | some g =>
    if d.routeOpen maxHops site g then
      (d.leaves maxHops site g).foldl (fun v e => v ||| d.leafWires (hard.extractLsb' (4 * k) 4) e) 0
    else refs.extractLsb' (4 * k) 4
  | none => refs.extractLsb' (4 * k) 4

/-- The levels at the n digits of a receiver. -/
def Dev.seamLevels (d : Dev) (hard : BitVec 24) (site unit n : Nat) : BitVec 24 :=
  let refs := (d.seam (seamIn site unit)).wires
  (List.range n).foldl (fun v k =>
    (v &&& ~~~ BitVec.ofNat 24 (15 * 16 ^ k)) ||| ((d.digitLevels hard refs site unit k).setWidth 24 <<< (4 * k))) refs

/-- The senders whose digits a route carries, as site and unit. -/
def leafSender (e : Nat × SeamSrc) : Option (Nat × Nat) :=
  match e.2 with
  | .port u _ => some (e.1, u)
  | .relay r => some (e.1, 8 + r)
  | _ => none

/-- The senders of the n digits of a receiver (R80). -/
def Dev.sendersOf (d : Dev) (site unit n : Nat) : List (Nat × Nat) :=
  ((List.range n).flatMap (fun k => match d.sinkGroup site unit k with
    | some g => (d.leaves maxHops site g).filterMap leafSender
    | none => [])).eraseDups

/-- The receivers that a sender's digits branch to (R84), as seam numbers. -/
def Dev.branchesOf (d : Dev) (site unit : Nat) : List Nat :=
  ((d.wiring.sinks.filter (fun x => ((d.leaves maxHops x.site x.group).filterMap leafSender).contains (site, unit))).map
    (fun x => seamIn x.site x.unit)).eraseDups

/-- The branches that end at panel sites; a hard block's fabric port is unit 32. -/
def Dev.fabricBranches (d : Dev) (site unit : Nat) : List Nat := (d.branchesOf site unit).filter (fun k => k % 64 < 32)

/-- A sender sees every ACK of its digits toggled: it has room again, and a relay's digit is passed on (R80, R84, R85). -/
def Dev.senderDone (d : Dev) (site u : Nat) : Dev :=
  let x := d.seam (seamOut site u)
  let d := d.setSeam (seamOut site u) { x with acks := x.acks ^^^ BitVec.ofNat 6 (2 ^ x.digits - 1), word := none, acked := [] }
  if u < 8 then d.frenchAck site else d.setSeam (seamIn site u) { d.seam (seamIn site u) with word := none }

/-- Receiver key acknowledges a sender, which sees one ACK only when every branch has acknowledged (R84). -/
def Dev.ackSender (d : Dev) (key site u : Nat) : Dev :=
  let x := d.seam (seamOut site u)
  let acked := if x.acked.contains key then x.acked else x.acked ++ [key]
  if (d.branchesOf site u).all (fun k => acked.contains k) then d.senderDone site u
  else d.setSeam (seamOut site u) { x with acked := acked }

/-- The outbound port or relay has room: the token before is acknowledged. hard says that the hard blocks at the end of its route have
acknowledged theirs, which no command shows otherwise (entry 62). -/
def Dev.seamRoom (d : Dev) (site u : Nat) (hard : Bool) : Bool :=
  let x := d.seam (seamOut site u)
  x.word.isNone || (hard && (d.fabricBranches site u).all (fun k => x.acked.contains k))

/-- A word leaves an outbound port or relay: one transition a digit. -/
def Dev.launch (d : Dev) (site u : Nat) (w : BitVec 12) (n : Nat) : Dev :=
  let key := seamOut site u
  let x := d.seam key
  (d.setSeam key { x with wires := launchWires x.wires w n, word := some w, digits := n, acked := [] }).emit (.token 1 key w.toNat)

/-- SEAM_DIGIT_LAUNCH: an outbound port (unit 0 to 7) takes the token of its bundle, which it acknowledges, or a relay (unit 8 to 23) its
stored digit, and launches one transition a digit (R80, R85). It has room when the word before is acknowledged; gates stay closed
outside the times of R92. -/
def execSeamDigitLaunch (column : Fin 102) (row : Fin 72) (unit : Fin 24) (hardAck : Bool) (s : State) :
    Host.Outcome State Fault Refusal :=
  onDev (fun d =>
    let site := siteNo column.val row.val
    let u := unit.val
    if !d.siteLive site || !d.core.gatesOpen || !d.seamRoom site u hardAck then d
    else
      let e := if (d.seam (seamOut site u)).word.isSome then d.senderDone site u else d
      if 8 ≤ u then
        match (e.seam (seamIn site u)).word with
        | some w => e.launch site u w 1
        | none => d
      else match d.portBundle column.val row.val u with
        | some b =>
          if !(d.panel site).offers b (16 + u) || e.frenchWaits site then d
          else
            let w := d.portOut column.val row.val u
            ((e.launch site u w (d.portDigits column.val row.val (32 + u))).ackBundle column.val row.val b (16 + u)).frenchEmit site
        | none => d) s

/-- The wires of digit k that differ from the reference (R78). -/
def digitDiff (refs levels : BitVec 24) (k : Nat) : BitVec 4 := (refs ^^^ levels).extractLsb' (4 * k) 4

/-- The value of a digit whose wires differ in one place (R78). -/
def digitValue (x : BitVec 4) : Option Nat :=
  if x = 1 then some 0 else if x = 2 then some 1 else if x = 4 then some 2 else if x = 8 then some 3 else none

/-- The word of n digits, with the defaults of the control bits that no digit carries (R79): CE 1, SR 0, GATE 1. -/
def seamWord (digits : List Nat) : BitVec 12 :=
  let n := digits.length
  let v := digits.zipIdx.foldl (fun a p => a + p.1 * 4 ^ p.2) 0
  BitVec.ofNat 12 (v + (if n ≤ 4 then 2 ^ 8 else 0) + (if n ≤ 5 then 2 ^ 10 else 0))

/-- The first digit of a receiver that is invalid: two wires differ, or a wire made a second transition (R89). -/
def invalidDigit (x : SeamSt) (levels : BitVec 24) (twice : BitVec 6) (n : Nat) : Option Nat :=
  (List.range n).find? (fun k =>
    twice.getLsbD k || (digitDiff x.wires levels k != 0 && (digitValue (digitDiff x.wires levels k)).isNone))

/-- The values of the n digits of a receiver, if every digit is present (R78, R80). -/
def digitsAt (x : SeamSt) (levels : BitVec 24) (n : Nat) : Option (List Nat) :=
  let l := (List.range n).filterMap (fun k => digitValue (digitDiff x.wires levels k))
  if l.length = n then some l else none

/-- A receiver makes one ACK transition a digit and takes the levels as its references (R78, R80). -/
def SeamSt.ack (x : SeamSt) (levels : BitVec 24) (n : Nat) : SeamSt :=
  let mask := BitVec.ofNat 24 (16 ^ n - 1)
  { x with wires := (x.wires &&& ~~~ mask) ||| (levels &&& mask), acks := x.acks ^^^ BitVec.ofNat 6 (2 ^ n - 1), digits := n }

/-- The units whose digits a receiver compares: a French receiver those of both halves (R492). -/
def Dev.seamUnits (d : Dev) (column row u : Nat) : List Nat :=
  if u < 8 && d.place column row (64 + u) 1 = 1 then [u, 24 + u] else [u]

/-- An invalid digit at unit v of a site is flagged, never acknowledged, and reported with the port or relay and the digit (R89). -/
def Dev.flagDigit (d : Dev) (site v k : Nat) : Dev :=
  let key := seamIn site v
  let column := site % 102
  let row := site / 102
  (d.setSeam key { d.seam key with invalid := true }).panelFault 0x0810 (d.physColumn column row) row (.seam v k)

/-- SEAM_WORD_LATCH: an inbound port (unit 0 to 7) or relay (8 to 23) sees every digit of its thread present, latches the word,
acknowledges its senders, and offers the token (R80, R85). An invalid digit is flagged, never acknowledged and reported as a
panel fault (R89). A French receiver passes one token when both halves sent the same word (R492). hard holds the levels of digits that
come from hard blocks; twice marks the digits in which a wire has made a second transition, partner those of a French receiver's other port. -/
def execSeamWordLatch (column : Fin 102) (row : Fin 72) (unit : Fin 24) (hard : BitVec 24) (twice partner : BitVec 6)
    (s : State) : Host.Outcome State Fault Refusal :=
  onDev (fun d =>
    let site := siteNo column.val row.val
    let u := unit.val
    let n := if 8 ≤ u then 1 else d.portDigits column.val row.val u
    let units := d.seamUnits column.val row.val u
    let levels (v : Nat) : BitVec 24 := d.seamLevels hard site v n
    let at' (v : Nat) : SeamSt := d.seam (seamIn site v)
    if !d.fabricLive || !d.core.gatesOpen || units.any (fun v => (at' v).invalid) then d
    else match units.findSome? (fun v =>
        (invalidDigit (at' v) (levels v) (if v = u then twice else partner) n).map (fun k => (v, k))) with
      | some f => d.flagDigit site f.1 f.2
      | none =>
        match digitsAt (at' u) (levels u) n with
        | none => d
        | some l =>
          if (at' u).word.isSome || !d.siteLive site || units.any (fun v => digitsAt (at' v) (levels v) n != some l) then d
          else
            let w := if 8 ≤ u then BitVec.ofNat 12 (l.headD 0) else seamWord l
            let e := units.foldl (fun e v => e.setSeam (seamIn site v) ((at' v).ack (levels v) n)) d
            let e := e.setSeam (seamIn site u) { e.seam (seamIn site u) with word := some w }
            let e := units.foldl (fun e v =>
              (d.sendersOf site v n).foldl (fun e a => e.ackSender (seamIn site v) a.1 a.2) e) e
            e.emit (.token 2 (seamIn site u) w.toNat)) s

/-! ### Panel capture (R69 to R75) -/

/-- REG_A or REG_B as a capture shows it: a BYPASS register reads as its source (R75). lo is the place of the mode, 12 or 10. -/
def Dev.captureReg (d : Dev) (column row lo : Nat) (reg : BitVec 128) : Nat :=
  maskOf 128 (fun s =>
    if bits (d.stitchWord column row s) (lo + 1) lo = 0 then d.levelNow column row (if lo = 12 then .outA s else .outB s)
    else reg.getLsbD s)

/-- The fields of R75 beside the registers: time, sites, tensions, INPUT_WAITING, OUTPUT_FULL, as bytes 32 to 63. -/
def Dev.captureHead (d : Dev) (column row time : Nat) (waiting : BitVec 16) : Nat :=
  let tension (b : Nat) : Nat :=
    let h := d.headOf column 127 row b
    d.tensionOf column h.1 h.2
  let tensions := (List.range 16).foldl (fun a b => a + tension b * 16 ^ b) 0
  let full := (d.panelNow column row).outFull.toNat
  time % 2 ^ 64 * 2 ^ 192 + d.physColumn column row * 2 ^ 184 + row * 2 ^ 176 + column * 2 ^ 168 + row * 2 ^ 160 +
    tensions * 2 ^ 96 + waiting.toNat * 2 ^ 80 + full * 2 ^ 64

/-- The 64-byte result of a panel capture of logical site (column, row) (R75). -/
def Dev.panelResult (d : Dev) (column row time : Nat) (waiting : BitVec 16) : List Byte :=
  let p := d.panelNow column row
  leBytes 16 (d.captureReg column row 12 p.regA) ++ leBytes 16 (d.captureReg column row 10 p.regB) ++
    leBytes 32 (d.captureHead column row time waiting)

/-- A basting request in progress takes its panel's values (R72), unless its patch repairs or moves (R74). -/
def Dev.latchCapture (d : Dev) : Dev :=
  match d.baste with
  | some q =>
    let column := q.target / 256 % 256
    let row := q.target % 256
    if q.kind != 1 || q.result.isSome || d.repairing (sitePatch column row) || d.moving (sitePatch column row) then d
    else { d with baste := some { q with result := some (d.panelResult column row d.core.time q.waiting) } }
  | none => d

/-- BASTE_REQUEST of a KIND, as the checks of R70 see it. -/
def basteFormat (v : Word) : Nat :=
  let kind := bits v 63 56
  if bits v 55 32 ≠ 0 || (kind ≠ 1 && kind ≠ 2) || (kind = 1 && bits v 31 16 ≠ 0) || (kind = 2 && bits v 31 24 ≠ 0) then 0x0B05 else 0

/-- A request carries only its KIND's own checks; exists' says that its TARGET exists (R70, R378). A panel capture that finds both BUSY and
a life cycle that forbids it is refused with 0x0215: DESIGN CHOICE (entry 60), since R397 puts both at order 8 and no rule says which
comes first. -/
def actBaste (exists' : Dev → Nat → Nat → Bool) (latch : BasteReq → Dev → Dev) : Act where
  check := fun d w =>
    let v := objBasteRequest.valueOf w
    if basteFormat v ≠ 0 then basteFormat v
    else if !exists' d (bits v 63 56) (bits v 31 0) then 0x0B25
    else if bits v 63 56 = 1 && !d.captureAllowed then 0x0215 else 0
  allow := fun d _ => if bit (d.rd 0x2170 1) 15 then 0x0B24 else 0
  apply := fun d w =>
    let v := objBasteRequest.valueOf w
    latch { kind := bits v 63 56, target := bits v 31 0, result := none } (d.setFlag 0x2170 1 15 true)
  refuse := fun code d => d.wrN 0x2170 3 code

/-- TARGET of a panel capture names a panel site. -/
def captureExists (target : Nat) : Bool := target / 256 % 256 < 102 && target % 256 < 72

/-- A panel capture accepted, with the requests held (R72, R74). -/
def latchPanel (waiting : BitVec 16) (q : BasteReq) (d : Dev) : Dev :=
  ({ d with baste := some { q with waiting := waiting } }).latchCapture

/-- The write that asks for the capture of a panel. -/
def captureWr (path : Transport) (upper : BitVec 16) (column row : BitVec 8) : Wr :=
  { path := path, len := 8, value := word (2 ^ 56 + upper.toNat * 65536 + column.toNat * 256 + row.toNat) }

/-- PANEL_CAPTURE: BASTE_REQUEST of KIND 0x01; upper holds the reserved bits of TARGET, with which a request is refused (R72, R397). -/
def execPanelCapture (path : Transport) (upper : BitVec 16) (column row : BitVec 8) (waiting : BitVec 16) (s : State) :
    Host.Outcome State Fault Refusal :=
  onDev (rowWrite objBasteRequest (actBaste (fun _ _ t => captureExists t) (latchPanel waiting)) 0x2170 2
    (captureWr path upper column row)) s

end Sys2Proof.Machine
end

