-- ==== Sys2Proof/Machine/Watch.lean ====
section
/-! DEFINITION. Watch windows (R101 to R105, R153), stalls (R106 to R108), and what a window boundary does for the notices that are sent
at most once in a window. -/

namespace Sys2Proof.Machine

/-! ### The window's results -/

/-- A rate in units of 1,000 tokens/s over a number of Thimble ticks of 5 ns, rounded down (DESIGN CHOICE). -/
def rateOf (tokens ticks : Nat) : Nat := tokens * 200000 / ticks

/-- Watch point w measures (R103). -/
def Dev.measures (d : Dev) (w : Nat) : Bool := d.watchBinding w != BitVec.allOnes 64 && bit (d.watchCfg w) 15

/-- The capability of watch point w from its unhindered ticks and the tokens accepted in them; none below 10 µs (R105). -/
def Dev.capability (d : Dev) (w : Nat) (samples : List (Fin 512 × Nat × Nat)) : Option Nat :=
  match samples.find? (fun x => x.1.val == w) with
  | some x => if d.measures w && 2000 ≤ x.2.1 then some (rateOf x.2.2 x.2.1) else none
  | none => none

/-- Watch point w completes its window (R104, R105). The Bool is CAP_LOW. WATCH_RATE of a bound watch point with RATE_EN = 0 reads 0: DESIGN
CHOICE (entry 60), since the spec says what RATE_EN = 1 measures and not what is read without it. -/
def Dev.watchEnd (d : Dev) (w : Nat) (samples : List (Fin 512 × Nat × Nat)) : Dev × Bool :=
  let idx := 0x3B80 + w / 4
  let base := 0x10 * (w % 4 + 1)
  let x := d.watchSt w
  let cap := d.capability w samples
  let floor := d.rdN idx (base + 2)
  let low : Bool := match cap with
    | some c => floor != 0 && c < floor
    | none => false
  let d := d.wrN idx (base + 4) (if d.measures w then rateOf x.tokens d.window % 2 ^ 32 else 0)
  let d := d.wrN idx (base + 5) (match cap with
    | some c => c % 2 ^ 32
    | none => 0xFFFFFFFF)
  let d := ((d.setFlag idx 1 (8 + w % 4) x.stalled).setFlag idx 1 (4 + w % 4) low).setFlag idx 1 (w % 4) cap.isNone
  (d.setWatch w {}, low)

/-- Every watch point set completes (R104): the device and the watch points with CAP_LOW. -/
def Dev.watchSets (d : Dev) (samples : List (Fin 512 × Nat × Nat)) : Dev × List Nat :=
  let r := (List.range 512).foldl (fun (a : Dev × List Nat) w =>
    let x := a.1.watchEnd w samples
    (x.1, if x.2 then a.2 ++ [w] else a.2)) (d, [])
  let d := forEach 128 (fun n e => e.complete (0x3B80 + n) 1 15 none) r.1
  let seq := d.seqOf 0x3B80 1
  (d.wrN 0x3B00 1 (seq * 65536 + r.2.length), r.2)

/-- The minimum slack of half h over the window, its last beat among the samples (R101). -/
def Dev.windowSlack (d : Dev) (h : Nat) : Nat := min (d.half h).minSlack (halfSlack h (d.half h))

/-- The results of half h of a hem, at subindices from base on; sampled says that the island had a beat in the window. Slack
over no beat is a free value (entry 4). -/
def Dev.halfEnd (d : Dev) (hem h base : Nat) (sampled : Bool) : Dev :=
  let idx := 0x3000 + hem
  let x := d.half h
  let f := d.free
  let d := if sampled then d.wrN idx (base + 2) (d.windowSlack h) else f.2.wrN idx (base + 2) (f.1.toNat % 65536)
  let d := (d.wrN idx (base + 3) (rateOf x.crossed d.window % 2 ^ 32)).wrN idx (base + 4) x.tokens
  let d := (d.wrN idx (base + 5) x.loss).wrN idx (base + 6) x.markers
  d.setHalf h { x with minSlack := halfSlack h x, crossed := 0 }

/-- The slack alarm of half h (R102). -/
def Dev.slackAlarm (d : Dev) (hem h base : Nat) (sampled : Bool) : Bool :=
  sampled && d.windowSlack h ≤ d.rdN (0x3000 + hem) (base + 1)

/-- A hem completes its window (R153); the list holds its island once for each slack alarm. -/
def Dev.hemEnd (d : Dev) (hem : Nat) : Dev × List Nat :=
  let idx := 0x3000 + hem
  let w := d.hemWinOf hem
  let off := !d.islandOn (hemIsland hem)
  let sampled := !(w.startOff && off)
  let inHalf := if hem < 96 then some hem else if hem < 192 then none else some (2 * hem - 192)
  let outHalf := if hem < 96 then none else if hem < 192 then some (hem, 3) else some (2 * hem - 191, 0x13)
  let alarmIn : Bool := match inHalf with
    | some h => d.slackAlarm hem h 3 sampled
    | none => false
  let alarmOut : Bool := match outHalf with
    | some h => d.slackAlarm hem h.1 h.2 sampled
    | none => false
  let d := match inHalf with
    | some h => d.halfEnd hem h 3 sampled
    | none => d
  let d := match outHalf with
    | some h => d.halfEnd hem h.1 h.2 sampled
    | none => d
  let flags := (w.stopped || off || w.startOff).toNat * 64 + alarmIn.toNat * 32 + alarmOut.toNat * 16 + w.starved.toNat * 8 +
    w.dropped.toNat * 4 + w.hang.toNat * 2 + w.ecc.toNat
  let d := (d.wr idx 1 (setBits (d.rd idx 1) 14 8 flags)).complete idx 1 15 none
  let alarms := (if alarmIn then [hemIsland hem] else []) ++ (if alarmOut then [hemIsland hem] else [])
  (d.setHemWin hem { startOff := off }, alarms)

/-- Every hem completes: the device and the alarms. -/
def Dev.hemEnds (d : Dev) : Dev × List Nat :=
  (List.range 216).foldl (fun (a : Dev × List Nat) hem =>
    let x := a.1.hemEnd hem
    (x.1, a.2 ++ x.2)) (d, [])

/-! ### The notices of a window -/

/-- A new window: what is sent at most once in a window may be sent again. -/
def Dev.newWindow (d : Dev) : Dev :=
  let d := (d.bobbins.map (fun e => e.1)).foldl (fun e b => e.setBobbin b { e.bobbin b with sent310 := false }) d
  let d := (d.blocks.map (fun e => e.1)).foldl (fun e b => e.setBlock b { e.block b with sent702 := false }) d
  let d := (d.shuttles.map (fun e => e.1)).foldl (fun e g => e.setShuttle g { e.shuttle g with sent441 := false }) d
  let d := (d.needles.map (fun e => e.1)).foldl (fun e c =>
    e.setNeedle c { e.needle c with sent501 := false, sent502 := false, sent531 := false }) d
  let d := (d.spool.map (fun e => e.1)).foldl (fun e c => e.setChan c { e.chan c with sent621 := false }) d
  let d := (d.cascade.threads.map (fun e => e.1)).foldl (fun e t => e.setThread t { e.thread t with sent32 := false }) d
  { d with
    tally := { d.tally with sent53 := false }
    swatch := { d.swatch with sent61 := false }
    config := { d.config with sent160 := false }
    window := d.rdN 0x3B00 2 }

/-- Windows run: the Thimble's timers do, from the change to RUN on (R109, R334). -/
def Dev.windowRuns (d : Dev) : Bool :=
  d.thimble && (d.core.state == .run || d.core.state == .folded || d.core.state == .safe)

/-- WATCH_WINDOW_END: every watch point set and every hem completes its results as one change; CAP_LOW and slack alarms are
notified (R102 to R105, R153). samples gives, for watch points, the Thimble ticks of unhindered time and the tokens accepted
in it. -/
def execWatchWindowEnd (samples : List (Fin 512 × Nat × Nat)) (s : State) : Host.Outcome State Fault Refusal :=
  onDev (fun d =>
    if !d.windowRuns then d
    else
      let w := d.watchSets samples
      let h := w.1.hemEnds
      let d := h.1.newWindow
      let d := w.2.foldl (fun e i => e.notify 0x0340 i) d
      h.2.foldl (fun e i => e.notify 0x0330 i) d) s

/-- WATCH_ACK (R104). -/
def execWatchAck (n : Fin 128) (w : Wr) (s : State) : Host.Outcome State Fault Refusal :=
  onDev (rowWrite objWatchAck (ackAct objWatchAck (0x3B80 + n.val) 1 15) (0x3B80 + n.val) 2 w) s

/-- The endpoint that WATCH_BINDING names can accept a token (R106): a hem or bobbin that is not full as seen from the fabric side, a
port whose island runs. A block-memory port belongs to no island of R13, and is taken as always able to accept: DESIGN CHOICE
(entry 60). -/
def Dev.endpointReady (d : Dev) (v : Word) : Bool :=
  let idx := bits v 15 0
  match bits v 31 29 with
  | 1 => (d.half (idx - 0x3000)).freeEntries != 0
  | 2 => (d.half (2 * (idx - 0x3000) - 192)).freeEntries != 0
  | 3 => !(d.bobbin (idx - 0x4400)).full (d.bobbinCfg (idx - 0x4400))
  | 5 => d.islandOn 118
  | _ => true

/-- The receiver of the output thread that binding v names, if the bundle has that thread (R41, R103). -/
def Dev.boundReceiver (d : Dev) (v : Word) : Option Nat :=
  (d.receivers (bits v 63 56) (bits v 55 48) (bits v 47 44))[bits v 43 41]?

/-- The handshake phase of the bound thread has begun and is not complete (R106): REQ and ACK rising while the receiver has not
acknowledged the bundle's token, falling while the handshake returns to zero. -/
def Dev.phaseOpen (d : Dev) (v : Word) (falling : Bool) : Bool :=
  let p := d.panel (siteNo (bits v 63 56) (bits v 55 48))
  let b := bits v 47 44
  if falling then p.returning.getLsbD b
  else match d.boundReceiver v with
    | some r => p.offers b r
    | none => p.outFull.getLsbD b

/-- The logical site taken as faulty for a stall: the receiving side of the thread, or the bound bundle's where the endpoint is a hard one
(R108). -/
def Dev.stallSite (d : Dev) (v : Word) : Nat :=
  let site := siteNo (bits v 63 56) (bits v 55 48)
  if bits v 31 29 ≠ 0 then site
  else match d.boundReceiver v with
    | some r => if r < 16 then site else (((d.fabricBranches site (r - 16)).head?).map (fun k => k / 64)).getD site
    | none => site

/-- WATCH_STALL: a handshake phase on the thread of watch point w has outlasted WATCH_STALL_BOUND; its report names the watch point, the
thread and the phase (R106, R108, R109, R334). -/
def execWatchStall (w : Fin 512) (falling : Bool) (s : State) : Host.Outcome State Fault Refusal :=
  onDev (fun d =>
    let v := d.watchBinding w.val
    let cfg := d.watchCfg w.val
    if !d.thimble || d.core.state != .run || v = BitVec.allOnes 64 || !bit cfg 14 || !d.endpointReady v || !d.phaseOpen v falling then d
    else
      let d := d.setWatch w.val { d.watchSt w.val with stalled := true }
      if bit cfg 13 then d.logNotify 0x0341 w.val 0
      else
        let site := d.stallSite v
        let row := site / 102
        d.panelFault 0x0811 (d.physColumn (site % 102) row) row (.stall w.val (bits v 43 41) falling.toNat)) s

end Sys2Proof.Machine
end

