-- ==== Sys2Proof/Machine/Startup.lean ====
section
/-! DEFINITION. The start-up steps and the change to RUN (R332 to R334), locking of the group PLLs (R37, R201), and the wear limit that an
image's WEAR_HEADROOM sets (R525). -/

namespace Sys2Proof.Machine

/-! ### The wear limit (R525) -/

/-- W_limit in 0.001 wear-hours of h_min in thousandths; a fraction is dropped (entry 6). -/
def wearLimit (h : Nat) : Nat := 131400000 * (min h 1080 - 1000) ^ 4 / 80 ^ 4

/-- WEAR_HEADROOM takes a value: W_limit follows, and h_min of 1 or less is logged and notified at once (R525, R534). -/
def Dev.setHeadroom (d : Dev) (v : Word) : Dev :=
  let d := d.wr 0x2300 9 v
  if v.toNat ≤ 1000 then (d.complete 0x2300 1 15 none).logNotify 0x0943 0 0 else d

/-! ### The order of the steps (R333) -/

/-- The four step codes of a start-up order, first to fourth. -/
def orderSteps (v : Nat) : List Nat := [v % 4, v / 4 % 4, v / 16 % 4, v / 64 % 4]

/-- Each code stands once. -/
def orderOk (v : Nat) : Bool := [0, 1, 2, 3].all (fun c => (orderSteps v).contains c)

def actStartOrder : Act where
  check := fun _ w => if orderOk (objStartOrder.num w) then 0 else 0x0140
  apply := fun d w => d.wr 0x2010 1 (objStartOrder.valueOf w)

/-- START_ORDER_WRITE (R333). -/
def execStartOrderWrite (w : Wr) (s : State) : Host.Outcome State Fault Refusal :=
  onDev (rowWrite objStartOrder actStartOrder 0x2010 1 w) s

/-! ### The steps (R334) -/

/-- A repair or move is under way; a start-up step that falls due waits for its release (R484). -/
def Dev.repairUnderWay (d : Dev) : Bool := !d.darn.repairs.isEmpty || !d.darn.waiting.isEmpty || !d.darn.queue.isEmpty

/-- The lanes of group g that leave idle show the level of their needle's drive state at once (R37). -/
def Dev.showLanes (d : Dev) (g : Nat) : Dev :=
  forEach 8 (fun i e =>
    let c := 8 * g + i
    if e.laneActive c && !e.rawMode c then
      let x := e.needle c
      let t : Int := 4000 * e.core.time
      (e.emit (.lane c t x.drive.level)).setNeedle c { x with lastTx := some t, toOff := false }
    else e) d

/-- STEPS_DONE shows a step of a fitting. -/
def Dev.stepDone (d : Dev) (c : Nat) : Dev := if d.core.state = .fitting then d.setFlag 0x2100 0x0B c true else d

/-- RELEASE_OUTPUTS: outputs take their configured behaviour (R36, R37). -/
def Dev.releaseOutputs (d : Dev) : Dev :=
  forEach 12 (fun g e => e.showLanes g) { d with core := { d.core with outputs := true } }

/-- Both halves of a French seam at their INIT values (R492). -/
def Dev.initFrench (d : Dev) (n : Nat) : Dev :=
  let v := d.frenchBinding n
  let half (column row : Nat) : FrenchHalf := {
    shadow := { regA := d.initRegs column row 9, regB := d.initRegs column row 8, outFull := d.initTokens column row } }
  if d.frenchBound n then
    d.setFrench n { half0 := half (bits v 63 56) (bits v 55 48), half1 := half (bits v 47 40) (bits v 39 32) }
  else d.setFrench n {}

/-- A site's FULL bundles raise REQ with their INIT values (R66). -/
def Dev.emitFull (d : Dev) (site : Nat) : Dev :=
  forEach 16 (fun b e => if (e.panel site).outFull.getLsbD b then e.emitBundle (site % 102) (site / 102) b else e) d

/-- RELEASE_GSR: global set/reset is released and every seam gate opens in the same instant; hems and bobbins are empty, every flag
register is 0, and every needle is OFF with v = LOW (R66, R92, R128, R152, R204, R233). -/
def Dev.releaseGsr (d : Dev) : Dev :=
  let d := { d with core := { d.core with gsrHeld := false, gatesOpen := true }, seams := [] }
  let d := ((d.emptyHems).emptyBobbins 54).groupsOff 0xFFF
  let d := forEach 12 (fun g e => e.setShuttle g { e.shuttle g with flags := 0 }) d
  let sites := d.configuredSites
  let d := sites.foldl (fun e site => e.initPanel site) d
  let d := forEach 64 (fun n e => e.initFrench n) d
  sites.foldl (fun e site => e.emitFull site) d

/-- ENABLE_WRITES: writes that waited in their handshake are accepted. -/
def Dev.enableWrites (d : Dev) : Dev :=
  let d := { d with core := { d.core with writes := true } }
  d.bobbins.foldl (fun e b => e.bobbinRetry b.1) d

/-- A start-up step other than PLL_LOCK runs. -/
def Dev.runStep (d : Dev) (c : Nat) : Dev :=
  let d := if c = 1 then d.releaseOutputs else if c = 2 then d.releaseGsr else d.enableWrites
  d.stepDone c

/-! ### RUN (R30, R332 step 7) -/

/-- SOURCE of CFG_STATUS. -/
def LoadSource.code : LoadSource → Nat
  | .port => 1 | .pcie => 2 | .slot _ => 3 | .recovery => 4

/-- The slot that a source names. -/
def LoadSource.slotOf : LoadSource → Option Nat
  | .slot s => some s
  | _ => none

/-- FRENCH_STATUS and ALLOWANCE_PEAK start afresh with a load. -/
def Dev.freshFrench (d : Dev) : Dev :=
  forEach 64 (fun n e => ((e.setFlag (0x3980 + n) 1 14 false).setFlag (0x3980 + n) 1 12 false).wrN (0x3980 + n) 7 0) d

/-- A watch window begins with the change to RUN (R334): what was counted before it does not enter the first window, and each hem's
island runs, or is stopped, from here on. -/
def Dev.beginWindows (d : Dev) : Dev :=
  let d := forEach 216 (fun hem e =>
    e.setHemWin hem { e.hemWinOf hem with startOff := !e.islandOn (hemIsland hem), stopped := false }) { d with watch := [] }
  { d with window := d.rdN 0x3B00 2 }

/-- The fitting completes: the device enters RUN and drives CFG_DONE; every patch has its recovery source, or awaits its copy while it
keeps the source it had (R332, R345, R355). -/
def Dev.fittingComplete (d : Dev) : Dev :=
  match d.config.load with
  | none => d
  | some l =>
    let slot := l.source.slotOf
    let c := d.config
    let d := { d with config := { c with
      load := none, cfgDone := true, running := some { header := l.header, digest := l.chain, slot := slot }
      recoveryFor := if slot.isSome then BitVec.allOnes 54 else c.recoveryFor
      copying := if slot.isSome then 0 else BitVec.allOnes 54, loadedAt := d.core.time
      passStart := d.core.time, passDone := 0, scrubPos := [] } }
    let w := setBit (setBits (setBits (d.rd 0x2100 1) 11 8 l.source.code) 7 0 0) 12 true
    let d := ((d.wr 0x2100 1 w).wrN 0x2100 3 0).wrN 0x2100 4 0xFFFFFFFF
    let d := d.complete 0x2100 1 14 (some 15)
    let d := (d.wrN 0x2100 6 l.header.imageId).wrN 0x2100 7 l.header.imageVersion
    let d := (d.wrN 0x2120 6 (if slot.isSome then 1 else 3)).wrN 0x3900 8 0
    (d.changeState .run 0x0B76).updatePermits.beginWindows

/-- A bank runs again after a fold: on the clock that its BANK_CLOCK and its group call for, its capture starting with a baseline (R262,
R267). -/
def Dev.resumeBank (d : Dev) (b : Nat) : Dev :=
  let cfg := d.rd (bankIdx b) 2
  let d := d.setBank b { d.bank b with switching := false, fallback := !d.groupRuns (bits cfg 27 24), baseline := true }
  d.markRan (fun n => n = 112 + b)

/-- A wake completes: every gate opens again and the device is in RUN (R30, R92). -/
def Dev.wakeComplete (d : Dev) : Dev :=
  let d := { d with core := { d.core with gatesOpen := true }, config := { d.config with cfgDone := true } }
  let d := (d.setFlag 0x2100 1 12 true).changeState .run 0x0B78
  (forEach 4 (fun b e => e.resumeBank b) d).updatePermits

/-- Start-up steps run in order until one has to wait: PLL_LOCK for its own event, any other for a repair in a fitting. With
none left the device enters RUN. The number bounds the steps. -/
def Dev.advanceSteps : Nat → Dev → Dev
  | 0, d => d
  | k + 1, d =>
    match d.core.steps with
    | none => d
    | some [] =>
      let wake := d.core.state == .folded
      let d := { d with core := { d.core with steps := none } }
      if wake then d.wakeComplete else d.fittingComplete
    | some (c :: t) =>
      if c = 0 || (d.core.state == .fitting && d.repairUnderWay) then d
      else Dev.advanceSteps k (({ d with core := { d.core with steps := some t } }).runStep c)

/-- The steps that have fallen due. -/
def Dev.proceedSteps (d : Dev) : Dev := Dev.advanceSteps 5 d

/-- The start-up steps of a fitting, or of a wake, begin (R333, R334). -/
def Dev.beginSteps (d : Dev) (wake : Bool) : Dev :=
  let all := orderSteps d.config.orderInEffect
  let l := if wake then all.filter (fun c => c = 0 || c = 1) else all
  ({ d with core := { d.core with steps := some l } }).proceedSteps

/-! ### PLLs -/

/-- What a group's first lock after a clock loss brings: where a run was lost, the FAULT entry with the time of the loss and open compare
entries closed; in every case CAL_STALE (R201, R249). -/
def Dev.afterLoss (d : Dev) (g : Nat) : Dev :=
  let stale := (d.shuttle g).unlocked
  let d := match (d.shuttle g).lost with
    | none => d
    | some t =>
      let d := d.status g 8 t (d.shuttle g).slices 0
      forEach 8 (fun i e => e.closeEntry (8 * g + i)) d
  let d := d.setShuttle g { d.shuttle g with lost := none, unlocked := false }
  if stale then d.calStale g else d

/-- The PLL of group g has locked: its island runs (R15, R37). -/
def Dev.lockPll (d : Dev) (g : Nat) : Dev :=
  if d.tr.plls.getLsbD g then d
  else
    let d := { d with tr := { d.tr with plls := d.tr.plls ||| BitVec.ofNat 12 (2 ^ g) } }
    let d := d.markRan (fun n => n = 96 + g || (n < 96 && n / 8 = g))
    ((d.afterLoss g).showLanes g).followGroup g

/-- STARTUP_PLL_LOCK: the PLL_LOCK step ends; locked names the groups whose PLL has locked by then. Each other group is left
stopped (R334). -/
def execStartupPllLock (locked : BitVec 12) (s : State) : Host.Outcome State Fault Refusal :=
  onDev (fun d =>
    match d.core.steps with
    | some (0 :: t) =>
      let d := forEach 12 (fun g e => if locked.getLsbD g then e.lockPll g else e.log 0x0150 g 0) d
      (({ d with core := { d.core with steps := some t } }).stepDone 0).proceedSteps
    | _ => d) s

/-- GROUP_PLL_RELOCK: a group left stopped, or stopped by a clock loss, locks again: its shuttle stays HALTED (R201, R334). -/
def execGroupPllRelock (g : Fin 12) (s : State) : Host.Outcome State Fault Refusal :=
  onDev (fun d =>
    let waits : Bool := match d.core.steps with
      | some l => l.contains 0
      | none => false
    if (d.core.state != .run && d.core.state != .fitting) || waits ||
        (d.core.state == .fitting && d.config.load.any (fun l => !l.ended)) then d
    else d.lockPll g.val) s

end Sys2Proof.Machine
end

