-- ==== Sys2Proof/Machine/Swatch.lean ====
section
/-! DEFINITION. Swatches (R466 to R477): requests, what each section of a slot latches, completion and acknowledgement. -/

namespace Sys2Proof.Machine

/-! ### Object words that are computed at the read, as the sections need them -/

/-- NEEDLE_STATUS of channel c (R251). -/
def Dev.needleStatus (d : Dev) (c : Nat) : Nat :=
  let x := d.needle c
  let drive := match x.drive with
    | .low => 0 | .off => 1 | .term => 2 | .high => 3
  (if d.rawMode c then 2 ^ 30 else 0) + (if bit (d.rd 0x3340 5) (c / 8) then 2 ^ 29 else 0) +
    (if d.laneActive c then 2 ^ 28 else 0) + drive * 2 ^ 26 + (if x.v then 2 ^ 25 else 0)

/-- STATE of SHUTTLE_STATUS (R222). -/
def ShState.code : ShState → Nat
  | .halted => 0 | .armed => 1 | .running => 2 | .holding => 3

/-- STATE of SPOOL_STATUS (R449). -/
def SpState.code : SpState → Nat
  | .stopped => 0 | .running => 1 | .halted => 2

/-! ### Sections (R469 to R472) -/

/-- The panel entry of physical site P(column, row) (R469, R470). A site that holds no logic has no registers and no tension. -/
def Dev.swatchPanel (d : Dev) (t : Nat) (views : List PanelView) (site : Nat) : List Byte :=
  let column := site % 102
  let row := site / 102
  let q := sitePatch column row
  let unsettled := d.repairing q || d.moving q || d.committing q
  match d.logicalColumn column row with
  | none => leBytes 64 ((t % 2 ^ 64 * 2 ^ 192 + column * 2 ^ 184 + row * 2 ^ 176 + 0xFFFF * 2 ^ 160 + unsettled.toNat) * 2 ^ 256)
  | some lc =>
    let v := views.find? (fun x => x.1.val == siteNo lc row)
    let waiting := (v.map (fun x => x.2)).getD 0
    let p := d.panelNow lc row
    let a := if unsettled then 0 else d.captureReg lc row 12 p.regA
    let b := if unsettled then 0 else d.captureReg lc row 10 p.regB
    leBytes 16 a ++ leBytes 16 b ++ leBytes 32 (d.captureHead lc row t waiting + unsettled.toNat)

/-- The entry of shuttle g (R469, R471). -/
def Dev.swatchShuttle (d : Dev) (n t g : Nat) : List Byte :=
  let x := d.shuttle g
  let state := x.state.code * 2 ^ 86
  if d.groupRuns g then
    let s := x.slices - 1
    let lat := d.latency g
    let v : Sample := {
      time := t, slice := s, flags := x.flags, fv := if lat ≤ s then d.failVec g (s - lat) else 0, sticky := x.sticky,
      pc := x.pc, depth := x.stack.length, tset := tsetOf x.word }
    leBytes 64 ((d.sampleBody g n v).toNat + state)
  else leBytes 64 (t % 2 ^ 64 * 2 ^ 448 + n * 2 ^ 416 + state + 2 ^ 85)

/-- The entry of needle c (R469, R471). -/
def Dev.swatchNeedle (d : Dev) (c : Nat) : List Byte :=
  let stopped := !d.groupRuns (c / 8)
  leBytes 16 (d.rdN (0x3200 + c) 8 * 2 ^ 80 + d.rdN (0x3200 + c) 9 * 2 ^ 32 + d.needleStatus c / 2 ^ 25 * 2 ^ 25 +
    stopped.toNat * 2 ^ 24)

/-- The entry of hem n (R469, R471). -/
def Dev.swatchHem (d : Dev) (hem : Nat) : List Byte :=
  let stopped := !d.islandOn (hemIsland hem)
  match halvesOf hem with
  | [h] => leBytes 16 ((d.half h).tokens * 2 ^ 80 + (d.half h).readerFill * 2 ^ 23 + stopped.toNat * 2 ^ 13)
  | h :: k :: _ =>
    leBytes 16 ((d.half h).tokens * 2 ^ 80 + (d.half k).tokens * 2 ^ 32 + (d.half h).readerFill * 2 ^ 23 +
      (d.half k).readerFill * 2 ^ 14 + stopped.toNat * 2 ^ 13)
  | [] => []

/-- The entry of bobbin b; the values of a member that is not a head read 0 (R125). -/
def Dev.swatchBobbin (d : Dev) (b : Nat) : List Byte :=
  let idx := 0x4400 + b
  if d.bobbinHead b != b then leBytes 16 0
  else leBytes 16 (d.rdN idx 6 * 2 ^ 96 + d.rdN idx 7 * 2 ^ 64 + d.rdN idx 8 * 2 ^ 32 + (d.bobbin b).words.length * 2 ^ 16)

/-- The entry of spool channel c. -/
def Dev.swatchSpool (d : Dev) (c : Nat) : List Byte :=
  leBytes 16 (d.rdN (0x3400 + c) 0x0D * 2 ^ 80 + d.spHead c * 2 ^ 64 + d.spTail c * 2 ^ 48 + (d.chan c).state.code * 2 ^ 45)

/-- The entries of a section of n instances. -/
def entries (n : Nat) (f : Nat → List Byte) : List Byte := (List.range n).flatMap f

/-- SOURCE_DETAIL: that of the lowest-numbered local trigger (R472). -/
def sourceDetail (details : List (Nat × Nat)) : Nat :=
  (List.range 6).foldr (fun k a => match details.find? (fun p => p.1 == k) with
    | some p => p.2
    | none => a) 0

/-- The header (R472). -/
def Dev.swatchHeader (d : Dev) (n : Nat) (x : SwatchDet) : List Byte :=
  let cascade := x.triggers.testBit 6
  leBytes 256 (d.rdN 0x2100 6 * 2 ^ 480 + d.rdN 0x2004 1 * 2 ^ 448 + (if cascade then x.cascade else 0) * 2 ^ 416 +
    sourceDetail x.details * 2 ^ 400 + x.triggers * 2 ^ 384 + x.latch % 2 ^ 64 * 2 ^ 320 + x.detect % 2 ^ 64 * 2 ^ 256 +
    n % 2 ^ 32 * 2 ^ 224 + d.core.state.code * 2 ^ 216 + d.core.cascadeId * 2 ^ 212 + cascade.toNat * 2 ^ 211 +
    x.late.toNat * 2 ^ 210 + (!d.captureAllowed).toNat * 2 ^ 209 + 2 ^ 32 + 0x4B535754)

/-- Every section but the trailer, by offset. -/
def Dev.swatchBody (d : Dev) (n : Nat) (x : SwatchDet) (views : List PanelView) : List (Nat × List Byte) :=
  [(0, d.swatchHeader n x), (0x100, entries 7344 (d.swatchPanel x.latch views)),
   (0x72D00, entries 12 (d.swatchShuttle (n % 2 ^ 32) x.latch)), (0x73000, entries 96 d.swatchNeedle),
   (0x73600, entries 216 d.swatchHem), (0x74380, entries 768 d.swatchBobbin),
   (0x77380, entries 512 (fun w => leBytes 8 (d.rdN (0x3B80 + w / 4) (0x10 * (w % 4 + 1) + 6)))),
   (0x78380, entries 16 d.swatchSpool), (0x78480, entries 1024 (fun k => leBytes 8 (d.dumpValue k)))]

/-- A slot with its trailer (R472). -/
def sealSlot (n : Nat) (x : SwatchDet) (body : List (Nat × List Byte)) : SwatchSlot :=
  let s : SwatchSlot := { number := n % 2 ^ 32, time := x.latch, triggers := x.triggers, data := body }
  let crc := crc32c ((List.range 524224).map s.byteAt)
  { s with data := body ++ [(0x7FFC0, leBytes 64 (crc * 2 ^ 32 + n % 2 ^ 32))] }

/-- SWATCH_LATCH: at T every island and panel latches its section (R467, R469 to R471); the slot under way reads NUMBER 0 (R474). -/
def execSwatchLatch (views : List PanelView) (s : State) : Host.Outcome State Fault Refusal :=
  onDev (fun d =>
    match d.swatch.det with
    | none => d
    | some x =>
      if !d.thimble || d.core.time < x.latch then d
      else
        let n := d.swatch.number + 1
        let slot := sealSlot n x (d.swatchBody n x views)
        let d := d.wrN (0x3601 + (n - 1) % 4) 1 0
        { d with swatch := { d.swatch with det := none, busy := some slot } }) s

/-- SWATCH_COMPLETE: the slot, its objects, SEQ, UNACKED and BUSY change as one (R473). -/
def execSwatchComplete (s : State) : Host.Outcome State Fault Refusal :=
  onDev (fun d =>
    match d.swatch.busy with
    | none => d
    | some x =>
      if !d.thimble then d
      else
        let n := d.swatch.number + 1
        let k := (n - 1) % 4
        let w := d.swatch
        let d := { d with swatch := { w with busy := none, number := n, slots := tabSet (fun _ => {}) w.slots k x } }
        let d := ((d.wrN (0x3601 + k) 1 x.number).wrN (0x3601 + k) 2 x.time).wrN (0x3601 + k) 3 x.triggers
        let d := d.wr 0x3600 1 (setBits (d.rd 0x3600 1) 13 12 k)
        (d.complete 0x3600 1 15 (some 14)).notify 0x0B60 0) s

/-! ### Requests and acknowledgement -/

def actSwatchRequest : Act where
  allow := fun d w => if objSwatchRequest.num w = 2 && !d.established then 0x0A11 else 0
  apply := fun d w => if objSwatchRequest.num w = 2 then d.routeSwatch 0 0 else d.swatchTrigger 0 0

/-- SWATCH_REQUEST_LOCAL: 0x01 written to SWATCH_REQUEST (R467). -/
def execSwatchRequestLocal (path : Transport) (s : State) : Host.Outcome State Fault Refusal :=
  onDev (rowWrite objSwatchRequest actSwatchRequest 0x3600 3 { path := path, len := 1, value := 1 }) s

/-- SWATCH_REQUEST_CASCADE: 0x02 written to SWATCH_REQUEST (R467). -/
def execSwatchRequestCascade (path : Transport) (s : State) : Host.Outcome State Fault Refusal :=
  onDev (rowWrite objSwatchRequest actSwatchRequest 0x3600 3 { path := path, len := 1, value := 2 }) s

def actSwatchAck : Act where
  apply := fun d w =>
    if objSwatchAck.num w = d.seqOf 0x3600 1 then (d.ack 0x3600 1 15 (objSwatchAck.num w)).wrN 0x3600 8 (d.swatch.number % 2 ^ 32)
    else d

/-- SWATCH_ACK (R473). -/
def execSwatchAck (w : Wr) (s : State) : Host.Outcome State Fault Refusal :=
  onDev (rowWrite objSwatchAck actSwatchAck 0x3600 2 w) s

/-- SWATCH_TRIGGER (R477): SYNC_DIVIDER 0 is reserved while SYNC is 1, and SWATCH_WATCH names a bound watch point. -/
def actSwatchTrigger : Act where
  check := fun d w =>
    let v := objSwatchTrigger.valueOf w
    if bit v 59 && bits v 31 24 = 0 then 0x0B05
    else if bit v 60 && d.watchBinding (bits v 8 0) = BitVec.allOnes 64 then 0x0B64 else 0
  apply := fun d w => d.wr 0x3600 5 (objSwatchTrigger.valueOf w)

end Sys2Proof.Machine
end

