-- ==== Sys2Proof/Machine/Repair.lean ====
section
/-! DEFINITION. Repairs, planned moves and French seams (R478 to R494, R501 to R504). -/

namespace Sys2Proof.Machine

/-! ### French seams (R492 to R494) -/

/-- A half returns to its shadow state (R493): its registers and bundles, and an output token not acknowledged is taken back. -/
def Dev.restoreHalf (d : Dev) (site : Nat) (h : FrenchHalf) : Dev :=
  let d := d.setPanel site { h.shadow with tension := (d.panel site).tension }
  forEach 8 (fun u e =>
    let x := e.seam (seamOut site u)
    match x.word with
    | some w => e.setSeam (seamOut site u) { x with wires := launchWires x.wires w x.digits, word := none, acked := [] }
    | none => e) d

/-- The logical sites of the halves of French seam n. -/
def Dev.frenchSites (d : Dev) (n : Nat) : Nat × Nat :=
  let v := d.frenchBinding n
  (siteNo (bits v 63 56) (bits v 55 48), siteNo (bits v 47 40) (bits v 39 32))

/-- A rollback of French seam n (R493): both halves take their shadow state and replay their allowance. -/
def Dev.rollback (d : Dev) (n : Nat) : Dev :=
  let f := d.frenchSt n
  let s := d.frenchSites n
  let d := (d.restoreHalf s.1 f.half0).restoreHalf s.2 f.half1
  let fresh (h : FrenchHalf) : FrenchHalf := { h with waiting := false, held := [], nextHeld := [] }
  let d := d.setFrench n {
    replay0 := f.half0.held, replay1 := f.half1.held, half0 := fresh f.half0, half1 := fresh f.half1 }
  let idx := 0x3980 + n
  let d := d.setFlag idx 1 12 (!f.half0.held.isEmpty || !f.half1.held.isEmpty)
  let d := ((d.complete idx 1 15 none).count idx 5 32 1).wrN idx 6 d.core.time
  d.log 0x0830 n 0

/-- French seam n breaks (R494). -/
def Dev.breakFrench (d : Dev) (n : Nat) : Dev :=
  let idx := 0x3980 + n
  let d := ((d.setFlag idx 1 14 true).setFlag idx 1 12 false).logNotify 0x0831 n 0
  if bit (d.frenchBinding n) 0 then d.enterSafe 0x0831 n else d.updatePermits

/-- FRENCH_MISMATCH: a receiver of French seam n finds a mismatch (R493); one while the replay runs is the second, and breaks it (R494).
bad names a half with a frame that correction cannot clear: it is repaired from its partner's shadow; otherwise both halves roll back at
once. -/
def execFrenchMismatch (n : Fin 64) (bad : Option (Fin 2)) (s : State) : Host.Outcome State Fault Refusal :=
  onDev (fun d =>
    let st := d.rd (0x3980 + n.val) 1
    if !d.fabricLive || !d.frenchBound n.val || bit st 14 then d
    else if bit st 12 then d.breakFrench n.val
    else match bad with
      | none => d.rollback n.val
      | some k =>
        let sites := d.frenchSites n.val
        let site := if k.val = 0 then sites.1 else sites.2
        d.panelFault 0x0813 (d.physColumn (site % 102) (site / 102)) (site / 102)) s

/-- FRENCH_BREAK: a second mismatch before the replay has passed every token (R494). -/
def execFrenchBreak (n : Fin 64) (s : State) : Host.Outcome State Fault Refusal :=
  onDev (fun d =>
    let idx := 0x3980 + n.val
    if !d.fabricLive || !d.frenchBound n.val || bit (d.rd idx 1) 14 || !bit (d.rd idx 1) 12 then d else d.breakFrench n.val) s

def execFrenchAck (n : Fin 64) (w : Wr) (s : State) : Host.Outcome State Fault Refusal :=
  onDev (rowWrite objFrenchAck (ackAct objFrenchAck (0x3980 + n.val) 1 15) (0x3980 + n.val) 2 w) s

/-! ### State restored (R486) -/

/-- A digit flagged invalid is given up with the token that it belongs to (R90): the receiver's references take the present levels, and its
senders see their ACK. -/
def Dev.dropInvalid (d : Dev) (site v : Nat) : Dev :=
  let x := d.seam (seamIn site v)
  if !x.invalid then d
  else
    let n := if 8 ≤ v && v < 24 then 1 else d.portDigits (site % 102) (site / 102) (v % 8)
    let d := d.setSeam (seamIn site v) { x.ack (d.seamLevels x.wires site v n) n with invalid := false }
    (d.sendersOf site v n).foldl (fun e a => e.ackSender (seamIn site v) a.1 a.2) d

/-- Tokens held in a site's seam ports are lost (R486). -/
def Dev.losePorts (d : Dev) (site : Nat) : Dev :=
  let d := (List.range 32).foldl (fun e v => e.dropInvalid site v) d
  (d.seams.filter (fun e => e.1 / 64 = site)).foldl (fun e p =>
    e.setSeam p.1 { e.seam p.1 with word := none, acked := [] }) d

/-- The 64 bytes that a slot holds for logical site (column, row), wherever its row held it. -/
def slotEntry (x : SwatchSlot) (column row : Nat) : Option (List Byte) :=
  (List.range 17).findSome? (fun k =>
    let site := siteNo (17 * (column / 17) + k) row
    let l := (List.range 64).map (fun i => x.byteAt (0x100 + 64 * site + i))
    if leAt l 53 1 = column && leAt l 52 1 = row then some l else none)

/-- The entry of the newest complete swatch that may restore logical site (column, row), with the swatch's NUMBER (R486). -/
def Dev.swatchRestore (d : Dev) (column row : Nat) : Option (Nat × List Byte) :=
  let n := d.swatch.number
  let x := tabGet (fun _ => ({} : SwatchSlot)) d.swatch.slots ((n - 1) % 4)
  let q := sitePatch column row
  if n = 0 || x.number != n % 2 ^ 32 || x.time ≤ d.config.loadedAt ||
      x.time ≤ tabGet (fun _ => 0) d.config.patchLoaded q then none
  else match slotEntry x column row with
    | some l => if leAt l 32 1 % 2 = 0 then some (n, l) else none
    | none => none

/-- The faulty site's logic takes its state from the first source that applies: RESULT, the NUMBER restored from, and the device
(R486). -/
def Dev.restoreSite (d : Dev) (column row : Nat) : Nat × Nat × Dev :=
  let site := siteNo column row
  match d.frenchHalf site with
  | some (n, k) =>
    let f := d.frenchSt n
    let partner := f.half !k
    (0x0820, 0, ((d.losePorts site).setFrench n (f.setHalf k { f.half k with shadow := partner.shadow })).rollback n)
  | none =>
    let fresh := (d.initPanel site).losePorts site
    match (if d.rdN 0x3900 5 = 0 then d.swatchRestore column row else none) with
    | some (n, l) =>
      let p := fresh.panel site
      (0x0821, n, fresh.setPanel site { p with
        regA := BitVec.ofNat 128 (leAt l 0 16) &&& d.storing column row 12
        regB := BitVec.ofNat 128 (leAt l 16 16) &&& d.storing column row 10 })
    | none => (0x0822, 0, fresh)

/-! ### Records (R490, R502) -/

/-- REPAIR_RECORD of a repair or move. -/
def repairRecord (r : RepairSt) (now result logical swatch rows panels recovered : Nat) : List Byte :=
  leBytes 32 (r.started % 2 ^ 64 * 2 ^ 192 + (now - r.started) % 2 ^ 32 * 2 ^ 160 + r.source * 2 ^ 144 + result * 2 ^ 128 +
    logical * 2 ^ 120 + r.row * 2 ^ 112 + r.column * 2 ^ 104 + r.row * 2 ^ 96 + swatch % 2 ^ 32 * 2 ^ 64 + r.patch * 2 ^ 56 +
    rows * 2 ^ 48 + r.kind * 2 ^ 44 + panels * 2 ^ 16 + recovered)

/-- REPAIR_STATUS completes with a record (R400, R502). -/
def Dev.repairDone (d : Dev) (l : List Byte) : Dev := (d.setBytes 0x3900 6 l).complete 0x3900 1 15 none

/-- Patch q isolated: its edge gates stay closed and its SAFE pumps stop (R345, R488), so permits that depend on it fall. -/
def Dev.isolate (d : Dev) (q : Nat) : Dev := (d.setFlag 0x3900 8 q true).updatePermits

/-- The logic of an isolated patch is lost: signalled with the logical site of the fault (R488 to R490). -/
def Dev.isolateLoss (d : Dev) (r : RepairSt) (recovered : Nat) : Dev :=
  let logical := (d.logicalColumn r.column r.row).getD r.column
  let d := ((d.isolate r.patch).logNotify 0x0823 (256 * logical + r.row) 0).count 0x3900 7 32 1
  d.repairDone (repairRecord r d.core.time 0x0823 logical 0 0 0 recovered)

/-! ### Start (R485, R488) -/

/-- Repairs run in this state (R484). -/
def Dev.repairsRun (d : Dev) : Bool :=
  d.core.state == .run || d.core.state == .folded || (d.core.state == .fitting && !d.core.gsrHeld)

/-- The oldest report whose patch is free (R484, R501). -/
def Dev.nextFault (d : Dev) : Option RepairSt := d.darn.queue.find? (fun f => !d.patchHeld f.patch)

/-- A repair or move under way. -/
def Dev.beginRepair (d : Dev) (f : RepairSt) : Dev := { d with darn := { d.darn with repairs := d.darn.repairs ++ [f] } }

/-- The sites of a band at its vacant position. -/
def Dev.vacantSites (d : Dev) (q r : Nat) : List Nat :=
  (d.bandRows q r).map (fun k => siteNo (17 * (q % 6) + d.vacant q k) (8 * (q / 6) + k))

/-- REPAIR_START: the Thimble takes a fault report (or a planned move that waited), chooses the spare, and starts the repair; with no
spare it isolates the patch and tests the band's RETIRED site (R485 steps 1 and 2, R488). A fault in a vacant site changes
nothing (R483); one in a patch already isolated starts nothing. -/
def execRepairStart (s : State) : Host.Outcome State Fault Refusal :=
  onDev (fun d =>
    if !d.repairsRun then d
    else match d.nextFault with
      | none => d
      | some f =>
        let q := f.patch
        let r := f.row % 8
        let d := { d with darn := { d.darn with queue := d.darn.queue.erase f } }
        if f.kind ≠ 1 then d.beginRepair f
        else if d.isolated q || d.vacant q r = f.column % 17 then d.proceedSteps
        else if d.rowKind q r = 1 then
          let d := d.isolateLoss f 0
          let site := siteNo (17 * (q % 6) + d.vacant q r) f.row
          let dn := d.darn
          { d with darn := { dn with waiting := dn.waiting ++ [f], testing := tabIns dn.testing site { purpose := 1 } } }
        else
          let sites := d.vacantSites q r
          let d := { d with darn := { d.darn with testing := d.darn.testing.filter (fun t => !sites.contains t.1) } }
          d.beginRepair f) s

/-! ### Release (R485 step 7, R491) -/

/-- The rows of a band as a mask. -/
def Dev.rowMask (d : Dev) (q r : Nat) : Nat := maskOf 8 (fun k => (d.bandRows q r).contains k)

/-- The band of a repair or move takes its new vacant position: the device and the panels moved. -/
def Dev.shiftBand (d : Dev) (r : RepairSt) (v kind : Nat) : Dev × Nat :=
  let row := r.row % 8
  let old := d.vacant r.patch row
  let n := (if old ≤ v then v - old else old - v) * (d.bandRows r.patch row).length
  (d.setBand r.patch row v kind, n)

/-- An unplanned repair completes (R485, R486, R490). -/
def Dev.releaseRepair (d : Dev) (r : RepairSt) (recovered : Nat) : Dev :=
  let logical := (d.logicalColumn r.column r.row).getD r.column
  let rows := d.rowMask r.patch (r.row % 8)
  let m := d.shiftBand r (r.column % 17) 1
  let x := m.1.restoreSite logical r.row
  let d := x.2.2
  let inst := 256 * logical + r.row
  let d := if x.1 = 0x0820 then d.log 0x0820 inst 0 else (d.logNotify x.1 inst x.2.1).count 0x3900 7 32 1
  let d := (d.count (0x3910 + r.patch) 4 32 1).count 0x2120 4 32 recovered
  let d := (d.setFlag 0x3900 8 r.patch false).updatePermits
  d.repairDone (repairRecord r d.core.time x.1 logical x.2.1 rows m.2 recovered)

/-- A planned move completes: every panel keeps its state (R491). -/
def Dev.releaseMove (d : Dev) (r : RepairSt) : Dev :=
  let rows := d.rowMask r.patch (r.row % 8)
  let p := r.column % 17
  let logical := if r.kind = 2 then (d.logicalColumn r.column r.row).getD r.column else r.column
  let m := if r.kind = 2 then d.shiftBand r p 1 else d.shiftBand r 16 0
  let d := m.1.log 0x0820 (256 * logical + r.row) 0
  let d := if r.kind = 3 then d.log 0x0842 (256 * r.column + r.row) 0 else d
  d.repairDone (repairRecord r d.core.time 0x0820 logical 0 rows m.2 0)

/-- REPAIR_RELEASE: the repair or planned move of patch q restores state, opens the gates and completes its record (R485, R491).
x counts the frames fetched from the recovery source; a patch without one is isolated (R345), and one whose source cannot
be read (R349) too, a DESIGN CHOICE (entry 60). -/
def execRepairRelease (q : Fin 54) (x : Recovered) (s : State) : Host.Outcome State Fault Refusal :=
  onDev (fun d =>
    match d.darn.repairs.find? (fun r => r.patch == q.val) with
    | none => d
    | some r =>
      if !d.repairsRun then d
      else
        let d := { d with darn := { d.darn with repairs := d.darn.repairs.erase r } }
        let d :=
          if r.kind ≠ 1 then d.releaseMove r
          else if 0 < x.frames.val && !d.config.recoveryFor.getLsbD q.val then (d.logNotify 0x0162 (0x3910 + q.val) 0).isolateLoss r 0
          else if 0 < x.frames.val && x.fails then (d.log 0x0263 (0x3910 + q.val) 0).isolateLoss r 0
          else d.releaseRepair r x.frames.val
        d.latchCapture.proceedSteps) s

/-! ### Requests (R491) -/

def actRepairRequest : Act where
  check := fun d w =>
    let v := objRepairRequest.valueOf w
    let column := bits v 15 8
    let row := bits v 7 0
    let q := sitePatch column row
    let kind := bits v 31 24
    if bits v 23 16 ≠ 0 || (kind ≠ 1 && kind ≠ 2) then 0x0B05
    else if 102 ≤ column || 72 ≤ row then 0x0801
    else if kind = 1 && column % 17 = 16 then 0x0801
    else if kind = 2 && !(d.rowKind q (row % 8) = 1 && d.vacant q (row % 8) = column % 17) then 0x0801 else 0
  allow := fun d w =>
    let v := objRepairRequest.valueOf w
    let row := bits v 7 0
    let q := sitePatch (bits v 15 8) row
    if d.patchHeld q || d.isolated q || d.stagedFor q then 0x0802
    else if bits v 31 24 = 1 && d.rowKind q (row % 8) ≠ 0 then 0x0803
    else if d.core.state != .run then 0x0804 else 0
  apply := fun d w =>
    let v := objRepairRequest.valueOf w
    let column := bits v 15 8
    let row := bits v 7 0
    let d := d.wrN 0x3900 4 0
    if bits v 31 24 = 1 then
      d.beginRepair {
        patch := sitePatch column row, row := row, column := d.physColumn column row, source := 0, kind := 2,
        started := d.core.time }
    else { d with darn := { d.darn with testing := tabIns d.darn.testing (siteNo column row) { purpose := 2 } } }
  refuse := fun code d => d.wrN 0x3900 4 code

/-- RETIRE: a planned move takes the named logical site off its physical site (R491). -/
def execRetire (path : Transport) (column row : BitVec 8) (s : State) : Host.Outcome State Fault Refusal :=
  onDev (rowWrite objRepairRequest actRepairRequest 0x3900 3
    { path := path, len := 4, value := word (0x01000000 + column.toNat * 256 + row.toNat) }) s

/-- REPAIR_RETURN: the named RETIRED site is self-tested, and returns to service if it passes (R491). -/
def execRepairReturn (path : Transport) (column row : BitVec 8) (s : State) : Host.Outcome State Fault Refusal :=
  onDev (rowWrite objRepairRequest actRepairRequest 0x3900 3
    { path := path, len := 4, value := word (0x02000000 + column.toNat * 256 + row.toNat) }) s

def execRepairAck (w : Wr) (s : State) : Host.Outcome State Fault Refusal :=
  onDev (rowWrite objRepairAck (ackAct objRepairAck 0x3900 1 15) 0x3900 2 w) s

end Sys2Proof.Machine
end

