-- ==== Sys2Proof/Machine/Bist.lean ====
section
/-! DEFINITION. Rolling self-test and the ARRAY run (R495 to R500, R505). -/

namespace Sys2Proof.Machine

/-- BIST_CONFIG. -/
def Dev.bistCfg (d : Dev) : Word := d.rd 0x3800 3

/-- Reserved values of BIST_CONFIG (R505). -/
def checkBistConfig (_ : Dev) (w : Wr) : Nat :=
  let v := objBistConfig.valueOf w
  if bits v 29 28 ≠ 0 || 4 < bits v 27 24 || bits v 23 16 = 0 || 96 < bits v 23 16 || bits v 15 0 = 0 || 1000 < bits v 15 0 then 0x0B05
  else 0

/-- The site number of a RETIRED or tested site as an instance: [15:8] column, [7:0] row. -/
def siteInst (site : Nat) : Nat := 256 * (site % 102) + site / 102

/-! ### Results of a sweep (R496, R505) -/

/-- How many sites of a sweep have a result code. -/
def countResult (l : List (Nat × Nat)) (code : Nat) : Nat := (l.filter (fun e => e.2 / 16 == code)).length

/-- BIST_SUMMARY. -/
def bistSummary (l : List (Nat × Nat)) (started now returned : Nat) : List Byte :=
  let c := countResult l
  leBytes 32 (now % 2 ^ 64 * 2 ^ 192 + (now - started) / 1000000 % 2 ^ 32 * 2 ^ 160 + (c 1 + c 2 + c 3) * 2 ^ 144 + c 1 * 2 ^ 128 +
    c 2 * 2 ^ 112 + c 3 * 2 ^ 96 + c 4 * 2 ^ 80 + c 5 * 2 ^ 64 + c 6 * 2 ^ 48 + returned * 2 ^ 32)

/-- A sweep or an ARRAY run completes: BIST_SITES, BIST_SUMMARY and SEQ (R505). -/
def Dev.sweepDone (d : Dev) (l : List (Nat × Nat)) (started returned : Nat) : Dev :=
  let now := d.core.time
  let dn := d.darn
  let d := { d with darn := { dn with
    sites := l, sweep := [], sweepStart := none, sweepEnd := some now, returned := 0, margins := 0, marginSent := false
    array := false } }
  (d.setBytes 0x3800 7 (bistSummary l started now returned)).complete 0x3800 1 15 none

/-- A site's result recorded; the sweep completes when every site has one (R496, R497). -/
def Dev.siteResult (d : Dev) (site code : Nat) : Dev :=
  let dn := d.darn
  let d := { d with darn := { dn with sweep := tabIns dn.sweep site code, sweepStart := some (dn.sweepStart.getD d.core.time) } }
  if d.darn.sweep.length = 7344 then d.sweepDone d.darn.sweep (d.darn.sweepStart.getD d.core.time) d.darn.returned else d

/-- MARGIN_WARNINGS has risen by one in the sweep under way: more than MARGIN_LIMIT of them are notified once (R527). -/
def Dev.marginRise (d : Dev) : Dev :=
  if d.darn.sweepStart.isNone || d.darn.array then d
  else
    let n := d.darn.margins + 1
    let most : Bool := d.rdN 0x2300 0x0A < n && !d.darn.marginSent
    let e := { d with darn := { d.darn with margins := n, marginSent := d.darn.marginSent || most } }
    if most then e.notify 0x0942 0 else e

/-- Events and counts of a tested site (R496): 1 PASS, 2 MARGIN, 3 FAIL. -/
def Dev.testEvents (d : Dev) (site result : Nat) : Dev :=
  let d := d.count (0x3910 + sitePatch (site % 102) (site / 102)) 5 32 1
  if result = 3 then d.logNotify 0x0840 (siteInst site) 0
  else if result = 2 then ((d.count 0x3800 9 32 1).logNotify 0x0841 (siteInst site) 0).marginRise
  else d

/-! ### Rolling self-test (R495, R497) -/

/-- The engine may run (R499, R500). -/
def Dev.bistRuns (d : Dev) : Bool := d.core.state == .run && bit d.bistCfg 31 && d.lc != 6

/-- A band holds a half of a French seam with SAFETY = 1 (R496). -/
def Dev.safetyBand (d : Dev) (q r : Nat) : Bool :=
  (List.range 64).any (fun n =>
    let v := d.frenchBinding n
    let on (column row : Nat) : Bool := sitePatch column row = q && (d.bandRows q r).contains (row % 8)
    d.frenchBound n && bit v 0 && (on (bits v 63 56) (bits v 55 48) || on (bits v 47 40) (bits v 39 32)))

/-- The skip result of a site, or 0 (R496). -/
def Dev.skipCode (d : Dev) (column row : Nat) : Nat :=
  let q := sitePatch column row
  let r := row % 8
  if d.isolated q || d.patchHeld q || d.stagedFor q then 6
  else if d.safetyBand q r && !bit d.bistCfg 30 then 5
  else if d.rowKind q r = 1 && d.vacant q r ≠ column % 17 then 4
  else 0

/-- A sweep may begin or go on, and STAGGER has passed (R497). -/
def Dev.testDue (d : Dev) : Bool :=
  let paused : Bool := match d.darn.sweepEnd with
    | some t => d.darn.sweepStart.isNone && d.core.time < t + d.rdN 0x3800 4 * 1000000000
    | none => false
  let staggered : Bool := match d.darn.lastTest with
    | some t => d.core.time < t + bits d.bistCfg 15 0 * 1000
    | none => false
  !paused && !staggered && d.darn.testing.length < bits d.bistCfg 23 16

/-- Band r of patch q stands TESTING from an interrupted sweep (R499), and a site of it has still to be visited (entry 51). -/
def Dev.leftTesting (d : Dev) (q r : Nat) : Bool :=
  d.rowKind q r = 2 && (d.vacantSites q r).any (fun x => !d.darn.sweep.any (fun e => e.1 == x))

/-- Another band of the patch, or this band at another column, is vacated for a test (R497). -/
def Dev.otherVacated (d : Dev) (column row : Nat) : Bool :=
  let q := sitePatch column row
  d.darn.testing.any (fun t =>
    let c := t.1 % 102
    let r := t.1 / 102
    sitePatch c r = q && (d.bandOf q (r % 8) != d.bandOf q (row % 8) || c != column)) ||
  (List.range 8).any (fun r =>
    d.leftTesting q r && (d.bandOf q r != d.bandOf q (row % 8) || d.vacant q r != column % 17))

/-- SITE_TEST_START: the scheduler comes to a physical site: it records a skip, or makes the site vacant and starts its test
(R495 to R497). -/
def execSiteTestStart (column : Fin 102) (row : Fin 72) (s : State) : Host.Outcome State Fault Refusal :=
  onDev (fun d =>
    let site := siteNo column.val row.val
    let q := sitePatch column.val row.val
    let r := row.val % 8
    let seen := d.darn.sweep.any (fun e => e.1 == site) || d.darn.testing.any (fun e => e.1 == site)
    if !d.bistRuns || seen || !d.testDue then d
    else
      let skip := d.skipCode column.val row.val
      if skip ≠ 0 then d.siteResult site (16 * skip)
      else if d.otherVacated column.val row.val then d
      else
        let d := if d.rowKind q r = 1 then d else d.setBand q r (column.val % 17) 2
        let dn := d.darn
        { d with darn := { dn with
          testing := tabIns dn.testing site {}, lastTest := some d.core.time
          sweepStart := some (dn.sweepStart.getD d.core.time) } }) s

/-- The band of a tested site goes back once all its sites are tested: shifted back, or RETIRED where one failed; a RETIRED
band whose sites all passed becomes FREE (R495, R496). -/
def Dev.bandTested (d : Dev) (site : Nat) : Dev :=
  let column := site % 102
  let q := sitePatch column (site / 102)
  let r := site / 102 % 8
  let sites := (d.bandRows q r).map (fun k => siteNo column (8 * (q / 6) + k))
  let result (x : Nat) : Nat := tabGet (fun _ => 0) d.darn.sweep x / 16
  if sites.any (fun x => d.darn.testing.any (fun t => t.1 == x)) || sites.any (fun x => result x = 0) then d
  else if d.rowKind q r = 2 then d.setBand q r 16 0
  else if d.rowKind q r = 1 && sites.all (fun x => result x = 1 || result x = 2) then
    let d := d.setBand q r 16 0
    let d := { d with darn := { d.darn with returned := d.darn.returned + sites.length } }
    sites.foldl (fun e x => e.log 0x0842 (siteInst x) 0) d
  else d

/-- A sweep test of a site ends with its result. -/
def Dev.sweepTested (d : Dev) (site result first : Nat) : Dev :=
  let q := sitePatch (site % 102) (site / 102)
  let r := site / 102 % 8
  let d := d.testEvents site result
  let d := if result = 3 then d.setBand q r (d.vacant q r) 1 else d
  let dn := d.darn
  let d := ({ d with darn := { dn with sweep := tabIns dn.sweep site (16 * result + first) } }).bandTested site
  d.siteResult site (16 * result + first)

/-- The test of R488 ends: its site serves as the spare of the pending repair, or the patch stays isolated. -/
def Dev.spareTested (d : Dev) (site result : Nat) : Dev :=
  let q := sitePatch (site % 102) (site / 102)
  let d := d.testEvents site result
  match d.darn.waiting.find? (fun f => f.patch == q) with
  | none => d
  | some f =>
    let d := { d with darn := { d.darn with waiting := d.darn.waiting.erase f } }
    if result = 3 then d.latchCapture.proceedSteps else d.beginRepair f

/-- The test of a RETURN ends: a planned move shifts the band back, or the site stays RETIRED (R491). -/
def Dev.returnTested (d : Dev) (site result : Nat) : Dev :=
  let column := site % 102
  let row := site / 102
  let d := d.testEvents site result
  if result = 3 then d
  else
    let f : RepairSt := {
      patch := sitePatch column row, row := row, column := column, source := 0, kind := 3, started := d.core.time }
    if d.patchHeld f.patch then { d with darn := { d.darn with queue := d.darn.queue ++ [f] } } else d.beginRepair f

/-- The golden signature that the wardrobe metadata holds for a site, slice and tension (R348, R495). -/
def Dev.golden (d : Dev) (site slice tension : Nat) : BitVec 64 := tabGet (fun _ => 0) d.nv.golden (256 * site + 16 * slice + tension)

/-- BIST_SLICE_END: one BIST slice of a site under test ends: sig4 and sigT are its signatures at tension 4 and at BIST_TENSION, which
are compared with the golden ones. After the 16th the result is recorded (R495, R496). -/
def execBistSliceEnd (column : Fin 102) (row : Fin 72) (sig4 sigT : BitVec 64) (s : State) : Host.Outcome State Fault Refusal :=
  onDev (fun d =>
    let site := siteNo column.val row.val
    match d.darn.testing.find? (fun t => t.1 == site) with
    | none => d
    | some t =>
      let x := t.2
      let ok4 : Bool := sig4 == d.golden site x.slice 4
      let okT : Bool := sigT == d.golden site x.slice (bits d.bistCfg 27 24)
      let fail := match x.fail with
        | some k => some k
        | none => if ok4 then none else some x.slice
      let x := { x with slice := x.slice + 1, margin := x.margin || !okT, fail := fail }
      if x.slice < 16 then { d with darn := { d.darn with testing := tabIns d.darn.testing site x } }
      else
        let d := { d with darn := { d.darn with testing := tabDel d.darn.testing site } }
        let result := if fail.isSome then 3 else if x.margin then 2 else 1
        match x.purpose with
        | 0 => d.sweepTested site result (fail.getD 0)
        | 1 => d.spareTested site result
        | _ => d.returnTested site result) s

/-! ### The ARRAY run (R499, R500) -/

def actBistRequest : Act where
  gate := fun d _ => if d.lc = 5 then 3 else 0
  allow := fun d _ => if d.lc = 6 then 0x0204 else if d.core.state != .unconfigured then 0x0804 else 0
  apply := fun d _ => { d.wrN 0x3800 6 0 with darn := { d.darn with array := true, sweepStart := some d.core.time } }
  refuse := fun code d => d.wrN 0x3800 6 code

/-- BIST_ARRAY: 0x01 written to BIST_REQUEST (R499). -/
def execBistArray (path : Transport) (s : State) : Host.Outcome State Fault Refusal :=
  onDev (rowWrite objBistRequest actBistRequest 0x3800 5 { path := path, len := 1, value := 1 }) s

/-- The band of row r has a RETIRED site that failed again. -/
def Dev.arrayKept (d : Dev) (result : Nat → Nat) (q r : Nat) : Bool :=
  d.rowKind q r = 1 && (d.bandRows q r).any (fun k => result (siteNo (17 * (q % 6) + d.vacant q r) (8 * (q / 6) + k)) = 3)

/-- A band of a patch after an ARRAY run (R496, R499): a RETIRED site that passed returns to service, and a failing site is RETIRED
where no other of its band stays so. -/
def Dev.arrayBand (d : Dev) (result : Nat → Nat) (q r : Nat) : Dev :=
  let sitesAt (p : Nat) : List Nat := (d.bandRows q r).map (fun k => siteNo (17 * (q % 6) + p) (8 * (q / 6) + k))
  if d.bandOf q r ≠ r || d.arrayKept result q r then d
  else
    let e := if d.rowKind q r = 1 then (sitesAt (d.vacant q r)).foldl (fun e x => e.log 0x0842 (siteInst x) 0) d else d
    match (List.range 17).find? (fun p => (sitesAt p).any (fun x => result x = 3)) with
    | some p => e.setBand q r p 1
    | none => e.setBand q r 16 0

/-- BIST_ARRAY_COMPLETE: the ARRAY run completes, retires failing sites and completes BIST_STATUS (R499). fails holds each site whose
tension-4 signature differs from the golden one with its first such slice, margins the sites with a BIST_TENSION failure alone. -/
def execBistArrayComplete (fails : List (Fin 7344 × Fin 16)) (margins : List (Fin 7344)) (s : State) :
    Host.Outcome State Fault Refusal :=
  onDev (fun d =>
    if !d.darn.array || d.core.state != .unconfigured then d
    else
      let byte (x : Nat) : Nat := match fails.find? (fun f => f.1.val == x) with
        | some f => 48 + f.2.val
        | none => if margins.any (fun m => m.val == x) then 32 else 16
      let started := d.darn.sweepStart.getD d.core.time
      let d := forEach 7344 (fun x e => e.testEvents x (byte x / 16)) d
      let back (q : Nat) : Nat :=
        ((List.range 8).filter (fun r => d.rowKind q r = 1 && !d.arrayKept (fun x => byte x / 16) q r)).length
      let returned := ((List.range 54).map back).sum
      let d := forEach 54 (fun q e => forEach 8 (fun r e => e.arrayBand (fun x => byte x / 16) q r) e) d
      d.sweepDone ((List.range 7344).map (fun x => (x, byte x))) started returned) s

def execBistAck (w : Wr) (s : State) : Host.Outcome State Fault Refusal :=
  onDev (rowWrite objBistAck (ackAct objBistAck 0x3800 1 15) 0x3800 2 w) s

end Sys2Proof.Machine
end

