-- ==== Sys2Proof/Machine/Images.lean ====
section
/-! DEFINITION. The image format (R315 to R326, R361 to R368): records, the checks of a header, and the checks of every later record
as one pure step over a load, which a slot's verification shares. -/

namespace Sys2Proof.Machine

/-! ### Records (R315) -/

/-- Bits lo to lo + width − 1 of a body. -/
def fieldAt (l : List Byte) (lo width : Nat) : Nat := leAt l 0 l.length / 2 ^ lo % 2 ^ width

def recType (r : List Byte) : Nat := leAt r 7 1
def recLength (r : List Byte) : Nat := leAt r 4 2
def recAddress (r : List Byte) : Nat := leAt r 0 4
def recBody (r : List Byte) : List Byte := r.drop 8

/-- Body length of each TYPE (R315, R361); none for a reserved TYPE. -/
def typeLength (t : Nat) : Option Nat :=
  if t = 1 then some 248 else if t = 2 then some 264 else if t = 3 then some 64 else if t = 4 then some 88
  else if t = 5 then some 272 else if t = 0xF then some 8 else none

/-- A record whose TYPE, length and reserved head bits are as R315 has them. -/
def recFormed (r : List Byte) : Bool :=
  typeLength (recType r) == some (recLength r) && r.length == 8 + recLength r && leAt r 6 1 == 0 &&
    (recType r == 2 || recAddress r == 0)

/-- The next record of a byte stream, once all of it is there; a head that no record may have is taken by itself. -/
def nextRecord (l : List Byte) : Option (List Byte) :=
  if l.length < 8 then none
  else if typeLength (recType l) ≠ some (recLength l) then some (l.take 8)
  else if l.length < 8 + recLength l then none else some (l.take (8 + recLength l))

/-! ### The header (R317, R318, R363, R364) -/

/-- The fields of a header. -/
def parseHeader (r : List Byte) : Header :=
  let b := recBody r
  { kind := fieldAt b 48 8, targetId := fieldAt b 56 8, imageId := fieldAt b 128 64, imageVersion := fieldAt b 192 32
    baseImageId := fieldAt b 256 64, patchMask := fieldAt b 320 54, panelFrames := fieldAt b 384 32
    hardFrames := fieldAt b 416 32, streamLength := fieldAt b 448 32, startupOrder := fieldAt b 480 8
    useOrder := fieldAt b 488 1 == 1, holdCommit := fieldAt b 489 1 == 1, keySlot := fieldAt b 528 8
    signer := fieldAt b 536 8, securityVersion := fieldAt b 544 32, bindUid := fieldAt b 1088 64 }

/-- WRAPPED_CEK of a header. -/
def wrappedCek (r : List Byte) : List Byte := ((recBody r).drop 144).take 40

/-- Fields that must be 0 in an image of the header's KIND (R317). -/
def kindFields (h : Header) : Bool :=
  if h.kind = 1 then !h.holdCommit && h.patchMask = 0 && h.baseImageId = 0 else !h.useOrder

/-- Check 1 of R318. -/
def headerShape (r : List Byte) : Bool :=
  let b := recBody r
  let h := parseHeader r
  recFormed r && recType r == 1 && fieldAt b 0 32 == 0x4B594846 && fieldAt b 32 16 == 1 && fieldAt b 98 14 == 0 &&
    fieldAt b 224 32 == 0 && fieldAt b 374 10 == 0 && fieldAt b 490 22 == 0 && fieldAt b 1472 480 == 0 &&
    (h.kind == 1 || h.kind == 2) && kindFields h

/-- The device is a YH9600-S1 or -S2. -/
def Fuses.variantS (f : Fuses) : Bool := 2 ≤ f.variant

/-- Checks 1 to 4 of R318: 0, or the reason code. -/
def headerFault (f : Fuses) (r : List Byte) : Nat :=
  let b := recBody r
  let h := parseHeader r
  if !headerShape r then 0x0101
  else if h.useOrder && !orderOk h.startupOrder then 0x0140
  else if crc32c (r.take 252) ≠ leAt r 252 4 then 0x0107
  else if fieldAt b 64 32 ≠ 0x00096000 then 0x0102
  else if fieldAt b (if f.variantS then 97 else 96) 1 = 0 || f.stepping < fieldAt b 112 8 || fieldAt b 120 8 < f.stepping then 0x0103
  else 0

/-- The key in a KEY_SLOT, if it is usable (R356). -/
def keyIn (f : Fuses) (d : Dev) (slot : Nat) : Option (List Byte) :=
  if slot < 4 then
    if f.keysProgrammed.getLsbD slot && !f.keysRevoked.getLsbD slot then
      some (tabGet (fun _ => []) f.keyValues slot)
    else none
  else if f.variantS then (d.nv.batteryKeys.find? (fun k => k.1 + 0x10 == slot)).map (fun k => k.2)
  else none

/-- A signer is permitted in a life-cycle state (R378). -/
def signerPermitted (lc signer : Nat) : Bool :=
  if signer = 0xFF then lc = 1 || lc = 2 else if signer = 0xFE then lc = 5 else 1 ≤ lc && lc ≤ 4

/-- A KEY_SLOT is permitted in a life-cycle state (R378). -/
def keySlotPermitted (lc slot : Nat) : Bool := slot ≠ 0xFF || (lc ≠ 4 && lc ≠ 6)

/-- KEY_SLOT codes (R356). -/
def keySlotDefined (k : Nat) : Bool := k < 4 || (0x10 ≤ k && k < 0x14) || k = 0xFF

/-- SIGNER codes (R363). -/
def signerDefined (k : Nat) : Bool := k < 4 || k = 0xFE || k = 0xFF

/-- The content key of a header (R364, R365). -/
def contentKey (f : Fuses) (d : Dev) (r : List Byte) : Option (List Byte) :=
  match keyIn f d (parseHeader r).keySlot with
  | some k => Config.keyUnwrap k (wrappedCek r)
  | none => none

/-- Check 7 of R318, the checks of R364 in order. -/
def securityFault (f : Fuses) (d : Dev) (r : List Byte) : Nat :=
  let b := recBody r
  let h := parseHeader r
  let encrypted := h.keySlot ≠ 0xFF
  if fieldAt b 512 16 ≠ 0 || fieldAt b 576 512 ≠ 0 || !signerDefined h.signer || !keySlotDefined h.keySlot then 0x0201
  else if bit (d.rd 0x2200 1) 7 then 0x0223
  else if !signerPermitted d.lc h.signer || !keySlotPermitted d.lc h.keySlot then 0x0204
  else if h.signer < 4 && (!f.ownersProgrammed.getLsbD h.signer || f.ownersRevoked.getLsbD h.signer) then 0x0203
  else if encrypted && (keyIn f d h.keySlot).isNone then 0x0202
  else if h.securityVersion < f.versionMin then 0x0205
  else if h.bindUid ≠ 0 && h.bindUid ≠ f.uid then 0x0206
  else if encrypted && (contentKey f d r).isNone then 0x0207
  else 0

/-- A load begins at an accepted header: C(0) and the content key (R365, R366). -/
def startLoad (f : Fuses) (d : Dev) (src : LoadSource) (r : List Byte) : LoadSt :=
  { source := src, header := parseHeader r, taken := r.length, chain := Config.sha512 r, cek := (contentKey f d r).getD [] }

/-! ### CHECK (R320) -/

/-- The next code position: powers of two hold check bits. -/
def nextPos (p : Nat) : Nat := if (p + 1) &&& p = 0 then p + 2 else p + 1

/-- CHECK of a frame's data. -/
def checkOf (data : BitVec 2048) : BitVec 12 :=
  BitVec.ofNat 12 ((List.range 2048).foldl
    (fun (s : Nat × Nat) i => (nextPos s.1, if data.getLsbD i then s.2 ^^^ s.1 else s.2)) (3, 0)).2

/-- The syndrome of a stored frame. -/
def Frame.syndrome (f : Frame) : Nat := (f.check ^^^ checkOf f.data).toNat

/-- The frame with the error that its syndrome names corrected; none when it is uncorrectable. -/
def Frame.corrected (f : Frame) : Option Frame :=
  let s := f.syndrome
  if s = 0 then some f
  else if 2060 < s then none
  else if s &&& (s - 1) = 0 then some { f with check := f.check ^^^ BitVec.ofNat 12 s }
  else some { f with data := f.data ^^^ BitVec.ofNat 2048 (2 ^ (s - s.log2 - 2)) }

/-- What a check of the frame at logical address a makes of it (R341, R343 to R345): the frame, its error corrected where there is one
that its syndrome names, when its CRC passes; none when it is uncorrectable or its CRC fails. -/
def Frame.settled (f : Frame) (a : Nat) : Option Frame :=
  f.corrected.filter (fun g => g.crc == frameCrc a g.data g.check)

/-! ### Frame addresses (R321) -/

def addrSpace (a : Nat) : Nat := a / 2 ^ 30
def addrColumn (a : Nat) : Nat := a / 2 ^ 16 % 256
def addrRow (a : Nat) : Nat := a / 2 ^ 8 % 256
def addrBlock (a : Nat) : Nat := a / 32 % 2048
def addrKind (a : Nat) : Nat := a / 2 ^ 20 % 16
def addrInstance (a : Nat) : Nat := a / 2 ^ 12 % 256

/-- An address within the ranges of R321. -/
def addrValid (a : Nat) : Bool :=
  if addrSpace a = 0 then a < 2 ^ 24 && addrColumn a < 102 && addrRow a < 72 && a % 256 < 20
  else if addrSpace a = 1 then a % 2 ^ 30 < 2 ^ 16 && addrBlock a < 1536
  else if addrSpace a = 2 then
    let g := addrInstance a
    let m := a % 2 ^ 12
    a % 2 ^ 30 < 2 ^ 24 &&
      ((addrKind a == 0 && g == 0 && m < 1024) || (addrKind a == 1 && g < 12 && m < 512) ||
        (addrKind a == 2 && g < 12 && m < 34))
  else false

/-- A hard frame. -/
def addrHard (a : Nat) : Bool := addrSpace a ≠ 0

/-- A SETUP, PROGRAM or TIMING frame. -/
def addrSetup (a : Nat) : Bool := addrSpace a = 2 && addrKind a = 0
def addrProgram (a : Nat) : Bool := addrSpace a = 2 && addrKind a = 1
def addrTiming (a : Nat) : Bool := addrSpace a = 2 && addrKind a = 2

/-! ### Setup records (R324) -/

/-- One setup record as it stands in the frame. -/
structure SetupRec where
  index : Nat
  sub : Nat
  size : Nat
  value : Nat
  reserved : Nat
  deriving DecidableEq, Repr

/-- The 16 records of a SETUP frame. -/
def setupRecs (data : List Byte) : List SetupRec :=
  (List.range 16).map (fun k =>
    let at' (o n : Nat) : Nat := leAt data (16 * k + o) n
    { index := at' 3 2, sub := at' 2 1, size := at' 5 1, value := at' 8 8, reserved := at' 0 2 + at' 6 2 })

/-- The value that an image gives an object so far, or its default. -/
def setupLook (l : List (Nat × Nat × Word)) (idx sub : Nat) : Word :=
  match l.reverse.find? (fun e => e.1 == idx && e.2.1 == sub) with
  | some e => e.2.2
  | none => regDefault (objKey idx sub)

/-- A value that an object of its own chapter would refuse beyond its reserved bits, codes and range; taps says which watch points the
image binds. -/
def setupRefused (h : Header) (taps : Nat → Bool) (l : List (Nat × Nat × Word)) (idx sub : Nat) (v : Word) : Bool :=
  if idx = 0x2218 then v.toNat = 1 && h.signer = 0xFF
  else if 0x2801 ≤ idx && idx ≤ 0x2804 && sub = 2 then
    let div := bits v 9 0
    div < 3 || 1000 < div || 11 < bits v 27 24 ||
      (bit v 31 && (setupLook l (pinIdx (idx - 0x2801) 15) 2).toNat ≠ 6)
  else if 0x2801 ≤ idx && idx ≤ 0x2804 then bit v 31 && bits v 30 16 = 0
  else if 0x2810 ≤ idx && idx ≤ 0x284F && sub = 2 then
    let n := (idx - 0x2810) % 16
    let ext := bit (setupLook l (bankIdx ((idx - 0x2810) / 16)) 2) 31
    7 < v.toNat || (v.toNat = 6 && n ≠ 15) || (n = 15 && v.toNat ≠ 6 && ext)
  else if idx = 0x3501 then bits v 29 20 < bits v 19 10
  else if idx = 0x3600 then (bit v 59 && bits v 31 24 = 0) || (bit v 60 && !taps (bits v 8 0))
  else if 0x3910 ≤ idx && idx ≤ 0x3945 then
    (List.range 8).any (fun r => let b := bits v (4 * r + 3) (4 * r); r < b || bits v (4 * b + 3) (4 * b) ≠ b)
  else if 0x3980 ≤ idx && idx ≤ 0x39BF && sub = 3 then
    v ≠ BitVec.allOnes 64 &&
      (bits v 31 1 ≠ 0 || 102 ≤ bits v 63 56 || 72 ≤ bits v 55 48 || 102 ≤ bits v 47 40 || 72 ≤ bits v 39 32)
  else if 0x3980 ≤ idx && idx ≤ 0x39BF then
    let b := setupLook l idx 3
    1600 < v.toNat && b ≠ BitVec.allOnes 64 && bit b 0
  else if 0x3A10 ≤ idx && idx ≤ 0x3A13 then 11 < bits v 27 24
  else if 0x4000 ≤ idx && idx ≤ 0x43FF && sub = 3 then
    bits v 29 28 > 1 || bits v 25 24 ≠ 0 || !sourceExists v ||
      (bits v 29 28 = 1 && !levelSource v && bits v 23 16 ≠ 0) || (bit v 30 && idx = 0x4000)
  else if 0x4400 ≤ idx && idx ≤ 0x46FF && sub = 3 then
    bits v 31 30 = 3 || bits v 29 28 = 3 || 8 < bits v 27 24 || !combines (idx - 0x4400) v
  else if 0x4400 ≤ idx && idx ≤ 0x46FF then
    let cfg := setupLook l idx 3
    !(bits cfg 27 24 = 8 && bits cfg 9 0 = idx - 0x4400) || v.toNat = 0 || capacity cfg < v.toNat
  else if 0x4800 ≤ idx && idx ≤ 0x4DFF then
    bits v 31 30 = 3 || bits v 29 28 = 3 || bits v 25 24 = 3 || bits v 23 22 = 3
  else false

/-- A record is admitted: an object marked From image, its size, and a value it takes. -/
def setupAdmitted (h : Header) (taps : Nat → Bool) (l : List (Nat × Nat × Word)) (r : SetupRec) : Bool :=
  match findDesc r.index r.sub with
  | some o =>
    let w : Wr := { path := .can, len := r.size, value := word r.value }
    o.image && !o.isBytes && o.width == r.size && r.value < 2 ^ (8 * r.size) && o.codesOk w && o.rangeOk w &&
      !setupRefused h taps l r.index r.sub (word r.value)
  | none => false

/-- The records of a frame taken in order; none when one is not admitted or an empty record is not the last. -/
def takeSetup (h : Header) (taps : Nat → Bool) : List SetupRec → List (Nat × Nat × Word) → Option (List (Nat × Nat × Word))
  | [], l => some l
  | r :: t, l =>
    if r.reserved ≠ 0 then none
    else if r.index = 0 then (if t.all (fun x => x.index == 0 && x.reserved == 0) then some l else none)
    else if setupAdmitted h taps l r then takeSetup h taps t (l ++ [(r.index, r.sub, word r.value)]) else none

/-- The watch point that a subindex of a WATCH_SET object belongs to. -/
def setupWatch (idx sub : Nat) : Nat := 4 * (idx - 0x3B80) + (sub / 16 - 1)

/-- A setup record of a partial image names an object of its patches; taps says which watch points the image binds there
(R338). -/
def setupInRegion (mask : Nat) (taps : Nat → Bool) (r : SetupRec) : Bool :=
  r.index = 0 ||
  (if 0x4400 ≤ r.index && r.index ≤ 0x46FF then mask.testBit (octetPatch ((r.index - 0x4400) / 8))
   else if 0x4800 ≤ r.index && r.index ≤ 0x4DFF then mask.testBit (blockPatch (r.index - 0x4800))
   else if 0x3B80 ≤ r.index && r.index ≤ 0x3BFF then taps (setupWatch r.index r.sub)
   else false)

/-! ### What every frame must pass (R325) -/

/-- A record that ends its load: reason code, address of the offending frame, and the code of R240 with its group and DETAIL. -/
structure RecFault where
  code : Nat
  addr : Option Nat := none
  table : Option (Nat × Nat × Nat) := none
  deriving DecidableEq, Repr

/-- A frame lies in the region of a partial image (R338). -/
def inRegion (h : Header) (taps : Nat → Bool) (a : Nat) (data : List Byte) : Bool :=
  if addrSpace a = 0 then h.patchMask.testBit (sitePatch (addrColumn a) (addrRow a))
  else if addrSpace a = 1 then h.patchMask.testBit (blockPatch (addrBlock a))
  else addrSetup a && (setupRecs data).all (setupInRegion h.patchMask taps)

/-- No select group of a seam switch frame has two bits set (R88). -/
def selectsOk (data : BitVec 2048) : Bool :=
  (List.range 170).all (fun k => let x := (data.extractLsb' (12 * k) 12).toNat; x &&& (x - 1) = 0)

/-- Reserved bits of a panel frame (R46, R47, R322), and no reserved code in a control word. -/
def panelReserved (minor : Nat) (data : BitVec 2048) : Bool :=
  if minor = 4 then
    (List.range 128).all (fun s => let w := (data.extractLsb' (16 * s) 16).toNat
      w % 4 = 0 && w / 2 ^ 14 ≠ 3 && w / 2 ^ 12 % 4 ≠ 3 && w / 2 ^ 10 % 4 ≠ 3)
  else if minor = 5 then
    (List.range 16).all (fun b => let w := (data.extractLsb' (32 * b) 32).toNat
      w % 2 ^ 16 = 0 && w / 2 ^ 25 % 8 ≠ 7 && w / 2 ^ 22 % 4 ≠ 3 && w / 2 ^ 16 % 8 < 5)
  else if 8 ≤ minor && minor ≤ 17 then data.extractLsb' 2040 8 = 0
  else true

/-- The most hard frames (R326, R338). -/
def hardLimit (kind : Nat) : Nat := if kind = 1 then 16960 else 4096

/-- The frames of a timing table that a load holds, once all 34 are there. -/
def timingTable (l : LoadSt) (g : Nat) : Option (List Byte) :=
  if (List.range 34).all (fun m => l.timing.any (fun e => e.1 == 34 * g + m)) then
    some ((List.range 34).flatMap (fun m => tabGet (fun _ => []) l.timing (34 * g + m)))
  else none

/-- A load with the content of one more hard frame (R323, R324); order 7 of R325. -/
def takeHard (taps : Nat → Bool) (l : LoadSt) (a : Nat) (data : List Byte) : Except RecFault LoadSt :=
  if addrSetup a then
    match takeSetup l.header taps (setupRecs data) l.setup with
    | some s => .ok { l with setup := s }
    | none => .error { code := 0x0116, addr := some a }
  else if addrProgram a then
    if (List.range 32).all (fun k => wordAllowed (BitVec.ofNat 64 (leAt data (8 * k) 8))) then .ok l
    else .error { code := 0x0116, addr := some a }
  else if addrTiming a then
    let g := addrInstance a
    let l := { l with timing := tabIns l.timing (34 * g + a % 2 ^ 12) data }
    match timingTable l g with
    | none => .ok l
    | some t =>
      match tableFault g t with
      | some p => .error { code := 0x0116, addr := some a, table := some (p.1, g, p.2) }
      | none => .ok l
  else .ok l

/-- A FRAME record through the checks of R325: the load with it, and the frame. An address that has already appeared gives 0x0112, which
R347 names for it, and not the 0x0117 that order 3 of R325 names beside it (DEDUCED, entry 63). limit says that check 8 applies. -/
def takeFrame (limit : Bool) (taps : Nat → Bool) (l : LoadSt) (r : List Byte) : Except RecFault (LoadSt × (Nat × Frame)) :=
  let a := recAddress r
  let h := l.header
  let body := (recBody r).take 260
  let plain := if h.keySlot = 0xFF then body else (Config.gcmDecrypt l.epochKey l.iv (l.cipher ++ body)).drop l.cipher.length
  let data := plain.take 256
  let d : BitVec 2048 := BitVec.ofNat 2048 (leAt plain 0 256)
  let check := leAt plain 256 4
  let bad (code : Nat) : Except RecFault (LoadSt × (Nat × Frame)) := .error { code := code, addr := some a }
  let minor := a % 256
  if crc32c (r.take 268) ≠ leAt r 268 4 then bad 0x0110
  else if checkOf d ≠ BitVec.ofNat 12 check then bad 0x0111
  else if !addrValid a || l.seen.contains a then bad 0x0112
  else if h.kind = 2 && !inRegion h taps a data then bad 0x0113
  else if addrSpace a = 0 && 8 ≤ minor && minor ≤ 17 && !selectsOk d then bad 0x0114
  else if addrSpace a = 0 && addrColumn a % 17 = 16 && d ≠ 0 then bad 0x0115
  else if check / 2 ^ 12 ≠ 0 || (addrSpace a = 0 && !panelReserved minor d) then bad 0x0116
  else
    match takeHard taps l a data with
    | .error e => .error e
    | .ok l =>
      if limit && addrHard a && hardLimit h.kind ≤ (l.seen.filter addrHard).length then bad 0x0118
      else
        let l := { l with
          frames := l.frames + 1, seen := a :: l.seen, inGroup := l.inGroup + 1, sent := l.sent ++ r
          cipher := if h.keySlot = 0xFF then l.cipher else l.cipher ++ body }
        .ok (l, a, { data := d, check := BitVec.ofNat 12 check, crc := BitVec.ofNat 32 (crc32c (r.take 8 ++ plain)) })

/-! ### Groups, signature and END (R361 to R367, R325) -/

/-- A KEY_ROLL record (R365). -/
def takeKeyRoll (l : LoadSt) (r : List Byte) : Except RecFault LoadSt :=
  let b := recBody r
  if l.header.keySlot = 0xFF || l.rolled || l.inGroup ≠ 0 || l.short || l.signed then .error { code := 0x0208 }
  else if crc32c (r.take 68) ≠ leAt b 60 4 || leAt b 4 4 ≠ 0 then .error { code := 0x0108 }
  else if leAt b 0 4 ≠ l.group then .error { code := 0x0208 }
  else match Config.keyUnwrap l.cek ((b.drop 20).take 40) with
    | none => .error { code := 0x0207 }
    | some k => .ok { l with rolled := true, sent := l.sent ++ r, cipher := [], iv := (b.drop 8).take 12, epochKey := k }

/-- A GROUP_HASH record (R366). -/
def takeGroupHash (l : LoadSt) (r : List Byte) : Except RecFault LoadSt :=
  let b := recBody r
  let encrypted := l.header.keySlot ≠ 0xFF
  let chain := Config.sha512 (l.chain ++ l.sent)
  if l.inGroup = 0 || l.signed || (encrypted && !l.rolled) then .error { code := 0x0208 }
  else if crc32c (r.take 92) ≠ leAt b 84 4 then .error { code := 0x0108 }
  else if encrypted && Config.gcmTag l.epochKey l.iv l.cipher ≠ (b.drop 4).take 16 then .error { code := 0x0209 }
  else if chain ≠ (b.drop 20).take 64 then .error { code := 0x020A }
  else if leAt b 2 2 ≠ l.inGroup || leAt b 0 2 ≠ l.group then .error { code := 0x0208 }
  else .ok { l with
    chain := chain, sent := [], cipher := [], rolled := false, group := l.group + 1, inGroup := 0, short := l.inGroup < 4096 }

/-- The digest held for a signer (R358, R367). -/
def signerDigest (f : Fuses) (signer : Nat) : List Byte :=
  if signer = 0xFE then Config.vendorDigest else tabGet (fun _ => []) f.ownerDigests signer

/-- A SIGNATURE body is valid for a signer over a message (R367). -/
def signatureOk (digest message b : List Byte) : Bool :=
  leAt b 1 3 = 0 && leAt b 268 4 = 0 && Config.sha512 ((b.drop 4).take 132) = digest &&
    Config.ecdsaVerify ((b.drop 4).take 132) (Config.sha512 message) ((b.drop 136).take 132)

/-- A SIGNATURE record (R367). -/
def takeSignature (f : Fuses) (l : LoadSt) (r : List Byte) : Except RecFault LoadSt :=
  let b := recBody r
  let signer := l.header.signer
  if l.inGroup ≠ 0 || l.rolled || l.signed then .error { code := 0x0208 }
  else if signer = 0xFF then
    if b.all (fun x => x == 0) then .ok { l with signed := true } else .error { code := 0x020B }
  else if leAt b 0 1 = signer && signatureOk (signerDigest f signer) l.chain b then .ok { l with signed := true }
  else .error { code := 0x020B }

/-- Bits set in a patch mask. -/
def patchCount (mask : Nat) : Nat := ((List.range 54).filter (fun q => mask.testBit q)).length

/-- Every frame that the image must hold has come (R326, R338). -/
def framesComplete (l : LoadSt) : Bool :=
  let n (p : Nat → Bool) : Nat := (l.seen.filter p).length
  let panels := if l.header.kind = 1 then 146880 else 2720 * patchCount l.header.patchMask
  let noneOr (p : Nat → Bool) (k : Nat) : Bool := n p = 0 || n p = k
  n (fun a => addrSpace a = 0) = panels &&
    (List.range 12).all (fun g => noneOr (fun a => addrProgram a && addrInstance a = g) 512 &&
      noneOr (fun a => addrTiming a && addrInstance a = g) 34) &&
    (List.range 1536).all (fun b => noneOr (fun a => addrSpace a = 1 && addrBlock a = b) 32)

/-- An END record (R325). -/
def takeEnd (l : LoadSt) (r : List Byte) : Except RecFault LoadSt :=
  let b := recBody r
  let count := leAt b 0 4
  if !l.signed then .error { code := 0x0208 }
  else if leAt b 4 4 ≠ 0 then .error { code := 0x0108 }
  else if count ≠ l.header.panelFrames + l.header.hardFrames || count ≠ l.frames || !framesComplete l then
    .error { code := 0x0117 }
  else .ok { l with ended := true }

/-- One record after the header: the load with it and, of a FRAME record, the frame; or why the load ends. -/
def takeRecord (f : Fuses) (limit : Bool) (taps : Nat → Bool) (l : LoadSt) (r : List Byte) :
    Except RecFault (LoadSt × Option (Nat × Frame)) :=
  let l := { l with taken := l.taken + r.length }
  let plain (x : Except RecFault LoadSt) : Except RecFault (LoadSt × Option (Nat × Frame)) := x.map (fun m => (m, none))
  if !recFormed r then .error { code := 0x0108 }
  else if recType r = 2 then
    if l.signed || l.short || 4096 ≤ l.inGroup || (l.header.keySlot ≠ 0xFF && !l.rolled) then .error { code := 0x0208 }
    else (takeFrame limit taps l r).map (fun p => (p.1, some p.2))
  else if recType r = 3 then plain (takeKeyRoll l r)
  else if recType r = 4 then plain (takeGroupHash l r)
  else if recType r = 5 then plain (takeSignature f l r)
  else if recType r = 0xF then plain (takeEnd l r)
  else .error { code := 0x0208 }

/-- Every record of a stream after its header, as the read-back of a slot takes them: 0, or the reason code; check 8 of R325 is left to the
load (R352). The number bounds the records. -/
def verifyRecords (f : Fuses) (taps : Nat → Bool) : Nat → LoadSt → List Byte → Nat
  | 0, _, _ => 0x0208
  | k + 1, l, s =>
    match nextRecord s with
    | none => 0x0108
    | some r =>
      match takeRecord f false taps l r with
      | .error e => e.code
      | .ok p => if p.1.ended then 0 else verifyRecords f taps k p.1 (s.drop r.length)

/-- The read-back verification of a stored stream (R352): checks 1 to 4 and 7 of R318, then every record. taps says which watch points
the image binds, a partial one in its patches. -/
def verifyStream (f : Fuses) (d : Dev) (taps : Nat → Bool) (s : List Byte) : Nat :=
  let r := s.take 256
  let c := headerFault f r
  if c ≠ 0 then c
  else
    let e := securityFault f d r
    if e ≠ 0 then e else verifyRecords f taps s.length (startLoad f d .recovery r) (s.drop 256)

end Sys2Proof.Machine
end

