-- ==== Sys2Proof/Machine/Fitting.lean ====
section
/-! DEFINITION. Loading images (R318 to R345): headers and records from every source, fitting, held loads, partial loads and their
commits, and the configuration scrub. -/

namespace Sys2Proof.Machine

/-! ### Where a record comes from (R327 to R331) -/

/-- The source of a record. -/
def Dev.recordSource (d : Dev) : RecordIn → Option LoadSource
  | .port _ => some .port
  | .pcie => some .pcie
  | .slot _ => d.config.slotLoad.map (fun p => .slot p.1)
  | .recovery _ => some .recovery

/-- The configuration port is enabled (R328). -/
def Dev.portOn (d : Dev) : Bool := d.thimble && d.core.cfgWidth != 3

/-- CFG_D pins that the port samples at one CFG_CLK, by CFG_WIDTH: ×1, ×4 or ×16 (R328). -/
def portPins (width : Nat) : Nat := if width = 0 then 1 else if width = 1 then 4 else 16

/-- Bits packed into bytes, least significant first (R328). -/
def packBytes : List Bool → List Byte
  | a :: b :: c :: d :: e :: f :: g :: h :: t =>
    BitVec.ofNat 8 (a.toNat + 2 * b.toNat + 4 * c.toNat + 8 * d.toNat + 16 * e.toNat + 32 * f.toNat + 64 * g.toNat + 128 * h.toNat) ::
      packBytes t
  | _ => []

/-- The bytes that samples of CFG_D_15 to CFG_D_0 assemble (R328). -/
def Dev.portBytes (d : Dev) (samples : List (BitVec 16)) : List Byte :=
  packBytes (samples.flatMap (fun x => (List.range (portPins d.core.cfgWidth)).map (fun i => x.getLsbD i)))

/-- The bytes of the next record, once they are there; where an image begins they are a header's 256. -/
def Dev.recordBytes (d : Dev) (r : RecordIn) (begins : Bool) : Option (List Byte) :=
  let next (l : List Byte) : Option (List Byte) :=
    if !begins then nextRecord l else if l.length < 256 then none else some (l.take 256)
  match r with
  | .port l => if d.portOn then some (d.portBytes l) else none
  | .pcie => if d.config.skip = 0 then next d.config.streamBytes else none
  | .slot fails =>
    match d.config.slotLoad with
    | some p => if fails then none else next ((d.slot p.1).data.drop p.2)
    | none => none
  | .recovery l => some l

/-- A stream moves past the bytes of a record. -/
def Dev.consume (d : Dev) (src : LoadSource) (n : Nat) : Dev :=
  let c := d.config
  match src with
  | .pcie => { d with config := { c with streamBytes := c.streamBytes.drop n } }
  | .slot _ => { d with config := { c with slotLoad := c.slotLoad.map (fun p => (p.1, p.2 + n)) } }
  | _ => d

/-- The rest of an image is skipped (R318, R336): n more bytes of the stream. -/
def Dev.skipRest (d : Dev) (src : LoadSource) (n : Nat) : Dev :=
  let c := d.config
  match src with
  | .pcie => { d with config := { c with streamBytes := c.streamBytes.drop n, skip := n - c.streamBytes.length } }
  | .slot _ => { d with config := { c with slotLoad := none } }
  | _ => d

/-- A load between its header and its END. -/
def Dev.loading (d : Dev) : Option LoadSt := d.config.load.filter (fun l => !l.ended && l.held.isNone)

/-! ### Loads that end without success (R335, R336, R342) -/

/-- A full load is held (R336). -/
def Dev.holdLoad (d : Dev) (l : LoadSt) (code : Nat) (addr : Option Nat) : Dev :=
  let d := { d with config := { d.config with load := some { l with held := some code } }, core := { d.core with steps := none } }
  let w := setBit (setBits (setBits (d.rd 0x2100 1) 11 8 l.source.code) 7 0 4) 13 true
  let d := ((d.wr 0x2100 1 w).wrN 0x2100 3 code).wrN 0x2100 4 (addr.getD 0xFFFFFFFF)
  d.complete 0x2100 1 14 (some 15)

/-- A partial load is discarded; only a truncated one is logged, with 0x0131 (R342, R347). -/
def Dev.dropPartial (d : Dev) (code : Nat) (addr : Option Nat) : Dev :=
  let d := { d with config := { d.config with load := none, shadow := [], staging := [] } }
  let d := d.setFlag 0x2110 1 15 false
  let d := (d.wrN 0x2110 7 code).wrN 0x2110 8 (addr.getD 0xFFFFFFFF)
  if code = 0x0131 then d.log code 0 0 else d

/-- The load at hand fails a check: held or discarded, and the rest of its stream skipped. -/
def Dev.failLoad (d : Dev) (l : LoadSt) (e : RecFault) : Dev :=
  let d := match e.table with
    | some t => d.log t.1 t.2.1 t.2.2
    | none => d
  let d := if l.header.kind = 1 then d.holdLoad l e.code e.addr else d.dropPartial e.code e.addr
  d.skipRest l.source (l.header.streamLength - l.taken)

/-- The load at hand is truncated (R335). -/
def Dev.truncate (d : Dev) (l : LoadSt) : Dev :=
  let d := if l.header.kind = 1 then (d.holdLoad l 0x0130 none).log 0x0130 0 0 else d.dropPartial 0x0131 none
  d.skipRest l.source 0

/-! ### Headers accepted (R332, R338, R339) -/

/-- A full header is accepted: steps 1 and 2 of R332. In FITTING it is a restart, a state change of its own (R30, R557). The frames
stay until the load replaces them one by one (R88); nothing runs them, since global set/reset is held. A recovery source stays too, unless
the load comes from a slot (R355). LAST_PROOF is 0 from now on (R518). -/
def Dev.acceptFull (d : Dev) (l : LoadSt) : Dev :=
  let d := d.discardPartial.endWork.dropOutputs.discardStaged
  let d := (d.clearBlocks (fun _ => true)).clearSlots.freshPins
  let order := if l.header.useOrder then l.header.startupOrder else d.rdN 0x2010 1
  let core := { d.core with gsrHeld := true, gatesOpen := false, writes := false, foldPending := false, steps := none }
  let c := d.config
  let slot := l.source.slotOf.isSome
  let dn := d.darn
  let d := { d.releaseWatch.tensionsOnly with
    config := {
      load := some l, active := c.active, orderInEffect := order, streamBytes := c.streamBytes, skip := c.skip
      slotLoad := c.slotLoad, loadedAt := c.loadedAt, forwarding := c.forwarding
      recoveryFor := if slot then 0 else c.recoveryFor, partialDigest := List.replicate 64 0 }
    core := core, seams := [], programs := [], progErrs := []
    nv := { d.nv with recovery := if slot then [] else d.nv.recovery }
    darn := { dn with repairs := [], queue := [], waiting := [], french := [] } }
  let d := forEach 12 (fun g e => e.setShuttle g { e.shuttle g with badWords := [] }) d
  let d := forEach 12 (fun g e => (e.setBytes (0x3300 + g) 1 []).recompute g) d
  let w := setBits (setBits (setBit (d.rd 0x2100 1) 15 true) 13 12 0) 7 0 1
  let d := ((d.wr 0x2100 1 w).wrN 0x2100 5 0).wrN 0x2100 0x0B 0
  let d := forEach 4 (fun f e => e.wrN (0x3A10 + f) 4 0) ((((d.wrN 0x2100 6 0).wrN 0x2100 7 0).wrN 0x2120 6 0).freshFrench)
  (d.changeState .fitting 0x0B75).updatePermits.latchCapture

/-- A partial header is accepted: an earlier staged image is discarded, and staging begins (R339, R342). -/
def Dev.acceptPartial (d : Dev) (l : LoadSt) : Dev :=
  let d := d.discardPartial
  let d := { d with config := { d.config with load := some l, shadow := [], staging := [] } }
  d.setFlag 0x2110 1 15 true

/-- Check 5 of R318 (R327, R337, R338). -/
def Dev.headerState (d : Dev) (kind : Nat) : Nat :=
  let held := d.config.load.any (fun l => l.held.isSome)
  let committing := d.config.staged.any (fun i => i.committing)
  let allowed := if kind = 1 then d.core.state == .unconfigured || d.core.state == .run || held
    else d.core.state == .run || d.core.state == .folded
  if d.core.state = .safe then 0x0B22
  else if d.tr.tap.driving then 0x0B34
  else if d.loading.isSome || committing then 0x0106
  else if !allowed then 0x0105 else 0

/-- Checks 5 and 6 of R318. -/
def Dev.headerContext (d : Dev) (h : Header) : Nat :=
  let c := d.headerState h.kind
  if c ≠ 0 then c
  else if h.kind = 2 && (h.baseImageId ≠ d.rdN 0x2100 6 || h.patchMask = 0) then 0x0104 else 0

/-- All of R318: 0, or the reason code that refuses a header. -/
def headerRefusal (f : Fuses) (d : Dev) (r : List Byte) : Nat :=
  let a := headerFault f r
  if a ≠ 0 then a
  else
    let b := d.headerContext (parseHeader r)
    if b ≠ 0 then b else securityFault f d r

/-- The port takes an image (R328, R329). -/
def Dev.portTakes (d : Dev) (target : Nat) : Bool :=
  let held := d.config.load.any (fun l => l.held.isSome)
  target = d.core.cascadeId ||
    (target = 0xFF && (d.core.broadcast || d.core.state == .unconfigured || held))

/-- Bytes of an image not taken go on along the daisy chain (R328). -/
def Dev.forward (d : Dev) (l : List Byte) : Dev :=
  if d.core.broadcast || d.core.cfgWidth ≠ 0 then d else d.emit (.cfgDout l)

/-- A header at a source that has no load of its own under way. -/
def newHeader (f : Fuses) (d : Dev) (src : LoadSource) (r : List Byte) : Dev :=
  let d := d.consume src r.length
  let h := parseHeader r
  if src = .port && !d.portTakes h.targetId then
    ({ d with config := { d.config with forwarding := true } }).forward r
  else
    let d := if src = .port then { d with config := { d.config with forwarding := false } } else d
    if headerRefusal f d r ≠ 0 then d.skipRest src (h.streamLength - r.length)
    else
      let l := startLoad f d src r
      if h.kind = 1 then d.acceptFull l else d.acceptPartial l

/-- HEADER_RECORD: a header arrives at a source (R318). A slot whose read fails under its header ends the load there (R349). A
header inside its own source's image departs from the record order. -/
def execHeaderRecord (r : RecordIn) (s : State) : Host.Outcome State Fault Refusal :=
  onDev (fun d =>
    let begins : Bool := match d.loading with
      | some x => d.recordSource r != some x.source
      | none => true
    if begins && r = .slot true && d.thimble then
      match d.config.slotLoad with
      | some p => { d.log 0x0263 p.1 0 with config := { d.config with slotLoad := none } }
      | none => d
    else match d.recordSource r, d.recordBytes r begins with
    | some src, some l =>
      if !d.thimble then d
      else match d.loading with
        | some x =>
          if x.source = src then (if recType l = 1 then (d.consume src l.length).failLoad { x with taken := x.taken + l.length } { code := 0x0208 } else d)
          else newHeader s.fuses d src l
        | none => newHeader s.fuses d src l
    | _, _ => d) s

/-! ### Records after the header (R325, R332 step 3, R339) -/

/-- A frame of a full load is written (R332, R323). -/
def Dev.writeFrame (d : Dev) (a : Nat) (x : Frame) : Dev :=
  let item (k : Nat) : BitVec 64 := x.data.extractLsb' (64 * k) 64
  if addrSpace a = 0 then
    let c := d.config
    { d with config := { c with active := tabIns (tabDel c.active a) a x } }
  else if addrSpace a = 1 then
    let m := addrBlock a
    forEach 32 (fun k e => e.setBlock m ((e.block m).store (32 * (a % 32) + k) (codeword false (item k)))) d
  else if addrProgram a then
    forEach 32 (fun k e => e.setProgWord (addrInstance a) (32 * (a % 2 ^ 12) + k) (item k)) d
  else d

/-- A frame of a partial load is staged: panel frames in the shadow plane, block frames in the engine's buffer (R339). -/
def Dev.stageFrame (d : Dev) (a : Nat) (x : Frame) : Dev :=
  let c := d.config
  if addrSpace a = 0 then { d with config := { c with shadow := tabIns (tabDel c.shadow a) a x } }
  else if addrSpace a = 1 then { d with config := { c with staging := tabIns (tabDel c.staging a) a x } }
  else d

/-- An object takes the value that an image gives it (R324); RWN objects take effect at once (R27). -/
def Dev.applyImage (d : Dev) (idx sub : Nat) (v : Word) : Dev :=
  let w : Wr := { path := .can, len := 8, value := v }
  if idx = 0x2300 && sub = 9 then d.setHeadroom v
  else if 0x4000 ≤ idx && idx ≤ 0x43FF && sub = 3 then (actTallyConfig (idx - 0x4000)).apply d w
  else if 0x4000 ≤ idx && idx ≤ 0x43FF then
    (actTallyThreshold (if sub = 5 then objTallyThreshold else objTallyStep) (idx - 0x4000) sub).apply d w
  else d.applyValue idx sub (.word v) d.core.time

/-- Objects marked From image return to their defaults where p holds. -/
def Dev.imageDefaults (d : Dev) (p : Nat → Nat → Bool) : Dev :=
  let l := d.regs.filter (fun e => match findDesc (e.1 / 256) (e.1 % 256) with
    | some o => o.image && p (e.1 / 256) (e.1 % 256)
    | none => false)
  l.foldl (fun e x => e.applyImage (x.1 / 256) (x.1 % 256) (regDefault x.1)) d

/-- A setup record gives object index.sub: it does not pass through its default on the way (R324, R455). -/
def givenBy (l : List (Nat × Nat × Word)) (idx sub : Nat) : Bool := l.any (fun x => x.1 == idx && x.2.1 == sub)

/-- The setup records take effect in order; a level that the image does not give is half the capacity (R129, R324). -/
def Dev.applySetup (d : Dev) (l : List (Nat × Nat × Word)) : Dev :=
  let d := l.foldl (fun e x => e.applyImage x.1 x.2.1 x.2.2) d
  let heads := l.filter (fun x => 0x4400 ≤ x.1 && x.1 ≤ 0x46FF && x.2.1 = 3 &&
    !l.any (fun y => y.1 == x.1 && y.2.1 == 4))
  heads.foldl (fun e x => e.applyImage x.1 4 (word (capacity x.2.2 / 2))) d

/-- The bindings of watch points that the image fixes (R103). -/
def Dev.bindWatch (d : Dev) (l : List (Fin 512 × Word)) : Dev :=
  l.foldl (fun e x => (e.wr (0x3B80 + x.1.val / 4) (0x10 * (x.1.val % 4 + 1)) x.2).setWatch x.1.val
    { stalled := (e.watchSt x.1.val).stalled }) d

/-- The watch points whose bindings are released, because the logic they follow is replaced. -/
def Dev.unbindWatch (d : Dev) (p : Word → Bool) : Dev :=
  forEach 512 (fun w e => if p (e.watchBinding w) then e.wr (0x3B80 + w / 4) (0x10 * (w % 4 + 1)) (BitVec.allOnes 64) else e) d

/-- A full load has ended: timing tables, setup records, and the start-up steps (R332 steps 4 to 6). -/
def Dev.endFull (d : Dev) (l : LoadSt) (bindings : List (Fin 512 × Word)) : Dev :=
  let d := { d with config := { d.config with load := some l } }
  let d := forEach 12 (fun g e => match timingTable l g with
    | some t => e.setBytes (0x3300 + g) 1 t
    | none => e) d
  let d := (d.imageDefaults (fun idx sub => !givenBy l.setup idx sub)).applySetup l.setup
  let d := d.releaseWatch.bindWatch bindings
  let d := forEach 12 (fun g e => e.recompute g) d
  (d.wr 0x2100 1 (setBits (d.rd 0x2100 1) 7 0 3)).beginSteps false

/-- A partial load has ended: staging is complete, and tests in its patches end (R339, R498). -/
def Dev.endPartial (d : Dev) (l : LoadSt) : Dev :=
  let i : StagedImage := { header := l.header, source := l.source, digest := l.chain, setup := l.setup, valid := true }
  let d := { d with config := { d.config with load := none, staged := some i } }
  let w := setBit (setBit (setBit (d.rd 0x2110 1) 15 false) 13 true) 11 l.header.holdCommit
  (List.range 54).foldl (fun e q => if l.header.patchMask.testBit q then e.endPatchTests q else e) (d.wr 0x2110 1 w)

/-- A record of a load: the device after it. taps names the watch points that the image binds, a partial one in its patches; bindings
are those that the image fixes. -/
def Dev.record (d : Dev) (f : Fuses) (l : LoadSt) (r : List Byte) (taps : List (Fin 512)) (bindings : List (Fin 512 × Word)) : Dev :=
  let d := d.consume l.source r.length
  match takeRecord f true (fun w => taps.any (fun t => t.val == w)) l r with
  | .error e => d.failLoad { l with taken := l.taken + r.length } e
  | .ok (m, x) =>
    let d := { d with config := { d.config with load := some m } }
    let d := match x with
      | some p => if m.header.kind = 1 then (d.writeFrame p.1 p.2).wrN 0x2100 5 m.frames else d.stageFrame p.1 p.2
      | none => d
    if !m.ended then d
    else
      let d := d.skipRest m.source (m.header.streamLength - m.taken)
      if m.header.kind = 1 then d.endFull m bindings else d.endPartial m

/-- The samples of a record at the port, while the image at hand there is one that the device does not take (R328). -/
def Dev.passesBy (d : Dev) : RecordIn → Option (List Byte)
  | .port l => if d.portOn && d.config.forwarding then some (d.portBytes l) else none
  | _ => none

/-- A record of one of the TYPEs at the source of the load at hand; bytes of an image that the port does not take are forwarded, whatever
another source loads, and a slot whose read fails truncates its load (R349). -/
def recordEvent (r : RecordIn) (types : Nat → Bool) (taps : List (Fin 512)) (bindings : List (Fin 512 × Word)) (s : State) :
    Host.Outcome State Fault Refusal :=
  onDev (fun d =>
    match d.passesBy r, d.loading with
    | some l, _ => d.forward l
    | none, none => d
    | none, some x =>
      if d.recordSource r ≠ some x.source then d
      else if r = .slot true then
        (d.log 0x0263 (x.source.slotOf.getD 0) 0).truncate x
      else match d.recordBytes r false with
        | some l => if types (recType l) then d.record s.fuses x l taps bindings else d
        | none => d) s

/-- FRAME_RECORD (R325); it stands for a record of reserved TYPE too, which ends its load (R315). -/
def execFrameRecord (r : RecordIn) (taps : List (Fin 512)) (s : State) : Host.Outcome State Fault Refusal :=
  recordEvent r (fun t => t = 2 || (typeLength t).isNone) taps [] s

/-- KEY_ROLL (R365). -/
def execKeyRoll (r : RecordIn) (s : State) : Host.Outcome State Fault Refusal := recordEvent r (fun t => t = 3) [] [] s

/-- GROUP_HASH (R366). -/
def execGroupHash (r : RecordIn) (s : State) : Host.Outcome State Fault Refusal := recordEvent r (fun t => t = 4) [] [] s

/-- SIGNATURE_RECORD (R367). -/
def execSignatureRecord (r : RecordIn) (s : State) : Host.Outcome State Fault Refusal := recordEvent r (fun t => t = 5) [] [] s

/-- END_RECORD (R325): a full load applies its setup and begins the start-up steps, a partial one is staged. bindings are the watch points
that the image's event frames bind. -/
def execEndRecord (r : RecordIn) (bindings : List (Fin 512 × Word)) (s : State) : Host.Outcome State Fault Refusal :=
  recordEvent r (fun t => t = 0xF) [] bindings s

/-! ### Truncation and time-outs (R335, R336) -/

/-- FITTING_TIMEOUT: a held load reaches its time-out (R336). -/
def execFittingTimeout (s : State) : Host.Outcome State Fault Refusal :=
  onDev (fun d => if d.core.state = .fitting && d.config.load.any (fun l => l.held.isSome) then d.enterUnconfigured 0x0132 else d) s

/-- CFG_CS_N_RISE (R335). -/
def execCfgCsNRise (s : State) : Host.Outcome State Fault Refusal :=
  onDev (fun d =>
    let d := { d with config := { d.config with forwarding := false } }
    match d.loading with
    | some l => if l.source = .port then d.truncate l else d
    | none => d) s

/-- STREAM_INACTIVITY: no byte arrives for FITTING_TIMEOUT; a full load's own time-out has then passed too (R335, R336). -/
def execStreamInactivity (s : State) : Host.Outcome State Fault Refusal :=
  onDev (fun d =>
    match d.loading with
    | some l =>
      let d := d.truncate l
      if l.header.kind = 1 then d.enterUnconfigured 0x0132 else d
    | none => d) s

/-! ### PCI Express and the wardrobe (R330, R331) -/

def actStreamData : Act where
  apply := fun d w =>
    let c := d.config
    let l := c.streamBytes ++ w.bytes
    { d with config := { c with streamBytes := l.drop c.skip, skip := c.skip - l.length } }

/-- STREAM_DATA (R330). -/
def execStreamData (w : Wr) (s : State) : Host.Outcome State Fault Refusal :=
  onDev (rowWrite objStreamData actStreamData 0x2101 1 w) s

def actStreamCommand : Act where
  apply := fun d _ =>
    let d := match d.loading with
      | some l => if l.source = LoadSource.pcie then d.truncate l else d
      | none => d
    { d with config := { d.config with streamBytes := [], skip := 0 } }

/-- STREAM_ABANDON (R330, R335). -/
def execStreamAbandon (path : Transport) (s : State) : Host.Outcome State Fault Refusal :=
  onDev (rowWrite objStreamCommand actStreamCommand 0x2101 2 { path := path, len := 1, value := 1 }) s

/-- The first unit of an image slot: 688 units of 64 KiB each (R348). -/
def slotUnit (n : Nat) : Nat := 688 * n

/-- Units u to u + n − 1 are accessed once each. -/
def Dev.touchUnits (d : Dev) (u n : Nat) : Dev := (forEach n (fun k e => e.touchRaw (u + k) 1) d).peakCheck

/-- Units that a byte count spans. -/
def unitsOf (bytes : Nat) : Nat := (bytes + 65535) / 65536

/-- The Thimble begins to read a slot, from the header on; while another load is under way the header is refused (R327, R331). -/
def Dev.beginSlot (d : Dev) (n : Nat) : Dev :=
  let x := d.slot n
  let d := (d.setSlot n { x with reads := (x.reads + 1) % 2 ^ 32 }).touchUnits (slotUnit n) (unitsOf x.data.length)
  if d.loading.isSome then d else { d with config := { d.config with slotLoad := some (n, 0) } }

/-- What refuses a load from a slot (R331, R364). -/
def slotRefusal (x : Slot) : Nat := if x.state = 2 then 0 else if x.state = 3 then 0x0203 else if x.state = 4 then 0x0205 else 0x0170

def actLoadRequest : Act where
  allow := fun d w => slotRefusal (d.slot (objLoadRequest.num w))
  apply := fun d w => d.beginSlot (objLoadRequest.num w)

/-- LOAD_REQUEST (R331): the records of the slot follow as events of their own. -/
def execLoadRequest (w : Wr) (s : State) : Host.Outcome State Fault Refusal :=
  onDev (rowWrite objLoadRequest actLoadRequest 0x2100 9 w) s

/-! ### Commits (R341, R342) -/

/-- An object belongs to patch q: its bobbins and its blocks (R338). -/
def objectIn (mask idx : Nat) : Bool :=
  if 0x4400 ≤ idx && idx ≤ 0x46FF then mask.testBit (octetPatch ((idx - 0x4400) / 8))
  else if 0x4800 ≤ idx && idx ≤ 0x4DFF then mask.testBit (blockPatch (idx - 0x4800)) else false

/-- A binding names a bundle in the patches of a mask. -/
def boundIn (mask : Nat) (v : Word) : Bool := v ≠ BitVec.allOnes 64 && mask.testBit (sitePatch (bits v 63 56) (bits v 55 48))

/-- A half of French seam n lies in the patches of a mask. -/
def Dev.frenchIn (d : Dev) (mask n : Nat) : Bool := d.frenchBound n && (d.frenchPatches n).any (fun q => mask.testBit q)

/-- A watch point's object that an image gives belongs to one of a list of watch points. -/
def watchObject (l : List Nat) (idx sub : Nat) : Bool := 0x3B80 ≤ idx && idx ≤ 0x3BFF && l.contains (setupWatch idx sub)

/-- Step 3 of R341: the replaced patches take their new frames, contents and objects, and the watch points in them are bound as the new
image has it (R103). The levels and references of every seam port stay, so that a token held at an edge passes to the new logic
(R78, R92). -/
def Dev.activate (d : Dev) (i : StagedImage) (bindings : List (Fin 512 × Word)) : Dev :=
  let mask := i.header.patchMask
  let c := d.config
  let d := { d with config := { c with active := c.shadow.foldl (fun (t : List (Nat × Frame)) (e : Nat × Frame) => tabIns (tabDel t e.1) e.1 e.2) c.active } }
  let sites := d.configuredSites.filter (fun x => mask.testBit (sitePatch (x % 102) (x / 102)))
  let d := sites.foldl (fun (e : Dev) (x : Nat) => e.initPanel x) d
  let d := (List.range 54).foldl (fun e q => if mask.testBit q then e.emptyBobbins q else e) d
  let d := c.staging.foldl (fun (e : Dev) (x : Nat × Frame) => e.writeFrame x.1 x.2) (d.clearBlocks (fun m => mask.testBit (blockPatch m)))
  let taps := (List.range 512).filter (fun w => boundIn mask (d.watchBinding w)) ++ bindings.map (fun x => x.1.val)
  let d := (d.unbindWatch (boundIn mask)).imageDefaults (fun idx sub =>
    (objectIn mask idx || watchObject taps idx sub) && !givenBy i.setup idx sub)
  let d := ((d.applySetup i.setup).bindWatch bindings).spoolCommit mask.testBit
  let d := forEach 64 (fun n e =>
    if e.frenchIn mask n then ((e.initFrench n).setFlag (0x3980 + n) 1 14 false).setFlag (0x3980 + n) 1 12 false else e) d
  let d := forEach 54 (fun q e => if mask.testBit q then e.setFlag 0x3900 8 q false else e) d
  if d.fabricLive then sites.foldl (fun e x => e.emitFull x) d else d

/-- What a committed image leaves behind: its digest, its recovery source or the copy it awaits, and the time (R355, R381, R486). -/
def Dev.committed (d : Dev) (i : StagedImage) : Dev :=
  let c := d.config
  let mask : BitVec 54 := BitVec.ofNat 54 i.header.patchMask
  let slot := i.source.slotOf
  let times := (List.range 54).foldl (fun t q => if mask.getLsbD q then tabIns (tabDel t q) q d.core.time else t) c.patchLoaded
  let d := { d with config := { c with
    staged := none, shadow := [], staging := [], patchLoaded := times
    partials := { header := i.header, digest := i.digest, slot := slot } :: c.partials
    partialDigest := Config.sha512 (c.partialDigest ++ i.digest)
    recoveryFor := if slot.isSome then c.recoveryFor ||| mask else c.recoveryFor
    copying := if slot.isSome then c.copying else c.copying ||| mask } }
  let d := if slot.isSome then d else d.wrN 0x2120 6 3
  ((d.wrN 0x2110 5 i.header.patchMask).wrN 0x2110 6 i.header.imageId).setFlag 0x2110 1 11 false

/-- A frame as it stands after upsets. -/
def Frame.upset (f : Frame) (data : BitVec 2048) (check : BitVec 12) (crc : BitVec 32) : Frame :=
  { data := f.data ^^^ data, check := f.check ^^^ check, crc := f.crc ^^^ crc }

/-- Step 2 of R341 over a plane of staged frames: each is checked with its upsets, a single-bit error is corrected, and the first frame
that cannot be is named. -/
def checkStaged (ups : List FrameUpset) : List (Nat × Frame) → Except Nat (List (Nat × Frame))
  | [] => .ok []
  | (a, f) :: t =>
    let seen := (ups.filter (fun u => u.1.toNat = a)).foldl (fun g u => g.upset u.2.1 u.2.2.1 u.2.2.2) f
    match seen.settled a with
    | none => .error a
    | some g => match checkStaged ups t with
      | .error b => .error b
      | .ok l => .ok ((a, g) :: l)

/-- PARTIAL_COMMIT_COMPLETE: a latched commit ends (R341). An uncorrectable staged frame abandons it. -/
def execPartialCommitComplete (ups : List FrameUpset) (bindings : List (Fin 512 × Word)) (s : State) :
    Host.Outcome State Fault Refusal :=
  onDev (fun d =>
    match d.config.staged with
    | none => d
    | some i =>
      if !i.committing then d
      else
        let checked : Except Nat (List (Nat × Frame) × List (Nat × Frame)) :=
          match checkStaged ups d.config.shadow, checkStaged ups d.config.staging with
          | .ok x, .ok y => .ok (x, y)
          | .error a, _ => .error a
          | _, .error a => .error a
        match checked with
        | .error a =>
          let d := { d with config := { d.config with staged := none, shadow := [], staging := [] } }
          let d := (d.setFlag 0x2110 1 10 false).setFlag 0x2110 1 11 false
          (((d.wrN 0x2110 7 0x0124).wrN 0x2110 8 a).log 0x0124 0 a).latchCapture
        | .ok (x, y) =>
          let d := { d with config := { d.config with shadow := x, staging := y } }
          let d := (d.activate i bindings).committed i
          ((d.complete 0x2110 1 14 (some 10)).log 0x0122 0 0).updatePermits.latchCapture) s

def actPartialDiscard : Act where
  allow := fun d _ => if d.config.staged.any (fun i => i.committing) then 0x0123 else 0
  apply := fun d _ => d.discardPartial

/-- PARTIAL_DISCARD (R342). -/
def execPartialDiscard (path : Transport) (s : State) : Host.Outcome State Fault Refusal :=
  onDev (rowWrite objPartialDiscard actPartialDiscard 0x2110 4 { path := path, len := 1, value := 1 }) s

/-! ### Scrub and recovery (R343 to R345, R355) -/

/-- The logical site that position p of the scrubber of patch q stands at; 20 frames a site. -/
def scrubSite (q p : Nat) : Nat × Nat := (17 * (q % 6) + p / 20 % 17, 8 * (q / 6) + p / 20 / 17)

/-- The scrubber of patch q moves on; a pass of all 54 completes CFG_SCRUB_STATUS. -/
def Dev.scrubOn (d : Dev) (q p : Nat) : Dev :=
  let c := d.config
  if p < 2719 then { d with config := { c with scrubPos := tabSet (fun _ => 0) c.scrubPos q (p + 1) } }
  else
    let done := c.passDone ||| BitVec.ofNat 54 (2 ^ q)
    let c := { c with scrubPos := tabSet (fun _ => 0) c.scrubPos q 0, passDone := done }
    if done = BitVec.allOnes 54 then
      let d := { d with config := { c with passDone := 0, passStart := d.core.time } }
      (d.wrN 0x2120 5 ((d.core.time - c.passStart) % 2 ^ 32)).complete 0x2120 1 14 none
    else { d with config := c }

/-- An uncorrectable frame of logical site (column, row): a repair from the recovery source, or the loss of the patch (R345). -/
def Dev.frameLost (d : Dev) (q column row minor : Nat) : Dev :=
  let p := d.physColumn column row
  let a := panelAddr column row minor
  if d.config.recoveryFor.getLsbD q then (d.log 0x0161 (0x3910 + q) a).panelFault 0x0812 p row
  else
    let d := d.logNotify 0x0162 (0x3910 + q) a
    if d.isolated q then d
    else d.isolateLoss { patch := q, row := row, column := p, source := 0x0812, kind := 1, started := d.core.time } 0

/-- CFG_SCRUB_FRAME: the scrubber of patch q checks its next frame, which has the upsets named (R343 to R345): its syndrome, and its CRC
over the logical address. A correction whose content passes the CRC rewrites it in place; a frame past correction stays as its recovery
source has it, which the repair writes. -/
def execCfgScrubFrame (q : Fin 54) (data : BitVec 2048) (check : BitVec 12) (crc : BitVec 32) (s : State) :
    Host.Outcome State Fault Refusal :=
  onDev (fun d =>
    let runs := d.core.state == .run || d.core.state == .folded || d.core.state == .safe
    if !runs || !d.thimble || d.patchHeld q.val || d.config.passDone.getLsbD q.val then d
    else
      let p := tabGet (fun _ => 0) d.config.scrubPos q.val
      let site := scrubSite q.val p
      let a := panelAddr site.1 site.2 (p % 20)
      let seen := (d.frame a).upset data check crc
      let d :=
        match seen.settled a with
        | none => d.frameLost q.val site.1 site.2 (p % 20)
        | some g =>
          let d := if g = d.frame a then d
            else { d with config := { d.config with active := tabIns (tabDel d.config.active a) a g } }
          if seen.syndrome = 0 then d
          else
            let d := d.count 0x2120 3 32 1
            if d.config.sent160 then d
            else ({ d with config := { d.config with sent160 := true } }).notify 0x0160 (0x3910 + q.val)
      d.scrubOn q.val p) s

/-- The frames of patch q as the recovery copy holds them before encryption: of each its address, DATA, CHECK and CRC, in order. -/
def Dev.patchBytes (d : Dev) (q : Nat) : List Byte :=
  (d.config.active.filter (fun e => sitePatch (addrColumn e.1) (addrRow e.1) = q)).flatMap (fun e =>
    leBytes 4 e.1 ++ leBytes 256 e.2.data.toNat ++ leBytes 4 e.2.check.toNat ++ leBytes 4 e.2.crc.toNat)

/-- The recovery copy of patch q: encrypted under the device unique key, with one AES-256-GCM tag (R355). -/
def Dev.recoveryCopy (d : Dev) (f : Fuses) (q : Nat) : RecoveryPatch :=
  let iv := Config.recoveryIv q d.core.time
  let cipher := Config.gcmEncrypt f.deviceKey iv (d.patchBytes q)
  { iv := iv, cipher := cipher, tag := Config.gcmTag f.deviceKey iv cipher }

/-- RECOVERY_COPY_COMPLETE: the Thimble has written the recovery copy of the patches loaded or committed (R345, R355). -/
def execRecoveryCopyComplete (s : State) : Host.Outcome State Fault Refusal :=
  onDev (fun d =>
    if d.config.copying = 0 || !d.thimble then d
    else
      let c := d.config
      let mask := c.copying
      let kept := (List.range 54).foldl (fun t q =>
        if mask.getLsbD q then tabIns (tabDel t q) q (d.recoveryCopy s.fuses q) else t) d.nv.recovery
      let d := { d with
        config := { c with recoveryFor := c.recoveryFor ||| mask, copying := 0 }, nv := { d.nv with recovery := kept } }
      let d := (List.range 54).foldl (fun e q => if mask.getLsbD q then e.touchUnits (7136 + 12 * q) 12 else e) d
      d.wrN 0x2120 6 2) s

/-! ### Acknowledgements -/

def execCfgAck (w : Wr) (s : State) : Host.Outcome State Fault Refusal :=
  onDev (rowWrite objCfgAck (ackAct objCfgAck 0x2100 1 14) 0x2100 2 w) s

def execPartialAck (w : Wr) (s : State) : Host.Outcome State Fault Refusal :=
  onDev (rowWrite objPartialAck (ackAct objPartialAck 0x2110 1 14) 0x2110 2 w) s

def execCfgScrubAck (w : Wr) (s : State) : Host.Outcome State Fault Refusal :=
  onDev (rowWrite objCfgScrubAck (ackAct objCfgScrubAck 0x2120 1 14) 0x2120 2 w) s

end Sys2Proof.Machine
end

