-- ==== Sys2Proof/Machine/Wardrobe.lean ====
section
/-! DEFINITION. The wardrobe (R348 to R355, R389): image slots written, verified and erased, and pages of the event log. -/

namespace Sys2Proof.Machine

/-- Slot n is pinned (R354). -/
def Dev.pinned (d : Dev) (n : Nat) : Bool :=
  let c := d.config
  let is (s : Option Nat) : Bool := s == some n
  c.running.any (fun i => is i.slot) || c.partials.any (fun i => is i.slot) || c.staged.any (fun i => is i.source.slotOf) ||
    c.load.any (fun l => is l.source.slotOf) || c.slotLoad.any (fun p => p.1 == n)

/-- A wardrobe operation is under way (BUSY). -/
def Dev.wardrobeBusy (d : Dev) : Bool := bit (d.rd 0x2130 1) 15

/-- WARDROBE_STATUS shows a command and its slot. -/
def Dev.slotCmd (d : Dev) (cmd n : Nat) : Dev := d.wr 0x2130 1 (setBits (setBits (d.rd 0x2130 1) 11 8 n) 7 0 cmd)

/-! ### Program download (R412): areas 1 for the firmware, 2 to 11 for the image slots -/

/-- The reason code of an area's last operation (0x1F57). -/
def Dev.areaDone (d : Dev) (area code : Nat) : Dev :=
  { d with sec := { d.sec with areas := tabSet (fun _ => 0) d.sec.areas area code } }

/-- A download of an area over CANopen gets its final response after verification. -/
def Dev.downloadDone (d : Dev) (area code : Nat) : Dev :=
  if d.tr.download = some area then
    let d := { d with tr := { d.tr with download := none } }
    d.emit (if code = 0 then .answer .can 0 [] else .abort 0x08000020)
  else d

/-- A wardrobe operation completes with a reason code (R389, R400); it is of the slot that WARDROBE_STATUS shows. -/
def Dev.slotDone (d : Dev) (code : Nat) : Dev :=
  let d := { d with sec := { d.sec with slotBusy := none } }
  let area := bits (d.rd 0x2130 1) 11 8 + 2
  (((d.wrN 0x2130 4 code).complete 0x2130 1 14 (some 15)).areaDone area code).downloadDone area code

/-- A slot becomes EMPTY. -/
def Dev.emptySlot (d : Dev) (n : Nat) : Dev := d.setSlot n { ({} : Slot) with reads := (d.slot n).reads }

/-- A slot write fails: the slot is EMPTY, 0x0261 is logged, WARDROBE_REASON has the code (R353). -/
def Dev.slotFail (d : Dev) (n code : Nat) : Dev :=
  let d := { d with sec := { d.sec with openSlot := none } }
  ((d.emptySlot n).log 0x0261 n 0).slotDone code

/-- The fixed value that a row of SLOT_COMMAND writes. -/
def slotWr (path : Transport) (cmd : Nat) (slot : BitVec 8) : Wr := { path := path, len := 2, value := word (cmd * 256 + slot.toNat) }

/-- SLOT_COMMAND: reserved codes and slots; OPEN and ERASE need an unpinned slot, no open slot and no operation under way (R353). A CLOSE
or an ABANDON of a slot that is not open changes nothing; an ABANDON fails the write up to the end of its verification. -/
def actSlotCommand : Act where
  check := fun _ w =>
    let v := objSlotCommand.valueOf w
    if bits v 15 8 = 0 || 4 < bits v 15 8 || 9 < bits v 7 0 then 0x0B05 else 0
  allow := fun d w =>
    let v := objSlotCommand.valueOf w
    let cmd := bits v 15 8
    if (cmd = 1 || cmd = 3) && (d.pinned (bits v 7 0) || d.sec.openSlot.isSome || d.wardrobeBusy) then 0x0260 else 0
  apply := fun d w =>
    let v := objSlotCommand.valueOf w
    let cmd := bits v 15 8
    let n := bits v 7 0
    let d' := d.slotCmd cmd n
    let isOpen : Bool := d.sec.openSlot == some n
    let closing : Bool := d.sec.slotBusy.isSome
    if cmd = 1 then
      let d' := { d' with sec := { d'.sec with openSlot := some n } }
      d'.setSlot n { ({} : Slot) with state := 1, reads := (d.slot n).reads }
    else if cmd = 2 then
      if isOpen && !closing then ({ d' with sec := { d'.sec with slotBusy := some (n, 2) } }).setFlag 0x2130 1 15 true else d
    else if cmd = 3 then ({ d' with sec := { d'.sec with slotBusy := some (n, 3) } }).setFlag 0x2130 1 15 true
    else if isOpen then d'.slotFail n 0x0261 else d

/-- SLOT_OPEN (R352). -/
def execSlotOpen (path : Transport) (slot : BitVec 8) (s : State) : Host.Outcome State Fault Refusal :=
  onDev (rowWrite objSlotCommand actSlotCommand 0x2130 3 (slotWr path 1 slot)) s

/-- SLOT_CLOSE (R352). -/
def execSlotClose (path : Transport) (slot : BitVec 8) (s : State) : Host.Outcome State Fault Refusal :=
  onDev (rowWrite objSlotCommand actSlotCommand 0x2130 3 (slotWr path 2 slot)) s

/-- SLOT_ERASE (R353). -/
def execSlotErase (path : Transport) (slot : BitVec 8) (s : State) : Host.Outcome State Fault Refusal :=
  onDev (rowWrite objSlotCommand actSlotCommand 0x2130 3 (slotWr path 3 slot)) s

/-- SLOT_ABANDON (R353). -/
def execSlotAbandon (path : Transport) (slot : BitVec 8) (s : State) : Host.Outcome State Fault Refusal :=
  onDev (rowWrite objSlotCommand actSlotCommand 0x2130 3 (slotWr path 4 slot)) s

/-- Bytes appended to the open slot (R352, R353): the header is checked as soon as it is there; too many bytes fail the write. -/
def Dev.slotData (f : Fuses) (d : Dev) (n : Nat) (l : List Byte) : Dev :=
  let x := d.slot n
  let first := x.data.length / 65536
  let data := x.data ++ l
  let r := data.take 256
  let d := d.touchUnits (slotUnit n + first) (unitsOf data.length - first)
  let code :=
    if x.checked || data.length < 256 then 0
    else
      let c := headerFault f r
      if c ≠ 0 then c else securityFault f d r
  let h := if data.length < 256 then x.header else parseHeader r
  let tooLong := 45088768 < data.length || (256 ≤ data.length && h.streamLength < data.length)
  if code ≠ 0 then d.slotFail n code
  else if tooLong then d.slotFail n 0x0261
  else d.setSlot n { x with data := data, header := h, checked := 256 ≤ data.length }

/-- SLOT_DATA with no open slot changes nothing. While the slot is verified it takes no more bytes, and bytes past STREAM_LENGTH fail the
write (R353). -/
def actSlotData (f : Fuses) : Act where
  apply := fun d w =>
    match d.sec.openSlot with
    | some n =>
      let x := d.slot n
      if d.sec.slotBusy.isNone then d.slotData f n w.bytes
      else if x.header.streamLength < x.data.length + w.bytes.length then d.slotFail n 0x0261
      else d
    | none => d

/-- SLOT_DATA (R352). -/
def execSlotData (w : Wr) (s : State) : Host.Outcome State Fault Refusal :=
  onDev (rowWrite objSlotData (actSlotData s.fuses) 0x2131 0 w) s

/-- SLOT_VERIFY_COMPLETE: the read-back ends (R349, R352). -/
def execSlotVerifyComplete (r : SlotRead) (s : State) : Host.Outcome State Fault Refusal :=
  onDev (fun d =>
    match d.sec.slotBusy with
    | some (n, 2) =>
      let x := d.slot n
      let d := d.touchUnits (slotUnit n) (unitsOf x.data.length)
      if r.fails then (d.log 0x0263 n 0).slotFail n 0x0263
      else
        let code := if x.data.length < 256 || x.data.length ≠ x.header.streamLength then 0x0108
          else verifyStream s.fuses d (fun w => r.taps.any (fun t => t.val == w)) x.data
        if code ≠ 0 then d.slotFail n code
        else
          let d := { d with sec := { d.sec with openSlot := none } }
          (d.setSlot n { x with state := 2 }).slotDone 0
    | _ => d) s

/-- SLOT_ERASE_COMPLETE (R353). -/
def execSlotEraseComplete (s : State) : Host.Outcome State Fault Refusal :=
  onDev (fun d =>
    match d.sec.slotBusy with
    | some (n, 3) => (d.emptySlot n).slotDone 0
    | _ => d) s

/-- SLOT_WRITE_TIMEOUT: no SLOT_DATA for 10 s while a slot is open (R353). -/
def execSlotWriteTimeout (s : State) : Host.Outcome State Fault Refusal :=
  onDev (fun d =>
    match d.sec.openSlot with
    | some n => if d.sec.slotBusy.isSome then d else d.slotFail n 0x0261
    | none => d) s

def execWardrobeAck (w : Wr) (s : State) : Host.Outcome State Fault Refusal :=
  onDev (rowWrite objWardrobeAck (ackAct objWardrobeAck 0x2130 1 14) 0x2130 2 w) s

/-! ### The event log (R351, R521) -/

/-- A log entry as it is stored, CRC included (R521). -/
def entryBytes (e : LogEntry) : List Byte :=
  let n := e.time % 2 ^ 64 * 2 ^ 192 + e.number % 2 ^ 32 * 2 ^ 160 + e.reason % 2 ^ 16 * 2 ^ 144 + e.inst % 2 ^ 16 * 2 ^ 128 +
    e.detail % 2 ^ 64 * 2 ^ 64 + e.state % 256 * 2 ^ 56 + e.lifeCycle % 256 * 2 ^ 48 + e.boots % 2 ^ 16 * 2 ^ 32
  let l := leBytes 32 n
  leBytes 4 (crc32c (l.drop 4)) ++ l.drop 4

/-- Slot k of the log: the newest entry whose number puts it there, or zeros (R521). -/
def Dev.logSlot (d : Dev) (k : Nat) : List Byte :=
  match d.nv.log.find? (fun e => (e.number + 65535) % 65536 == k) with
  | some e => entryBytes e
  | none => List.replicate 32 0

/-- Page p of the log. -/
def Dev.logPage (d : Dev) (p : Nat) : List Byte := (List.range 4096).flatMap (fun k => d.logSlot (4096 * p + k))

/-- LOG_SELECT: each write reads its page into LOG_PAGE (R351, R533). A read that meets a line past correction fails with 0x0263, which is
logged, and the buffer keeps its page (R349; entry 60). -/
def actLogSelect (readFails : Bool) : Act where
  apply := fun d w =>
    let p := objLogSelect.num w
    let d := ((d.wr 0x2310 2 (objLogSelect.valueOf w)).touchUnits (7824 + 2 * p) 2)
    if readFails then d.log 0x0263 0x2310 0 else d.setBytes 0x2310 3 (d.logPage p)

def execLogSelect (r : PageRead) (s : State) : Host.Outcome State Fault Refusal :=
  onDev (rowWrite objLogSelect (actLogSelect r.fails) 0x2310 2 r.write) s

end Sys2Proof.Machine
end

