-- ==== Sys2Proof/Machine/Security.lean ====
section
/-! DEFINITION. Keys, sessions, the life cycle, attestation and tamper (R356 to R360, R369 to R383, R390). -/

namespace Sys2Proof.Machine

/-- A row that writes one object whose accepted write also changes the fuses, as they and the device stood before it. -/
def fuseWrite (o : Desc) (a : Act) (blow : Fuses → Dev → Wr → Fuses) (idx sub : Nat) (w : Wr) (s : State) : State :=
  if s.dev.dictionary then
    let r := runWrite o a idx sub w s.dev
    { s with fuses := if r.2 = 0 then blow s.fuses s.dev w else s.fuses, dev := r.1 }
  else s

/-! ### What depends on a key (R359, R360) -/

/-- Some image that runs, has been committed or is staged meets p. -/
def Dev.anyImage (d : Dev) (p : Header → Bool) : Bool :=
  let c := d.config
  c.running.any (fun i => p i.header) || c.partials.any (fun i => p i.header) || c.staged.any (fun i => p i.header)

/-- Slots that hold an image meeting p change their state. -/
def Dev.markSlots (d : Dev) (p : Header → Bool) (state : Nat) : Dev :=
  forEach 10 (fun n e =>
    let x := e.slot n
    if 2 ≤ x.state && p x.header then e.setSlot n { x with state := state } else e) d

/-! ### Keys (R357, R359) -/

/-- Programming a key slot is permitted (R356, R378). -/
def keyProgramPermitted (f : Fuses) (lc slot : Nat) : Bool :=
  if slot < 4 then lc = 1 || lc = 2 else f.variantS && 1 ≤ lc && lc ≤ 4

/-- A key slot holds a key or has been revoked. -/
def keySlotTaken (f : Fuses) (d : Dev) (slot : Nat) : Bool :=
  if slot < 4 then f.keysProgrammed.getLsbD slot || f.keysRevoked.getLsbD slot
  else d.nv.batteryKeys.any (fun k => k.1 + 0x10 == slot)

/-- The key in a KEY_PROGRAM body, unwrapped (R357): salt and info follow the device's number and the slot. -/
def unwrapKey (f : Fuses) (b : List Byte) : Option (List Byte) :=
  let info : List Byte := [0x59, 0x48, 0x39, 0x36, 0x30, 0x30, 0x20, 0x4B, 0x45, 0x59]
  Config.keyUnwrap (Config.agreeKey ((b.drop 4).take 132) (leBytes 8 f.uid ++ info ++ b.take 1)) ((b.drop 136).take 40)

def actKeyProgram (f : Fuses) : Act where
  check := fun _ w =>
    let slot := leAt w.bytes 0 1
    if w.bytes.length ≠ 176 || leAt w.bytes 1 3 ≠ 0 || !keySlotDefined slot || slot = 0xFF then 0x0B06 else 0
  allow := fun d w =>
    let slot := leAt w.bytes 0 1
    if keySlotTaken f d slot || !keyProgramPermitted f d.lc slot || !Config.onCurve ((w.bytes.drop 4).take 132) ||
      (unwrapKey f w.bytes).isNone then 0x0230 else 0
  apply := fun d w =>
    let slot := leAt w.bytes 0 1
    if slot < 4 then d
    else { d with nv := { d.nv with batteryKeys := tabIns d.nv.batteryKeys (slot - 0x10) ((unwrapKey f w.bytes).getD []) } }

/-- The fuses after KEY_PROGRAM: a fuse slot takes its key. -/
def blowKey (f : Fuses) (_ : Dev) (w : Wr) : Fuses :=
  let slot := leAt w.bytes 0 1
  if slot < 4 then
    { f with keysProgrammed := f.keysProgrammed ||| BitVec.ofNat 4 (2 ^ slot)
             keyValues := tabIns f.keyValues slot ((unwrapKey f w.bytes).getD []) }
  else f

/-- KEY_PROGRAM (R357). -/
def execKeyProgram (w : Wr) (s : State) : Host.Outcome State Fault Refusal :=
  .next (fuseWrite objKeyProgram (actKeyProgram s.fuses) blowKey 0x2201 2 w s)

/-- Revocation is permitted (R378). -/
def revokePermitted (lc : Nat) : Bool := 2 ≤ lc && lc ≤ 4

def actKeyRevoke : Act where
  check := fun _ w => if keySlotDefined (objKeyRevoke.num w) && objKeyRevoke.num w ≠ 0xFF then 0 else 0x0B05
  allow := fun d w =>
    if !revokePermitted d.lc || d.anyImage (fun h => h.keySlot == objKeyRevoke.num w) then 0x0232 else 0
  apply := fun d w =>
    let slot := objKeyRevoke.num w
    let d := { d with nv := { d.nv with batteryKeys := d.nv.batteryKeys.filter (fun k => k.1 + 0x10 != slot) } }
    d.markSlots (fun h => h.keySlot == slot) 3

/-- The fuses after KEY_REVOKE: the revocation fuse of a fuse key. -/
def blowKeyRevoke (f : Fuses) (_ : Dev) (w : Wr) : Fuses :=
  let k := objKeyRevoke.num w
  if k < 4 then { f with keysRevoked := f.keysRevoked ||| BitVec.ofNat 4 (2 ^ k) } else f

/-- KEY_REVOKE: the revocation fuse of a fuse key; a battery slot is zeroised (R359). -/
def execKeyRevoke (w : Wr) (s : State) : Host.Outcome State Fault Refusal :=
  .next (fuseWrite objKeyRevoke actKeyRevoke blowKeyRevoke 0x2201 3 w s)

/-! ### Owner keys (R358, R359) -/

def actOwnerKeyProgram (f : Fuses) : Act where
  check := fun _ w => if w.bytes.length ≠ 136 || leAt w.bytes 0 4 > 3 then 0x0B06 else 0
  allow := fun d w =>
    let i := leAt w.bytes 0 1
    if f.ownersProgrammed.getLsbD i || !Config.onCurve (w.bytes.drop 4) || !(d.lc = 1 || d.lc = 2) then 0x0231 else 0
  apply := fun d _ => d

/-- The fuses after OWNER_KEY_PROGRAM: they keep the digest of the key. -/
def blowOwner (f : Fuses) (_ : Dev) (w : Wr) : Fuses :=
  let i := leAt w.bytes 0 1
  { f with ownersProgrammed := f.ownersProgrammed ||| BitVec.ofNat 4 (2 ^ i)
           ownerDigests := tabIns (tabDel f.ownerDigests i) i (Config.sha512 (w.bytes.drop 4)) }

/-- OWNER_KEY_PROGRAM (R358). -/
def execOwnerKeyProgram (w : Wr) (s : State) : Host.Outcome State Fault Refusal :=
  .next (fuseWrite objOwnerKeyProgram (actOwnerKeyProgram s.fuses) blowOwner 0x2202 2 w s)

/-! ### Sessions (R369 to R373) -/

/-- Object index of the session of transport t: CAN FD, PCI Express, JTAG. -/
def sessionIdx (t : Nat) : Nat := 0x2210 + t

/-- Session t ends; logged where it ends by a time-out or a reset of its transport (R372). -/
def Dev.endSession (d : Dev) (t : Nat) (logged : Bool) : Dev :=
  let x := d.session t
  match x.role with
  | none => d
  | some _ =>
    let d := d.setSession t { x with role := none }
    if logged then d.log 0x0213 (sessionIdx t) 0 else d

/-- Every session ends. -/
def Dev.endSessions (d : Dev) : Dev := forEach 3 (fun t e => e.endSession t false) d

/-- A transport resets: its session ends, and a challenge pending on it with it (R372). -/
def Dev.transportReset (d : Dev) (t : Nat) : Dev :=
  let d := d.endSession t true
  d.setSession t { d.session t with pending := false }

def actOwnerKeyRevoke (f : Fuses) : Act where
  check := fun _ w => if objOwnerKeyRevoke.num w < 4 then 0 else 0x0B06
  allow := fun d w =>
    let i := objOwnerKeyRevoke.num w
    let left := (List.range 4).any (fun k => k != i && f.ownersProgrammed.getLsbD k && !f.ownersRevoked.getLsbD k)
    if !left || !revokePermitted d.lc || d.anyImage (fun h => h.signer == i) then 0x0232 else 0
  apply := fun d w =>
    let i := objOwnerKeyRevoke.num w
    let d := d.markSlots (fun h => h.signer == i) 3
    forEach 3 (fun t e => if (e.session t).key = i then e.endSession t false else e) d

/-- The fuses after OWNER_KEY_REVOKE. -/
def blowOwnerRevoke (f : Fuses) (_ : Dev) (w : Wr) : Fuses :=
  { f with ownersRevoked := f.ownersRevoked ||| BitVec.ofNat 4 (2 ^ objOwnerKeyRevoke.num w) }

/-- OWNER_KEY_REVOKE (R359). -/
def execOwnerKeyRevoke (w : Wr) (s : State) : Host.Outcome State Fault Refusal :=
  .next (fuseWrite objOwnerKeyRevoke (actOwnerKeyRevoke s.fuses) blowOwnerRevoke 0x2202 3 w s)

def actVersionRaise (f : Fuses) : Act where
  allow := fun d w =>
    let v := objVersionRaise.num w
    if !revokePermitted d.lc then 0x0204
    else if v ≤ f.versionMin || 64 < v || d.anyImage (fun h => h.securityVersion < v) then 0x0233 else 0
  apply := fun d w => d.markSlots (fun h => h.securityVersion < objVersionRaise.num w) 4

/-- The fuses after VERSION_RAISE. -/
def blowVersion (f : Fuses) (_ : Dev) (w : Wr) : Fuses := { f with versionMin := objVersionRaise.num w }

/-- VERSION_RAISE (R360, R378). -/
def execVersionRaise (w : Wr) (s : State) : Host.Outcome State Fault Refusal :=
  .next (fuseWrite objVersionRaise (actVersionRaise s.fuses) blowVersion 0x2202 6 w s)

/-- INTEGRATOR_KEYS: four digests of 64 octets (R369, R390). -/
def actIntegratorKeys : Act where
  check := fun _ w => if w.bytes.length = 256 then 0 else 0x0B06
  apply := fun d w => { d with nv := { d.nv with integratorKeys := w.bytes } }

/-- R369: a role that its life-cycle state offers by session. -/
def roleOffered (lc role : Nat) : Bool :=
  (role = 1 && (lc = 3 || lc = 4)) || (role = 2 && 2 ≤ lc && lc ≤ 4) || (role = 3 && (lc = 1 || lc = 5))

/-- Writes of session t from another transport are refused (R373). -/
def wrongTransport (t : Nat) (w : Wr) : Nat := if sessionNo w.path = t then 0 else 0x0214

def actSessionRequest (t : Nat) : Act where
  check := fun _ w => if 3 < objSessionRequest.num w then 0x0B05 else wrongTransport t w
  allow := fun d w =>
    let recent : Bool := match (d.session t).failedAt with
      | some at' => d.core.time < at' + 1000000000
      | none => false
    if !roleOffered d.lc (objSessionRequest.num w) then 0x0210 else if recent then 0x0212 else 0
  apply := fun d w =>
    let c := Config.freeBits 256 d.freeCtr
    let role := objSessionRequest.num w
    let st := d.rd (sessionIdx t) 1
    let d := { d with freeCtr := d.freeCtr + 1 }
    let st := setBits (setBits st 31 16 (nextSeq (bits st 31 16))) 11 8 role
    (d.wr (sessionIdx t) 1 st).setSession t { d.session t with
      pending := true, asked := role, challenge := leBytes 32 c.toNat }

/-- SESSION_REQUEST: the challenge is drawn, a free value (R370, R371). -/
def execSessionRequest (t : Fin 3) (w : Wr) (s : State) : Host.Outcome State Fault Refusal :=
  onDev (rowWrite objSessionRequest (actSessionRequest t.val) (sessionIdx t.val) 2 w) s

/-- The digest held for the KEY of a response, if that key can raise the role (R369, R370). -/
def responseDigest (f : Fuses) (d : Dev) (role key : Nat) : Option (List Byte) :=
  if key < 4 then
    if (role = 1 || role = 2) && f.ownersProgrammed.getLsbD key && !f.ownersRevoked.getLsbD key then
      some (tabGet (fun _ => []) f.ownerDigests key)
    else none
  else if 0x10 ≤ key && key < 0x14 then
    let g := (d.nv.integratorKeys.drop (64 * (key - 0x10))).take 64
    if role = 1 && g.any (fun b => b != 0) then some g else none
  else if key = 0xFE && role = 3 then some Config.vendorDigest
  else none

/-- The message M that a response signs (R370). -/
def sessionMessage (f : Fuses) (d : Dev) (t : Nat) : List Byte :=
  let x := d.session t
  x.challenge ++ leBytes 8 f.uid ++ leBytes 1 t ++ leBytes 1 x.asked ++ leBytes 2 (d.seqOf (sessionIdx t) 1)

/-- A response passes step 5 of R370; a role that the life cycle no longer offers is not raised (R369; DEDUCED, entry 41). -/
def responseOk (f : Fuses) (d : Dev) (t : Nat) (b : List Byte) : Bool :=
  let x := d.session t
  match responseDigest f d x.asked (leAt b 0 1) with
  | some g => x.pending && roleOffered d.lc x.asked && signatureOk g (sessionMessage f d t) b
  | none => false

def actSessionResponse (f : Fuses) (t : Nat) : Act where
  check := fun _ w => if wrongTransport t w ≠ 0 then 0x0214 else if w.bytes.length = 272 then 0 else 0x0B06
  apply := fun d w =>
    let x := d.session t
    if responseOk f d t w.bytes then
      d.setSession t { x with pending := false, role := some x.asked, key := leAt w.bytes 0 1 }
    else (d.setSession t { x with pending := false, failedAt := some d.core.time }).log 0x0211 (sessionIdx t) 0

/-- SESSION_RESPONSE (R370, R371). -/
def execSessionResponse (t : Fin 3) (w : Wr) (s : State) : Host.Outcome State Fault Refusal :=
  onDev (rowWrite objResponse (actSessionResponse s.fuses t.val) (sessionIdx t.val) 4 w) s

def actSessionEnd (t : Nat) : Act where
  check := fun _ w => wrongTransport t w
  apply := fun d _ => d.endSession t false

/-- SESSION_END (R372). -/
def execSessionEnd (t : Fin 3) (w : Wr) (s : State) : Host.Outcome State Fault Refusal :=
  onDev (rowWrite objSessionEnd (actSessionEnd t.val) (sessionIdx t.val) 5 w) s

/-- SESSION_TIMEOUT: for SESSION_TIMEOUT seconds no access needed more than the open role (R372). -/
def execSessionTimeout (t : Fin 3) (s : State) : Host.Outcome State Fault Refusal :=
  onDev (fun d => if d.thimble then d.endSession t.val true else d) s

/-- TEST_LOGIC_RESET: the TAP returns to IDCODE, and the JTAG session ends (R282, R372). -/
def execTestLogicReset (s : State) : Host.Outcome State Fault Refusal :=
  onDev (fun d => if d.tapOn then (d.tapInstr .idcode).transportReset 2 else d) s

/-! ### Life cycle (R375 to R378) -/

/-- The role that a transition needs, if R377 has it. -/
def lcRole (from' to' : Nat) : Option Nat :=
  if (from' = 1 && to' = 2) || (from' = 2 && to' = 3) || (from' = 3 && to' = 4) then some 2
  else if 2 ≤ from' && from' ≤ 4 && (to' = 5 || to' = 6) then some 2
  else if (from' = 1 && (to' = 5 || to' = 6)) || (from' = 5 && to' = 6) then some 3
  else none

/-- The precondition of a transition (R377). -/
def lcReady (f : Fuses) (d : Dev) (to' : Nat) : Bool :=
  if to' = 2 then (List.range 4).any (fun k => f.ownersProgrammed.getLsbD k && !f.ownersRevoked.getLsbD k)
  else if to' = 4 then
    [0, 1, 2, 3, 0x10, 0x11, 0x12, 0x13].any (fun k => (keyIn f d k).isSome)
  else true

def actLcRequest (f : Fuses) : Act where
  allow := fun d w =>
    let v := objLcRequest.valueOf w
    let to' := bits v 31 24
    match lcRole f.lifecycle to' with
    | none => 0x0220
    | some role =>
      if bit (d.rd 0x2200 1) 7 then 0x0223
      else if d.roleOf w.path < role then 0x0220
      else if d.core.state != .unconfigured || d.config.load.isSome || d.config.slotLoad.isSome || d.sec.openSlot.isSome then
        0x0221
      else if !lcReady f d to' || bits v 23 0 ≠ f.uid % 2 ^ 24 then 0x0222 else 0
  apply := fun d _ => (d.wrN 0x2200 3 0).setFlag 0x2200 1 7 true
  refuse := fun code d => d.wrN 0x2200 3 code

/-- The fuses after LC_REQUEST: the begin fuse of the target is blown (R376). -/
def blowLcBegin (f : Fuses) (_ : Dev) (w : Wr) : Fuses := { f with lcBegin := some (bits (objLcRequest.valueOf w) 31 24) }

/-- LC_REQUEST (R376). -/
def execLcRequest (w : Wr) (s : State) : Host.Outcome State Fault Refusal :=
  .next (fuseWrite objLcRequest (actLcRequest s.fuses) blowLcBegin 0x2200 2 w s)

/-- The effects of a transition on what the device holds (R377). -/
def Dev.lcEffects (d : Dev) (to' : Nat) : Dev :=
  if to' = 4 then d.markSlots (fun h => h.keySlot == 0xFF) 4
  else if to' = 5 || to' = 6 then
    let d := { d with nv := { d.nv with batteryKeys := [], integratorKeys := [], recovery := [] } }
    (forEach 10 (fun n e => e.emptySlot n) d).wrN 0x2120 6 0
  else d

/-- The fuses after a transition: keys destroyed first, the state fuse blown (R376, R377). -/
def lcFuses (f : Fuses) (to' : Nat) : Fuses :=
  let f := if to' = 5 || to' = 6 then { f with keysRevoked := 0xF, keyValues := [], ownersRevoked := 0xF } else f
  { f with
    lifecycle := to'
    lcBegin := none
    identityKilled := f.identityKilled || to' == 6
    deviceKey := if to' = 6 then [] else f.deviceKey }

/-- LC_TRANSITION_COMPLETE (R376): every session ends (R372), and 0x0224 is logged. A transition that LC_STATE bit 7 shows runs on
when the device leaves UNCONFIGURED for SAFE (DEDUCED, entry 41). -/
def execLcTransitionComplete (s : State) : Host.Outcome State Fault Refusal :=
  match s.fuses.lcBegin with
  | none => .next s
  | some to' =>
    if !s.dev.thimble then .next s
    else
      let d := (s.dev.lcEffects to').wrN 0x2200 1 to'
      .next { s with fuses := lcFuses s.fuses to', dev := (d.endSessions).log 0x0224 0 0 }

/-! ### Attestation (R380, R381) -/

/-- The firmware slot that runs. -/
def Dev.runningFw (d : Dev) : FwSlot := if d.sec.runningB then d.nv.fwB else d.nv.fwA

/-- A digest of 64 octets, zeros where there is none. -/
def digestOr (l : List Byte) : List Byte := if l.isEmpty then List.replicate 64 0 else l

/-- KEYS of the report: usable fuse keys, then usable battery keys. -/
def keysUsable (f : Fuses) (d : Dev) : Nat :=
  maskOf 8 (fun i => (keyIn f d (if i < 4 then i else 0x0C + i)).isSome)

/-- Bytes 0 to 379 of the report as an accepted request latches them (R381). -/
def attestFields (f : Fuses) (d : Dev) (nonce : List Byte) : List Byte :=
  let flags := d.nv.tampered.toNat + 2 * d.nv.vbatLost.toNat + 4 * d.nv.trialStarted.toNat
  leBytes 4 0x4B415452 ++ leBytes 2 1 ++ leBytes 2 512 ++ leBytes 8 f.uid ++ leBytes 2 0 ++ leBytes 1 (f.variant + 1) ++
    leBytes 1 f.stepping ++ leBytes 1 (d.rdN 0x2200 1) ++ leBytes 1 d.core.state.code ++ leBytes 2 flags ++
    leBytes 8 d.core.time ++ leBytes 4 (nextSeq (d.seqOf 0x2220 1)) ++ leBytes 4 f.versionMin ++ leBytes 4 f.fwMin ++
    leBytes 4 d.runningFw.version ++ leBytes 8 (d.rdN 0x2100 6) ++ leBytes 4 (d.rdN 0x2100 7) ++
    leBytes 1 (f.ownersRevoked.toNat * 16 + f.ownersProgrammed.toNat) ++ leBytes 1 (keysUsable f d) ++ leBytes 2 0 ++
    Config.sha512 (d.runningFw.data.drop 512) ++
    digestOr (match d.config.running with
      | some i => i.digest
      | none => []) ++
    digestOr d.config.partialDigest ++ leBytes 4 d.config.partials.length ++ leBytes 4 0 ++ nonce ++ List.replicate 84 0

def actAttestRequest (f : Fuses) : Act where
  allow := fun d _ => if d.sec.attest.isSome then 0x0270 else 0
  apply := fun d w =>
    let d := { d with sec := { d.sec with attest := some (attestFields f d w.bytes) } }
    (d.wrN 0x2220 3 0).setFlag 0x2220 1 15 true
  refuse := fun code d => d.wrN 0x2220 3 code

/-- ATTEST_REQUEST (R380). -/
def execAttestRequest (w : Wr) (s : State) : Host.Outcome State Fault Refusal :=
  onDev (rowWrite objAttestRequest (actAttestRequest s.fuses) 0x2220 2 w) s

/-- The signature of a report: by the identity key; where SCRAPPED has destroyed that key, a free value (R377, R378, R380; entry 60). -/
def reportSignature (f : Fuses) (d : Dev) (l : List Byte) : List Byte :=
  if f.identityKilled then leBytes 132 (Config.freeBits 1056 d.freeCtr).toNat else Config.ecdsaSign 0 (Config.sha512 l)

/-- ATTEST_COMPLETE: the report is signed with the identity key (R380). -/
def execAttestComplete (s : State) : Host.Outcome State Fault Refusal :=
  onDev (fun d =>
    match d.sec.attest with
    | none => d
    | some l =>
      let g := reportSignature s.fuses d l
      let d := { d with sec := { d.sec with attest := none }, freeCtr := d.freeCtr + s.fuses.identityKilled.toNat }
      (d.setBytes 0x2221 0 (l ++ g)).complete 0x2220 1 14 (some 15)) s

def execAttestAck (w : Wr) (s : State) : Host.Outcome State Fault Refusal :=
  onDev (rowWrite objAttestAck (ackAct objAttestAck 0x2220 1 14) 0x2220 4 w) s

/-! ### Tamper (R382, R383) -/

/-- A KEY_SLOT in the battery store. -/
def batterySlot (k : Nat) : Bool := 0x10 ≤ k && k ≤ 0x13

/-- What a tamper event does beside the store while the device is powered (R382). -/
def Dev.tamperPowered (d : Dev) : Dev :=
  let d := d.endSessions
  let d := if d.config.staged.any (fun i => batterySlot i.header.keySlot) then d.discardPartial else d
  let d := match d.loading with
    | some l => if batterySlot l.header.keySlot then d.failLoad l { code := 0x0240 } else d
    | none => d
  let d := d.log 0x0240 0x2230 0
  if bit (word d.nv.tamperConfig) 7 then d.enterSafe 0x0240 0x2230 else d

/-- TAMPER_EVENT: an enabled input stays high for 100 µs: the battery keys are zeroised in every state; what needs the Thimble happens at
once, or its log entry waits for it (R382). -/
def execTamperEvent (n : Fin 2) (s : State) : Host.Outcome State Fault Refusal :=
  if !s.fuses.variantS then .next s
  else onDev (fun d =>
    if !bit (word d.nv.tamperConfig) n.val || !(d.env.vbat || d.vaux) then d
    else
      let v := d.nv
      let mask := if v.tampered then v.tamperMask ||| 2 ^ n.val else 2 ^ n.val
      let late := if d.thimble then v.tamperLate else v.tamperLate ++ [n.val]
      let d := { d with nv := { v with
        batteryKeys := [], tamperCount := (v.tamperCount + 1) % 2 ^ 32, tamperMask := mask, tampered := true
        tamperUnacked := true, tamperSeq := nextSeq v.tamperSeq, tamperLate := late } }
      if d.thimble then d.tamperPowered else d) s

/-- TAMPER_ACK clears UNACKED, TAMPERED and VBAT_LOST (R383). -/
def actTamperAck : Act where
  apply := fun d w =>
    if objTamperAck.num w = d.nv.tamperSeq then
      { d with nv := { d.nv with tampered := false, tamperUnacked := false, vbatLost := false } }
    else d

def execTamperAck (w : Wr) (s : State) : Host.Outcome State Fault Refusal :=
  onDev (rowWrite objTamperAck actTamperAck 0x2230 2 w) s

/-- TAMPER_CONFIG: not on A variants; in SECURED no enabled input is disabled (R383, R390). -/
def actTamperConfig (f : Fuses) : Act where
  allow := fun d w =>
    let v := objTamperConfig.num w
    let off := (List.range 2).any (fun n => d.nv.tamperConfig.testBit n && !v.testBit n)
    if !f.variantS then 0x0204 else if d.lc = 4 && off then 0x0242 else 0
  apply := fun d w => { d with nv := { d.nv with tamperConfig := objTamperConfig.num w } }

/-- TAMPER_CONFIG_WRITE (R383). -/
def execTamperConfigWrite (w : Wr) (s : State) : Host.Outcome State Fault Refusal :=
  onDev (rowWrite objTamperConfig (actTamperConfig s.fuses) 0x2230 3 w) s

/-- BATTERY_STORE_LOSS: with VAUX down, VBAT falls below 1.1 V too; it shows at the next power-on (R383). On the A variants the VBAT
ball has no function (R3). -/
def execBatteryStoreLoss (s : State) : Host.Outcome State Fault Refusal :=
  if !s.fuses.variantS then .next s
  else onDev (fun d =>
    if d.vaux then d
    else { d with env := { d.env with vbat := false }, nv := { d.nv with batteryKeys := [], vbatLate := true } }) s

end Sys2Proof.Machine
end

