-- ==== Sys2Proof/Machine/Firmware.lean ====
section
/-! DEFINITION. The Thimble's firmware (R384 to R388): slots, commands and rescue. -/

namespace Sys2Proof.Machine

/-! ### Validity (R384) -/

/-- The reason that a firmware image is not valid, or 0. -/
def fwFault (f : Fuses) (l : List Byte) : Nat :=
  let n := leAt l 28 4
  if l.length < 513 || leAt l 0 4 ≠ 0x4B465748 || leAt l 6 2 ≠ 1 || n = 0 || 8388096 < n || l.length ≠ 512 + n then 0x0250
  else if !Config.ecdsaVerify Config.firmwareKey (Config.sha512 (l.take 380)) ((l.drop 380).take 132) then 0x0250
  else if Config.sha512 (l.drop 512) ≠ (l.drop 64).take 64 then 0x0250
  else if leAt l 24 4 < f.fwMin then 0x0251 else 0

/-- A slot after its check. -/
def checkedFw (f : Fuses) (l : List Byte) : FwSlot :=
  { state := if fwFault f l = 0 then 1 else 2, version := leAt l 20 4, security := leAt l 24 4, data := l }

/-- Firmware slot B or A. -/
def Dev.fwSlot (d : Dev) (b : Bool) : FwSlot := if b then d.nv.fwB else d.nv.fwA
def Dev.setFwSlot (d : Dev) (b : Bool) (x : FwSlot) : Dev :=
  { d with nv := if b then { d.nv with fwB := x } else { d.nv with fwA := x } }

/-! ### Commands (R386) -/

/-- A firmware command completes (R386, R400); a download of area 1 over CANopen is answered with it (R412). BUSY stays while a
verification runs on (DEDUCED, entry 40). -/
def Dev.fwDone (d : Dev) (code : Nat) : Dev :=
  let e := ((d.wrN 0x2160 4 code).complete 0x2160 1 14 none).setFlag 0x2160 1 15 d.sec.fwBusy
  (e.areaDone 1 code).downloadDone 1 code

/-- The conditions of R386 that refuse a command. -/
def Dev.fwRefused (f : Fuses) (d : Dev) (cmd : Nat) : Bool :=
  let other := !d.sec.runningB
  if cmd = 1 then d.sec.fwBusy || d.nv.trialStarted
  else if cmd = 2 || cmd = 6 then d.sec.fwOpen.isNone
  else if cmd = 3 then (d.fwSlot other).state ≠ 1 || d.nv.trialStarted
  else if cmd = 4 then !d.nv.trialStarted
  else d.nv.trialStarted || d.runningFw.security ≤ f.fwMin || 64 < d.runningFw.security

/-- FW_COMMAND (R386): a VERIFY that meets an unreadable line fails (fails, R349); one written while a verification runs begins it anew,
and an ABANDON written then ends it (DEDUCED, entry 40). -/
def actFwCommand (f : Fuses) (fails : Bool := false) : Act where
  check := fun _ w => if objFwCommand.num w = 0 || 6 < objFwCommand.num w then 0x0B05 else 0
  allow := fun d w => if d.lc = 6 then 0x0204 else if d.fwRefused f (objFwCommand.num w) then 0x0252 else 0
  apply := fun d w =>
    let cmd := objFwCommand.num w
    let other := !d.sec.runningB
    let d := d.wr 0x2160 1 (setBits (d.rd 0x2160 1) 7 0 cmd)
    if cmd = 1 then
      let d := d.setFwSlot other { state := 3 }
      ({ d with sec := { d.sec with fwOpen := some other } }).fwDone 0
    else if cmd = 2 then ({ d with sec := { d.sec with fwBusy := true, fwUnread := fails } }).setFlag 0x2160 1 15 true
    else if cmd = 3 then
      ({ d with nv := { d.nv with activeB := other, trial := true } }).fwDone 0
    else if cmd = 4 then
      ({ d with nv := { d.nv with activeB := d.sec.runningB, trial := false, trialStarted := false } }).fwDone 0
    else if cmd = 5 then d.fwDone 0
    else
      let b := d.sec.fwOpen.getD other
      let d := d.setFwSlot b { d.fwSlot b with state := 2 }
      ({ d with sec := { d.sec with fwOpen := none, fwBusy := false, fwUnread := false } }).fwDone 0

/-- A FW_COMMAND of a fixed value. -/
def fwWr (path : Transport) (cmd : Nat) : Wr := { path := path, len := 1, value := word cmd }

/-- The fuses after FW_COMMAND: RAISE_VERSION raises FW_SECURITY_MIN to the running firmware's version. -/
def blowFw (f : Fuses) (d : Dev) (w : Wr) : Fuses :=
  if objFwCommand.num w = 5 then { f with fwMin := d.runningFw.security } else f

/-- FW_COMMAND as a row. -/
def fwCommand (path : Transport) (cmd : Nat) (s : State) (fails : Bool := false) : State :=
  fuseWrite objFwCommand (actFwCommand s.fuses fails) blowFw 0x2160 3 (fwWr path cmd) s

/-- FW_OPEN (R386). -/
def execFwOpen (path : Transport) (s : State) : Host.Outcome State Fault Refusal := .next (fwCommand path 1 s)

/-- FW_VERIFY: the check of the open slot begins (R386). -/
def execFwVerify (r : FwRead) (s : State) : Host.Outcome State Fault Refusal := .next (fwCommand r.path 2 s r.fails)

/-- FW_ACTIVATE (R386). -/
def execFwActivate (path : Transport) (s : State) : Host.Outcome State Fault Refusal := .next (fwCommand path 3 s)

/-- FW_CONFIRM (R386). -/
def execFwConfirm (path : Transport) (s : State) : Host.Outcome State Fault Refusal := .next (fwCommand path 4 s)

/-- FW_RAISE_VERSION (R386). -/
def execFwRaiseVersion (path : Transport) (s : State) : Host.Outcome State Fault Refusal := .next (fwCommand path 5 s)

/-- FW_ABANDON (R386). -/
def execFwAbandon (path : Transport) (s : State) : Host.Outcome State Fault Refusal := .next (fwCommand path 6 s)

/-- FW_DATA with no open slot, or while it is checked, changes nothing. -/
def actFwData : Act where
  apply := fun d w =>
    match d.sec.fwOpen with
    | some b =>
      if d.sec.fwBusy then d
      else
        let x := d.fwSlot b
        let first := x.data.length / 65536
        let data := (x.data ++ w.bytes).take 8388609
        (d.setFwSlot b { x with data := data }).touchUnits (6880 + 128 * b.toNat + first) (min 128 (unitsOf data.length) - first)
    | none => d

/-- FW_DATA (R386). -/
def execFwData (w : Wr) (s : State) : Host.Outcome State Fault Refusal :=
  onDev (rowWrite objFwData actFwData 0x2161 0 w) s

/-- FW_VERIFY_COMPLETE: the open slot becomes valid, or invalid with its reason, which is logged (R386, R391); a line of it that
cannot be corrected makes it invalid (R349). -/
def execFwVerifyComplete (s : State) : Host.Outcome State Fault Refusal :=
  onDev (fun d =>
    match d.sec.fwOpen with
    | some b =>
      if !d.sec.fwBusy then d
      else
        let l := (d.fwSlot b).data
        let code := if d.sec.fwUnread then 0x0263 else fwFault s.fuses l
        let x := checkedFw s.fuses l
        let d := (d.setFwSlot b (if d.sec.fwUnread then { x with state := 2 } else x)).touchUnits (6880 + 128 * b.toNat)
          (min 128 (unitsOf l.length))
        let d := if code = 0 then d else d.log code 0x2160 0
        ({ d with sec := { d.sec with fwOpen := none, fwBusy := false, fwUnread := false } }).fwDone code
    | none => d) s

def execFwAck (w : Wr) (s : State) : Host.Outcome State Fault Refusal :=
  onDev (rowWrite objFwAck (ackAct objFwAck 0x2160 1 14) 0x2160 2 w) s

/-- FW_RESCUE: in a BOOT held for want of firmware, an image is written into slot A over JTAG and checked; BOOT then restarts (R388). -/
def execFwRescue (image : List Byte) (s : State) : Host.Outcome State Fault Refusal :=
  onDev (fun d =>
    if !d.tapOn then d
    else
      let d := d.tapInstr .fwRescue
      if d.core.state != .boot || d.core.bootReason = 0 then d
      else
        let d := d.setFwSlot false (checkedFw s.fuses image)
        { d with core := { d.core with bootReason := if fwFault s.fuses image = 0 then 0 else 0x0254 } }) s

end Sys2Proof.Machine
end

