-- ==== Sys2Proof/Machine/Cascade.lean ====
section
/-! DEFINITION. The cascade ring (R289 to R313): cells, links, election, alignment, broadcasts, threads, removal and recovery. -/

namespace Sys2Proof.Machine

/-! ### Role and membership (R294) -/

/-- A change of role or membership counts in SEQ (R313). -/
def Dev.ringChange (d : Dev) : Dev := d.complete 0x2400 1 15 none

/-- ROLE takes a value. -/
def Dev.setRole (d : Dev) (r : Nat) : Dev :=
  if d.role = r then d else (d.wr 0x2400 1 (setBits (d.rd 0x2400 1) 14 12 r)).ringChange

/-- The master known, or none (CASCADE_MASTER, MASTER_ID). -/
def Dev.setMaster (d : Dev) (m : Option Nat) : Dev :=
  (d.wrN 0x2400 9 (m.getD 0xFF)).wr 0x2400 1 (setBits (d.rd 0x2400 1) 11 8 (m.getD 0))

/-- This member reports LOCKED, or no longer does (R299). -/
def Dev.setLocked (d : Dev) (b : Bool) : Dev :=
  let own : BitVec 16 := BitVec.ofNat 16 (2 ^ d.core.cascadeId)
  let l := d.cascade.locked
  ({ d with cascade := { d.cascade with locked := if b then l ||| own else l &&& ~~~own } }).setFlag 0x2400 1 0 b

/-- The member becomes ALONE: no ring, no master known (R294). One that lost its links keeps its time in holdover (R298). -/
def Dev.setAlone (d : Dev) : Dev :=
  let held := d.role = 1 || d.role = 2
  let d := { d with cascade := { d.cascade with
    locked := 0, leaving := false, handover := false, owing := false, notches := [] } }
  let d := (d.setMaster none).setFlag 0x2400 1 0 false
  let d := if held then d.setFlag 0x2400 1 1 true else d
  ((d.wrN 0x2400 3 0).wrN 0x2400 4 0).setRole 0

/-- This member is healthy (R294): among other things its TREF_0 has edges and agrees with the ring's. -/
def Dev.healthy (d : Dev) : Bool :=
  (match d.core.state with
    | .unconfigured | .fitting | .run | .folded => true
    | _ => false) &&
    !bit (d.rd 0x2400 1) 2 && d.rdN 0x2400 6 == 1 && d.env.tref.getLsbD 0 && !d.cascade.foreign

/-- A master gives its role up: a release cell in both directions, and the role is handed over (R296). -/
def Dev.release (d : Dev) : Dev :=
  let d := ((d.broadcast 6 d.core.cascadeId).setRole 2).setMaster none
  { d with cascade := { d.cascade with handover := true } }

/-- This member can hold no role but ALONE any more; a master releases its role first (R293, R296, R311). -/
def Dev.dropOut (d : Dev) : Dev := (if d.isMaster then d.release else d).setAlone

/-- Two members report one CASCADE_ID (R293). -/
def Dev.duplicateId (d : Dev) : Dev :=
  if bit (d.rd 0x2400 1) 2 then d else ((d.setFlag 0x2400 1 2 true).log 0x0A01 0x2400 0).dropOut

/-- The TREF_0 of this member is not the ring's (R311). -/
def Dev.goForeign (d : Dev) : Dev :=
  (({ d with cascade := { d.cascade with foreign := true } }).log 0x0A07 0x2400 0).dropOut

/-- The membership that the ring reports. -/
def Dev.takeView (d : Dev) (v : RingView) : Dev :=
  let changed := d.rdN 0x2400 3 != v.members.toNat
  let c := d.cascade
  let d := { d with cascade := { c with locked := v.locked, unconfigured := v.unconfigured, widenReady := v.ready } }
  let d := ((d.wrN 0x2400 3 v.members.toNat).wrN 0x2400 4 v.healthy.toNat).setFlag 0x2400 1 3 v.wrapped
  if changed then d.ringChange else d

/-- The lowest CASCADE_ID that is healthy and LOCKED by the last report. -/
def Dev.bestMember (d : Dev) : Option Nat :=
  (List.range 16).find? (fun i => (d.rdN 0x2400 4).testBit i && d.cascade.locked.getLsbD i)

/-- A healthy member that reports LOCKED has a lower CASCADE_ID than this master (R296). -/
def Dev.outranked (d : Dev) : Bool := d.bestMember.any (fun m => m < d.core.cascadeId)

/-- A cascade notch of the master's own accord: issued, or owed until the ring is established (R295, R302). -/
def Dev.ownNotch (d : Dev) : Dev :=
  if d.established then d.issueNotch (d.core.time + d.notchLead)
  else { d with cascade := { d.cascade with owing := true } }

/-! ### Threads of this member (R305) -/

/-- THREAD_MAP of thread i: t eastward, 16 + t westward. -/
def Dev.threadMap (d : Dev) (i : Nat) : Word := d.rd (0x2410 + i) 2

/-- This member sends, or receives, on thread i. -/
def Dev.threadSource (d : Dev) (i : Nat) : Bool := bit (d.threadMap i) 31 && bits (d.threadMap i) 15 12 == d.core.cascadeId
def Dev.threadDest (d : Dev) (i : Nat) : Bool := bit (d.threadMap i) 31 && bits (d.threadMap i) 11 8 == d.core.cascadeId

/-- The threads that leave by a port stop: their route has changed, and they are to be resealed (R308 step 1). -/
def Dev.sealThreads (d : Dev) (east : Bool) : Dev :=
  forEach 16 (fun t e =>
    let i := t + (if east then 0 else 16)
    if e.threadSource i then e.setThread i { e.thread i with sealing := true } else e) d

/-! ### Links (R290 to R292, R301) -/

/-- Subindex of EAST_LINK or WEST_LINK. -/
def linkSub (east : Bool) : Nat := if east then 1 else 2

/-- The ring runs in the states of R290. -/
def Dev.ringRuns (d : Dev) : Bool := d.thimble

/-- The conditions of R291 for a link to be up. -/
def LinkSt.sound (x : LinkSt) : Bool :=
  x.view.lanes == BitVec.allOnes 8 && x.view.answers && x.view.farUp && (x.failed.filter (fun b => b)).length < 16

/-- The receive island of a link without a clock any more has stopped; one that has got a clock runs (R13, R15). -/
def Dev.receiveIslands (d : Dev) : Dev :=
  (d.markStopped (fun n => (n = 108 || n = 110) && !d.islandOn n)).markRan (fun n => (n = 108 || n = 110) && d.islandOn n)

/-- A recovery stream that travelled over an opening link is broken: one being sent eastward, or one being received, which is then
truncated (R292, R312). -/
def Dev.breakStream (d : Dev) (east : Bool) : Dev :=
  if east then { d with cascade := { d.cascade with broken := d.cascade.broken || !d.cascade.recover.isEmpty } }
  else match d.loading with
    | some l => if l.source = .recovery then (d.truncate l).log 0x0A51 0x2450 0 else d
    | none => d

/-- This end of a link wraps (R292): the link is open, threads that left by it are to be resealed. With both links open the member is ALONE. -/
def Dev.wrap (d : Dev) (east : Bool) : Dev :=
  let d := d.setLink east { wrapped := true, view := (d.link east).view, failed := (d.link east).failed }
  let d := (d.wrN 0x2401 (linkSub east) (2 ^ 30)).wrN 0x2401 (linkSub east + 4) 0xFF
  let d := ((d.setFlag 0x2400 1 3 true).sealThreads east).receiveIslands
  if (d.link (!east)).up then d else d.setAlone

/-- A link is found open (R291, R292). -/
def Dev.openLink (d : Dev) (east : Bool) : Dev := ((d.breakStream east).logNotify 0x0A02 0x2401 0).wrap east

/-- A cell's CRC is checked as it arrives: the last 1,024 are judged, and a failing one is counted (R291). -/
def Dev.judgeCell (d : Dev) (east ok : Bool) : Dev :=
  let x := d.link east
  let d := d.setLink east { x with failed := ((!ok) :: x.failed).take 1024 }
  if ok then d else d.count 0x2401 (if east then 3 else 4) 32 1

/-- A cascade-wide value that the master distributes is staged for the cascade notch that it names (R22, R313). -/
def Dev.takeShared (d : Dev) (body : Nat) : Dev :=
  let idx := body / 2 ^ 72 % 2 ^ 16
  let sub := body / 2 ^ 64 % 2 ^ 8
  match findDesc idx sub with
  | some o => if o.scope = .cascade && idx < 0x2440 then d.stage idx sub (.word (word (body % 2 ^ 64))) .cascade else d
  | none => d

/-- What a cell of a kind without a row of its own does here: a timing cell is answered on its link (R299), a neighbour that leaves
is wrapped off at the next cascade notch (R310), a cascade-wide value of the master is staged (R313). -/
def Dev.cellActs (d : Dev) (fromEast : Bool) (c : Cell) : Dev :=
  if c.type = 12 then
    if c.dest ≠ d.core.cascadeId then d
    else d.emit (.cell fromEast {
      type := 13, source := d.core.cascadeId, dest := c.source, body := BitVec.ofNat 256 (d.core.time % 2 ^ 64) })
  else if c.type = 8 then
    if c.source = d.rdN 0x2401 (linkSub fromEast + 4) then d.setLink fromEast { d.link fromEast with leaveDue := true } else d
  else if c.type = 15 && (d.role = 1 || d.role = 2) && c.source = d.rdN 0x2400 9 then d.takeShared c.body.toNat
  else d

/-- CELL_FORWARD: a cell arrives. One that fails its CRC is lost, and the sixteenth of 1,024 opens the link (R291). One that is not for this
member goes on in its direction of travel, or back where that port is open (R290, R292); one that this member has sent ends here. -/
def execCellForward (fromEast : Bool) (c : Cell) (s : State) : Host.Outcome State Fault Refusal :=
  onDev (fun d =>
    if !d.ringRuns then d
    else
      let up := (d.link fromEast).up
      let d := d.judgeCell fromEast c.crcOk
      if !up then d
      else if !c.crcOk then (if (d.link fromEast).sound then d else d.openLink fromEast)
      else if c.source = d.core.cascadeId then d
      else
        let d := if c.dest = d.core.cascadeId then d else d.sendCell (!fromEast) c
        d.cellActs fromEast c) s

/-- LINK_OPEN: a condition of R291 fails, and this end wraps (R292). -/
def execLinkOpen (l : LinkReport) (s : State) : Host.Outcome State Fault Refusal :=
  onDev (fun d =>
    if !d.ringRuns || !(d.link l.east).up then d
    else
      let d := d.setLink l.east { d.link l.east with view := l.view }
      if (d.link l.east).sound then d else d.openLink l.east) s

/-- Device time is stepped to the cascade's, while every shuttle is HALTED (R301). -/
def Dev.stepTime (d : Dev) (time : Option Nat) : Dev :=
  match time with
  | some t =>
    if d.allHalted then
      { d with core := { d.core with time := t }, cascade := { d.cascade with phase := 0, corrected := t } }
    else d
  | none => d

/-- This member enters JOINING, to be aligned: stepped while every shuttle is HALTED, else slewed (R297, R301). -/
def Dev.join (d : Dev) (time : Option Nat) : Dev := ((d.setLocked false).stepTime time).setRole 1

/-- LINK_UP: the conditions of R291 hold, and a link comes up. A member enters JOINING (R301), but for the master, which every other
one is aligned to (DEDUCED, entry 65); a duplicate CASCADE_ID (R293), or a TREF_0 that is not the ring's (R311), leaves it ALONE. -/
def execLinkUp (l : LinkReport) (peer : Fin 16) (delay : BitVec 30) (time : Option Nat) (freqOk : Bool) (s : State) :
    Host.Outcome State Fault Refusal :=
  onDev (fun d =>
    if !d.ringRuns || (d.link l.east).up then d
    else
      let x := { d.link l.east with view := l.view }
      if !x.sound then d.setLink l.east x
      else
        let d := d.setLink l.east { x with up := true, delays := [] }
        let d := (d.wrN 0x2401 (linkSub l.east) (2 ^ 31 + x.wrapped.toNat * 2 ^ 30 + delay.toNat)).wrN 0x2401 (linkSub l.east + 4)
          peer.val
        let d := d.receiveIslands
        if !freqOk then d.goForeign
        else
          let d := { d with cascade := { d.cascade with foreign := false } }
          if peer.val = d.core.cascadeId then d.duplicateId
          else if d.role = 3 || bit (d.rd 0x2400 1) 2 then d
          else d.join time) s

/-- LINK_STABLE: a wrapped link has been up for 100 µs; it unwraps at the next cascade notch (R292). -/
def execLinkStable (east : Bool) (s : State) : Host.Outcome State Fault Refusal :=
  onDev (fun d =>
    let x := d.link east
    if x.up && x.wrapped then d.setLink east { x with unwrapDue := true } else d) s

/-- A link that is due unwraps; the threads that leave by it are to be resealed (R292, R308). -/
def Dev.unwrap (d : Dev) (east : Bool) : Dev :=
  let x := d.link east
  if !x.unwrapDue || !x.up then d
  else
    let d := d.setLink east { x with wrapped := false, unwrapDue := false }
    let d := ((d.setFlag 0x2401 (linkSub east) 30 false).log 0x0A03 0x2401 0).sealThreads east
    if (d.link (!east)).wrapped then d else d.setFlag 0x2400 1 3 false

/-! ### Election (R295 to R297) -/

/-- Body of a heartbeat: master, sequence number, device time, membership. -/
def heartbeatBody (master seq time members : Nat) : Nat :=
  ((master * 2 ^ 32 + seq % 2 ^ 32) * 2 ^ 64 + time % 2 ^ 64) * 2 ^ 16 + members

/-- The master's heartbeat and time sync in both directions. -/
def Dev.heartbeat (d : Dev) : Dev :=
  let n := (d.cascade.heartbeatSeq + 1) % 2 ^ 32
  let d := { d with cascade := { d.cascade with heartbeatSeq := n } }
  (d.broadcast 0 (heartbeatBody d.core.cascadeId n d.core.time (d.rdN 0x2400 3))).broadcast 1 (d.core.time % 2 ^ 64)

/-- The cascade notch that a master owes, or that a member outranking it calls for, is issued once the ring is established (R295, R296,
R302). -/
def Dev.payNotch (d : Dev) : Dev :=
  if d.established && (d.cascade.owing || (d.outranked && d.cascade.notches.isEmpty)) then
    ({ d with cascade := { d.cascade with owing := false } }).issueNotch (d.core.time + d.notchLead)
  else d

/-- HEARTBEAT_SEND: the master's view of the ring goes out with its heartbeat (R295). -/
def execHeartbeatSend (v : RingView) (s : State) : Host.Outcome State Fault Refusal :=
  onDev (fun d => if d.ringRuns && d.isMaster then (d.takeView v).heartbeat.payNotch else d) s

/-- What a heartbeat says to a member of the ring: the master, whose time sync ends a holdover, and the membership. Where two segments meet,
the master with the lower CASCADE_ID stays, and the members of the other segment go to JOINING (R295, R297). -/
def Dev.hearMaster (d : Dev) (master : Nat) (time : Nat) (v : RingView) : Dev :=
  let known := d.rdN 0x2400 9
  if known < master && known ≠ 0xFF then d
  else
    let d := if known ≠ 0xFF && known ≠ master then d.join (some time) else d
    ((d.setMaster (some master)).setFlag 0x2400 1 1 false).takeView v

/-- HEARTBEAT_RECEIVE: a heartbeat goes on in its direction of travel, unless it is this member's own, and is taken (R293, R295, R297).
time is the device time that it carries plus the delays of its path; duplicate says that another member reports this CASCADE_ID. -/
def execHeartbeatReceive (fromEast : Bool) (master : Fin 16) (seq : BitVec 32) (time : BitVec 64) (v : RingView) (duplicate : Bool)
    (s : State) : Host.Outcome State Fault Refusal :=
  onDev (fun d =>
    if !d.ringRuns || !(d.link fromEast).up then d
    else
      let c : Cell := { type := 0, source := master.val, dest := 16,
                        body := BitVec.ofNat 256 (heartbeatBody master.val seq.toNat time.toNat v.members.toNat) }
      if duplicate then (d.sendCell (!fromEast) c).duplicateId
      else if master.val = d.core.cascadeId then d
      else
        let d := d.sendCell (!fromEast) c
        if d.cascade.foreign || d.role = 0 then d else d.hearMaster master.val time.toNat v) s

/-- MASTER_LOST: no heartbeat for 13 µs; device time goes on in holdover (R295, R298). -/
def execMasterLost (s : State) : Host.Outcome State Fault Refusal :=
  onDev (fun d =>
    if !d.ringRuns || d.isMaster || d.role = 0 || d.rdN 0x2400 9 = 0xFF then d
    else (d.setMaster none).setFlag 0x2400 1 1 true) s

/-- LOCKED is given up until 64 exchanges on each link have confirmed the offset to a new master (R295 step 5). -/
def Dev.confirmMaster (d : Dev) : Dev :=
  let d := d.setLocked false
  let d := d.setLink true { d.link true with confirm := if (d.link true).up then 64 else 0 }
  d.setLink false { d.link false with confirm := if (d.link false).up then 64 else 0 }

/-- A claim is accepted: the claimant is master, with 0x0A04 after a loss and 0x0A05 after a handover (R295, R296). -/
def Dev.acceptClaim (d : Dev) (m : Nat) : Dev :=
  let lost := bit (d.rd 0x2400 1) 1
  let passed := d.cascade.handover
  let d := { d with cascade := { d.cascade with handover := false } }
  let d := (d.setMaster (some m)).setFlag 0x2400 1 1 false
  let d := if passed then d.log 0x0A05 0x2400 0 else if lost then d.logNotify 0x0A04 0x2400 0 else d
  if m = d.core.cascadeId then (((d.setLocked true).wrN 0x2400 8 0).setRole 3).heartbeat
  else
    let d := if passed || lost then d.confirmMaster else d
    if d.role = 3 then d.setRole 2 else d

/-- This member is the candidate of R295 step 2: healthy, and no healthy member of the last membership map that is not gone has a lower
CASCADE_ID. -/
def Dev.candidate (d : Dev) (gone : BitVec 16) : Bool :=
  d.healthy && (List.range d.core.cascadeId).all (fun m =>
    !((d.rdN 0x2400 3).testBit m && (d.rdN 0x2400 4).testBit m) || gone.getLsbD m)

/-- MASTER_CLAIM: a claim is sent by this member or received from another. x.gone names the members of the last map that this
member's segment no longer reaches, the lost master among them; objected says that a healthy member with a lower CASCADE_ID
objects. A member that objects sends its own claim (R295). -/
def execMasterClaim (x : Claim) (objected : Bool) (s : State) : Host.Outcome State Fault Refusal :=
  onDev (fun d =>
    if !d.ringRuns || d.role = 0 || d.rdN 0x2400 9 ≠ 0xFF then d
    else if x.claimant.val = d.core.cascadeId then
      if !d.candidate x.gone then d
      else
        let d := d.broadcast 5 x.claimant.val
        if objected then d else d.acceptClaim x.claimant.val
    else if d.healthy && d.core.cascadeId < x.claimant.val then d.broadcast 5 d.core.cascadeId
    else if objected then d else d.acceptClaim x.claimant.val) s

/-- MASTER_RELEASE: a master that is no longer healthy sends a release, or the known master's release arrives; its role is handed over
(R296). -/
def execMasterRelease (source : Fin 16) (s : State) : Host.Outcome State Fault Refusal :=
  onDev (fun d =>
    let own := source.val = d.core.cascadeId
    if !d.ringRuns then d
    else if own && d.isMaster && !d.healthy then d.release
    else if !own && d.rdN 0x2400 9 = source.val then
      { d.setMaster none with cascade := { d.cascade with handover := true } }
    else d) s

/-! ### Alignment (R299, R301) -/

/-- One-way delay of an exchange in units of 125 fs, LINK_ASYMMETRY in 250 fs steps included (R299); the four times are in
steps of 250 fs. -/
def exchangeDelay (t1 t2 t3 t4 asymmetry : Int) : Int := (t4 - t1) - (t3 - t2) + asymmetry

/-- The correction, in fs, of an offset to the master: all of it while every shuttle is HALTED, else a slew of at most 0.25 ps for each µs
since the last correction (R299). -/
def Dev.correction (d : Dev) (offset : Int) : Int :=
  if d.allHalted then -offset
  else
    let most : Int := ((d.core.time - d.cascade.corrected : Nat) : Int) / 4
    max (-most) (min most (-offset))

/-- Device time and the phase of the group PLLs are corrected by an offset to the master (R299): whole ns of device time change only while
every shuttle is HALTED. -/
def Dev.align (d : Dev) (offset : Int) : Dev :=
  let total := d.cascade.phase + d.correction offset
  let t := if d.allHalted then ((d.core.time : Int) + total / 1000000).toNat else d.core.time
  let phase := if d.allHalted then total % 1000000 else total
  { d with core := { d.core with time := t }, cascade := { d.cascade with phase := phase, corrected := t } }

/-- The offset to the master as an exchange finds it (R299): LOCKED follows it, but waits for the exchanges that confirm a new master; then
the correction is made. A JOINING member that locks is in the ring (R294, R301). -/
def Dev.takeOffset (d : Dev) (offset : Int) : Dev :=
  let d := d.wr 0x2400 8 (ofInt 4 offset)
  let near := decide (-2500 ≤ offset) && decide (offset ≤ 2500)
  let d :=
    if !near then
      let was := bit (d.rd 0x2400 1) 0
      let d := d.setLocked false
      if was then d.logNotify 0x0A06 0x2400 0 else d
    else if (d.link true).confirm + (d.link false).confirm = 0 then
      let d := d.setLocked true
      if d.role = 1 then d.setRole 2 else d
    else d
  d.align offset

/-- TIMING_EXCHANGE: this member's timing cell goes out and its answer comes back, which measures the link; d is averaged over the last 4,096
exchanges (R299). A TREF_0 that is not the ring's leaves the member ALONE (R294, R311). -/
def execTimingExchange (east : Bool) (t1 t2 t3 t4 : Int) (m : MasterView) (s : State) : Host.Outcome State Fault Refusal :=
  onDev (fun d =>
    let x := d.link east
    if !d.ringRuns || !x.up || d.role = 0 then d
    else
      let d := d.emit (.cell east {
        type := 12, source := d.core.cascadeId, dest := d.rdN 0x2401 (linkSub east + 4), body := BitVec.ofInt 256 t1 })
      let a := signedOf 2 (d.rd 0x2401 (if east then 7 else 8))
      let l := (exchangeDelay t1 t2 t3 t4 a :: x.delays).take 4096
      let mean := (l.foldl (fun n k => n + k) 0) / (2 * (l.length : Int))
      let d := d.setLink east { x with delays := l, confirm := x.confirm - 1 }
      let d := d.wr 0x2401 (linkSub east) (setBits (d.rd 0x2401 (linkSub east)) 29 0 mean.toNat)
      if !m.freqOk then d.goForeign
      else if d.isMaster || d.rdN 0x2400 9 = 0xFF then d
      else d.takeOffset m.offset) s

/-- TREF_0_PRESENCE_CHANGE: device time counts from TREF_0 while its edges are there, and from the Thimble clock otherwise; only its rate
changes (R427). The cascade transmit PLLs lock to it, or do not, and their islands run or stop (R13, R15, R429). -/
def execTref0PresenceChange (v : Tref0View) (s : State) : Host.Outcome State Fault Refusal :=
  onDev (fun d =>
    let on := v.present && v.locks
    let d := { d with env := { d.env with
      tref := if v.present then d.env.tref ||| 1 else d.env.tref &&& 0xE
      cascadePll := on } }
    let tx (n : Nat) : Bool := n = 109 || n = 111
    if !d.thimble then d
    else if on then d.markRan tx
    else if v.present then (d.markStopped tx).log 0x0150 0x2080 0
    else d.markStopped tx) s

/-! ### Broadcasts (R302 to R304, R467) -/

/-- CASCADE_NOTCH_RECEIVE (R303). -/
def execCascadeNotchReceive (number : BitVec 32) (time : BitVec 64) (s : State) : Host.Outcome State Fault Refusal :=
  onDev (fun d =>
    if !d.ringRuns || d.isMaster || d.role = 0 then d
    else
      let late := time.toNat < d.core.time
      let e : CasEvent := { time := time.toNat, number := number.toNat, late := late }
      let d := { d with cascade := { d.cascade with notchNumber := number.toNat, notches := d.cascade.notches ++ [e] } }
      if late then d.log 0x0A20 0x2400 0 else d) s

/-- A member that leaves is ALONE, its links open (R310); a master releases its role first (R296). -/
def Dev.depart (d : Dev) : Dev :=
  let d := if d.isMaster then d.release else d
  let d := (d.setLink true {}).setLink false {}
  let d := (d.wrN 0x2401 1 0).wrN 0x2401 2 0
  ((d.wrN 0x2401 5 0xFF).wrN 0x2401 6 0xFF).receiveIslands.setAlone

/-- A neighbour that leaves is wrapped off: no cell is lost, and nothing is reported as open (R310 step 3). -/
def Dev.wrapLeft (d : Dev) (east : Bool) : Dev := if (d.link east).leaveDue then d.wrap east else d

/-- What a cascade notch does to the ring itself: links unwrap, a member that leaves is ALONE and its neighbours wrap, and a master gives
its role up for a member with a lower CASCADE_ID, whose claim follows (R292, R296, R310). -/
def Dev.ringNotch (d : Dev) : Dev :=
  let d := (d.unwrap true).unwrap false
  if d.cascade.leaving then d.depart
  else
    let d := (d.wrapLeft true).wrapLeft false
    if d.isMaster && d.outranked then d.release else d

/-- A widened set as the notch finds it; WIDEN_DELAY is its longest fail-vector path and 20 ns (R309). -/
def Dev.takeWiden (d : Dev) (v : WidenView) : Dev :=
  let g := v.group.val
  let d := (d.setWiden g v.members.toNat).wrN (0x2440 + g) 3 (v.path.toNat + 20)
  ({ d with cascade := { d.cascade with widenTrip := tabSet (fun _ => 0) d.cascade.widenTrip g v.trip.toNat } }).recompute g

/-- CASCADE_NOTCH_APPLY: at T the oldest cascade notch takes effect in the device and the cascade scope and in every group whose shuttle
is HALTED; the others take it at their boundaries (R18, R303). -/
def execCascadeNotchApply (sets : List WidenView) (s : State) : Host.Outcome State Fault Refusal :=
  onDev (fun d =>
    match d.cascade.notches.find? (fun e => !e.applied && e.time ≤ d.core.time) with
    | none => d
    | some e =>
      if !d.thimble then d
      else
        let idle (g : Nat) : Bool := (d.shuttle g).state == .halted && !e.groupsDone.getLsbD g
        let groups := maskOf 12 idle
        let m : Marker := {
          time := max e.time d.core.time, groups := groups, device := true, cascade := true, host := false, source := 0xF }
        let d := sets.foldl (fun d v => d.takeWiden v) (d.notchEffect m (.cascade :: m.scopes))
        let d := forEach 12 (fun g d => if groups.testBit g then d.placeMarkers m g else d) d
        let mark (x : CasEvent) : CasEvent :=
          if x = e then { x with applied := true, groupsDone := x.groupsDone ||| BitVec.ofNat 12 groups } else x
        let rest := (d.cascade.notches.map mark).filter (fun x => !(x.applied && x.groupsDone == BitVec.allOnes 12))
        ({ d with cascade := { d.cascade with notches := rest } }).ringNotch) s

/-- CASCADE_SWATCH_RECEIVE (R304). -/
def execCascadeSwatchReceive (number : BitVec 32) (time : BitVec 64) (s : State) : Host.Outcome State Fault Refusal :=
  onDev (fun d => if d.ringRuns && d.role ≠ 0 && !d.isMaster then d.cascadeSwatch number.toNat time.toNat else d) s

/-- A request for a cascade notch: the master issues one, any other member asks for it (R302). -/
def Dev.requestNotch (d : Dev) (what : Nat) : Dev :=
  if d.isMaster then d.issueNotch (d.core.time + d.notchLead) else d.askMaster what d.core.time

/-- CASCADE_REQUEST: LEAVE, of which the neighbours learn by a cell, CASCADE_NOTCH, CASCADE_SWATCH; the last two need an established ring,
and without one LEAVE acts at once (R310, R302, R304). -/
def actCascadeRequest : Act where
  allow := fun d w => if objCascadeRequest.num w ≠ 1 && !d.established then 0x0A11 else 0
  apply := fun d w =>
    let v := objCascadeRequest.num w
    if v = 1 then
      if d.role = 0 then d
      else if !d.established then d.depart
      else (({ d with cascade := { d.cascade with leaving := true } }).broadcast 8 d.core.cascadeId).requestNotch 1
    else if v = 2 then d.requestNotch 2
    else d.routeSwatch 0 0

/-- A CASCADE_REQUEST of a fixed value. -/
def ringWr (path : Transport) (v : Nat) : Wr := { path := path, len := 1, value := word v }

/-- LEAVE (R310). -/
def execLeave (path : Transport) (s : State) : Host.Outcome State Fault Refusal :=
  onDev (rowWrite objCascadeRequest actCascadeRequest 0x2400 5 (ringWr path 1)) s

/-- CASCADE_NOTCH_REQUEST (R302). -/
def execCascadeNotchRequest (path : Transport) (s : State) : Host.Outcome State Fault Refusal :=
  onDev (rowWrite objCascadeRequest actCascadeRequest 0x2400 5 (ringWr path 2)) s

/-- CASCADE_SWATCH (R304). -/
def execCascadeSwatch (path : Transport) (s : State) : Host.Outcome State Fault Refusal :=
  onDev (rowWrite objCascadeRequest actCascadeRequest 0x2400 5 (ringWr path 3)) s

/-- CASCADE_REQUEST_CELL: a request of another member reaches the master, which issues the broadcast. Its time is the acceptance time of the
request there, or the pin time of the boundary of the group named in CASCADE_NOTCH_SOURCE (R302, R304). -/
def execCascadeRequestCell (r : RingRequest) (s : State) : Host.Outcome State Fault Refusal :=
  onDev (fun d =>
    if !d.ringRuns || !d.isMaster || !d.established then d
    else if r.swatch then d.issueSwatch r.time.toNat else d.issueNotch (r.time.toNat + d.notchLead)) s

def execCascadeAck (w : Wr) (s : State) : Host.Outcome State Fault Refusal :=
  onDev (rowWrite objCascadeAck (ackAct objCascadeAck 0x2400 1 15) 0x2400 2 w) s

/-! ### Threads (R305 to R308) -/

/-- Credits and UNREACHABLE of thread i, as THREAD_STATUS shows them. -/
def Dev.putThread (d : Dev) (i : Nat) (x : ThreadSt) : Dev :=
  let st := setBit (setBits (d.rd (0x2410 + i) 1) 7 0 x.credits) 28 x.unreachable
  (d.setThread i x).wr (0x2410 + i) 1 st

/-- To-island half of the transmit hem, to-fabric half of the receive hem, of a direction of travel (R305). -/
def sendHalf (west : Bool) : Nat := if west then 222 else 218
def receiveHalf (west : Bool) : Nat := if west then 217 else 221

/-- An entry of a thread that is not this member's is discarded; 0x0A32 once a window (R305). -/
def Dev.threadDiscard (d : Dev) (i : Nat) : Dev :=
  let x := d.thread i
  if x.sent32 then d else (d.setThread i { x with sent32 := true }).notify 0x0A32 i

/-- THREAD_TOKEN_SEND: the token at the head of a transmit hem goes into the ring for one credit; without one, or while its thread is
being resealed, it waits (R306, R308). An entry with an uncorrectable error is discarded (R150). -/
def execThreadTokenSend (west : Bool) (s : State) : Host.Outcome State Fault Refusal :=
  onDev (fun d =>
    let h := sendHalf west
    let x := d.half h
    match x.head with
    | none => d
    | some e =>
      let i := e.tag.toNat % 16 + (if west then 16 else 0)
      let st := d.thread i
      if !d.islandOn (if west then 111 else 109) then d
      else if e.bad ≠ 0 then d.putHalf h x.pop
      else if !d.threadSource i then (d.putHalf h x.pop).threadDiscard i
      else if st.unreachable || st.sealing || st.credits = 0 then d
      else
        let d := (d.putHalf h x.pop).putThread i { st with credits := st.credits - 1 }
        let c : Cell := {
          type := 32 + i, source := d.core.cascadeId, dest := bits (d.threadMap i) 11 8, body := e.data }
        (d.count (0x2410 + i) 3 32 1).sendCell (!west) c) s

/-- THREAD_TOKEN_RECEIVE: a token is written into the receive hem of its direction, whose room its credit has kept (R305 to R307). In
UNCONFIGURED the hems stay empty (R152), and the token is lost. -/
def execThreadTokenReceive (west : Bool) (thread : Fin 16) (data : BitVec 256) (s : State) : Host.Outcome State Fault Refusal :=
  onDev (fun d =>
    let i := thread.val + (if west then 16 else 0)
    if !d.ringRuns || !d.threadDest i || d.core.state = .unconfigured then d
    else
      let h := receiveHalf west
      (d.putHalf h ((d.half h).put { data := data, tag := BitVec.ofNat 8 thread.val })).count (0x2410 + i) 4 32 1) s

/-- CREDIT_RETURN (R306). -/
def execCreditReturn (i : Fin 32) (s : State) : Host.Outcome State Fault Refusal :=
  onDev (fun d =>
    let x := d.thread i.val
    if d.ringRuns && d.threadSource i.val && x.credits < bits (d.threadMap i.val) 7 0 then
      d.putThread i.val { x with credits := x.credits + 1 }
    else d) s

/-- Tokens lost on a thread since its last reseal: sent and neither received nor counted in THREAD_LOST already (R308 step 4). Each end
knows its own count, and the other's from the report. -/
def Dev.newlyLost (d : Dev) (i : Nat) (sent received : BitVec 32) : Nat :=
  let out := if d.threadSource i then d.rdN (0x2410 + i) 3 else sent.toNat
  let back := if d.threadDest i then d.rdN (0x2410 + i) 4 else received.toNat
  (out + 2 ^ 33 - back - d.rdN (0x2410 + i) 5) % 2 ^ 32

/-- The destination's part of a reseal: it reports the tokens it has received, and a GAP entry with the loss goes into its receive hem (R308
steps 2 and 5). -/
def Dev.resealDest (d : Dev) (i lost : Nat) : Dev :=
  let h := receiveHalf (16 ≤ i)
  let gap : Gap := { count := lost, firstTime := d.core.time }
  let e : HEntry := { data := gapBody gap, tag := BitVec.ofNat 8 (0x80 + i % 16) }
  let d := if d.core.state = .unconfigured then d else d.putHalf h ((d.half h).put e)
  d.sendCell (16 ≤ i) {
    type := 14, source := d.core.cascadeId, dest := bits (d.threadMap i) 15 12
    body := BitVec.ofNat 256 (i * 2 ^ 32 + d.rdN (0x2410 + i) 4) }

/-- THREAD_RESEAL: a route change reseals thread i. The destination reports the tokens that it has received and
those, held, that still lie in its receive hem, the source those that it has sent; present says that the destination is in the ring (R308). -/
def execThreadReseal (i : Fin 32) (held : BitVec 8) (n : SealCount) (present : Bool) (s : State) : Host.Outcome State Fault Refusal :=
  onDev (fun d =>
    let i := i.val
    if !d.ringRuns || !(d.threadSource i || d.threadDest i) then d
    else if !present then
      if d.threadSource i then (d.putThread i { d.thread i with unreachable := true, sealing := false }).logNotify 0x0A32 i 0 else d
    else
      let lost := d.newlyLost i n.sent n.received
      let d := if d.threadSource i then
          d.putThread i { d.thread i with
            credits := bits (d.threadMap i) 7 0 - held.toNat, unreachable := false, sealing := false }
        else d
      let d := d.count (0x2410 + i) 5 32 lost
      let d := if d.threadDest i then d.resealDest i lost else d
      d.log 0x0A31 i 0) s

/-- The credits of every thread to one destination and direction, with thread idx mapped to v, add up to no more than 252 (R306). -/
def creditsFit (d : Dev) (idx : Nat) (v : Word) : Bool :=
  let base := if idx < 0x2420 then 0x2410 else 0x2420
  let map (k : Nat) : Word := if base + k = idx then v else d.nextVal (base + k) 2
  let sum := (List.range 16).foldl (fun n k =>
    let m := map k
    if bit m 31 && bits m 11 8 = bits v 11 8 then n + bits m 7 0 else n) 0
  !bit v 31 || sum ≤ 252

/-! ### Cascade-wide and other objects of the ring (R313) -/

/-- A cascade-wide object is written on the master; an ALONE device is no other member's, and takes it too. -/
def wideAllowed (d : Dev) : Nat := if d.isMaster || d.role = 0 then 0 else 0x0A10

/-- The master distributes a cascade-wide value and names the cascade notch at which it takes effect (R302, R313). -/
def Dev.share (d : Dev) (idx sub : Nat) (v : Word) : Dev :=
  if d.isMaster then (d.broadcast 15 ((idx * 2 ^ 8 + sub) * 2 ^ 64 + v.toNat % 2 ^ 64)).ownNotch else d

/-- An accepted cascade-wide write, with the value distributed. In UNCONFIGURED and FITTING it takes effect here at once (R27); else it is
staged for the cascade notch, or on an ALONE device for the next device notch, which is its own (R294; DESIGN CHOICE, entry 65). -/
def Dev.stageWide (o : Desc) (idx sub : Nat) (d : Dev) (w : Wr) : Dev :=
  let d := if d.immediate then d.applyNow idx sub (o.valOf w)
    else d.stage idx sub (o.valOf w) (if d.role = 0 then .device else .cascade)
  d.share idx sub (o.valueOf w)

def actWide (o : Desc) (idx sub : Nat) : Act where
  allow := fun d _ => wideAllowed d
  apply := Dev.stageWide o idx sub

/-- CASCADE_NOTCH_SOURCE: a member and a group, or 0xFE. -/
def actCascadeSource : Act where
  check := fun _ w => let v := objCascadeNotchSource.num w
    if v ≠ 0xFE && 11 < v % 16 then 0x0B05 else 0
  allow := fun d _ => wideAllowed d
  apply := Dev.stageWide objCascadeNotchSource 0x2403 1

/-- THREAD_MAP: CREDITS 1 to 252 where enabled, and the sum of R306. -/
def actThreadMap (idx : Nat) : Act where
  check := fun d w =>
    let v := objThreadMap.valueOf w
    if bit v 31 && (bits v 7 0 = 0 || 252 < bits v 7 0) then 0x0B06
    else if !creditsFit d idx v then 0x0A30 else 0
  allow := fun d _ => wideAllowed d
  apply := Dev.stageWide objThreadMap idx 2

/-- WIDEN_SET takes effect at the next cascade notch at which its group's shuttle is HALTED, on an ALONE device at such a device notch, and at
once in UNCONFIGURED and FITTING (R27, R309, R313). A group whose policy is HOLD joins no set. -/
def actWidenSet (idx : Nat) : Act where
  check := fun d w =>
    if objWidenSet.num w ≠ 0 && (d.nextVal (0x3100 + (idx - 0x2440)) 0x20).toNat = 1 then 0x0A43 else 0
  apply := fun d w =>
    if d.immediate then d.applyNow idx 2 (objWidenSet.valOf w)
    else d.stage idx 2 (objWidenSet.valOf w) (if d.role = 0 then .device else .cascade)

/-- STARVE_POLICY: HOLD is refused in a widened set (R309). -/
def actStarvePolicy (g : Nat) : Act where
  check := fun d w => if objStarvePolicy.num w = 1 && (d.nextVal (0x2440 + g) 2).toNat ≠ 0 then 0x0A43 else 0
  apply := Dev.stageOrApply objStarvePolicy (0x3100 + g) 0x20

/-! ### Recovery (R312) -/

/-- RECOVER_REQUEST, refused in the three cases of R312; a request while a stream is under way waits its turn (DESIGN CHOICE, entry 65). -/
def actRecoverRequest : Act where
  check := fun _ w => if 9 < bits (objRecoverRequest.valueOf w) 3 0 then 0x0B05 else 0
  allow := fun d w =>
    let v := objRecoverRequest.valueOf w
    if !d.established || (d.slot (bits v 3 0)).state = 0 || !d.cascade.unconfigured.getLsbD (bits v 15 12) then 0x0A50 else 0
  apply := fun d w =>
    let v := objRecoverRequest.valueOf w
    let n := bits v 3 0
    let d := d.touchUnits (slotUnit n) (unitsOf (d.slot n).data.length)
    ({ d with cascade := { d.cascade with recover := d.cascade.recover ++ [(bits v 15 12, n)] } }).setFlag 0x2450 1 15 true

/-- CASCADE_RECOVER (R312). -/
def execCascadeRecover (w : Wr) (s : State) : Host.Outcome State Fault Refusal :=
  onDev (rowWrite objRecoverRequest actRecoverRequest 0x2450 2 w) s

/-- The cells of a recovery stream, 32 bytes each. -/
def Dev.sendSlot (d : Dev) (target n : Nat) : Dev :=
  let l := (d.slot n).data
  forEach ((l.length + 31) / 32) (fun k e =>
    e.sendCell true { type := 9, source := e.core.cascadeId, dest := target, body := BitVec.ofNat 256 (leAt l (32 * k) 32) }) d

/-- CASCADE_RECOVER_COMPLETE: the stream has been sent; or it has broken, which is logged at both ends, and the target treats its image as
truncated (R312). -/
def execCascadeRecoverComplete (broken : Bool) (s : State) : Host.Outcome State Fault Refusal :=
  onDev (fun d =>
    match d.cascade.recover with
    | [] => if broken then d.breakStream false else d
    | (target, n) :: rest =>
      let lost := broken || d.cascade.broken
      let d := { d with cascade := { d.cascade with recover := rest, broken := false } }
      let d := if lost then d.log 0x0A51 0x2450 0 else d.sendSlot target n
      d.complete 0x2450 1 14 (if rest.isEmpty then some 15 else none)) s

end Sys2Proof.Machine
end

