-- ==== Sys2Proof/Machine/Health.lean ====
section
/-! DEFINITION. Safety and health: sensors and thermal limits (R427, R428, R519, R520, R528), timing references (R429), permits, dangerous
faults and proof tests (R507 to R518), and wear (R522 to R526). -/

namespace Sys2Proof.Machine

/-! ### Sensors (R428, R519, R520, R528) -/

/-- The sensors, not excluded yet, that R520 excludes at this reading: outside −40 °C to 150 °C, or more than 20 K from every other
sensor that still counts. -/
def newlyExcluded (excluded : BitVec 16) (t : Nat → Int) : List Nat :=
  let inRange (k : Nat) : Bool := -320 ≤ t k && t k ≤ 1200
  let live := (List.range 16).filter (fun k => !excluded.getLsbD k)
  let sound := live.filter inRange
  live.filter (fun k =>
    let others := sound.filter (fun j => j != k)
    !inRange k || (!others.isEmpty && others.all (fun j => 160 < (t k - t j).natAbs)))

/-- A sensor excluded (R520). -/
def Dev.exclude (d : Dev) (k : Nat) : Dev :=
  let s := d.safety
  let d := { d with safety := { s with excluded := s.excluded ||| BitVec.ofNat 16 (2 ^ k) } }
  d.log 0x0903 k (ofInt 2 (tabGet (fun _ => 0) d.tr.temps k)).toNat

/-- TJ_MAX: the highest temperature of the sensors that count. With none left R520 states no value: it is free (entry 4). -/
def Dev.findTjMax (d : Dev) : Int × Dev :=
  match (List.range 16).filter (fun k => !d.safety.excluded.getLsbD k) with
  | [] =>
    let f := d.free
    (signedOf 2 f.1, f.2)
  | k :: t => (t.foldl (fun a j => max a (d.temperature j)) (d.temperature k), d)

/-- TJ_MAX as last found. -/
def Dev.tjMax (d : Dev) : Int := signedOf 2 (d.rd 0x2020 1)

/-- Voltage monitor k against its band: leaving it is logged with 0x0950, 1 ms back in it with 0x0951, each at most once per second
(R519). -/
def Dev.bandCheck (d : Dev) (k : Nat) : Dev :=
  let band := d.rd 0x2320 (k + 1)
  let mv := tabGet (fun _ => 0) d.tr.volts k
  let x := tabGet (fun _ => ({} : VmonSt)) d.safety.vmon k
  let inside : Bool := bits band 15 0 ≤ mv && mv ≤ bits band 31 16
  let put (e : Dev) (y : VmonSt) : Dev := { e with safety := { e.safety with vmon := tabSet (fun _ => {}) e.safety.vmon k y } }
  let now := d.core.time
  let due (t : Option Nat) : Bool := match t with
    | some t => t + 1000000000 ≤ now
    | none => true
  if !inside then
    if x.out then put d { x with inSince := none }
    else if due x.leftLog then (put d { x with out := true, inSince := none, leftLog := some now }).log 0x0950 k mv
    else put d { x with out := true, inSince := none }
  else if !x.out then d
  else match x.inSince with
    | none => put d { x with inSince := some now }
    | some t =>
      if now < t + 1000000 then d
      else if due x.backLog then (put d { x with out := false, inSince := none, backLog := some now }).log 0x0951 k mv
      else put d { x with out := false, inSince := none }

/-- CAL_STALE by temperature and by VLANE (R249): VLANE of 0.85 V ±3 % is 825 to 875 in whole millivolts. -/
def Dev.driftCheck (d : Dev) : Dev :=
  let off (k : Nat) : Bool :=
    let mv := tabGet (fun _ => 0) d.tr.volts k
    mv < 825 || 875 < mv
  forEach 12 (fun g e =>
    if off 2 || off 3 || 80 < (e.groupTemp g - tabGet (fun _ => 0) e.cal.temp g).natAbs then e.calStale g else e) d

/-- Four or more sensors are excluded (R520). -/
def Dev.blind (d : Dev) : Bool := 4 ≤ ((List.range 16).filter (fun k => d.safety.excluded.getLsbD k)).length

/-- The thermal warning (R528, R520). -/
def Dev.thermalWarning (d : Dev) : Dev :=
  let tj := d.tjMax
  let now := d.core.time
  let cool (e : Dev) (t : Option Nat) : Dev := { e with safety := { e.safety with coolSince := t } }
  if !bit (d.rd 0x2030 1) 14 then
    if d.blind || 896 ≤ tj then
      let d := (((cool d none).setFlag 0x2030 1 14 true).count 0x2030 3 32 1).complete 0x2030 1 15 none
      (d.logNotify 0x0901 0 0).updatePermits
    else d
  else if d.blind || 864 < tj then cool d none
  else match d.safety.coolSince with
    | none => cool d (some now)
    | some t => if now < t + 10000000 then d else ((cool d none).setFlag 0x2030 1 14 false).updatePermits

/-- The device is in a state that a dangerous fault or a trip can leave for SAFE (R30). -/
def Dev.canTrip (d : Dev) : Bool :=
  d.core.state == .unconfigured || d.core.state == .fitting || d.core.state == .run || d.core.state == .folded

/-- The thermal trip at two consecutive readings of 120 °C or more (R528). -/
def Dev.thermalTrip (d : Dev) : Dev :=
  let n := if 960 ≤ d.tjMax then min 2 (d.safety.tripReadings + 1) else 0
  let d := { d with safety := { d.safety with tripReadings := n } }
  if n = 2 && d.canTrip then (d.complete 0x2030 1 15 none).enterSafe 0x0902 0 else d

/-- New readings of the 16 temperature sensors, in units of 0.125 °C, and of the 8 voltage monitors, in mV. -/
def Dev.takeReadings (d : Dev) (temps volts : List (BitVec 16)) : Dev :=
  let t : List (Nat × Int) := (List.range 16).map (fun k => (k, (temps.getD k 0).toInt))
  let v : List (Nat × Nat) := (List.range 8).map (fun k => (k, (volts.getD k 0).toNat))
  { d with tr := { d.tr with
    temps := t.filter (fun p => p.2 != 0)
    volts := v.filter (fun p => p.2 != 0) } }

/-- TJ_MAX and PEAK_TJ follow the readings (R427). -/
def Dev.settleTjMax (d : Dev) : Dev :=
  let r := d.findTjMax
  let d := r.2.wr 0x2020 1 (ofInt 2 r.1)
  let p := match d.env.peakTj with
    | some p => max p r.1
    | none => r.1
  { d with env := { d.env with peakTj := some p } }

/-- SENSOR_UPDATE: the readings are taken in every state in which the Thimble's clock runs; the Thimble acts on them once it runs
itself (R428). -/
def execSensorUpdate (temps volts : List (BitVec 16)) (s : State) : Host.Outcome State Fault Refusal :=
  onDev (fun d =>
    if !d.timeRuns then d
    else
      let d := d.takeReadings temps volts
      if !d.thimble then d.settleTjMax
      else
        let d := (newlyExcluded d.safety.excluded (fun k => tabGet (fun _ => 0) d.tr.temps k)).foldl (fun e k => e.exclude k) d
        let d := forEach 8 (fun k e => e.bandCheck k) d.settleTjMax
        d.driftCheck.thermalWarning.thermalTrip) s

/-- THERMAL_ACK (R400, R427). -/
def execThermalAck (w : Wr) (s : State) : Host.Outcome State Fault Refusal :=
  onDev (rowWrite objThermalAck (ackAct objThermalAck 0x2030 1 15) 0x2030 2 w) s

/-! ### Timing references (R429) -/

def actTrefFrequency (n : Nat) : Act where
  allow := fun d _ => if d.core.state = .unconfigured || d.core.state = .fitting then 0 else 0x0B26
  apply := fun d w => d.wr 0x2080 (1 + n) (objTrefFrequency.valueOf w)

/-- TREF_FREQUENCY_WRITE (R429). -/
def execTrefFrequencyWrite (n : Fin 4) (w : Wr) (s : State) : Host.Outcome State Fault Refusal :=
  onDev (rowWrite objTrefFrequency (actTrefFrequency n.val) 0x2080 (1 + n.val) w) s

/-- The input of group g in a value of GROUP_TREF. -/
def trefOf (v : Word) (g : Nat) : Nat := bits v (2 * g + 1) (2 * g)

/-- GROUP_TREF takes a value: each group whose input changes stops until its PLL locks again, and its CAL_STALE sets (R429). -/
def Dev.setGroupTref (d : Dev) (v : Word) : Dev :=
  let old := d.rd 0x2080 5
  forEach 12 (fun g e =>
    if trefOf old g = trefOf v g then e
    else (if e.tr.plls.getLsbD g then e.clockLost g else e).calStale g) (d.wr 0x2080 5 v)

def actGroupTref : Act where
  allow := fun d w =>
    let v := objGroupTref.valueOf w
    let held : Bool := (List.range 12).any (fun g =>
      trefOf (d.rd 0x2080 5) g != trefOf v g && (d.shuttle g).state != .halted)
    if (d.core.state = .run || d.core.state = .folded) && held then 0x0B26 else 0
  apply := fun d w => d.setGroupTref (objGroupTref.valueOf w)

/-- GROUP_TREF_WRITE (R429). -/
def execGroupTrefWrite (w : Wr) (s : State) : Host.Outcome State Fault Refusal :=
  onDev (rowWrite objGroupTref actGroupTref 0x2080 5 w) s

/-! ### The permit gate (R509) -/

/-- PERMIT_REFRESH: the firmware refreshes the gate; a timeout of it before is logged now that the Thimble runs again. -/
def execPermitRefresh (s : State) : Host.Outcome State Fault Refusal :=
  onDev (fun d =>
    if !d.thimble then d
    else
      let late := d.safety.refreshLate
      let x := { d.safety with refreshed := true, lastRefresh := some d.core.time, refreshLate := false }
      let d := { d with safety := x }
      (if late then d.log 0x0922 0 0 else d).updatePermits) s

/-- PERMIT_GATE_TIMEOUT: 8 µs have passed without a refresh; the gate, supplied from VAUX, withdraws every permit by itself. -/
def execPermitGateTimeout (s : State) : Host.Outcome State Fault Refusal :=
  onDev (fun d =>
    match d.safety.lastRefresh with
    | some t =>
      if d.vaux && d.safety.refreshed && t + 8000 ≤ d.core.time then
        let d := { d with safety := { d.safety with refreshed := false, refreshLate := true } }
        forEach 4 (fun f e => e.withdraw f) d
      else d
    | none => d) s

/-! ### Dangerous faults (R509 to R511, R514) -/

/-- The Thimble's two cores disagree: every permit is withdrawn, then SAFE is entered (R509). -/
def Dev.lockstepFault (d : Dev) : Dev :=
  if d.canTrip then (forEach 4 (fun f e => e.withdraw f) d).enterSafe 0x0920 0 else d

/-- LOCKSTEP_MISMATCH (R509, R510). -/
def execLockstepMismatch (s : State) : Host.Outcome State Fault Refusal := onDev Dev.lockstepFault s

/-- LOCKSTEP_SELF_TEST: the forced mismatch is caught or not (R514). -/
def execLockstepSelfTest (caught : Bool) (s : State) : Host.Outcome State Fault Refusal :=
  onDev (fun d => if caught || !d.thimble then d else d.lockstepFault) s

/-- Lining planes fail: with one left, its traffic moves there; with none, SAFE (R510). -/
def Dev.liningFail (d : Dev) (failed : BitVec 2) : Dev :=
  let old := d.safety.linings
  let left := old &&& ~~~ failed
  let d := { d with safety := { d.safety with linings := left } }
  if left = old then d
  else if left = 0 then d.enterSafe 0x0921 0
  else d.logNotify 0x0923 (if left = 2 then 0 else 1) 0

/-- LINING_PLANE_FAIL (R510). -/
def execLiningPlaneFail (plane : Fin 2) (s : State) : Host.Outcome State Fault Refusal :=
  onDev (fun d => d.liningFail (BitVec.ofNat 2 (2 ^ plane.val))) s

/-- LINING_BOTH_FAIL (R510). -/
def execLiningBothFail (s : State) : Host.Outcome State Fault Refusal := onDev (fun d => d.liningFail 3) s

/-- LINING_TEST: bit p of passed says that plane p carried its token; a plane that did not is removed from use (R514). -/
def execLiningTest (passed : BitVec 2) (s : State) : Host.Outcome State Fault Refusal :=
  onDev (fun d => if d.thimble then d.liningFail (~~~ passed) else d) s

/-! ### Proof tests (R517, R518) -/

/-- The proof test of function f may begin: its permit is granted, or PROOF_DUE is all that withholds it. -/
def Dev.proofReady (d : Dev) (f : Nat) : Bool := d.safety.permits.getLsbD f || d.permitFails f == 4

/-- SAFETY_STATUS completes with the functions that passed and a reason (R400, R517 step 7). -/
def Dev.proofComplete (d : Dev) (passed : BitVec 4) (reason : Nat) : Dev :=
  let d := { d with safety := { d.safety with proof := none } }
  let d := (d.wr 0x3A00 1 (setBits (d.rd 0x3A00 1) 3 0 passed.toNat)).wrN 0x3A00 4 reason
  (d.complete 0x3A00 1 15 (some 14)).updatePermits

/-- The next function of a proof test begins: its permit is withdrawn. With none left the test completes; a function whose permit has
gone in the meantime ends it with 0x0933 (DESIGN CHOICE, entry 43). -/
def Dev.proofNext (d : Dev) (todo passed : BitVec 4) : Dev :=
  match (List.range 4).find? (fun f => todo.getLsbD f) with
  | none => d.proofComplete passed 0
  | some f =>
    if d.proofReady f then ({ d with safety := { d.safety with proof := some (todo, passed) } }).updatePermits
    else d.proofComplete passed 0x0933

def actProofRequest : Act where
  allow := fun d w =>
    let m := objProofRequest.valueOf w
    if bit (d.rd 0x3A00 1) 14 || (List.range 4).any (fun f => bit m f && !d.proofReady f) then 0x0933 else 0
  apply := fun d w => (d.setFlag 0x3A00 1 14 true).proofNext (BitVec.ofNat 4 (objProofRequest.num w)) 0

/-- PROOF_REQUEST (R517). -/
def execProofRequest (w : Wr) (s : State) : Host.Outcome State Fault Refusal :=
  onDev (rowWrite objProofRequest actProofRequest 0x3A00 3 w) s

/-- PROOF_TEST_END: the test of the function at hand passes, or a step finds the wrong level (R517). Outside RUN no function can
pass, and none is at fault (entry 43). -/
def execProofTestEnd (ok : Bool) (s : State) : Host.Outcome State Fault Refusal :=
  onDev (fun d =>
    match d.safety.proof with
    | none => d
    | some (todo, passed) =>
      match (List.range 4).find? (fun f => todo.getLsbD f) with
      | none => d
      | some f =>
        let b : BitVec 4 := BitVec.ofNat 4 (2 ^ f)
        if d.core.state != .run then d.proofComplete passed 0x0933
        else if !ok then (d.proofComplete passed 0x0931).enterSafe 0x0931 f
        else
          let x := d.safety
          let d := { d with safety := { x with
            proof := none, proofWarned := x.proofWarned &&& ~~~ b, proofExpired := x.proofExpired &&& ~~~ b } }
          let d := ((d.wrN (0x3A10 + f) 4 d.core.time).log 0x0932 f 0).updatePermits
          d.proofNext (todo &&& ~~~ b) (passed ||| b)) s

/-- The time in ns to the end of function f's last proof. -/
def Dev.proofEnd (d : Dev) (f : Nat) : Nat := d.rdN (0x3A10 + f) 4 + d.rdN (0x3A10 + f) 3 * 1000000000

/-- PROOF_DUE_WARNING: a tenth of PROOF_INTERVAL before it expires, once (R518). -/
def execProofDueWarning (f : Fin 4) (s : State) : Host.Outcome State Fault Refusal :=
  onDev (fun d =>
    let tenth := d.rdN (0x3A10 + f.val) 3 * 100000000
    if !d.thimble || d.rdN (0x3A10 + f.val) 4 = 0 || d.safety.proofWarned.getLsbD f.val || d.core.time + tenth < d.proofEnd f.val
    then d
    else ({ d with safety := { d.safety with proofWarned := d.safety.proofWarned ||| BitVec.ofNat 4 (2 ^ f.val) } }).notify 0x0930 f.val) s

/-- PROOF_INTERVAL_EXPIRY: the last passing test is older than PROOF_INTERVAL: 0x0930, and the permit goes if PROOF_REQUIRED is set
(R518, R534). -/
def execProofIntervalExpiry (f : Fin 4) (s : State) : Host.Outcome State Fault Refusal :=
  onDev (fun d =>
    if !d.thimble || d.rdN (0x3A10 + f.val) 4 = 0 || d.safety.proofExpired.getLsbD f.val || d.core.time < d.proofEnd f.val then d
    else
      let d := { d with safety := { d.safety with proofExpired := d.safety.proofExpired ||| BitVec.ofNat 4 (2 ^ f.val) } }
      d.updatePermits.notify 0x0930 f.val) s

/-- SAFETY_ACK (R400, R532). -/
def execSafetyAck (w : Wr) (s : State) : Host.Outcome State Fault Refusal :=
  onDev (rowWrite objSafetyAck (ackAct objSafetyAck 0x3A00 1 15) 0x3A00 2 w) s

/-! ### Wear (R522 to R526) -/

/-- f_V × 100 of a VCORE in mV, rounded up to the next row (R522). -/
def wearVolt (mv : Nat) : Nat :=
  if mv ≤ 600 then 25 else if mv ≤ 650 then 40 else if mv ≤ 700 then 63 else if mv ≤ 750 then 100 else if mv ≤ 800 then 180
  else if mv ≤ 850 then 330 else 600

/-- 1,000 × 2 to the power e/2,400: exact where the exponent is a whole number (entry 6). -/
def wearScale (e : Int) : Nat :=
  if e % 2400 = 0 then (if 0 ≤ e then 1000 * 2 ^ (e / 2400).toNat else 1000 / 2 ^ (-e / 2400).toNat) else Config.wearPow e

/-- w in units of 0.00001, from TJ_MAX and the higher VCORE monitor (R522). -/
def Dev.wearNow (d : Dev) : Nat :=
  let mv := max (tabGet (fun _ => 0) d.tr.volts 0) (tabGet (fun _ => 0) d.tr.volts 1)
  wearVolt mv * wearScale ((d.tjMax - 680) * 25 + ((mv - 900 : Nat) : Int) * 96)

/-- WEAR_MODEL_UPDATE: each second from BOOT on adds w ÷ 3,600 wear-hours (R522). -/
def execWearModelUpdate (s : State) : Host.Outcome State Fault Refusal :=
  onDev (fun d =>
    if !d.timeRuns then d
    else
      let w := d.wearNow
      { d with nv := { d.nv with wearModel := d.nv.wearModel + w, wearRates := (w :: d.nv.wearRates).take 86400 } }) s

/-- GAUGE_MEASURE: each gauge's ratio in millionths; the fabric gauges give the measured factor (R523). -/
def execGaugeMeasure (ratios : List (BitVec 32)) (s : State) : Host.Outcome State Fault Refusal :=
  onDev (fun d =>
    if !d.thimble then d
    else
      let a (k : Nat) : Nat := (ratios.getD k 0).toNat
      let d := forEach 76 (fun k e => e.wrN 0x2303 (k + 1) (a k)) d
      d.wrN 0x2300 4 ((List.range 64).foldl (fun m k => max m (a k)) 0)) s

/-- W_model in 0.001 wear-hours. -/
def Dev.wearModelled (d : Dev) : Nat := d.nv.wearModel / 360000

/-- W_meas in 0.001 wear-hours (R524). -/
def Dev.wearMeasured (d : Dev) : Nat := 131400000 * (d.rdN 0x2300 4 - 1000000) ^ 4 / 80000 ^ 4

/-- A value that fits its width in bits, or a free value where the spec states none (entry 4). -/
def Dev.orFree (d : Dev) (width : Nat) (n : Option Nat) : Nat × Dev :=
  match n with
  | some v => if v < 2 ^ width then (v, d) else (d.free.1.toNat % 2 ^ width, d.free.2)
  | none => (d.free.1.toNat % 2 ^ width, d.free.2)

/-- WEAR_CONSUMED in 0.01 %, saturating; of no wear against no limit it is not stated (R526). -/
def Dev.wearConsumed (d : Dev) (used limit : Nat) : Nat × Dev :=
  if limit = 0 then (if used = 0 then d.orFree 16 none else (65535, d)) else (min 65535 (used * 10000 / limit), d)

/-- One notice of wear: WEAR_STATUS completes, and the code is logged and notified (R526, R533, R534). -/
def Dev.wearNotice (d : Dev) (code : Nat) : Dev := (d.complete 0x2300 1 15 none).logNotify code 0 0

/-- The notices of 80 %, 95 % and 100 %, each once for each wear limit (R526). -/
def Dev.wearNotices (d : Dev) (limit consumed : Nat) : Dev :=
  let sent := tabGet (fun _ => 0) d.nv.wearSent limit
  let level := if 10000 ≤ consumed then 3 else if 9500 ≤ consumed then 2 else if 8000 ≤ consumed then 1 else 0
  if level ≤ sent then d
  else
    let d := { d with nv := { d.nv with wearSent := tabSet (fun _ => 0) d.nv.wearSent limit level } }
    let d := if sent < 1 then d.wearNotice 0x0940 else d
    let d := if sent < 2 && 2 ≤ level then d.wearNotice 0x0941 else d
    if level = 3 then d.wearNotice 0x0941 else d

/-- WEAR_PREDICTION (R526). -/
def execWearPrediction (s : State) : Host.Outcome State Fault Refusal :=
  onDev (fun d =>
    if !d.thimble then d
    else
      let used := max d.wearModelled d.wearMeasured
      let limit := wearLimit (d.rdN 0x2300 9)
      let c := d.wearConsumed used limit
      let d := c.2.wrN 0x2300 6 c.1
      let n := d.nv.wearRates.length
      let sum := d.nv.wearRates.foldl (fun a w => a + w) 0
      let rate := d.orFree 32 (if n = 0 then none else some (sum / n / 100))
      let d := rate.2.wrN 0x2300 8 rate.1
      let left := d.orFree 32
        (if 10000 ≤ c.1 then some 0 else if sum = 0 then none else some ((limit - used) * 100 * n / sum))
      (left.2.wrN 0x2300 7 left.1).wearNotices limit c.1) s

def actWearHeadroom : Act where
  apply := fun d w => d.setHeadroom (objWearHeadroom.valueOf w)

/-- WEAR_HEADROOM_WRITE (R525). -/
def execWearHeadroomWrite (w : Wr) (s : State) : Host.Outcome State Fault Refusal :=
  onDev (rowWrite objWearHeadroom actWearHeadroom 0x2300 9 w) s

/-- WEAR_ACK (R400, R533). -/
def execWearAck (w : Wr) (s : State) : Host.Outcome State Fault Refusal :=
  onDev (rowWrite objWearAck (ackAct objWearAck 0x2300 1 15) 0x2300 2 w) s

end Sys2Proof.Machine
end

