-- ==== Sys2Proof/Machine/Power.lean ====
section
/-! DEFINITION. Power, reset and the requests that change the device state (R29 to R35, R113, R537, R559): rails, RESET_N, the hold, BOOT
and its firmware, and the writes of STATE_REQUEST and STATE_ACK. -/

namespace Sys2Proof.Machine

/-! ### Supplies and reset (R537, R559) -/

/-- What runs from power-on starts afresh (R173, R181, R427, R461, R472). -/
def Dev.powerOn (d : Dev) : Dev :=
  let d := { d with regs := d.regs.filter (fun r => (keptReg r).isNone) }
  let d := { d with tally := { d.tally with dumps := 0 }, swatch := { d.swatch with number := 0 } }
  { (d.wrN 0x2030 3 0).wrN 0x2000 1 0 with env := { d.env with peakTj := none } }

/-- Every rail is up. -/
def Dev.allRails (d : Dev) : Bool := d.env.rails == BitVec.allOnes 6

/-- POWER_ON_RESET: rail r rises through its power-on threshold. From OFF the first rail brings RESET, and the device is held there while
a rail is down (R280); powered, only an armed detector acts (R30, R113, R537). VAUX takes with it what runs from power-on (entry 10). -/
def execPowerOnReset (r : Fin 6) (s : State) : Host.Outcome State Fault Refusal :=
  onDev (fun d =>
    let rails := d.env.rails ||| BitVec.ofNat 6 (2 ^ r.val)
    if rails = d.env.rails then d
    else
      let armed := d.env.armed.getLsbD r.val
      let d := { d with env := { d.env with rails := rails } }
      let hold := d.allRails && d.env.resetN
      if d.core.state = .off then d.powerOn.enterReset 0x0B70 hold
      else if !armed then d
      else if r.val ≠ 5 then d.enterReset 0x0B70 hold
      else
        let d := d.powerOn
        ({ d with core := { d.core with state := if d.core.state = DevState.reset then .off else d.core.state } }).enterReset 0x0B70 hold) s

/-- SUPPLY_REMOVAL: every rail is gone; only what the wardrobe, the battery and the outside hold stays (R30). -/
def execSupplyRemoval (s : State) : Host.Outcome State Fault Refusal :=
  onDev (fun d =>
    let d := d.rebuilt
    { d with core := { d.core with state := .off }, env := { d.env with rails := 0, armed := BitVec.allOnes 6 } }) s

/-- RAIL_FALL: a rail other than VAUX falls below its threshold; its detector arms, and nothing more (R559). -/
def execRailFall (r : Fin 5) (s : State) : Host.Outcome State Fault Refusal :=
  onDev (fun d =>
    let b : BitVec 6 := BitVec.ofNat 6 (2 ^ r.val)
    { d with env := { d.env with rails := d.env.rails &&& ~~~ b, armed := d.env.armed ||| b } }) s

/-- VAUX_FALL: the Thimble stops, every permit goes and the SAFE drivers lose their supply; the state stays (R34, R276). -/
def execVauxFall (s : State) : Host.Outcome State Fault Refusal :=
  onDev (fun d =>
    let b : BitVec 6 := BitVec.ofNat 6 32
    let d := { d with
      env := { d.env with rails := d.env.rails &&& ~~~ b, armed := d.env.armed ||| b }
      safety := { d.safety with refreshed := false } }
    forEach 4 (fun f e => (e.withdraw f).dropBalls f) d) s

/-- RESET_N_ASSERT: RESET from any powered state (R537). -/
def execResetNAssert (s : State) : Host.Outcome State Fault Refusal :=
  onDev (fun d =>
    let d := { d with env := { d.env with resetN := false } }
    if d.core.state = .off then d else d.enterReset 0x0B71 false) s

/-- RESET_N_RELEASE: one cause of RESET ends, and the hold is counted from it (R537). -/
def execResetNRelease (s : State) : Host.Outcome State Fault Refusal :=
  onDev (fun d =>
    let d := { d with env := { d.env with resetN := true } }
    if d.core.state = .reset then { d with core := { d.core with holdRunning := true } } else d) s

/-- The bit rates of 0x2070 take effect; with the internal oscillator 125 kbit/s without bit-rate switching (R406). -/
def Dev.applyRates (d : Dev) : Dev :=
  if d.core.mgmtExt then { d with tr := { d.tr with nominal := d.rdN 0x2070 1, dataRate := d.rdN 0x2070 2 } }
  else { d with tr := { d.tr with nominal := 125, dataRate := 0 } }

/-- LC_STATE as the fuses have it: bit 7 of a transition whose state fuse is not blown (R376). -/
def Fuses.lcState (f : Fuses) : Nat := f.lifecycle + (if f.lcBegin.isSome then 128 else 0)

/-- The spares of the fuse map, and those of the soft-repair map that are not in use yet, are switched in (R170, R180, R181). -/
def Dev.applySpares (d : Dev) (f : Fuses) : Dev :=
  let fused := f.blockSpares.foldl (fun (e : Dev) x =>
    let idx := 0x4800 + x.1
    e.wr idx 8 (setBits (setBits (e.rd idx 8) 15 12 x.2.1) 7 6 x.2.2)) d
  d.nv.softMap.foldl (fun (e : Dev) x =>
    let idx := 0x4800 + x.1
    let n := (d.nv.softMap.filter (fun y => y.1 == x.1 && y.2.1 == x.2.1)).length
    let v := e.rd idx 8
    e.wr idx 8 (if x.2.1 then setBits v 5 4 (max n (bits v 5 4)) else setBits v 11 8 (max n (bits v 11 8)))) fused

/-- RESET passes to BOOT: straps, VCFG mode and management clock are taken, device time starts at 0, the detectors disarm (R30, R328,
R329, R427, R537, R539, R545, R549). -/
def Dev.startBoot (d : Dev) (f : Fuses) (p : Straps) : Dev :=
  let c := { d.core with
    state := .boot, time := 0, holdRunning := false, bootReason := 0, cascadeId := p.cascadeId.toNat, nodeBase := p.nodeBase.toNat
    broadcast := p.broadcast, cfgWidth := p.width.toNat, vcfg33 := p.vcfgHigh, mgmtExt := p.mgmtClk
    deferred := (0x0B73, 1, 2) :: d.core.deferred }
  let d := { d with
    core := c, env := { d.env with armed := ~~~ d.env.rails }, nv := { d.nv with boots := (d.nv.boots + 1) % 65536 } }
  let d := ((d.complete 0x2000 1 15 none).wrN 0x2000 3 0x0B73).wrN 0x2000 4 0
  let d := d.wr 0x2400 1 (setBits (d.rd 0x2400 1) 7 4 p.cascadeId.toNat)
  let d := if p.vcfgHigh then d.wrN 0x2320 7 (3465 * 65536 + 3135) else d
  ((d.wrN 0x2200 1 f.lcState).applySpares f).applyRates

/-- RESET_HOLD_EXPIRY: 1 ms after the last cause of RESET has ended, with RESET_N high and every supply up (R30, R280, R537). -/
def execResetHoldExpiry (p : Straps) (s : State) : Host.Outcome State Fault Refusal :=
  onDev (fun d =>
    if d.core.state = .reset && d.core.holdRunning && d.env.resetN && d.allRails then d.startBoot s.fuses p else d) s

/-! ### BOOT (R33, R385, R387) -/

/-- The reason that a firmware slot does not start, or 0; ok says that its signature and digest pass now. -/
def startFault (f : Fuses) (x : FwSlot) (ok : Bool) : Nat :=
  if !ok || x.state ≠ 1 then 0x0250 else if x.security < f.fwMin then 0x0251 else 0

/-- The entries of the changes into RESET and from RESET to BOOT, oldest first, with device time 0 (R557). The change into RESET came
before LOG_BOOTS counted. -/
def Dev.logDeferred (d : Dev) : Dev :=
  let st := d.core.state
  let boots := d.nv.boots
  let one (x : Nat × Nat × Nat) (e : Dev) : Dev :=
    let b := if x.2.2 = 1 then (boots + 65535) % 65536 else boots
    let s' : DevState := if x.2.2 = 1 then .reset else .boot
    ({ e with core := { e.core with state := s' }, nv := { e.nv with boots := b } }).logAt 0 x.1 0 (x.2.1 * 256 + x.2.2)
  let d := d.core.deferred.foldr one d
  { d with core := { d.core with state := st, deferred := [] }, nv := { d.nv with boots := boots } }

/-- What happened to the battery store and the tamper inputs while the Thimble did not run (R382, R383). -/
def Dev.lateTamper (d : Dev) : Dev :=
  let d := d.nv.tamperLate.foldl (fun e _ => e.log 0x0240 0x2230 0) d
  let d := { d with nv := { d.nv with tamperLate := [] } }
  if d.nv.vbatLate then
    ({ d with nv := { d.nv with vbatLate := false, vbatLost := true } }).logNotify 0x0241 0x2230 0
  else d

/-- AUTO_LOAD: the Thimble makes the request of LOAD_REQUEST itself (R331). -/
def Dev.autoLoad (d : Dev) : Dev :=
  if d.nv.autoLoad < 10 && slotRefusal (d.slot d.nv.autoLoad) = 0 then d.beginSlot d.nv.autoLoad else d

/-- The firmware of one slot starts: the device enters UNCONFIGURED (R30, R385, R387). fault is the reason that the active slot did
not start; back says that unconfirmed trial firmware gives way. -/
def Dev.finishBoot (d : Dev) (runB back : Bool) (fault : Nat) : Dev :=
  let v := d.nv
  let active := if back then !v.activeB else v.activeB
  let trial := v.trial && !back
  let d := { d with
    nv := { v with activeB := active, trial := trial, trialStarted := trial && runB == active }
    sec := { d.sec with runningB := runB }, core := { d.core with bootReason := 0 } }
  let d := forEach 10 (fun n e => if (e.slot n).state = 1 then e.emptySlot n else e) d.logDeferred
  let d := if back then d.logAt d.core.time 0x0253 0x2160 0 else d
  let d := if fault = 0 then d else d.logAt d.core.time fault 0x2160 0
  let d := (d.changeState .unconfigured 0x0B74).bootUp
  (if back then d.notify 0x0253 0x2160 else d).lateTamper.autoLoad

/-- BOOT_COMPLETE: block memory is filled, and the firmware of a slot is verified and started; okA and okB say that the slot's image
passes signature and digest now. With neither, BOOT holds with 0x0254 (R33, R385). -/
def execBootComplete (okA okB : Bool) (s : State) : Host.Outcome State Fault Refusal :=
  onDev (fun d =>
    if d.core.state != .boot || !d.vaux then d
    else
      let back := d.nv.trialStarted
      let active := if back then !d.nv.activeB else d.nv.activeB
      let fault (b : Bool) : Nat := startFault s.fuses (d.fwSlot b) (if b then okB else okA)
      if fault active = 0 then d.finishBoot active back 0
      else if fault (!active) = 0 then d.finishBoot (!active) back (fault active)
      else { d with core := { d.core with bootReason := 0x0254 } }) s

/-! ### Requests for a state (R30, R31) -/

/-- STATE_REQUEST: its gate, the states that allow it, and its effect, by value. -/
def actStateRequest : Act where
  gate := fun _ w =>
    let v := objStateRequest.num w
    if v = 1 || v = 4 then 2 else if v = 2 || v = 3 then 1 else 0
  allow := fun d w =>
    let v := objStateRequest.num w
    if v = 1 then 0
    else if v = 2 then (if d.core.state != .run then 0x0B20 else if !d.allHalted then 0x0B23 else 0)
    else if v = 3 then (if d.core.state != .folded then 0x0B20 else 0)
    else if d.core.state = .fitting || d.core.state = .run || d.core.state = .folded then 0 else 0x0B20
  apply := fun d w =>
    let v := objStateRequest.num w
    if v = 1 then d.enterReset 0x0B72 d.env.resetN
    else if v = 2 then { d with core := { d.core with foldPending := true } }
    else if v = 3 then (if d.core.steps.isSome then d else d.beginSteps true)
    else d.enterUnconfigured 0x0B79

/-- A write of one value of STATE_REQUEST. -/
def stateRequest (path : Transport) (v : Nat) (d : Dev) : Dev :=
  rowWrite objStateRequest actStateRequest 0x2001 0 { path := path, len := 1, value := word v } d

/-- RESET_REQUEST (R30). -/
def execResetRequest (path : Transport) (s : State) : Host.Outcome State Fault Refusal := onDev (stateRequest path 1) s

/-- FOLD_REQUEST (R30, R31). -/
def execFoldRequest (path : Transport) (s : State) : Host.Outcome State Fault Refusal := onDev (stateRequest path 2) s

/-- WAKE_REQUEST (R30, R334). -/
def execWakeRequest (path : Transport) (s : State) : Host.Outcome State Fault Refusal := onDev (stateRequest path 3) s

/-- CLEAR_REQUEST (R30). -/
def execClearRequest (path : Transport) (s : State) : Host.Outcome State Fault Refusal := onDev (stateRequest path 4) s

/-- FOLD_QUIESCE: the fabric is quiescent after an accepted FOLD, with every shuttle HALTED: the device enters FOLDED. Sites under
self-test give their bands back first (R30, R92, R245, R499). -/
def execFoldQuiesce (s : State) : Host.Outcome State Fault Refusal :=
  onDev (fun d =>
    if d.core.state != .run || !d.core.foldPending || !d.allHalted then d
    else
      let d := forEach 54 (fun q e => e.endPatchTests q) d.calAbort
      let d := d.dropOutputs.markStopped (fun n => 112 ≤ n && n < 116)
      let d := { d with
        core := { d.core with foldPending := false, gatesOpen := false }, config := { d.config with cfgDone := false } }
      ((d.setFlag 0x2100 1 12 false).changeState .folded 0x0B77).updatePermits) s

/-- STATE_ACK: in SAFE, OWNER's write of SAFE_SEQ leaves SAFE; elsewhere a state change is acknowledged (R30, R427). -/
def actStateAck : Act where
  gate := fun d _ => if d.core.state = .safe then 2 else 0
  apply := fun d w =>
    if d.core.state = .safe then (if objStateAck.num w = d.rdN 0x2000 5 then d.acknowledgeSafe else d)
    else d.ack 0x2000 1 15 (objStateAck.num w)

/-- STATE_ACK (R30). -/
def execStateAck (w : Wr) (s : State) : Host.Outcome State Fault Refusal :=
  onDev (rowWrite objStateAck actStateAck 0x2000 2 w) s

end Sys2Proof.Machine
end

