-- ==== Sys2Proof/Machine/Read.lean ====
section
/-! DEFINITION. The central read of the object dictionary (R392 to R401, R425 to R427): what an object reads as, over the register
file and the state it is computed from. No read changes anything (R399). -/

namespace Sys2Proof.Machine

/-! ### Objects computed at the read -/

/-- 0x1000 to 0x1FFF (R404 to R407, R425, R426). -/
def viewComm (f : Fuses) (d : Dev) (idx sub : Nat) : Option Nat :=
  if idx = 0x1001 then some d.errorRegister
  else if idx = 0x1014 then some (0x080 + d.nodeId)
  else if idx = 0x1018 ∧ sub = 2 then some (0x00960001 + f.variant)
  else if idx = 0x1018 ∧ sub = 3 then some (f.stepping * 2 ^ 16)
  else if idx = 0x1018 ∧ sub = 4 then some (f.uid % 2 ^ 32)
  else none

/-- 0x2000 to 0x20FF (R29, R427 to R429). -/
def viewDevice (d : Dev) (idx sub : Nat) : Option Nat :=
  if idx = 0x2000 ∧ sub = 1 then some (d.rdN 0x2000 1 + d.core.state.code)
  else if idx = 0x2002 then some (d.core.time % 2 ^ 64)
  else if idx = 0x2020 ∧ 2 ≤ sub ∧ sub ≤ 0x11 then some (ofInt 2 (d.temperature (sub - 2))).toNat
  else if idx = 0x2020 ∧ 0x12 ≤ sub ∧ sub ≤ 0x19 then some (tabGet (fun _ => 0) d.tr.volts (sub - 0x12))
  else if idx = 0x2030 ∧ sub = 4 then some (ofInt 2 (d.env.peakTj.getD 0)).toNat
  else if idx = 0x2070 ∧ sub = 3 then
    some (d.tr.bus * 2 ^ 30 + d.core.mgmtExt.toNat * 2 ^ 29 + d.tr.tec * 2 ^ 16 + d.tr.recCount * 2 ^ 8 + d.tr.nmt)
  else if idx = 0x2080 ∧ sub = 6 then some (d.tr.plls.toNat * 2 ^ 16 + d.env.tref.toNat)
  else none

/-- SLOT_STATE to SLOT_READS of slot n (R389). -/
def viewSlot (x : Slot) (sub : Nat) : Option Nat :=
  let h := x.header
  match sub with
  | 1 => some (x.state * 2 ^ 28 + (if x.state = 0 then 0 else h.kind * 2 ^ 24 + h.signer * 2 ^ 16 + h.keySlot * 2 ^ 8))
  | 2 => some h.imageId
  | 3 => some h.imageVersion
  | 4 => some h.streamLength
  | 5 => some x.reads
  | _ => none

/-- 0x2100 to 0x21FF (R346, R386, R389). -/
def viewConfig (f : Fuses) (d : Dev) (idx sub : Nat) : Option Nat :=
  if idx = 0x2100 ∧ sub = 0x0A then some d.nv.autoLoad
  else if idx = 0x2110 ∧ sub = 5 then d.config.staged.map (fun i => i.header.patchMask)
  else if idx = 0x2110 ∧ sub = 6 then d.config.staged.map (fun i => i.header.imageId)
  else if idx = 0x2130 ∧ sub = 6 then some (maskOf 10 d.pinned)
  else if idx = 0x2130 ∧ sub = 7 then some (256 - d.nv.exchanged)
  else if 0x2140 ≤ idx ∧ idx ≤ 0x2149 then viewSlot (d.slot (idx - 0x2140)) sub
  else if idx = 0x2160 ∧ sub = 1 then
    some (d.rdN 0x2160 1 + d.nv.trialStarted.toNat * 2 ^ 13 + d.sec.runningB.toNat * 2 ^ 12 + d.nv.fwA.state * 2 ^ 10 +
      d.nv.fwB.state * 2 ^ 8)
  else if idx = 0x2160 ∧ sub = 5 then some d.runningFw.version
  else if idx = 0x2160 ∧ sub = 6 then some f.fwMin
  else none

/-- 0x2200 to 0x23FF (R379, R390, R391, R533). -/
def viewSecurity (f : Fuses) (d : Dev) (idx sub : Nat) : Option Nat :=
  if idx = 0x2201 ∧ sub = 1 then
    some (maskOf 4 (fun k => d.nv.batteryKeys.any (fun e => e.1 == k)) * 2 ^ 8 + f.keysRevoked.toNat * 16 + f.keysProgrammed.toNat)
  else if idx = 0x2202 ∧ sub = 1 then some (f.ownersRevoked.toNat * 16 + f.ownersProgrammed.toNat)
  else if idx = 0x2202 ∧ sub = 5 then some f.versionMin
  else if 0x2210 ≤ idx ∧ idx ≤ 0x2212 ∧ sub = 1 then
    let t := idx - 0x2210
    let path : Transport := if t = 0 then .can else if t = 1 then .mailbox else .jtag
    some (d.rdN idx 1 + (d.session t).pending.toNat * 2 ^ 14 + d.roleOf path)
  else if idx = 0x2220 ∧ sub = 5 then some f.uid
  else if idx = 0x2230 ∧ sub = 1 then
    let v := d.nv
    some (v.tamperSeq * 2 ^ 16 + v.tamperUnacked.toNat * 2 ^ 15 + v.tampered.toNat * 2 ^ 14 + v.vbatLost.toNat * 2 ^ 13 +
      (if v.tamperMask.testBit 0 then 2 ^ 12 else 0) + (if v.tamperMask.testBit 1 then 2 ^ 11 else 0))
  else if idx = 0x2230 ∧ sub = 3 then some d.nv.tamperConfig
  else if idx = 0x2230 ∧ sub = 4 then some d.nv.tamperCount
  else if idx = 0x2300 ∧ sub = 3 then some (d.wearModelled % 2 ^ 64)
  else if idx = 0x2300 ∧ sub = 5 then some (wearLimit (d.rdN 0x2300 9))
  else if idx = 0x2310 ∧ sub = 4 then some (d.nv.boots % 2 ^ 16)
  else none

/-- SAFE_PIN_STATUS of function f (R287). -/
def Dev.safePin (d : Dev) (f : Nat) : Nat :=
  let a := d.ball (2 * f)
  let b := d.ball (2 * f + 1)
  (d.safety.permits.getLsbD f).toNat * 128 + a.driven.toNat * 64 + b.driven.toNat * 32 + a.level.toNat * 16 + b.level.toNat * 8 +
    (a.level && !b.level).toNat * 4

/-- 0x2800 to 0x28FF (R285 to R287). -/
def viewSelvedge (d : Dev) (idx sub : Nat) : Option Nat :=
  if 0x2801 ≤ idx ∧ idx ≤ 0x2804 ∧ sub = 1 then
    let b := idx - 0x2801
    some ((d.islandOn (112 + b)).toNat * 2 ^ 31 + (d.bank b).extMissing.toNat * 2 ^ 30 + (d.bankFallback b).toNat * 2 ^ 29 +
      maskOf 16 (fun n => (d.pinState b n).1))
  else if 0x2801 ≤ idx ∧ idx ≤ 0x2804 ∧ sub = 3 then some (d.bank (idx - 0x2801)).shown.toNat
  else if 0x2810 ≤ idx ∧ idx ≤ 0x284F ∧ sub = 1 then
    let b := (idx - 0x2810) / 16
    let n := (idx - 0x2810) % 16
    let x := d.bank b
    some (d.rdN idx 2 * 2 ^ 8 + (d.pinState b n).1.toNat * 2 ^ 7 + (x.shown.getLsbD n).toNat * 2 ^ 6 +
      (x.holding.any (fun e => e.1 == n)).toNat * 2 ^ 5)
  else if idx = 0x2880 ∧ sub = 1 then some ((List.range 4).foldl (fun a f => a + d.safePin f * 2 ^ (8 * f)) 0)
  else none

/-- 0x3100 to 0x312B (R218, R222, R223). -/
def viewShuttle (d : Dev) (idx sub : Nat) : Option Nat :=
  if idx ≤ 0x310B then
    let x := d.shuttle (idx - 0x3100)
    match sub with
    | 1 => some (d.rdN idx 1 + x.state.code * 2 ^ 12)
    | 6 => some x.pc
    | 7 => some (d.retired (idx - 0x3100) d.core.time % 2 ^ 48)
    | 0x10 => some x.flags.toNat
    | 0x11 => some x.sticky.toNat
    | 0x12 => some x.stack.length
    | _ => none
  else if 0x3110 ≤ idx ∧ idx ≤ 0x311B ∧ sub = 3 then some (d.progCrc (idx - 0x3110))
  else if 0x3120 ≤ idx ∧ idx ≤ 0x312B ∧ sub = 1 then
    let unread := d.rdN idx 4 - d.rdN idx 5
    some ((bit (d.rd idx 3) 31 && 512 ≤ unread).toNat * 2 ^ 15 + min 512 unread)
  else none

/-- The 8,704 bytes of the timing table in effect (R235 to R237). -/
def Dev.tableBytes (d : Dev) (g : Nat) : List Byte :=
  let t := d.table g
  if t.isEmpty then (List.range 32).flatMap (fun _ => leBytes 272 4000) else t

/-- 0x3200 to 0x33FF (R251, R257). -/
def viewNeedle (d : Dev) (idx sub : Nat) : Option Nat :=
  if 0x3200 ≤ idx ∧ idx ≤ 0x325F ∧ sub = 1 then some (d.needleStatus (idx - 0x3200))
  else if 0x3300 ≤ idx ∧ idx ≤ 0x330B ∧ sub = 2 then some (crc32c (d.tableBytes (idx - 0x3300)))
  else if 0x3300 ≤ idx ∧ idx ≤ 0x330B ∧ sub = 3 then some (d.shortest (idx - 0x3300))
  else none

/-- 0x3400 to 0x3410 (R449): a RUNNING channel with no burst ready waits. -/
def viewSpool (d : Dev) (idx sub : Nat) : Option Nat :=
  if idx ≤ 0x340F ∧ sub = 1 then
    let c := idx - 0x3400
    some (d.rdN idx 1 + (d.chan c).state.code * 2 ^ 12 + (d.spoolWaiting c).toNat * 2 ^ 11)
  else if idx = 0x3410 ∧ sub = 1 then
    some (maskOf 16 (fun c => (d.chan c).state == .halted) * 2 ^ 16 + maskOf 16 (fun c => (d.chan c).state == .running))
  else none

/-- How many of the numbers below n meet p. -/
def countOf (n : Nat) (p : Nat → Bool) : Nat := ((List.range n).filter p).length

/-- 0x3500 to 0x36FF and 0x3700 to 0x37FF (R191, R464). -/
def viewTally (d : Dev) (idx sub : Nat) : Option Nat :=
  if idx = 0x3500 ∧ sub = 1 then
    some (countOf 1024 (fun n => bit (d.rd (0x4000 + n) 1) 15) * 2 ^ 16 + countOf 1024 (fun n => bit (d.rd (0x4000 + n) 1) 14))
  else if idx = 0x3501 ∧ sub = 1 then
    let streams := (List.range 16).any (fun c => (d.chan c).state == .running && endKind (d.spCfg c) == 3)
    some (d.rdN idx 1 + streams.toNat * 2 ^ 14)
  else if idx = 0x3501 ∧ sub = 7 then some d.dumpFill
  else if idx = 0x3700 ∧ sub = 1 then
    some (countOf 1536 (fun m => d.rdN 0x3700 2 ≤ d.bucket m) * 2 ^ 16 + countOf 1536 (fun m => bit (d.rd (0x4800 + m) 1) 11))
  else none

/-- 0x3800 to 0x39FF (R502 to R505). -/
def viewRepair (d : Dev) (idx sub : Nat) : Option Nat :=
  if idx = 0x3800 ∧ sub = 1 then
    let runs := d.darn.array || d.darn.sweepStart.isSome || !d.darn.testing.isEmpty
    some (d.rdN idx 1 + runs.toNat * 2 ^ 14 + d.darn.array.toNat * 2 ^ 13 + d.darn.testing.length)
  else if idx = 0x3900 ∧ sub = 1 then
    some (d.rdN idx 1 + (!d.darn.repairs.isEmpty || !d.darn.waiting.isEmpty).toNat * 2 ^ 14 + countOf 54 d.repairing)
  else if idx = 0x3900 ∧ sub = 9 then
    some (((List.range 54).map (fun q => countOf 8 (fun r => d.bandOf q r == r && d.rowKind q r == 0))).foldl (· + ·) 0)
  else if 0x3910 ≤ idx ∧ idx ≤ 0x3945 ∧ sub = 1 then
    let q := idx - 0x3910
    let testing := d.darn.testing.any (fun t => sitePatch (t.1 % 102) (t.1 / 102) == q)
    let rows (k : Nat) : Nat := maskOf 8 (fun r => d.rowKind q r == k)
    some ((d.repairing q).toNat * 2 ^ 31 + (d.isolated q).toNat * 2 ^ 30 + testing.toNat * 2 ^ 29 + (d.moving q).toNat * 2 ^ 28 +
      rows 0 * 2 ^ 16 + rows 1 * 2 ^ 8 + rows 2)
  else if 0x3910 ≤ idx ∧ idx ≤ 0x3945 ∧ sub = 2 then some (d.shiftMap (idx - 0x3910)).toNat
  else if 0x3980 ≤ idx ∧ idx ≤ 0x39BF ∧ sub = 1 then
    let n := idx - 0x3980
    some (setBit (d.rd idx 1) 13 (d.frenchBound n && bit (d.frenchBinding n) 0)).toNat
  else none

/-- 0x3A00 to 0x3BFF (R113, R533). Until the permit gate is first refreshed FUNCTION_STATUS reads its default. -/
def viewSafety (d : Dev) (idx sub : Nat) : Option Nat :=
  if 0x3A10 ≤ idx ∧ idx ≤ 0x3A13 ∧ sub = 1 then
    let f := idx - 0x3A10
    if d.safety.lastRefresh.isNone then some 0xFF
    else some ((d.safety.permits.getLsbD f).toNat * 2 ^ 15 + d.permitFails f)
  else if idx = 0x3B00 ∧ sub = 4 then some (countOf 512 (fun w => d.watchBinding w != BitVec.allOnes 64))
  else none

/-- 0x4400 to 0x4DFF (R129, R191). A member that is not the head shows MEMBER and HEAD; the rest of it reads 0 (R125). -/
def viewMemory (d : Dev) (idx sub : Nat) : Option Nat :=
  if idx ≤ 0x46FF then
    let b := idx - 0x4400
    let x := d.bobbin b
    if d.bobbinHead b != b then
      if sub = 1 then some (2 ^ 12) else if 4 ≤ sub ∧ sub ≤ 8 then some 0 else none
    else if sub = 1 then some (d.rdN idx 1 + (x.run.any (fun r => r.closed)).toNat * 2 ^ 14)
    else if sub = 5 then some x.words.length else none
  else
    let m := idx - 0x4800
    if sub = 1 then some (setBit (d.rd idx 1) 12 (d.block m).injected.isSome).toNat
    else none

/-- 0x1F51, 0x1F56 and 0x1F57: program control, versions and the last operation of each area (R412; which codes are write errors is
DEDUCED, entry 13). -/
def viewProgram (d : Dev) (idx area : Nat) : Option Nat :=
  let x := d.slot (area - 2)
  let code := tabGet (fun _ => 0) d.sec.areas area
  let valid : Bool := if area = 1 then d.runningFw.state == 1 else x.state == 2
  let busy : Bool := if area = 1 then d.sec.fwOpen.isSome else d.sec.openSlot == some (area - 2) || d.sec.slotBusy.any (fun b => b.1 == area - 2)
  let error := if code = 0x0261 || code = 0x0263 then 5 else if code ≠ 0 then 3 else if valid then 0 else 1
  if area = 0 then none
  else if idx = 0x1F51 then
    some (if area = 1 || d.config.running.any (fun i => i.slot == some (area - 2)) then 1 else 0)
  else if idx = 0x1F56 then some (if area = 1 then d.runningFw.version else x.header.imageVersion)
  else if idx = 0x1F57 then some (code * 2 ^ 16 + error * 2 + busy.toNat)
  else none

/-- What an object computes at its read, if it does (each page by the upper byte of the index). -/
def viewOf (f : Fuses) (d : Dev) (idx sub : Nat) : Option Nat :=
  let p := idx / 256
  if p = 0x10 then viewComm f d idx sub
  else if p = 0x1F then viewProgram d idx sub
  else if p = 0x20 then viewDevice d idx sub
  else if p = 0x21 then viewConfig f d idx sub
  else if p = 0x22 ∨ p = 0x23 then viewSecurity f d idx sub
  else if p = 0x28 then viewSelvedge d idx sub
  else if p = 0x31 then viewShuttle d idx sub
  else if p = 0x32 ∨ p = 0x33 then viewNeedle d idx sub
  else if p = 0x34 then viewSpool d idx sub
  else if p = 0x35 ∨ p = 0x37 then viewTally d idx sub
  else if p = 0x38 ∨ p = 0x39 then viewRepair d idx sub
  else if p = 0x3A ∨ p = 0x3B then viewSafety d idx sub
  else if 0x44 ≤ p ∧ p ≤ 0x4D then viewMemory d idx sub
  else none

/-! ### Strings and DOMAIN values -/

/-- A number in decimal, as ASCII (R425). -/
def decimal : Nat → Nat → List Byte
  | 0, _ => []
  | k + 1, n => (if n < 10 then [] else decimal k (n / 10)) ++ [BitVec.ofNat 8 (0x30 + n % 10)]

/-- NOTIFY_ENTRIES (R403): entry N sits in slot N mod 256. -/
def Dev.notifyEntries (d : Dev) : List Byte :=
  (List.range 256).flatMap (fun k =>
    match d.tr.ring.find? (fun e => e.number % 256 == k) with
    | some e => leBytes 2 e.reason ++ leBytes 2 e.inst ++ leBytes 4 e.number ++ leBytes 8 e.time
    | none => List.replicate 16 0)

/-- A stored byte string, or the zeros that stand for it before its first value. -/
def orZeros (n : Nat) (l : List Byte) : List Byte := if l.isEmpty then List.replicate n 0 else l

/-- The value of a string or DOMAIN object that can be read. -/
def bytesView (d : Dev) (idx sub : Nat) : List Byte :=
  let l := d.bytesOf idx sub
  if idx = 0x1008 then [0x59, 0x48, 0x39, 0x36, 0x30, 0x30]
  else if idx = 0x100A then decimal 10 d.runningFw.version
  else if idx = 0x2041 then d.notifyEntries
  else if idx = 0x2202 ∧ sub = 4 then orZeros 256 d.nv.integratorKeys
  else if 0x2210 ≤ idx ∧ idx ≤ 0x2212 ∧ sub = 3 then orZeros 32 (d.session (idx - 0x2210)).challenge
  else if idx = 0x2221 then orZeros 512 l
  else if idx = 0x2222 then Config.identityCert
  else if idx = 0x2310 then orZeros 131072 l
  else if 0x3110 ≤ idx ∧ idx ≤ 0x311B ∧ sub = 1 then d.progBytes (idx - 0x3110)
  else if 0x3120 ≤ idx ∧ idx ≤ 0x312B then
    (List.range 512).flatMap (fun k => leBytes 64 (tabGet (fun _ => 0) (d.shuttle (idx - 0x3120)).samples k).toNat)
  else if 0x3300 ≤ idx ∧ idx ≤ 0x330B then d.tableBytes (idx - 0x3300)
  else if idx = 0x3608 then
    let w := d.rd 0x3600 9
    d.slotBytes (bits w 3 2) (131072 * bits w 1 0) 131072
  else if idx = 0x3702 ∨ (idx = 0x3800 ∧ sub = 7) ∨ idx = 0x3900 then orZeros 32 l
  else if idx = 0x3800 ∧ sub = 8 then
    (List.range 7344).map (fun k => BitVec.ofNat 8 (tabGet (fun _ => 0) d.darn.sites k))
  else if 0x4000 ≤ idx ∧ idx ≤ 0x43FF then
    let n := idx - 0x4000
    leBytes 16 (d.rdN idx 4 + (if d.chained (n + 1) then d.rdN (idx + 1) 4 * 2 ^ 48 else 0))
  else l

/-! ### The read -/

/-- The value of a fixed-size object, zero-extended: computed, or as the register file holds it. -/
def Dev.readWord (f : Fuses) (d : Dev) (o : Desc) (idx sub : Nat) : Word :=
  if o.acc == .wo then 0
  else match viewOf f d idx sub with
    | some n => lowBytes o.width (word n)
    | none => lowBytes o.width (d.rd idx sub)

/-- The value of an object that exists; a write-only one reads 0 or empty (R395). -/
def Dev.readVal (f : Fuses) (d : Dev) (o : Desc) (idx sub : Nat) : Val :=
  if o.isBytes then
    .bytes (if o.acc == .wo then [] else if idx = 0x1009 then [BitVec.ofNat 8 f.stepping] else bytesView d idx sub)
  else .word (d.readWord f o idx sub)

/-- The bytes that a transport carries for a value (R394). -/
def Desc.bytesFor (o : Desc) (v : Val) : List Byte :=
  match v with
  | .word w => leBytes o.width w.toNat
  | .bytes l => l

/-- A fixed-size value extended to 64 bits by its sign (R414, R420, R422); of a string or DOMAIN value, its length. -/
def Desc.extended (o : Desc) (v : Val) : Word :=
  match v with
  | .word w => if o.signed then ofInt 8 (signedOf o.width w) else w
  | .bytes l => word l.length

/-! ### Result subindices (R401) -/

/-- The status word of a result subindex, from what the object tables say of it (DEDUCED, entry 12). -/
def resultStatus (idx sub : Nat) : Option (Nat × Nat) :=
  if idx = 0x2171 then some (0x2170, 1)
  else if idx = 0x2100 ∧ sub = 3 then some (0x2100, 1)
  else if idx = 0x2120 ∧ sub = 5 then some (0x2120, 1)
  else if idx = 0x2130 ∧ sub = 4 then some (0x2130, 1)
  else if idx = 0x2160 ∧ sub = 4 then some (0x2160, 1)
  else if idx = 0x2221 then some (0x2220, 1)
  else if 0x3000 ≤ idx ∧ idx ≤ 0x30D7 ∧ (sub % 16 = 5 ∨ sub % 16 = 6) then some (idx, 1)
  else if 0x3100 ≤ idx ∧ idx ≤ 0x310B ∧ 0x13 ≤ sub ∧ sub ≤ 0x16 then some (idx, 1)
  else if idx = 0x3340 ∧ sub = 6 then some (0x3340, 1)
  else if 0x3400 ≤ idx ∧ idx ≤ 0x340F ∧ 0x0A ≤ sub ∧ sub ≤ 0x0C then some (idx, 1)
  else if idx = 0x3502 then some (0x3501, 1)
  else if idx = 0x3702 then some (0x3701, 1)
  else if idx = 0x3800 ∧ (sub = 7 ∨ sub = 8) then some (0x3800, 1)
  else if idx = 0x3900 ∧ sub = 6 then some (0x3900, 1)
  else if idx = 0x3A00 ∧ sub = 4 then some (0x3A00, 1)
  else if 0x3B80 ≤ idx ∧ idx ≤ 0x3BFF ∧ (sub % 16 = 4 ∨ sub % 16 = 5) then some (idx, 1)
  else none

/-- The object is a result subindex before its object's first result (R401). -/
def Dev.noResult (d : Dev) (idx sub : Nat) : Bool :=
  match resultStatus idx sub with
  | some p => d.seqOf p.1 p.2 == 0
  | none => false

/-! ### User objects (R424) -/

/-- The index is one of the user objects. -/
def userIndex (idx : Nat) : Bool := 0x5000 ≤ idx && idx ≤ 0x5FFF

/-- User objects exist. -/
def Dev.userOn (d : Dev) : Bool := d.rdN 0x2060 1 == 1

/-- The abort code of a reason code on CANopen (R410); at7 says that order 7 of R397 refused the value. -/
def Dev.abortOf (d : Dev) (idx code : Nat) (at7 : Bool) : Nat :=
  if code = 0x0B02 then (if indexExists idx || (userIndex idx && d.userOn) then 0x06090011 else 0x06020000)
  else if code = 0x0B03 then 0x06010002
  else if code = 0x0B01 then 0x06010000
  else if code = 0x0B04 then 0x06070010
  else if code = 0x0B05 || code = 0x0B06 || at7 then 0x06090030
  else if (0x0B20 ≤ code && code ≤ 0x0B23) || code = 0x0B26 || code = 0x0B27 then 0x08000022
  else 0x08000020

end Sys2Proof.Machine
end

