-- ==== Sys2Proof/Machine/Write.lean ====
section
/-! DEFINITION. The central write of the object dictionary (R397): what each object adds to the checks and does with an accepted write;
PDO records and program download (R411, R412); acknowledgement of notifications (R403); pending-value reads and the completion of
basting (R69 to R76). -/

namespace Sys2Proof.Machine

/-! ### Notifications (R402, R403) -/

/-- NOTIFY_ROUTE: vectors 1 to 16 are reserved (R402). -/
def checkRoute (w : Wr) : Nat :=
  let v := bits (objNotifyRoute.valueOf w) 5 0
  if 1 ≤ v && v ≤ 16 then 0x0B05 else 0

/-- After a write of NOTIFY_ACK every pending bit clears, and a vector with an entry above NOTIFY_ACKED is sent once more (R403). -/
def Dev.resend (d : Dev) : Dev :=
  let acked := d.rdN 0x2041 3
  let open' := d.tr.ring.filter (fun e => acked < e.number)
  let d := { d with tr := { d.tr with pendingVec := 0 } }
  forEach 64 (fun v e => if open'.any (fun x => x.vector == v) then e.msix v else e) d

def actNotifyAck : Act where
  apply := fun d w =>
    let m := objNotifyAck.num w
    (if d.rdN 0x2041 3 ≤ m && m ≤ d.rdN 0x2041 1 then d.wrN 0x2041 3 m else d).resend

/-- NOTIFY_ACK (R403). -/
def execNotifyAck (w : Wr) (s : State) : Host.Outcome State Fault Refusal :=
  onDev (rowWrite objNotifyAck actNotifyAck 0x2041 2 w) s

/-! ### PDO records (R411; their layout is that of CiA 1301, PRESUMED, entry 14) -/

/-- The communication record of a PDO object. -/
def pdoComm (idx : Nat) : Nat := if idx % 0x400 < 0x200 then idx else idx - 0x200

/-- The PDO is disabled: COB-ID bit 31. -/
def Dev.pdoOff (d : Dev) (comm : Nat) : Bool := bit (d.rd comm 1) 31

/-- Width in bytes of the object that a mapping entry names: index [31:16], subindex [15:8], length in bits [7:0]. -/
def mapBytes (v : Word) : Nat := bits v 7 0 / 8

/-- A mapping entry keeps the rules of R411 for a TPDO or an RPDO. -/
def mapOk (tpdo : Bool) (v : Word) : Bool :=
  match findDesc (bits v 31 16) (bits v 15 8) with
  | some o =>
    !o.isBytes && bits v 7 0 == 8 * o.width &&
      (if tpdo then o.acc != .wo else o.acc == .rw || o.acc == .rwn || o.acc == .wo)
  | none => false

/-- The entries of mapping record idx after a write of w to sub, in order. -/
def Dev.mapAfter (d : Dev) (idx sub : Nat) (v : Word) : List Word :=
  let n := if sub = 0 then v.toNat else d.rdN idx 0
  (List.range n).map (fun k => if k + 1 = sub then v else d.rd idx (k + 1))

/-- A mapping record after a write is longer than 64 bytes. -/
def Dev.mapLong (d : Dev) (idx sub : Nat) (v : Word) : Bool :=
  64 < ((d.mapAfter idx sub v).map mapBytes).foldl (· + ·) 0

def actPdo (o : Desc) (idx sub : Nat) : Act where
  check := fun d w =>
    let v := o.valueOf w
    let tpdo : Bool := 0x1800 ≤ idx
    if idx = pdoComm idx then 0
    else if sub ≠ 0 && v ≠ 0 && !mapOk tpdo v then 0x0B06
    else if sub = 0 && !(d.mapAfter idx sub v).all (mapOk tpdo) then 0x0B06
    else if d.mapLong idx sub v then 0x0B06 else 0
  allow := fun d _ => if idx ≠ pdoComm idx && !d.pdoOff (pdoComm idx) then 0x0B20 else 0
  apply := fun d w =>
    let d := d.wr idx sub (o.valueOf w)
    if 0x1800 ≤ idx then { d with tr := { d.tr with tpdo := tabDel d.tr.tpdo (idx % 16) } } else d

/-- The abort code of a refused mapping write (R411). -/
def Dev.mapAbort (d : Dev) (o : Desc) (idx sub code : Nat) (w : Wr) : Option Nat :=
  let mapping : Bool := (0x1600 ≤ idx && idx ≤ 0x160F) || (0x1A00 ≤ idx && idx ≤ 0x1A0F)
  if mapping && code = 0x0B06 then some (if d.mapLong idx sub (o.valueOf w) then 0x06040042 else 0x06040041) else none

/-! ### Program download (R412) -/

def actDownload (f : Fuses) (area : Nat) : Act where
  allow := fun d w =>
    if area = 1 then (actFwCommand f).allow d (fwWr w.path 1)
    else actSlotCommand.allow d (slotWr w.path 1 (BitVec.ofNat 8 (area - 2)))
  apply := fun d w =>
    let wait (e : Dev) : Dev := if w.path == .can then { e with tr := { e.tr with download := some area } } else e
    if area = 1 then
      let d := (actFwCommand f).apply d (fwWr w.path 1)
      (actFwCommand f).apply (wait (actFwData.apply d w)) (fwWr w.path 2)
    else
      let n := area - 2
      let d := actSlotCommand.apply d (slotWr w.path 1 (BitVec.ofNat 8 n))
      let d := (wait d).slotData f n w.bytes
      if d.sec.openSlot = some n then actSlotCommand.apply d (slotWr w.path 2 (BitVec.ofNat 8 n)) else d

/-- A LOAD_REQUEST of slot n. -/
def loadWr (path : Transport) (n : Nat) : Wr := { path := path, len := 1, value := word n }

/-- 0x1F51: 0x01 activates firmware or loads a slot, 0x03 erases a slot; each keeps its own gate. -/
def actDownloadControl (f : Fuses) (area : Nat) : Act where
  gate := fun _ _ => if area = 1 then objFwCommand.role else objLoadRequest.role
  allow := fun d w =>
    let v := objProgramControl.num w
    if area = 1 then (if v = 1 then (actFwCommand f).allow d (fwWr w.path 3) else 0x0B20)
    else if v = 1 then actLoadRequest.allow d (loadWr w.path (area - 2))
    else if v = 3 then actSlotCommand.allow d (slotWr w.path 3 (BitVec.ofNat 8 (area - 2)))
    else 0x0B20
  apply := fun d w =>
    let v := objProgramControl.num w
    if area = 1 then (actFwCommand f).apply d (fwWr w.path 3)
    else if v = 1 then actLoadRequest.apply d (loadWr w.path (area - 2))
    else actSlotCommand.apply d (slotWr w.path 3 (BitVec.ofNat 8 (area - 2)))

/-! ### Basting (R69 to R76) -/

/-- A value as VALUE of R76 shows it. -/
def basteValue (v : Val) : Nat :=
  match v with
  | .word w => w.toNat
  | .bytes l => l.length * 2 ^ 32 + crc32c l

/-- The 16-byte result of a pending-value read, latched at acceptance (R76). -/
def pendingResult (f : Fuses) (d : Dev) (target : Nat) : List Byte :=
  let idx := target / 256 % 65536
  let sub := target % 256
  match findDesc idx sub with
  | none => leBytes 16 ((Config.freeWord d.freeCtr).toNat * 2 ^ 64 + target % 2 ^ 24)
  | some o =>
    let p := if o.acc == .rwn then d.pendingOf idx sub else none
    let value := match p with
      | some x => basteValue x.val
      | none => if o.acc == .wo then 0 else basteValue (d.readVal f o idx sub)
    let due := match p with
      | some x => x.due * 2 ^ 32 + 2 ^ 31
      | none => 0
    leBytes 16 (value * 2 ^ 64 + due + target % 2 ^ 24)

/-- A TARGET of BASTE_REQUEST exists: a panel site, an object of the table, or a user object (R70, R424). -/
def basteExists (d : Dev) (kind target : Nat) : Bool :=
  if kind = 1 then captureExists target
  else (findDesc (target / 256 % 65536) (target % 256)).isSome || (d.rdN 0x2060 1 == 1 && userIndex (target / 256 % 65536))

/-- What an accepted request latches: the pending value at once; of a panel capture the requests held, which are free here
(PANEL_CAPTURE carries them). The value in effect of a user object lies in the fabric and is free (entry 4). -/
def latchBaste (f : Fuses) (q : BasteReq) (d : Dev) : Dev :=
  if q.kind = 2 then
    let e := { d with baste := some { q with result := some (pendingResult f d q.target) } }
    if (findDesc (q.target / 256 % 65536) (q.target % 256)).isSome then e else { e with freeCtr := d.freeCtr + 1 }
  else latchPanel (Config.freeBits 16 d.freeCtr) q { d with freeCtr := d.freeCtr + 1 }

/-- PENDING_VALUE_READ: BASTE_REQUEST of KIND 0x02 (R76). -/
def execPendingValueRead (path : Transport) (target : BitVec 32) (s : State) : Host.Outcome State Fault Refusal :=
  onDev (rowWrite objBasteRequest (actBaste basteExists (latchBaste s.fuses)) 0x2170 2
    { path := path, len := 8, value := word (2 ^ 57 + target.toNat) }) s

/-- BASTE_COMPLETE: data, SEQ, UNACKED and BUSY change as one (R71). A capture that still waits for a repair goes on waiting; one whose
repair has ended otherwise than by its release takes its values now (R74). -/
def execBasteComplete (s : State) : Host.Outcome State Fault Refusal :=
  onDev (fun d =>
    let d := d.latchCapture
    match d.baste with
    | some { kind, result := some l, .. } =>
      let d := ({ d with baste := none }).setBytes 0x2171 0 l
      let d := (d.wrN 0x2170 3 0).wr 0x2170 1 (setBits (d.rd 0x2170 1) 7 0 kind)
      d.complete 0x2170 1 14 (some 15)
    | _ => d) s

/-- BASTE_ACK (R71). -/
def execBasteAck (w : Wr) (s : State) : Host.Outcome State Fault Refusal :=
  onDev (rowWrite objBasteAck (ackAct objBasteAck 0x2170 1 14) 0x2170 4 w) s

/-! ### What each object does with a write -/

/-- An RWN object with a check of its own (order 7). -/
def stagedAct (o : Desc) (idx sub : Nat) (check : Dev → Wr → Nat) : Act where
  check := check
  apply := Dev.stageOrApply o idx sub

/-- An RW object with a check of its own (order 7). -/
def heldAct (o : Desc) (idx sub : Nat) (check : Dev → Wr → Nat) : Act where
  check := check
  apply := fun d w => d.wr idx sub (o.valueOf w)

/-- SKEW_BOUND of a safety seam is at most 1,600 (R512). -/
def checkSkew (o : Desc) (n : Nat) (d : Dev) (w : Wr) : Nat :=
  if 1600 < o.num w && d.frenchBound n && bit (d.frenchBinding n) 0 then 0x0904 else 0

/-- An object without a hook: RW holds its value, RWN is staged for its scope; three have a rule of their own. -/
def plainAct (o : Desc) (idx sub : Nat) : Act :=
  if o.acc == .rwn then
    if o.scope == .cascade then actWide o idx sub
    else if 0x3100 ≤ idx && idx ≤ 0x310B && sub = 0x20 then actStarvePolicy (idx - 0x3100)
    else if 0x3980 ≤ idx && idx ≤ 0x39BF then stagedAct o idx sub (checkSkew o (idx - 0x3980))
    else stagedAct o idx sub (fun _ _ => 0)
  else heldAct o idx sub (fun _ _ => 0)

/-- AUTO_LOAD is kept in the wardrobe (R346). -/
def actAutoLoad : Act where
  apply := fun d w => { d with nv := { d.nv with autoLoad := objAutoLoad.num w } }

/-- The objects of the device, of configuration and of security. -/
def actDevice (f : Fuses) (o : Desc) (idx sub : Nat) : Act :=
  match o.hook with
  | .attestRequest => actAttestRequest f
  | .autoLoad => actAutoLoad
  | .basteRequest => actBaste basteExists (latchBaste f)
  | .fwCommand => actFwCommand f
  | .fwData => actFwData
  | .groupTref => actGroupTref
  | .hostNotch => actHostNotch
  | .integratorKeys => actIntegratorKeys
  | .keyProgram => actKeyProgram f
  | .keyRevoke => actKeyRevoke
  | .lcRequest => actLcRequest f
  | .loadRequest => actLoadRequest
  | .logSelect => actLogSelect false
  | .notifyAck => actNotifyAck
  | .notifyRoute => heldAct o idx sub (fun _ w => checkRoute w)
  | .ownerKeyProgram => actOwnerKeyProgram f
  | .ownerKeyRevoke => actOwnerKeyRevoke f
  | .partialDiscard => actPartialDiscard
  | .sessionEnd => actSessionEnd (idx - 0x2210)
  | .sessionRequest => actSessionRequest (idx - 0x2210)
  | .sessionResponse => actSessionResponse f (idx - 0x2210)
  | .sessionTimeout => heldAct o idx sub (fun _ w => wrongTransport (idx - 0x2210) w)
  | .slotCommand => actSlotCommand
  | .slotData => actSlotData f
  | .startOrder => actStartOrder
  | .stateAck => actStateAck
  | .stateRequest => actStateRequest
  | .streamCommand => actStreamCommand
  | .streamData => actStreamData
  | .tamperAck => actTamperAck
  | .tamperConfig => actTamperConfig f
  | .trefFrequency => actTrefFrequency (sub - 1)
  | .versionRaise => actVersionRaise f
  | .wearHeadroom => actWearHeadroom
  | .pdo => actPdo o idx sub
  | .downloadData => actDownload f sub
  | .downloadControl => actDownloadControl f sub
  | _ => plainAct o idx sub

/-- The objects of the array, the channels, the selvedge, the cascade, the spool, tally, swatch, repair and safety. -/
def actArray (o : Desc) (idx sub : Nat) (w : Wr) : Act :=
  match o.hook with
  | .bankClock => actBankClock (idx - 0x2801)
  | .bankOut => actBankOut (idx - 0x2801)
  | .bistConfig => heldAct o idx sub checkBistConfig
  | .bistRequest => actBistRequest
  | .blockRepair => actBlockRepair (idx - 0x4800)
  | .bobbinAck => actBobbinAck idx
  | .bobbinLevel => stagedAct o idx sub (checkBobbinLevel idx)
  | .calRequest => actCalRequest
  | .captureConfig => actCaptureConfig (idx - 0x2801)
  | .cascadeRequest => actCascadeRequest
  | .cascadeSource => actCascadeSource
  | .counter => actCounter (idx - 0x3100) sub
  | .deskew => actDeskew o idx sub
  | .dumpConfig => heldAct o idx sub checkDumpConfig
  | .dumpRequest => actDumpRequest
  | .failLatency => actFailLatency (idx - 0x3100)
  | .flipInject => actFlipInject (idx - 0x4800)
  | .hemAlarm => stagedAct o idx sub (fun _ w => checkHemAlarm idx sub w)
  | .hemCommand => actHemCommand (idx - 0x3000)
  | .pinFunction => actPinFunction ((idx - 0x2810) / 16) ((idx - 0x2810) % 16)
  | .program => actProgram (idx - 0x3110) w
  | .programPatch => actProgramPatch (idx - 0x3110) w
  | .proofRequest => actProofRequest
  | .rawConfig => actRawConfig (idx - 0x3200)
  | .recoverRequest => actRecoverRequest
  | .repairRequest => actRepairRequest
  | .sampleAck => actSampleAck (idx - 0x3120)
  | .scrubRequest => actScrubRequest
  | .shuttleCommand => actShuttleCommand (idx - 0x3100)
  | .spoolCommand => actSpoolCommand (idx - 0x3400)
  | .spoolReg => actSpoolReg (idx - 0x3400) sub
  | .swatchAck => actSwatchAck
  | .swatchRequest => actSwatchRequest
  | .swatchTrigger => actSwatchTrigger
  | .tallyClear => actTallyClear (idx - 0x4000)
  | .tallyClearRange => actTallyClearRange
  | .tallyConfig => actTallyConfig (idx - 0x4000)
  | .tallyThreshold => actTallyThreshold o (idx - 0x4000) sub
  | .threadMap => actThreadMap idx
  | .timingTable => actTimingTable (idx - 0x3300) w
  | .widenSet => actWidenSet idx
  | _ => plainAct o idx sub

/-- What object index.sub adds to the checks and the effect of write w. -/
def actOf (f : Fuses) (o : Desc) (idx sub : Nat) (w : Wr) : Act :=
  match o.hook with
  | .ack status unacked => ackAct o idx status unacked
  | _ => if idx < 0x2400 then actDevice f o idx sub else actArray o idx sub w

/-- What an accepted write of an object blows (R356 to R360, R376, R386). -/
def blowFor (h : Hook) (f : Fuses) (d : Dev) (w : Wr) : Fuses :=
  match h with
  | .keyProgram => blowKey f d w
  | .keyRevoke => blowKeyRevoke f d w
  | .ownerKeyProgram => blowOwner f d w
  | .ownerKeyRevoke => blowOwnerRevoke f d w
  | .versionRaise => blowVersion f d w
  | .lcRequest => blowLcBegin f d w
  | .fwCommand => blowFw f d w
  | _ => f

/-! ### The write -/

/-- What a write came to: 0 or its reason code, and the abort code that CANopen shows for it (R410). -/
structure WriteEnd where
  code : Nat := 0
  abort : Nat := 0
  deriving DecidableEq, Repr

/-- Order 7 of R397 is the one that refuses the value. -/
def refusedAt7 (o : Desc) (a : Act) (w : Wr) (d : Dev) : Bool :=
  o.early (a.gate d w) (d.roleOf w.path) w == 0 && (!o.rangeOk w || a.check d w != 0)

/-- A write of object index.sub by any path that reaches the dictionary (R397). -/
def State.writeObj (s : State) (idx sub : Nat) (w : Wr) : State × WriteEnd :=
  match findDesc idx sub with
  | none =>
    ({ s with dev := s.dev.recordRefusal w.path idx sub 0x0B02 }, { code := 0x0B02, abort := s.dev.abortOf idx 0x0B02 false })
  | some o =>
    let a := actOf s.fuses o idx sub w
    let r := runWrite o a idx sub w s.dev
    if r.2 = 0 then ({ s with fuses := blowFor o.hook s.fuses s.dev w, dev := r.1 }, {})
    else
      let abort := (s.dev.mapAbort o idx sub r.2 w).getD (s.dev.abortOf idx r.2 (refusedAt7 o a w s.dev))
      ({ s with dev := r.1 }, { code := r.2, abort := abort })

end Sys2Proof.Machine
end

