-- ==== Sys2Proof/Machine/Transport.lean ====
section
/-! DEFINITION. The paths to the object dictionary (R406 to R424): CAN FD, the window and the mailbox of PCI Express, JTAG, the fabric
object port, and user objects. -/

namespace Sys2Proof.Machine

/-! ### User objects: forwarding (R422, R424) -/

/-- The body of an entry of the fabric object port (R422). -/
def portBody (value : Word) (idx sub len reason id role transport type : Nat) : BitVec 256 :=
  BitVec.ofNat 256 (value.toNat * 2 ^ 192 + idx * 2 ^ 144 + sub * 2 ^ 136 + len * 2 ^ 128 + reason * 2 ^ 112 + id * 2 ^ 96 +
    role * 2 ^ 12 + transport * 2 ^ 8 + type)

/-- An entry placed in the to-fabric half of the Thimble's hem. -/
def Dev.portSend (d : Dev) (body : BitVec 256) : Dev :=
  if d.core.state = .unconfigured then d else d.pushed 237 ((d.half 237).pushData body 0 0 d.core.time)

/-- An access to a user object goes to the fabric under a new ID, and its caller waits (R424). -/
def Dev.forwardUser (d : Dev) (t : Transport) (idx sub : Nat) (write : Bool) (len : Nat) (v : Word) : Dev :=
  let id := (d.tr.nextId + 1) % 65536
  let x : UserWait := { id := id, tr := t, index := idx, sub := sub, write := write, len := len }
  let role := d.roleOf t
  let d := { d with tr := { d.tr with nextId := id, userWaits := d.tr.userWaits ++ [x] } }
  d.portSend (portBody v idx sub len 0 id role (sessionNo t) (if write then 0x12 else 0x11))

/-! ### JTAG (R419 to R421) -/

/-- Bytes off to off + n − 1 of a transfer buffer of 131,072 bytes; what nothing has written is 0. -/
def bufferBytes (l : List Byte) (off n : Nat) : List Byte := (List.range n).map (fun k => (l[off + k]?).getD 0)

/-- A buffer with bytes written from an offset on. -/
def bufferPut (l : List Byte) (off : Nat) (v : List Byte) : List Byte := bufferBytes l 0 off ++ v ++ l.drop (off + v.length)

/-- The result register of OBJECT (R420). -/
def TapSt.result (x : TapSt) : BitVec 128 :=
  BitVec.ofNat 128 (x.seq * 2 ^ 112 + x.busy.toNat * 2 ^ 111 + x.error.toNat * 2 ^ 110 + x.reason * 2 ^ 80 + x.value.toNat)

def Dev.setTap (d : Dev) (x : TapSt) : Dev := { d with tr := { d.tr with tap := x } }

/-- An object request completes (R420). -/
def Dev.tapDone (d : Dev) (reason : Nat) (v : Word) : Dev :=
  let x := d.tr.tap
  d.setTap { x with
    seq := nextSeq x.seq, busy := false, error := reason != 0, reason := reason, value := if reason = 0 then v else 0 }

/-- One scan of OBJECT: Capture-DR loads the last result, Update-DR returns the pointer of the buffer to 0. -/
def Dev.tapObject (d : Dev) : Dev :=
  let d := (d.tapInstr .object).tapCapture d.tr.tap.result
  d.setTap { d.tr.tap with pointer := 0 }

/-- A read by OBJECT; a string or DOMAIN value goes to the transfer buffer, its length to VALUE. -/
def Dev.tapRead (d : Dev) (f : Fuses) (idx sub : Nat) : Dev :=
  if d.core.state = .boot then d.tapDone 0x0B10 0
  else if userIndex idx && d.userOn then
    (d.setTap { d.tr.tap with busy := true }).forwardUser .jtag idx sub false 8 0
  else match findDesc idx sub with
    | none => d.tapDone 0x0B02 0
    | some o =>
      let v := d.readVal f o idx sub
      let v := if d.noResult idx sub then (match v with
        | .word _ => .word 0
        | .bytes l => .bytes (List.replicate l.length 0)) else v
      let d := match v with
        | .bytes l => d.setTap { d.tr.tap with buffer := bufferPut d.tr.tap.buffer 0 l }
        | .word _ => d
      d.tapDone 0 (o.extended v)

/-- JTAG_OBJECT_READ: OP 0x01 issued at Update-DR; discarded while a request is in progress (R420, R421). -/
def execJtagObjectRead (idx : BitVec 16) (sub : BitVec 8) (s : State) : Host.Outcome State Fault Refusal :=
  onDev (fun d =>
    if !d.tapOn then d
    else
      let d := d.tapObject
      if d.tr.tap.busy then d else d.tapRead s.fuses idx.toNat sub.toNat) s

/-- A 64-bit value is the zero or sign extension of n bytes. -/
def extendsFrom (n : Nat) (v : Word) : Bool := lowBytes n v == v || ofInt 8 (signedOf n v) == v

/-- The write that a 64-bit VALUE makes of an object; a value that is no extension of the object's width has not its length
(DEDUCED, entry 15). -/
def wideWrite (path : Transport) (idx sub : Nat) (v : Word) (buffer : List Byte) : Wr :=
  match findDesc idx sub with
  | some o =>
    if o.isBytes then { path := path, bytes := bufferBytes buffer 0 (bits v 17 0) }
    else { path := path, len := if extendsFrom o.width v then o.width else 9, value := v }
  | none => { path := path, value := v }

/-- JTAG_OBJECT_WRITE: OP 0x02 (R420, R421). A request refused in BOOT counts as a refused write (entry 15). -/
def execJtagObjectWrite (idx : BitVec 16) (sub : BitVec 8) (value : BitVec 64) (s : State) : Host.Outcome State Fault Refusal :=
  if !s.dev.tapOn then .next s
  else
    let d := s.dev.tapObject
    let i := idx.toNat
    let k := sub.toNat
    if d.tr.tap.busy then .next { s with dev := d }
    else if d.core.state = .boot then .next { s with dev := (d.recordRefusal .jtag i k 0x0B10).tapDone 0x0B10 0 }
    else if userIndex i && d.userOn then
      .next { s with dev := (d.setTap { d.tr.tap with busy := true }).forwardUser .jtag i k true 8 value }
    else
      let r := State.writeObj { s with dev := d } i k (wideWrite .jtag i k value d.tr.tap.buffer)
      .next { r.1 with dev := r.1.dev.tapDone r.2.code 0 }

/-- OBJECT_DATA: one scan captures the 4 bytes at the pointer, stores the 4 bytes shifted in and moves the pointer on (R419; that a
scan does both is a DESIGN CHOICE, entry 15). -/
def execObjectData (data : BitVec 32) (s : State) : Host.Outcome State Fault Refusal :=
  onDev (fun d =>
    if !d.tapOn then d
    else
      let x := (d.tapInstr .objectData).tr.tap
      let seen := ofLe (bufferBytes x.buffer x.pointer 4)
      d.setTap { x with
        captured := BitVec.ofNat 128 seen, buffer := bufferPut x.buffer x.pointer (leBytes 4 data.toNat)
        pointer := (x.pointer + 4) % 131072 }) s

/-- JTAG_STATE (R419). -/
def execJtagState (s : State) : Host.Outcome State Fault Refusal :=
  onDev (fun d =>
    if !d.tapOn then d
    else
      let boot := if d.core.state = .boot then d.core.bootReason else 0
      (d.tapInstr .state).tapCapture (BitVec.ofNat 128
        (d.core.state.code * 2 ^ 56 + boot % 65536 * 2 ^ 40 + bits (d.rd 0x2003 1) 15 0 * 2 ^ 24))) s

/-! ### Mailbox and window (R414 to R418) -/

/-- A mailbox transfer completes: SEQ, BUSY, REASON and LENGTH as one, and vector 16 where IRQ asked for it (R416). -/
def Dev.mailboxDone (d : Dev) (reason length : Nat) : Dev :=
  let irq := d.tr.mbIrq
  let d := { d with tr := { d.tr with
    mbSeq := nextSeq d.tr.mbSeq, mbBusy := false, mbReason := reason, mbLength := length, mbIrq := false } }
  if irq then d.emit (.msix 16) else d

/-- MB_REQUEST: discarded with OVERRUN while BUSY, else in progress. -/
def Dev.mailboxStart (d : Dev) (irq : Bool) : Dev :=
  { d with tr := { d.tr with mbBusy := true, mbOverrun := false, mbIrq := irq } }

/-- The value of an object as bytes, zeros in place of a result never produced (R401). -/
def Dev.readBytes (d : Dev) (f : Fuses) (o : Desc) (idx sub : Nat) : List Byte :=
  let l := o.bytesFor (d.readVal f o idx sub)
  if d.noResult idx sub then List.replicate l.length 0 else l

/-- MAILBOX_READ: OP 0x01 (R416). -/
def execMailboxRead (idx : BitVec 16) (sub : BitVec 8) (irq : Bool) (s : State) : Host.Outcome State Fault Refusal :=
  onDev (fun d =>
    let i := idx.toNat
    let k := sub.toNat
    if !d.dictionary then d
    else if d.tr.mbBusy then { d with tr := { d.tr with mbOverrun := true } }
    else
      let d := d.mailboxStart irq
      if userIndex i && d.userOn then d.forwardUser .mailbox i k false 8 0
      else match findDesc i k with
        | none => d.mailboxDone 0x0B02 0
        | some o =>
          let l := d.readBytes s.fuses o i k
          ({ d with tr := { d.tr with mbBuffer := bufferPut d.tr.mbBuffer 0 l } }).mailboxDone 0 l.length) s

/-- The write that bytes make of an object: a string or DOMAIN value as they are, else a value of their number. -/
def bytesWrite (path : Transport) (idx sub : Nat) (l : List Byte) : Wr :=
  match findDesc idx sub with
  | some o => if o.isBytes then { path := path, bytes := l } else { path := path, len := l.length, value := word (ofLe l) }
  | none => { path := path, len := l.length, value := word (ofLe l) }

/-- MAILBOX_WRITE: data is what the host places in MB_BUFFER first; OP 0x02 then writes length bytes of the buffer (R416). -/
def execMailboxWrite (idx : BitVec 16) (sub : BitVec 8) (irq : Bool) (data : List Byte) (length : BitVec 24) (s : State) :
    Host.Outcome State Fault Refusal :=
  let d := s.dev
  let i := idx.toNat
  let k := sub.toNat
  if !d.dictionary then .next s
  else if d.tr.mbBusy then .next { s with dev := { d with tr := { d.tr with mbOverrun := true } } }
  else
    let d := { d with tr := { d.tr with mbBuffer := bufferPut d.tr.mbBuffer 0 (data.take 131072) } }
    let d := d.mailboxStart irq
    let n := length.toNat
    let l := bufferBytes d.tr.mbBuffer 0 (min n 131073)
    if userIndex i && d.userOn && 1 ≤ n && n ≤ 8 then .next { s with dev := d.forwardUser .mailbox i k true n (word (ofLe l)) }
    else if userIndex i && d.userOn then .next { s with dev := (d.recordRefusal .mailbox i k 0x0B04).mailboxDone 0x0B04 0 }
    else
      let w := bytesWrite .mailbox i k l
      let w := if n = 0 then { w with len := 0, bytes := List.replicate 131073 0 } else w
      let r := State.writeObj { s with dev := d } i k w
      .next { r.1 with dev := r.1.dev.mailboxDone r.2.code (if r.2.code = 0 then n else 0) }

/-- OBJECT_WRITE: a write of any object over a path (R397, R414). -/
def execObjectWrite (idx : BitVec 16) (sub : BitVec 8) (w : Wr) (s : State) : Host.Outcome State Fault Refusal :=
  let i := idx.toNat
  let k := sub.toNat
  if !s.dev.dictionary then .next s
  else if userIndex i && s.dev.userOn then
    if w.path == .fabric then .next { s with dev := s.dev.recordRefusal .fabric i k 0x0B07 }
    else if w.len = 0 || 8 < w.len then .next { s with dev := s.dev.recordRefusal w.path i k 0x0B04 }
    else .next { s with dev := s.dev.forwardUser w.path i k true w.len w.value }
  else .next (s.writeObj i k w).1

/-- What a window read of len bytes at offset off of the slot of index.sub returns (R414): the value extended to 8 bytes, a string's or
DOMAIN's length; all ones for an object that does not exist and for an access that leaves the slot. Before an object's first result its
result subindices read 0 (R401). It changes nothing (R399), so no command stands for it. -/
def Dev.windowRead (d : Dev) (f : Fuses) (idx sub off len : Nat) : Word :=
  if 8 < off + len then lowBytes len (-1)
  else match findDesc idx sub with
    | none => lowBytes len (-1)
    | some o =>
      let v := o.extended (d.readVal f o idx sub)
      lowBytes len ((if d.noResult idx sub then 0 else v) >>> (8 * off))

/-- PCIE_LINK_RESET: the session ends, and a mailbox transfer in progress completes with 0x0B09 (R418). -/
def execPcieLinkReset (s : State) : Host.Outcome State Fault Refusal :=
  onDev (fun d =>
    if !d.dictionary then d
    else
      let d := d.transportReset 1
      let d := { d with tr := { d.tr with userWaits := d.tr.userWaits.filter (fun (x : UserWait) => x.tr != Transport.mailbox && x.tr != Transport.window) } }
      if d.tr.mbBusy then d.mailboxDone 0x0B09 0 else d) s

/-! ### The end of an access to a user object (R424) -/

/-- The waiting caller gets its answer: reason 0 and the value, or a refusal. A refused write is recorded. -/
def Dev.userDone (d : Dev) (x : UserWait) (reason : Nat) (v : Word) (len : Nat) : Dev :=
  let d := { d with tr := { d.tr with userWaits := d.tr.userWaits.filter (fun y => y.id != x.id) } }
  let d := if reason ≠ 0 && x.write then d.recordRefusal x.tr x.index x.sub reason else d
  let l := if x.write then [] else leBytes (min len 8) v.toNat
  match x.tr with
  | .can => d.emit (if reason = 0 then .answer .can 0 l else .abort (d.abortOf x.index reason false))
  | .window => if x.write then d else d.emit (if reason = 0 then .answer .window 0 (leBytes x.len v.toNat) else .allOnes)
  | .mailbox =>
    let d := if reason = 0 then { d with tr := { d.tr with mbBuffer := bufferPut d.tr.mbBuffer 0 l } } else d
    d.mailboxDone reason (if reason = 0 then (if x.write then x.len else l.length) else 0)
  | .jtag => d.tapDone reason (if x.write then 0 else v)
  | .fabric => d

/-- USER_OBJECT_ACCESS: an access over CAN FD, PCI Express or JTAG to a user object; without user objects, or over the fabric port,
there is none (R423, R424). A window access carries its own length. -/
def execUserObjectAccess (path : Transport) (idx : Fin 4096) (sub : BitVec 8) (write : Bool) (len : Fin 9) (value : BitVec 64)
    (s : State) : Host.Outcome State Fault Refusal :=
  onDev (fun d =>
    let i := 0x5000 + idx.val
    let x : UserWait := { id := 65536, tr := path, index := i, sub := sub.toNat, write := write, len := len.val }
    let hold (e : Dev) : Dev :=
      if path == .mailbox then e.mailboxStart false else if path == .jtag then e.setTap { e.tr.tap with busy := true } else e
    if !d.dictionary then d
    else if path == .mailbox && d.tr.mbBusy then { d with tr := { d.tr with mbOverrun := true } }
    else if path == .jtag && d.tr.tap.busy then d
    else if path == .fabric then (if write then d.recordRefusal .fabric i sub.toNat 0x0B07 else d)
    else if !d.userOn then (hold d).userDone x 0x0B02 0 0
    else if len.val = 0 then (hold d).userDone x 0x0B04 0 0
    else (hold d).forwardUser path i sub.toNat write len.val value) s

/-! ### The fabric object port (R422, R423) -/

/-- An entry of the form of R422: KIND DATA, COUNT and INVALID 0, no reserved bit, nothing uncorrectable. -/
def portForm (e : HEntry) : Bool :=
  e.bad == 0 && e.tag &&& 0xFC == 0 && (e.data.extractLsb' 160 32).toNat == 0 && (e.data.extractLsb' 16 80).toNat == 0

/-- A field of a port entry. -/
def portField (e : HEntry) (lo width : Nat) : Nat := (e.data.extractLsb' lo width).toNat

/-- The TYPEs that travel towards the Thimble. -/
def portTypes : List Nat := [0x01, 0x02, 0x91]

/-- The head entry of the to-island half, taken: of the TYPE asked for it is handed on; of no form or TYPE of R422 it is discarded;
of another TYPE it stays. -/
def Dev.portTake (d : Dev) (type : Nat) : Option HEntry × Dev :=
  let x := d.half 236
  match x.head with
  | none => (none, d)
  | some e =>
    let t := portField e 0 8
    if !portForm e || !portTypes.contains t then (none, d.putHalf 236 x.pop)
    else if t = type then (some e, d.putHalf 236 x.pop)
    else (none, d)

/-- A FABRIC_ANSWER to entry e. -/
def Dev.portAnswer (d : Dev) (e : HEntry) (reason : Nat) (v : Word) (len : Nat) : Dev :=
  d.portSend (portBody v (portField e 144 16) (portField e 136 8) len reason (portField e 96 16) 0 0 0x81)

/-- FABRIC_READ (R423). -/
def execFabricRead (s : State) : Host.Outcome State Fault Refusal :=
  onDev (fun d =>
    if !d.dictionary then d
    else match d.portTake 0x01 with
      | (none, d) => d
      | (some e, d) =>
        let i := portField e 144 16
        let k := portField e 136 8
        let len := portField e 128 8
        if userIndex i && d.userOn then d.portAnswer e 0x0B07 0 len
        else match findDesc i k with
          | none => d.portAnswer e 0x0B02 0 len
          | some o =>
            if o.isBytes then d.portAnswer e 0x0B07 0 len
            else
              let v := if d.noResult i k then 0 else o.extended (d.readVal s.fuses o i k)
              d.portAnswer e 0 v o.width) s

/-- FABRIC_WRITE: checked by R397 with FABRIC_ROLE; a VALUE that is no extension of LENGTH bytes has not its length (R423). -/
def execFabricWrite (s : State) : Host.Outcome State Fault Refusal :=
  if !s.dev.dictionary then .next s
  else match s.dev.portTake 0x02 with
    | (none, d) => .next { s with dev := d }
    | (some e, d) =>
      let i := portField e 144 16
      let k := portField e 136 8
      let len := portField e 128 8
      let v := word (portField e 192 64)
      if userIndex i && d.userOn then
        .next { s with dev := (d.recordRefusal .fabric i k 0x0B07).portAnswer e 0x0B07 0 len }
      else
        let w : Wr := { path := .fabric, len := if extendsFrom len v then len else 9, value := v }
        let r := State.writeObj { s with dev := d } i k w
        .next { r.1 with dev := r.1.dev.portAnswer e r.2.code v len }

/-- USER_ANSWER: completes the access that waits under its ID; a late one is discarded; a REASON outside 0x0B01 to 0x0B06 counts as
0x0B06 (R424). -/
def execUserAnswer (s : State) : Host.Outcome State Fault Refusal :=
  onDev (fun d =>
    if !d.dictionary then d
    else match d.portTake 0x91 with
      | (none, d) => d
      | (some e, d) =>
        match d.tr.userWaits.find? (fun x => x.id == portField e 96 16) with
        | none => d
        | some x =>
          let r := portField e 112 16
          let reason := if r = 0 then 0 else if 0x0B01 ≤ r && r ≤ 0x0B06 then r else 0x0B06
          d.userDone x reason (word (portField e 192 64)) (portField e 128 8)) s

/-- USER_TIMEOUT: the access with an ID has waited USER_TIMEOUT without an answer (R424). -/
def execUserTimeout (id : BitVec 16) (s : State) : Host.Outcome State Fault Refusal :=
  onDev (fun d =>
    match d.tr.userWaits.find? (fun x => x.id == id.toNat) with
    | some x => if d.dictionary then d.userDone x 0x0B08 0 0 else d
    | none => d) s

/-! ### CAN: NMT, heartbeat, bus state (R405 to R409, R428) -/

/-- The node takes an NMT command that puts it into a state. -/
def Dev.nmtTo (d : Dev) (n : Nat) : Dev := if d.canOn then { d with tr := { d.tr with nmt := n } } else d

def execNmtStart (s : State) : Host.Outcome State Fault Refusal := onDev (fun d => d.nmtTo 0x05) s
def execNmtStop (s : State) : Host.Outcome State Fault Refusal := onDev (fun d => d.nmtTo 0x04) s
def execNmtPreOperational (s : State) : Host.Outcome State Fault Refusal := onDev (fun d => d.nmtTo 0x7F) s

/-- Every PDO disabled: COB-ID bit 31 set (R409). -/
def Dev.pdosOff (d : Dev) : Dev :=
  let d := forEach 16 (fun n e => (e.setFlag (0x1400 + n) 1 31 true).setFlag (0x1800 + n) 1 31 true) d
  { d with tr := { d.tr with tpdo := [] } }

/-- NMT reset of node or communication: PDOs disabled, rates taken, the CAN session ended, boot-up sent; a segmented transfer ends with
it (R409). -/
def Dev.nmtReset (d : Dev) : Dev :=
  if d.canOn then
    let d := ((d.pdosOff).applyRates).transportReset 0
    ({ d with tr := { d.tr with usdo := none, download := none } }).bootUp
  else d

def execNmtResetNode (s : State) : Host.Outcome State Fault Refusal := onDev Dev.nmtReset s
def execNmtResetCommunication (s : State) : Host.Outcome State Fault Refusal := onDev Dev.nmtReset s

/-- CAN_HEARTBEAT (R408). -/
def execCanHeartbeat (s : State) : Host.Outcome State Fault Refusal :=
  onDev (fun d =>
    if d.canOn && d.rdN 0x1017 0 != 0 then d.emit (.can (0x700 + d.nodeId) [BitVec.ofNat 8 d.tr.nmt]) else d) s

/-- CAN_BUS_OFF: logged, and recovered from as ISO 11898-1 provides: the controller is error-active again, its counts 0 (R428). -/
def execCanBusOff (s : State) : Host.Outcome State Fault Refusal :=
  onDev (fun d =>
    if d.canOn then ({ d with tr := { d.tr with bus := 0, tec := 0, recCount := 0 } }).log 0x0B41 0 0 else d) s

/-- CAN_ERROR_PASSIVE: the error counts of the controller become tec and rec'; above 127 it is error-passive (R405). -/
def execCanErrorPassive (tec : BitVec 8) (rec' : BitVec 8) (s : State) : Host.Outcome State Fault Refusal :=
  onDev (fun d =>
    if d.canOn then
      let bus := if 127 < tec.toNat || 127 < rec'.toNat then 1 else 0
      { d with tr := { d.tr with bus := bus, tec := tec.toNat, recCount := rec'.toNat } }
    else d) s

/-! ### USDO (R410 to R412) -/

/-- The USDO server runs: in every NMT state but stopped. -/
def Dev.usdoOn (d : Dev) : Bool := d.canOn && d.tr.nmt != 0x04

/-- The answer of a complete write; a program download is answered after its verification. -/
def Dev.usdoWritten (d : Dev) (idx : Nat) (r : WriteEnd) : Dev :=
  if r.code ≠ 0 then d.emit (.abort r.abort)
  else if idx = 0x1F50 then d
  else d.emit (.answer .can 0 [])

/-- A whole value written by USDO. -/
def State.usdoWrite (s : State) (idx sub : Nat) (l : List Byte) : State :=
  if userIndex idx && s.dev.userOn then
    if l.length = 0 || 8 < l.length then
      { s with dev := (s.dev.recordRefusal .can idx sub 0x0B04).emit (.abort 0x06070010) }
    else { s with dev := s.dev.forwardUser .can idx sub true l.length (word (ofLe l)) }
  else
    let r := s.writeObj idx sub (bytesWrite .can idx sub l)
    { r.1 with dev := r.1.dev.usdoWritten idx r.2 }

/-- A read by USDO: expedited up to 8 bytes, segmented beyond (R410). -/
def Dev.usdoRead (d : Dev) (f : Fuses) (idx sub : Nat) : Dev :=
  if userIndex idx && d.userOn then d.forwardUser .can idx sub false 8 0
  else match findDesc idx sub with
    | none => d.emit (.abort (d.abortOf idx 0x0B02 false))
    | some o =>
      if o.acc == .wo then d.emit (.abort 0x06010001)
      else if d.noResult idx sub then d.emit (.abort 0x08000022)
      else
        let l := o.bytesFor (d.readVal f o idx sub)
        if !o.isBytes then d.emit (.answer .can 0 l)
        else
          let x : UsdoSt := { index := idx, sub := sub, write := false, data := l, total := l.length }
          ({ d with tr := { d.tr with usdo := some x } }).emit (.answer .can 0 (leBytes 4 l.length))

/-- One segment of a read: n bytes, the transfer over with the last. -/
def Dev.usdoNext (d : Dev) (x : UsdoSt) (n : Nat) : Dev :=
  let rest := x.data.drop n
  let t := if rest.isEmpty then none else some { x with data := rest }
  ({ d with tr := { d.tr with usdo := t } }).emit (.answer .can 0 (x.data.take n))

/-- USDO_REQUEST: one frame of a USDO transfer (R410). A new transfer ends the one in progress. -/
def execUsdoRequest (m : UsdoMsg) (s : State) : Host.Outcome State Fault Refusal :=
  let d := s.dev
  if !d.usdoOn then .next s
  else match m with
    | .read idx sub =>
      let d := { d with tr := { d.tr with usdo := none } }
      .next { s with dev := d.usdoRead s.fuses idx.toNat sub.toNat }
    | .write idx sub data =>
      .next (State.usdoWrite { s with dev := { d with tr := { d.tr with usdo := none } } } idx.toNat sub.toNat (data.take 8))
    | .start idx sub total =>
      if 131072 < total then
        let d := { d with tr := { d.tr with usdo := none } }
        .next { s with dev := (d.recordRefusal .can idx.toNat sub.toNat 0x0B04).emit (.abort 0x06070010) }
      else
        let x : UsdoSt := { index := idx.toNat, sub := sub.toNat, write := true, data := [], total := total }
        .next { s with dev := ({ d with tr := { d.tr with usdo := some x } }).emit (.answer .can 0 []) }
    | .segment data last =>
      match d.tr.usdo with
      | some x =>
        let l := x.data ++ data
        if !x.write then .next s
        else if x.total < l.length || (last && l.length ≠ x.total) then
          let d := { d with tr := { d.tr with usdo := none } }
          .next { s with dev := (d.recordRefusal .can x.index x.sub 0x0B04).emit (.abort 0x06070010) }
        else if last then .next (State.usdoWrite { s with dev := { d with tr := { d.tr with usdo := none } } } x.index x.sub l)
        else .next { s with dev := ({ d with tr := { d.tr with usdo := some { x with data := l } } }).emit (.answer .can 0 []) }
      | none => .next s
    | .next n =>
      match d.tr.usdo with
      | some x => .next { s with dev := if x.write then d else d.usdoNext x n.val }
      | none => .next s

/-- USDO_TIMEOUT: no segment for 1 s; for a write 0x0B11 is recorded (R399, R410). -/
def execUsdoTimeout (s : State) : Host.Outcome State Fault Refusal :=
  onDev (fun d =>
    match d.tr.usdo with
    | some x =>
      if !d.usdoOn then d
      else
        let d := { d with tr := { d.tr with usdo := none } }
        (if x.write then d.recordRefusal .can x.index x.sub 0x0B11 else d).emit (.abort 0x05040000)
    | none => d) s

/-! ### PDOs (R411) -/

/-- PDOs run. -/
def Dev.pdoOn (d : Dev) : Bool := d.canOn && d.tr.nmt == 0x05

/-- The mapping entries in force. -/
def Dev.mapOf (d : Dev) (map : Nat) : List Word := d.mapAfter map 65 0

/-- The data of TPDO n, read at one instant. -/
def Dev.tpdoData (d : Dev) (f : Fuses) (n : Nat) : List Byte :=
  (d.mapOf (0x1A00 + n)).flatMap (fun v =>
    match findDesc (bits v 31 16) (bits v 15 8) with
    | some o => o.bytesFor (d.readVal f o (bits v 31 16) (bits v 15 8))
    | none => [])

def Dev.tpdoSt (d : Dev) (n : Nat) : PdoSt := tabGet (fun _ => {}) d.tr.tpdo n
def Dev.setTpdo (d : Dev) (n : Nat) (x : PdoSt) : Dev := { d with tr := { d.tr with tpdo := tabSet (fun _ => {}) d.tr.tpdo n x } }

/-- TPDO n sent with its data. -/
def Dev.tpdoSend (d : Dev) (n : Nat) (l : List Byte) : Dev :=
  (d.setTpdo n { syncs := 0, last := some l, lastTime := d.core.time }).emit (.can (bits (d.rd (0x1800 + n) 1) 28 0) l)

/-- TPDO n at a SYNC: type 0 when its data has changed, types 1 to 240 every so many SYNCs. -/
def Dev.tpdoSync (f : Fuses) (n : Nat) (d : Dev) : Dev :=
  let type := d.rdN (0x1800 + n) 2
  if d.pdoOff (0x1800 + n) || 240 < type then d
  else
    let l := d.tpdoData f n
    let x := d.tpdoSt n
    if type = 0 then
      match x.last with
      | none => d.setTpdo n { x with last := some l }
      | some old => if old = l then d else d.tpdoSend n l
    else if x.syncs + 1 < type then d.setTpdo n { x with syncs := x.syncs + 1 }
    else d.tpdoSend n l

/-- TPDO n at the check of every 100 µs: sent when its data has changed and the inhibit time has passed, or when the event timer has
(inhibit in 100 µs, event timer in ms). -/
def Dev.tpdoCheck (f : Fuses) (n : Nat) (d : Dev) : Dev :=
  let comm := 0x1800 + n
  if d.pdoOff comm || d.rdN comm 2 < 254 then d
  else
    let l := d.tpdoData f n
    let x := d.tpdoSt n
    match x.last with
    | none => d.setTpdo n { x with last := some l, lastTime := d.core.time }
    | some old =>
      let free := x.lastTime + d.rdN comm 3 * 100000 ≤ d.core.time
      let timer := d.rdN comm 5
      if (old ≠ l && free) || (timer ≠ 0 && x.lastTime + timer * 1000000 ≤ d.core.time) then d.tpdoSend n l else d

/-- TPDO_EVENT_CHECK (R411). -/
def execTpdoEventCheck (s : State) : Host.Outcome State Fault Refusal :=
  onDev (fun d => if d.pdoOn then forEach 16 (Dev.tpdoCheck s.fuses) d else d) s

/-- The SYNC swatch trigger: every SYNC_DIVIDER-th SYNC (R466). -/
def Dev.syncSwatch (d : Dev) : Dev :=
  let t := d.rd 0x3600 5
  if !bit t 59 then d
  else
    let n := d.swatch.syncs + 1
    if n < bits t 31 24 then { d with swatch := { d.swatch with syncs := n } }
    else ({ d with swatch := { d.swatch with syncs := 0 } }).swatchTrigger 1 0

/-- SYNC_RECEIVE: the swatch trigger and the synchronous TPDOs act on it (R408, R411, R466). -/
def execSyncReceive (s : State) : Host.Outcome State Fault Refusal :=
  onDev (fun d =>
    if !d.usdoOn then d
    else
      let d := d.syncSwatch
      if d.pdoOn then forEach 16 (Dev.tpdoSync s.fuses) d else d) s

/-- One mapped entry of an RPDO: an ordinary write; refused, it is recorded with 0x0B13 and skipped. -/
def State.rpdoEntry (s : State) (v : Word) (l : List Byte) : State :=
  let r := s.writeObj (bits v 31 16) (bits v 15 8) (bytesWrite .can (bits v 31 16) (bits v 15 8) l)
  if r.2.code = 0 then r.1
  else { r.1 with dev := r.1.dev.wr 0x2050 1 (setBits (r.1.dev.rd 0x2050 1) 47 32 0x0B13) }

/-- The entries of an RPDO in mapping order, each with its own bytes. -/
def State.rpdoEntries (s : State) : List Word → List Byte → State
  | [], _ => s
  | v :: t, l => (s.rpdoEntry v (l.take (mapBytes v))).rpdoEntries t (l.drop (mapBytes v))

/-- RPDO_RECEIVE: a frame of RPDO n; one too short for its mapping is ignored (R411; the latter PRESUMED, entry 14). -/
def execRpdoReceive (n : Fin 16) (data : List Byte) (s : State) : Host.Outcome State Fault Refusal :=
  let d := s.dev
  let map := d.mapOf (0x1600 + n.val)
  if !d.pdoOn || d.pdoOff (0x1400 + n.val) || data.length < (map.map mapBytes).foldl (· + ·) 0 then .next s
  else .next (s.rpdoEntries map data)

end Sys2Proof.Machine
end

