-- ==== Sys2Proof/Machine/Dispatch.lean ====
section
/-! DEFINITION. One arm per command: its meaning, called directly. -/

namespace Sys2Proof.Machine

/-- The effect of a command on everything but the queue. -/
def exec (i : Instr) (s : State) : Host.Outcome State Fault Refusal :=
  match i with
  | .powerOnReset r => Sys2Proof.Machine.execPowerOnReset r s
  | .supplyRemoval => Sys2Proof.Machine.execSupplyRemoval s
  | .railFall r => Sys2Proof.Machine.execRailFall r s
  | .vauxFall => Sys2Proof.Machine.execVauxFall s
  | .resetNAssert => Sys2Proof.Machine.execResetNAssert s
  | .resetNRelease => Sys2Proof.Machine.execResetNRelease s
  | .resetHoldExpiry p => Sys2Proof.Machine.execResetHoldExpiry p s
  | .bootComplete okA okB => Sys2Proof.Machine.execBootComplete okA okB s
  | .resetRequest path => Sys2Proof.Machine.execResetRequest path s
  | .foldRequest path => Sys2Proof.Machine.execFoldRequest path s
  | .foldQuiesce => Sys2Proof.Machine.execFoldQuiesce s
  | .wakeRequest path => Sys2Proof.Machine.execWakeRequest path s
  | .clearRequest path => Sys2Proof.Machine.execClearRequest path s
  | .stateAck w => Sys2Proof.Machine.execStateAck w s
  | .hostNotch w => Sys2Proof.Machine.execHostNotch w s
  | .objectWrite idx sub w => Sys2Proof.Machine.execObjectWrite idx sub w s
  | .bundleTokenAccept site head inPanel atPorts inHard => Sys2Proof.Machine.execBundleTokenAccept site head inPanel atPorts inHard s
  | .mergeGrant column row b second => Sys2Proof.Machine.execMergeGrant column row b second s
  | .seamDigitLaunch column row unit hardAck => Sys2Proof.Machine.execSeamDigitLaunch column row unit hardAck s
  | .seamWordLatch column row unit hard twice partner => Sys2Proof.Machine.execSeamWordLatch column row unit hard twice partner s
  | .tensionAdopt site b => Sys2Proof.Machine.execTensionAdopt site b s
  | .panelCapture path upper column row waiting => Sys2Proof.Machine.execPanelCapture path upper column row waiting s
  | .pendingValueRead path target => Sys2Proof.Machine.execPendingValueRead path target s
  | .basteComplete => Sys2Proof.Machine.execBasteComplete s
  | .basteAck w => Sys2Proof.Machine.execBasteAck w s
  | .watchWindowEnd samples => Sys2Proof.Machine.execWatchWindowEnd samples s
  | .watchAck n w => Sys2Proof.Machine.execWatchAck n w s
  | .watchStall w falling => Sys2Proof.Machine.execWatchStall w falling s
  | .islandRequestTimeout island compare fabric => Sys2Proof.Machine.execIslandRequestTimeout island compare fabric s
  | .bobbinWrite b data ctrl => Sys2Proof.Machine.execBobbinWrite b data ctrl s
  | .gapMarkerWrite b => Sys2Proof.Machine.execGapMarkerWrite b s
  | .bobbinRead b bad => Sys2Proof.Machine.execBobbinRead b bad s
  | .bobbinAck b w => Sys2Proof.Machine.execBobbinAck b w s
  | .hemFabricWrite h data tag => Sys2Proof.Machine.execHemFabricWrite h data tag s
  | .hemEntryCross h bad => Sys2Proof.Machine.execHemEntryCross h bad s
  | .hemFabricTake h => Sys2Proof.Machine.execHemFabricTake h s
  | .pendingGapWrite h => Sys2Proof.Machine.execPendingGapWrite h s
  | .hemFlush hem path => Sys2Proof.Machine.execHemFlush hem path s
  | .hemAck hem w => Sys2Proof.Machine.execHemAck hem w s
  | .shuttleStart g startPc path => Sys2Proof.Machine.execShuttleStart g startPc path s
  | .shuttleStop g path => Sys2Proof.Machine.execShuttleStop g path s
  | .shuttleStopAtNotch g path => Sys2Proof.Machine.execShuttleStopAtNotch g path s
  | .runStart g startAt up => Sys2Proof.Machine.execRunStart g startAt up s
  | .sliceBoundary g up remote => Sys2Proof.Machine.execSliceBoundary g up remote s
  | .holdEnd g beats => Sys2Proof.Machine.execHoldEnd g beats s
  | .slice g up remote => Sys2Proof.Machine.execSlice g up remote s
  | .jump g up remote => Sys2Proof.Machine.execJump g up remote s
  | .load g up remote => Sys2Proof.Machine.execLoad g up remote s
  | .loop g up remote => Sys2Proof.Machine.execLoop g up remote s
  | .call g up remote => Sys2Proof.Machine.execCall g up remote s
  | .ret g up remote => Sys2Proof.Machine.execRet g up remote s
  | .branchFlag g up remote => Sys2Proof.Machine.execBranchFlag g up remote s
  | .branchFail g up remote => Sys2Proof.Machine.execBranchFail g up remote s
  | .matchFlag g up remote => Sys2Proof.Machine.execMatchFlag g up remote s
  | .matchFail g up remote => Sys2Proof.Machine.execMatchFail g up remote s
  | .clear g up remote => Sys2Proof.Machine.execClear g up remote s
  | .halt g up remote => Sys2Proof.Machine.execHalt g up remote s
  | .reservedOpcodeFault g startAt up remote => Sys2Proof.Machine.execReservedOpcodeFault g startAt up remote s
  | .flagTokenRead g => Sys2Proof.Machine.execFlagTokenRead g s
  | .widenFlagApply g token => Sys2Proof.Machine.execWidenFlagApply g token s
  | .groupClockLost g => Sys2Proof.Machine.execGroupClockLost g s
  | .groupPllRelock g => Sys2Proof.Machine.execGroupPllRelock g s
  | .programWrite g w => Sys2Proof.Machine.execProgramWrite g w s
  | .programPatchWrite g w => Sys2Proof.Machine.execProgramPatchWrite g w s
  | .programScrubVisit g up => Sys2Proof.Machine.execProgramScrubVisit g up s
  | .failLatencyWrite g w => Sys2Proof.Machine.execFailLatencyWrite g w s
  | .shuttleAck g w => Sys2Proof.Machine.execShuttleAck g w s
  | .sampleAck g w => Sys2Proof.Machine.execSampleAck g w s
  | .d0 c rx => Sys2Proof.Machine.execD0 c rx s
  | .d1 c rx => Sys2Proof.Machine.execD1 c rx s
  | .dz c rx => Sys2Proof.Machine.execDz c rx s
  | .dk c rx => Sys2Proof.Machine.execDk c rx s
  | .cl c rx => Sys2Proof.Machine.execCl c rx s
  | .ch c rx => Sys2Proof.Machine.execCh c rx s
  | .cm c rx => Sys2Proof.Machine.execCm c rx s
  | .cx c rx => Sys2Proof.Machine.execCx c rx s
  | .d0cl c rx => Sys2Proof.Machine.execD0cl c rx s
  | .d1ch c rx => Sys2Proof.Machine.execD1ch c rx s
  | .dn c rx => Sys2Proof.Machine.execDn c rx s
  | .te c rx => Sys2Proof.Machine.execTe c rx s
  | .cc c rx => Sys2Proof.Machine.execCc c rx s
  | .reservedSymbol c rx => Sys2Proof.Machine.execReservedSymbol c rx s
  | .ed c rx => Sys2Proof.Machine.execEd c rx s
  | .nop c rx => Sys2Proof.Machine.execNop c rx s
  | .calInternal groups path => Sys2Proof.Machine.execCalInternal groups path s
  | .calLoop groups path => Sys2Proof.Machine.execCalLoop groups path s
  | .calComplete loop => Sys2Proof.Machine.execCalComplete loop s
  | .calAck w => Sys2Proof.Machine.execCalAck w s
  | .timingTableWrite g w => Sys2Proof.Machine.execTimingTableWrite g w s
  | .rawConfigWrite c w => Sys2Proof.Machine.execRawConfigWrite c w s
  | .rawIdleUnit c => Sys2Proof.Machine.execRawIdleUnit c s
  | .rawRxLock c line start => Sys2Proof.Machine.execRawRxLock c line start s
  | .rawLockLost c n line => Sys2Proof.Machine.execRawLockLost c n line s
  | .bankTick b levels => Sys2Proof.Machine.execBankTick b levels s
  | .gpioEntryApply b => Sys2Proof.Machine.execGpioEntryApply b s
  | .extClockMissing b => Sys2Proof.Machine.execExtClockMissing b s
  | .bankClockSwitch b => Sys2Proof.Machine.execBankClockSwitch b s
  | .pinFunctionWrite b n w => Sys2Proof.Machine.execPinFunctionWrite b n w s
  | .bankClockWrite b w => Sys2Proof.Machine.execBankClockWrite b w s
  | .bankOutWrite b w => Sys2Proof.Machine.execBankOutWrite b w s
  | .pinFunctionSwitch b n => Sys2Proof.Machine.execPinFunctionSwitch b n s
  | .pumpCharge ball digit => Sys2Proof.Machine.execPumpCharge ball digit s
  | .pumpDecay ball => Sys2Proof.Machine.execPumpDecay ball s
  | .safeReadback levels => Sys2Proof.Machine.execSafeReadback levels s
  | .bypass => Sys2Proof.Machine.execBypass s
  | .idcode => Sys2Proof.Machine.execIdcode s
  | .samplePreload pins cells => Sys2Proof.Machine.execSamplePreload pins cells s
  | .extest pins cells => Sys2Proof.Machine.execExtest pins cells s
  | .clamp pins => Sys2Proof.Machine.execClamp pins s
  | .highz => Sys2Proof.Machine.execHighz s
  | .extestPulse pins cells => Sys2Proof.Machine.execExtestPulse pins cells s
  | .extestTrain pins cells => Sys2Proof.Machine.execExtestTrain pins cells s
  | .testLogicReset => Sys2Proof.Machine.execTestLogicReset s
  | .jtagObjectRead idx sub => Sys2Proof.Machine.execJtagObjectRead idx sub s
  | .jtagObjectWrite idx sub value => Sys2Proof.Machine.execJtagObjectWrite idx sub value s
  | .objectData data => Sys2Proof.Machine.execObjectData data s
  | .jtagState => Sys2Proof.Machine.execJtagState s
  | .fwRescue image => Sys2Proof.Machine.execFwRescue image s
  | .cellForward fromEast c => Sys2Proof.Machine.execCellForward fromEast c s
  | .linkOpen l => Sys2Proof.Machine.execLinkOpen l s
  | .linkUp l peer delay time freqOk => Sys2Proof.Machine.execLinkUp l peer delay time freqOk s
  | .linkStable east => Sys2Proof.Machine.execLinkStable east s
  | .heartbeatSend v => Sys2Proof.Machine.execHeartbeatSend v s
  | .heartbeatReceive fromEast master seq time v duplicate => Sys2Proof.Machine.execHeartbeatReceive fromEast master seq time v duplicate s
  | .masterLost => Sys2Proof.Machine.execMasterLost s
  | .masterClaim x objected => Sys2Proof.Machine.execMasterClaim x objected s
  | .masterRelease source => Sys2Proof.Machine.execMasterRelease source s
  | .timingExchange east t1 t2 t3 t4 m => Sys2Proof.Machine.execTimingExchange east t1 t2 t3 t4 m s
  | .cascadeNotchReceive number time => Sys2Proof.Machine.execCascadeNotchReceive number time s
  | .cascadeNotchApply sets => Sys2Proof.Machine.execCascadeNotchApply sets s
  | .cascadeSwatchReceive number time => Sys2Proof.Machine.execCascadeSwatchReceive number time s
  | .leave path => Sys2Proof.Machine.execLeave path s
  | .cascadeNotchRequest path => Sys2Proof.Machine.execCascadeNotchRequest path s
  | .cascadeSwatch path => Sys2Proof.Machine.execCascadeSwatch path s
  | .threadTokenSend west => Sys2Proof.Machine.execThreadTokenSend west s
  | .threadTokenReceive west thread data => Sys2Proof.Machine.execThreadTokenReceive west thread data s
  | .creditReturn t => Sys2Proof.Machine.execCreditReturn t s
  | .threadReseal t held n present => Sys2Proof.Machine.execThreadReseal t held n present s
  | .cascadeRecover w => Sys2Proof.Machine.execCascadeRecover w s
  | .cascadeAck w => Sys2Proof.Machine.execCascadeAck w s
  | .headerRecord r => Sys2Proof.Machine.execHeaderRecord r s
  | .frameRecord r taps => Sys2Proof.Machine.execFrameRecord r taps s
  | .keyRoll r => Sys2Proof.Machine.execKeyRoll r s
  | .groupHash r => Sys2Proof.Machine.execGroupHash r s
  | .signatureRecord r => Sys2Proof.Machine.execSignatureRecord r s
  | .endRecord r bindings => Sys2Proof.Machine.execEndRecord r bindings s
  | .startupPllLock locked => Sys2Proof.Machine.execStartupPllLock locked s
  | .fittingTimeout => Sys2Proof.Machine.execFittingTimeout s
  | .cfgCsNRise => Sys2Proof.Machine.execCfgCsNRise s
  | .streamData w => Sys2Proof.Machine.execStreamData w s
  | .streamAbandon path => Sys2Proof.Machine.execStreamAbandon path s
  | .streamInactivity => Sys2Proof.Machine.execStreamInactivity s
  | .loadRequest w => Sys2Proof.Machine.execLoadRequest w s
  | .partialCommitComplete ups bindings => Sys2Proof.Machine.execPartialCommitComplete ups bindings s
  | .partialDiscard path => Sys2Proof.Machine.execPartialDiscard path s
  | .cfgScrubFrame q data check crc => Sys2Proof.Machine.execCfgScrubFrame q data check crc s
  | .recoveryCopyComplete => Sys2Proof.Machine.execRecoveryCopyComplete s
  | .startOrderWrite w => Sys2Proof.Machine.execStartOrderWrite w s
  | .cfgAck w => Sys2Proof.Machine.execCfgAck w s
  | .partialAck w => Sys2Proof.Machine.execPartialAck w s
  | .cfgScrubAck w => Sys2Proof.Machine.execCfgScrubAck w s
  | .slotOpen path slot => Sys2Proof.Machine.execSlotOpen path slot s
  | .slotData w => Sys2Proof.Machine.execSlotData w s
  | .slotClose path slot => Sys2Proof.Machine.execSlotClose path slot s
  | .slotVerifyComplete r => Sys2Proof.Machine.execSlotVerifyComplete r s
  | .slotErase path slot => Sys2Proof.Machine.execSlotErase path slot s
  | .slotAbandon path slot => Sys2Proof.Machine.execSlotAbandon path slot s
  | .slotWriteTimeout => Sys2Proof.Machine.execSlotWriteTimeout s
  | .wardrobeAck w => Sys2Proof.Machine.execWardrobeAck w s
  | .keyProgram w => Sys2Proof.Machine.execKeyProgram w s
  | .keyRevoke w => Sys2Proof.Machine.execKeyRevoke w s
  | .ownerKeyProgram w => Sys2Proof.Machine.execOwnerKeyProgram w s
  | .ownerKeyRevoke w => Sys2Proof.Machine.execOwnerKeyRevoke w s
  | .versionRaise w => Sys2Proof.Machine.execVersionRaise w s
  | .sessionRequest t w => Sys2Proof.Machine.execSessionRequest t w s
  | .sessionResponse t w => Sys2Proof.Machine.execSessionResponse t w s
  | .sessionEnd t w => Sys2Proof.Machine.execSessionEnd t w s
  | .sessionTimeout t => Sys2Proof.Machine.execSessionTimeout t s
  | .lcRequest w => Sys2Proof.Machine.execLcRequest w s
  | .lcTransitionComplete => Sys2Proof.Machine.execLcTransitionComplete s
  | .attestRequest w => Sys2Proof.Machine.execAttestRequest w s
  | .attestComplete => Sys2Proof.Machine.execAttestComplete s
  | .attestAck w => Sys2Proof.Machine.execAttestAck w s
  | .tamperEvent n => Sys2Proof.Machine.execTamperEvent n s
  | .tamperAck w => Sys2Proof.Machine.execTamperAck w s
  | .tamperConfigWrite w => Sys2Proof.Machine.execTamperConfigWrite w s
  | .fwOpen path => Sys2Proof.Machine.execFwOpen path s
  | .fwData w => Sys2Proof.Machine.execFwData w s
  | .fwVerify r => Sys2Proof.Machine.execFwVerify r s
  | .fwVerifyComplete => Sys2Proof.Machine.execFwVerifyComplete s
  | .fwActivate path => Sys2Proof.Machine.execFwActivate path s
  | .fwConfirm path => Sys2Proof.Machine.execFwConfirm path s
  | .fwRaiseVersion path => Sys2Proof.Machine.execFwRaiseVersion path s
  | .fwAbandon path => Sys2Proof.Machine.execFwAbandon path s
  | .fwAck w => Sys2Proof.Machine.execFwAck w s
  | .logSelect r => Sys2Proof.Machine.execLogSelect r s
  | .notifyAck w => Sys2Proof.Machine.execNotifyAck w s
  | .nmtStart => Sys2Proof.Machine.execNmtStart s
  | .nmtStop => Sys2Proof.Machine.execNmtStop s
  | .nmtPreOperational => Sys2Proof.Machine.execNmtPreOperational s
  | .nmtResetNode => Sys2Proof.Machine.execNmtResetNode s
  | .nmtResetCommunication => Sys2Proof.Machine.execNmtResetCommunication s
  | .syncReceive => Sys2Proof.Machine.execSyncReceive s
  | .usdoRequest m => Sys2Proof.Machine.execUsdoRequest m s
  | .usdoTimeout => Sys2Proof.Machine.execUsdoTimeout s
  | .tpdoEventCheck => Sys2Proof.Machine.execTpdoEventCheck s
  | .rpdoReceive n data => Sys2Proof.Machine.execRpdoReceive n data s
  | .canHeartbeat => Sys2Proof.Machine.execCanHeartbeat s
  | .canBusOff => Sys2Proof.Machine.execCanBusOff s
  | .mailboxRead idx sub irq => Sys2Proof.Machine.execMailboxRead idx sub irq s
  | .mailboxWrite idx sub irq data length => Sys2Proof.Machine.execMailboxWrite idx sub irq data length s
  | .pcieLinkReset => Sys2Proof.Machine.execPcieLinkReset s
  | .fabricRead => Sys2Proof.Machine.execFabricRead s
  | .fabricWrite => Sys2Proof.Machine.execFabricWrite s
  | .userObjectAccess path idx sub write len value => Sys2Proof.Machine.execUserObjectAccess path idx sub write len value s
  | .userAnswer => Sys2Proof.Machine.execUserAnswer s
  | .userTimeout id => Sys2Proof.Machine.execUserTimeout id s
  | .sensorUpdate temps volts => Sys2Proof.Machine.execSensorUpdate temps volts s
  | .trefFrequencyWrite n w => Sys2Proof.Machine.execTrefFrequencyWrite n w s
  | .groupTrefWrite w => Sys2Proof.Machine.execGroupTrefWrite w s
  | .spoolStart c path index => Sys2Proof.Machine.execSpoolStart c path index s
  | .spoolAbort c path index => Sys2Proof.Machine.execSpoolAbort c path index s
  | .spoolDoorbell c page w => Sys2Proof.Machine.execSpoolDoorbell c page w s
  | .descriptorFetch c raw => Sys2Proof.Machine.execDescriptorFetch c raw s
  | .burstGrant x => Sys2Proof.Machine.execBurstGrant x s
  | .beatComplete c data => Sys2Proof.Machine.execBeatComplete c data s
  | .busError c kind cause => Sys2Proof.Machine.execBusError c kind cause s
  | .spoolAck c w => Sys2Proof.Machine.execSpoolAck c w s
  | .tallyEvent n level => Sys2Proof.Machine.execTallyEvent n level s
  | .tallyClear n w => Sys2Proof.Machine.execTallyClear n w s
  | .tallyClearRange w => Sys2Proof.Machine.execTallyClearRange w s
  | .tallyConfigWrite n w => Sys2Proof.Machine.execTallyConfigWrite n w s
  | .tallyAck n w => Sys2Proof.Machine.execTallyAck n w s
  | .dumpPeriodExpiry => Sys2Proof.Machine.execDumpPeriodExpiry s
  | .dumpRequest w => Sys2Proof.Machine.execDumpRequest w s
  | .dumpAck w => Sys2Proof.Machine.execDumpAck w s
  | .swatchRequestLocal path => Sys2Proof.Machine.execSwatchRequestLocal path s
  | .swatchRequestCascade path => Sys2Proof.Machine.execSwatchRequestCascade path s
  | .swatchLatch views => Sys2Proof.Machine.execSwatchLatch views s
  | .swatchComplete => Sys2Proof.Machine.execSwatchComplete s
  | .swatchAck w => Sys2Proof.Machine.execSwatchAck w s
  | .repairStart => Sys2Proof.Machine.execRepairStart s
  | .repairRelease q r => Sys2Proof.Machine.execRepairRelease q r s
  | .retire path column row => Sys2Proof.Machine.execRetire path column row s
  | .repairReturn path column row => Sys2Proof.Machine.execRepairReturn path column row s
  | .repairAck w => Sys2Proof.Machine.execRepairAck w s
  | .frenchMismatch n bad => Sys2Proof.Machine.execFrenchMismatch n bad s
  | .frenchBreak n => Sys2Proof.Machine.execFrenchBreak n s
  | .frenchAck n w => Sys2Proof.Machine.execFrenchAck n w s
  | .siteTestStart column row => Sys2Proof.Machine.execSiteTestStart column row s
  | .bistSliceEnd column row sig4 sigT => Sys2Proof.Machine.execBistSliceEnd column row sig4 sigT s
  | .bistArray path => Sys2Proof.Machine.execBistArray path s
  | .bistArrayComplete fails margins => Sys2Proof.Machine.execBistArrayComplete fails margins s
  | .bistAck w => Sys2Proof.Machine.execBistAck w s
  | .blockRead m b a data be badOp up => Sys2Proof.Machine.execBlockRead m b a data be badOp up s
  | .blockWrite m b a data be up => Sys2Proof.Machine.execBlockWrite m b a data be up s
  | .blockWritePoison m b a data up => Sys2Proof.Machine.execBlockWritePoison m b a data up s
  | .correctionWriteback m => Sys2Proof.Machine.execCorrectionWriteback m s
  | .leakInstant => Sys2Proof.Machine.execLeakInstant s
  | .patrolScrubVisit up => Sys2Proof.Machine.execPatrolScrubVisit up s
  | .scrubRequest w => Sys2Proof.Machine.execScrubRequest w s
  | .scrubComplete ups => Sys2Proof.Machine.execScrubComplete ups s
  | .scrubAck w => Sys2Proof.Machine.execScrubAck w s
  | .blockRepair m w => Sys2Proof.Machine.execBlockRepair m w s
  | .blockRepairComplete m mapFails => Sys2Proof.Machine.execBlockRepairComplete m mapFails s
  | .flipInject m w => Sys2Proof.Machine.execFlipInject m w s
  | .blockAck m w => Sys2Proof.Machine.execBlockAck m w s
  | .permitRefresh => Sys2Proof.Machine.execPermitRefresh s
  | .permitGateTimeout => Sys2Proof.Machine.execPermitGateTimeout s
  | .lockstepMismatch => Sys2Proof.Machine.execLockstepMismatch s
  | .liningPlaneFail plane => Sys2Proof.Machine.execLiningPlaneFail plane s
  | .liningBothFail => Sys2Proof.Machine.execLiningBothFail s
  | .liningTest passed => Sys2Proof.Machine.execLiningTest passed s
  | .lockstepSelfTest caught => Sys2Proof.Machine.execLockstepSelfTest caught s
  | .proofRequest w => Sys2Proof.Machine.execProofRequest w s
  | .proofTestEnd ok => Sys2Proof.Machine.execProofTestEnd ok s
  | .proofDueWarning f => Sys2Proof.Machine.execProofDueWarning f s
  | .proofIntervalExpiry f => Sys2Proof.Machine.execProofIntervalExpiry f s
  | .safetyAck w => Sys2Proof.Machine.execSafetyAck w s
  | .thermalAck w => Sys2Proof.Machine.execThermalAck w s
  | .wearModelUpdate => Sys2Proof.Machine.execWearModelUpdate s
  | .gaugeMeasure ratios => Sys2Proof.Machine.execGaugeMeasure ratios s
  | .wearPrediction => Sys2Proof.Machine.execWearPrediction s
  | .wearHeadroomWrite w => Sys2Proof.Machine.execWearHeadroomWrite w s
  | .wearAck w => Sys2Proof.Machine.execWearAck w s
  | .rawSerialiserTake c => Sys2Proof.Machine.execRawSerialiserTake c s
  | .rawReceiverEntry c line => Sys2Proof.Machine.execRawReceiverEntry c line s
  | .cascadeRequestCell r => Sys2Proof.Machine.execCascadeRequestCell r s
  | .widenCommandReceive g cmd startPc time => Sys2Proof.Machine.execWidenCommandReceive g cmd startPc time s
  | .cascadeRecoverComplete broken => Sys2Proof.Machine.execCascadeRecoverComplete broken s
  | .slotEraseComplete => Sys2Proof.Machine.execSlotEraseComplete s
  | .batteryStoreLoss => Sys2Proof.Machine.execBatteryStoreLoss s
  | .tref0PresenceChange v => Sys2Proof.Machine.execTref0PresenceChange v s
  | .canErrorPassive tec rec' => Sys2Proof.Machine.execCanErrorPassive tec rec' s

end Sys2Proof.Machine
end

