-- ==== Sys2Proof/Safety.lean ====
section
/-! DEFINITION. What claims about the block are said in: what a command leaves alone, the rows that are writes of one object or
acknowledgements, and the fuses' one direction. -/

namespace Sys2Proof.Machine

/-! ### Frames -/

/-- A command changed the device at most: neither the queue nor the fuses. -/
def Kept (s t : State) : Prop := t.pending = s.pending ∧ t.fuses = s.fuses

/-- Every object register outside a set reads as before. -/
def RegsKept (touched : Nat → Nat → Bool) (d e : Dev) : Prop :=
  ∀ i j, j < 256 → touched i j = false → e.rd i j = d.rd i j

/-- The registers that logging and notifying move: newest log number, LAST_EVENT, WEAR_PEAK, the notification ring's numbers and the
count of inhibited EMCYs (R402 to R404, R427, R350, R521). -/
def reportReg (i j : Nat) : Bool :=
  (i == 0x2310 && j == 1) || (i == 0x2003 && (j == 1 || j == 2)) || (i == 0x2130 && j == 5) ||
    (i == 0x2041 && (j == 1 || j == 4)) || (i == 0x2040 && j == 0x0C)

/-- What logging and notifying may leave behind: the registers of reportReg, the wardrobe's log and access counts, the ring with its
pending vectors and the inhibited EMCY, entries in the Thimble's hem, outputs. Everything else is as it was. -/
structure Reported (d e : Dev) : Prop where
  regs : RegsKept reportReg d e
  core : e.core = d.core
  env : e.env = d.env
  strs : e.strs = d.strs
  staged : e.staged = d.staged
  freeCtr : e.freeCtr = d.freeCtr
  nv : { e.nv with
    log := d.nv.log, logCount := d.nv.logCount, unitCount := d.nv.unitCount, unitMap := d.nv.unitMap
    reserve := d.nv.reserve, exchanged := d.nv.exchanged, wearPeakSeen := d.nv.wearPeakSeen } = d.nv
  tr : { e.tr with ring := d.tr.ring, pendingVec := d.tr.pendingVec, emcyLast := d.tr.emcyLast } = d.tr
  half : ∀ h, h ≠ 237 → e.half h = d.half h
  hemWin : ∀ h, h ≠ 214 → e.hemWinOf h = d.hemWinOf h
  panels : e.panels = d.panels
  seams : e.seams = d.seams
  wiring : e.wiring = d.wiring
  baste : e.baste = d.baste
  watch : e.watch = d.watch
  window : e.window = d.window
  bobbins : e.bobbins = d.bobbins
  blocks : e.blocks = d.blocks
  scrub : e.scrub = d.scrub
  patrol : e.patrol = d.patrol
  shuttles : e.shuttles = d.shuttles
  programs : e.programs = d.programs
  progErrs : e.progErrs = d.progErrs
  needles : e.needles = d.needles
  cal : e.cal = d.cal
  banks : e.banks = d.banks
  safeBalls : e.safeBalls = d.safeBalls
  cascade : e.cascade = d.cascade
  config : e.config = d.config
  sec : e.sec = d.sec
  spool : e.spool = d.spool
  rr : e.rr = d.rr
  tally : e.tally = d.tally
  swatch : e.swatch = d.swatch
  darn : e.darn = d.darn
  safety : e.safety = d.safety

/-- Index i, any of a list of subindices. -/
def regsOf (i : Nat) (subs : List Nat) (i' j' : Nat) : Bool := i' == i && subs.contains j'

/-! ### Rows that write one object -/

/-- A write reaches its object and passes the ordered checks (R397). -/
def Accepted (o : Desc) (a : Act) (w : Wr) (d : Dev) : Prop := d.dictionary = true ∧ writeCheck o a w d = 0

/-- A command that is the write of one object: its descriptor, what the object adds, where it stands, the write. -/
structure WriteRow where
  desc : Desc
  act : Act
  index : Nat
  sub : Nat
  write : Wr

/-- The write that a command is, for the rows that are one write. -/
def writeRow (f : Fuses) : Instr → Option WriteRow
  | .resetRequest path => some ⟨objStateRequest, actStateRequest, 0x2001, 0, { path := path, len := 1, value := word 1 }⟩
  | .foldRequest path => some ⟨objStateRequest, actStateRequest, 0x2001, 0, { path := path, len := 1, value := word 2 }⟩
  | .wakeRequest path => some ⟨objStateRequest, actStateRequest, 0x2001, 0, { path := path, len := 1, value := word 3 }⟩
  | .clearRequest path => some ⟨objStateRequest, actStateRequest, 0x2001, 0, { path := path, len := 1, value := word 4 }⟩
  | .stateAck w => some ⟨objStateAck, actStateAck, 0x2000, 2, w⟩
  | .hostNotch w => some ⟨objHostNotch, actHostNotch, 0x2004, 3, w⟩
  | .panelCapture path upper column row waiting => some ⟨objBasteRequest, actBaste (fun _ _ t => captureExists t) (latchPanel waiting), 0x2170, 2, captureWr path upper column row⟩
  | .pendingValueRead path target => some ⟨objBasteRequest, actBaste basteExists (latchBaste f), 0x2170, 2, { path := path, len := 8, value := word (2 ^ 57 + target.toNat) }⟩
  | .basteAck w => some ⟨objBasteAck, ackAct objBasteAck 0x2170 1 14, 0x2170, 4, w⟩
  | .watchAck n w => some ⟨objWatchAck, ackAct objWatchAck (0x3B80 + n.val) 1 15, 0x3B80 + n.val, 2, w⟩
  | .bobbinAck b w => some ⟨objBobbinAck, actBobbinAck (0x4400 + b.val), 0x4400 + b.val, 2, w⟩
  | .hemFlush hem path => some ⟨objHemCommand, actHemCommand hem.val, 0x3000 + hem.val, 0x0B, { path := path, len := 1, value := 1 }⟩
  | .hemAck hem w => some ⟨objHemAck, ackAct objHemAck (0x3000 + hem.val) 1 15, 0x3000 + hem.val, 2, w⟩
  | .programWrite g w => some ⟨objProgram, actProgram g.val w, 0x3110 + g.val, 1, w⟩
  | .programPatchWrite g w => some ⟨objProgramPatch, actProgramPatch g.val w, 0x3110 + g.val, 2, w⟩
  | .failLatencyWrite g w => some ⟨objFailLatency, actFailLatency g.val, shIdx g.val, 9, w⟩
  | .shuttleAck g w => some ⟨objShuttleAck, ackAct objShuttleAck (shIdx g.val) 1 15, shIdx g.val, 2, w⟩
  | .sampleAck g w => some ⟨objSampleAck, actSampleAck g.val, sampleIdx g.val, 2, w⟩
  | .calAck w => some ⟨objCalAck, ackAct objCalAck 0x3340 1 14, 0x3340, 4, w⟩
  | .timingTableWrite g w => some ⟨objTimingTable, actTimingTable g.val w, 0x3300 + g.val, 1, w⟩
  | .rawConfigWrite c w => some ⟨objRawConfig, actRawConfig c.val, 0x3200 + c.val, 5, w⟩
  | .pinFunctionWrite b n w => some ⟨objPinFunction, actPinFunction b.val n.val, pinIdx b.val n.val, 2, w⟩
  | .bankClockWrite b w => some ⟨objBankClock, actBankClock b.val, bankIdx b.val, 2, w⟩
  | .bankOutWrite b w => some ⟨objBankOut, actBankOut b.val, bankIdx b.val, 4, w⟩
  | .leave path => some ⟨objCascadeRequest, actCascadeRequest, 0x2400, 5, ringWr path 1⟩
  | .cascadeNotchRequest path => some ⟨objCascadeRequest, actCascadeRequest, 0x2400, 5, ringWr path 2⟩
  | .cascadeSwatch path => some ⟨objCascadeRequest, actCascadeRequest, 0x2400, 5, ringWr path 3⟩
  | .cascadeRecover w => some ⟨objRecoverRequest, actRecoverRequest, 0x2450, 2, w⟩
  | .cascadeAck w => some ⟨objCascadeAck, ackAct objCascadeAck 0x2400 1 15, 0x2400, 2, w⟩
  | .streamData w => some ⟨objStreamData, actStreamData, 0x2101, 1, w⟩
  | .streamAbandon path => some ⟨objStreamCommand, actStreamCommand, 0x2101, 2, { path := path, len := 1, value := 1 }⟩
  | .loadRequest w => some ⟨objLoadRequest, actLoadRequest, 0x2100, 9, w⟩
  | .partialDiscard path => some ⟨objPartialDiscard, actPartialDiscard, 0x2110, 4, { path := path, len := 1, value := 1 }⟩
  | .startOrderWrite w => some ⟨objStartOrder, actStartOrder, 0x2010, 1, w⟩
  | .cfgAck w => some ⟨objCfgAck, ackAct objCfgAck 0x2100 1 14, 0x2100, 2, w⟩
  | .partialAck w => some ⟨objPartialAck, ackAct objPartialAck 0x2110 1 14, 0x2110, 2, w⟩
  | .cfgScrubAck w => some ⟨objCfgScrubAck, ackAct objCfgScrubAck 0x2120 1 14, 0x2120, 2, w⟩
  | .slotOpen path slot => some ⟨objSlotCommand, actSlotCommand, 0x2130, 3, slotWr path 1 slot⟩
  | .slotData w => some ⟨objSlotData, actSlotData f, 0x2131, 0, w⟩
  | .slotClose path slot => some ⟨objSlotCommand, actSlotCommand, 0x2130, 3, slotWr path 2 slot⟩
  | .slotErase path slot => some ⟨objSlotCommand, actSlotCommand, 0x2130, 3, slotWr path 3 slot⟩
  | .slotAbandon path slot => some ⟨objSlotCommand, actSlotCommand, 0x2130, 3, slotWr path 4 slot⟩
  | .wardrobeAck w => some ⟨objWardrobeAck, ackAct objWardrobeAck 0x2130 1 14, 0x2130, 2, w⟩
  | .keyProgram w => some ⟨objKeyProgram, actKeyProgram f, 0x2201, 2, w⟩
  | .keyRevoke w => some ⟨objKeyRevoke, actKeyRevoke, 0x2201, 3, w⟩
  | .ownerKeyProgram w => some ⟨objOwnerKeyProgram, actOwnerKeyProgram f, 0x2202, 2, w⟩
  | .ownerKeyRevoke w => some ⟨objOwnerKeyRevoke, actOwnerKeyRevoke f, 0x2202, 3, w⟩
  | .versionRaise w => some ⟨objVersionRaise, actVersionRaise f, 0x2202, 6, w⟩
  | .sessionRequest t w => some ⟨objSessionRequest, actSessionRequest t.val, sessionIdx t.val, 2, w⟩
  | .sessionResponse t w => some ⟨objResponse, actSessionResponse f t.val, sessionIdx t.val, 4, w⟩
  | .sessionEnd t w => some ⟨objSessionEnd, actSessionEnd t.val, sessionIdx t.val, 5, w⟩
  | .lcRequest w => some ⟨objLcRequest, actLcRequest f, 0x2200, 2, w⟩
  | .attestRequest w => some ⟨objAttestRequest, actAttestRequest f, 0x2220, 2, w⟩
  | .attestAck w => some ⟨objAttestAck, ackAct objAttestAck 0x2220 1 14, 0x2220, 4, w⟩
  | .tamperAck w => some ⟨objTamperAck, actTamperAck, 0x2230, 2, w⟩
  | .tamperConfigWrite w => some ⟨objTamperConfig, actTamperConfig f, 0x2230, 3, w⟩
  | .fwOpen path => some ⟨objFwCommand, actFwCommand f, 0x2160, 3, fwWr path 1⟩
  | .fwData w => some ⟨objFwData, actFwData, 0x2161, 0, w⟩
  | .fwVerify r => some ⟨objFwCommand, actFwCommand f, 0x2160, 3, fwWr r.path 2⟩
  | .fwActivate path => some ⟨objFwCommand, actFwCommand f, 0x2160, 3, fwWr path 3⟩
  | .fwConfirm path => some ⟨objFwCommand, actFwCommand f, 0x2160, 3, fwWr path 4⟩
  | .fwRaiseVersion path => some ⟨objFwCommand, actFwCommand f, 0x2160, 3, fwWr path 5⟩
  | .fwAbandon path => some ⟨objFwCommand, actFwCommand f, 0x2160, 3, fwWr path 6⟩
  | .fwAck w => some ⟨objFwAck, ackAct objFwAck 0x2160 1 14, 0x2160, 2, w⟩
  | .logSelect r => some ⟨objLogSelect, actLogSelect r.fails, 0x2310, 2, r.write⟩
  | .notifyAck w => some ⟨objNotifyAck, actNotifyAck, 0x2041, 2, w⟩
  | .trefFrequencyWrite n w => some ⟨objTrefFrequency, actTrefFrequency n.val, 0x2080, 1 + n.val, w⟩
  | .groupTrefWrite w => some ⟨objGroupTref, actGroupTref, 0x2080, 5, w⟩
  | .spoolStart c path index => some ⟨objSpoolCommand, actSpoolCommand c.val, 0x3400 + c.val, 3, { path := path, len := 4, value := word (0x01000000 + index.toNat) }⟩
  | .spoolAbort c path index => some ⟨objSpoolCommand, actSpoolCommand c.val, 0x3400 + c.val, 3, { path := path, len := 4, value := word (0x02000000 + index.toNat) }⟩
  | .spoolAck c w => some ⟨objSpoolAck, ackAct objSpoolAck (0x3400 + c.val) 1 15, 0x3400 + c.val, 2, w⟩
  | .tallyClear n w => some ⟨objTallyClear, actTallyClear n.val, tallyIdx n.val, 8, w⟩
  | .tallyClearRange w => some ⟨objTallyClearRange, actTallyClearRange, 0x3500, 3, w⟩
  | .tallyConfigWrite n w => some ⟨objTallyConfig, actTallyConfig n.val, tallyIdx n.val, 3, w⟩
  | .tallyAck n w => some ⟨objTallyAck, ackAct objTallyAck (tallyIdx n.val) 1 15, tallyIdx n.val, 2, w⟩
  | .dumpRequest w => some ⟨objDumpRequest, actDumpRequest, 0x3501, 5, w⟩
  | .dumpAck w => some ⟨objDumpAck, ackAct objDumpAck 0x3501 1 15, 0x3501, 2, w⟩
  | .swatchRequestLocal path => some ⟨objSwatchRequest, actSwatchRequest, 0x3600, 3, { path := path, len := 1, value := 1 }⟩
  | .swatchRequestCascade path => some ⟨objSwatchRequest, actSwatchRequest, 0x3600, 3, { path := path, len := 1, value := 2 }⟩
  | .swatchAck w => some ⟨objSwatchAck, actSwatchAck, 0x3600, 2, w⟩
  | .retire path column row => some ⟨objRepairRequest, actRepairRequest, 0x3900, 3, { path := path, len := 4, value := word (0x01000000 + column.toNat * 256 + row.toNat) }⟩
  | .repairReturn path column row => some ⟨objRepairRequest, actRepairRequest, 0x3900, 3, { path := path, len := 4, value := word (0x02000000 + column.toNat * 256 + row.toNat) }⟩
  | .repairAck w => some ⟨objRepairAck, ackAct objRepairAck 0x3900 1 15, 0x3900, 2, w⟩
  | .frenchAck n w => some ⟨objFrenchAck, ackAct objFrenchAck (0x3980 + n.val) 1 15, 0x3980 + n.val, 2, w⟩
  | .bistArray path => some ⟨objBistRequest, actBistRequest, 0x3800, 5, { path := path, len := 1, value := 1 }⟩
  | .bistAck w => some ⟨objBistAck, ackAct objBistAck 0x3800 1 15, 0x3800, 2, w⟩
  | .scrubRequest w => some ⟨objScrubRequest, actScrubRequest, 0x3701, 2, w⟩
  | .scrubAck w => some ⟨objScrubAck, ackAct objScrubAck 0x3701 1 14, 0x3701, 4, w⟩
  | .flipInject m w => some ⟨objBlockFlipInject, actFlipInject m.val, 0x4800 + m.val, 0x0B, w⟩
  | .blockAck m w => some ⟨objBlockAck, ackAct objBlockAck (0x4800 + m.val) 1 15, 0x4800 + m.val, 2, w⟩
  | .proofRequest w => some ⟨objProofRequest, actProofRequest, 0x3A00, 3, w⟩
  | .safetyAck w => some ⟨objSafetyAck, ackAct objSafetyAck 0x3A00 1 15, 0x3A00, 2, w⟩
  | .thermalAck w => some ⟨objThermalAck, ackAct objThermalAck 0x2030 1 15, 0x2030, 2, w⟩
  | .wearHeadroomWrite w => some ⟨objWearHeadroom, actWearHeadroom, 0x2300, 9, w⟩
  | .wearAck w => some ⟨objWearAck, ackAct objWearAck 0x2300 1 15, 0x2300, 2, w⟩
  | _ => none

/-- A command that acknowledges the status word index.01: its descriptor, its subindex, the place of UNACKED, the write. -/
structure AckRow where
  desc : Desc
  index : Nat
  sub : Nat
  unacked : Nat
  write : Wr

/-- The acknowledgements of R400 that do nothing more. -/
def ackRow : Instr → Option AckRow
  | .basteAck w => some ⟨objBasteAck, 0x2170, 4, 14, w⟩
  | .watchAck n w => some ⟨objWatchAck, 0x3B80 + n.val, 2, 15, w⟩
  | .hemAck hem w => some ⟨objHemAck, 0x3000 + hem.val, 2, 15, w⟩
  | .shuttleAck g w => some ⟨objShuttleAck, shIdx g.val, 2, 15, w⟩
  | .calAck w => some ⟨objCalAck, 0x3340, 4, 14, w⟩
  | .cascadeAck w => some ⟨objCascadeAck, 0x2400, 2, 15, w⟩
  | .cfgAck w => some ⟨objCfgAck, 0x2100, 2, 14, w⟩
  | .partialAck w => some ⟨objPartialAck, 0x2110, 2, 14, w⟩
  | .cfgScrubAck w => some ⟨objCfgScrubAck, 0x2120, 2, 14, w⟩
  | .wardrobeAck w => some ⟨objWardrobeAck, 0x2130, 2, 14, w⟩
  | .attestAck w => some ⟨objAttestAck, 0x2220, 4, 14, w⟩
  | .fwAck w => some ⟨objFwAck, 0x2160, 2, 14, w⟩
  | .spoolAck c w => some ⟨objSpoolAck, 0x3400 + c.val, 2, 15, w⟩
  | .tallyAck n w => some ⟨objTallyAck, tallyIdx n.val, 2, 15, w⟩
  | .dumpAck w => some ⟨objDumpAck, 0x3501, 2, 15, w⟩
  | .repairAck w => some ⟨objRepairAck, 0x3900, 2, 15, w⟩
  | .frenchAck n w => some ⟨objFrenchAck, 0x3980 + n.val, 2, 15, w⟩
  | .bistAck w => some ⟨objBistAck, 0x3800, 2, 15, w⟩
  | .scrubAck w => some ⟨objScrubAck, 0x3701, 4, 14, w⟩
  | .blockAck m w => some ⟨objBlockAck, 0x4800 + m.val, 2, 15, w⟩
  | .safetyAck w => some ⟨objSafetyAck, 0x3A00, 2, 15, w⟩
  | .thermalAck w => some ⟨objThermalAck, 0x2030, 2, 15, w⟩
  | .wearAck w => some ⟨objWearAck, 0x2300, 2, 15, w⟩
  | _ => none

/-! ### Boundaries of a run (R202) -/

/-- Shuttle g is at a boundary at which nothing but the control action of its instruction acts: it runs a slice of its own, its
needles have finished slice s − L, no other member of a widened set takes part, the instruction carries neither notch nor
sample, no cascade notch is due, and nothing asks the run to end. -/
structure PlainBoundary (d : Dev) (g : Nat) : Prop where
  running : (d.shuttle g).state = .running
  own : (d.shuttle g).curSubst = false
  runs : d.groupRuns g = true
  alone : d.remoteMembers g = false
  ready : d.latency g ≤ (d.shuttle g).slices - 1 → d.vecReady g ((d.shuttle g).slices - 1 - d.latency g) = true
  noNotch : notchOf (d.shuttle g).word = false
  noSample : sampleOf (d.shuttle g).word = false
  noCascade : d.cascade.notches = []
  noStop : (d.shuttle g).stopReq = .none
  noFault : (d.shuttle g).floorFault = false

/-- The fail vector that the control action of shuttle g sees: that of slice s − L, once there is one (R205, R208). -/
def Dev.seenVec (d : Dev) (g : Nat) : BitVec 8 :=
  if d.latency g ≤ (d.shuttle g).slices - 1 then d.failVec g ((d.shuttle g).slices - 1 - d.latency g) else 0

/-! ### Fuses (R356 to R360, R376, R386) -/

/-- A transition that has begun goes up (R377). -/
def FusesInv (f : Fuses) : Prop := ∀ n, f.lcBegin = some n → f.lifecycle < n

/-- Nothing that a fuse of f says is undone in g: the life cycle, the minimum versions and the masks only rise, an owner key's
digest stays, and what was set at manufacture stays. -/
structure FusesLe (f g : Fuses) : Prop where
  lifecycle : f.lifecycle ≤ g.lifecycle
  programmed : f.keysProgrammed &&& g.keysProgrammed = f.keysProgrammed
  revoked : f.keysRevoked &&& g.keysRevoked = f.keysRevoked
  owners : f.ownersProgrammed &&& g.ownersProgrammed = f.ownersProgrammed
  ownersRevoked : f.ownersRevoked &&& g.ownersRevoked = f.ownersRevoked
  versionMin : f.versionMin ≤ g.versionMin
  fwMin : f.fwMin ≤ g.fwMin
  identity : f.identityKilled = true → g.identityKilled = true
  digests : ∀ k, k < 4 → f.ownersProgrammed.getLsbD k = true →
    tabGet (fun _ => []) g.ownerDigests k = tabGet (fun _ => []) f.ownerDigests k
  made : g.variant = f.variant ∧ g.stepping = f.stepping ∧ g.uid = f.uid ∧ g.blockSpares = f.blockSpares

end Sys2Proof.Machine
end

