-- ==== Sys2Proof/Certificates/Slice0/Obligations.lean ====
section
/-! DEFINITION. What is claimed of the block: one statement per group of commands, on what the command does and what it leaves alone,
and the statements about the whole machine. -/

open Sys2Proof Sys2Proof.Machine

/-- Step and exec agree: the command at the front runs with the queue's rest. On an empty queue time goes on, which is the model's choice
(entry 3; that DEVICE_TIME counts from BOOT on is R427). -/
def Obligations.StepRunsFrontCommand : Prop :=
  (∀ (c : Instr) (rest : List Instr) (s : State),
    step { s with pending := c :: rest } = exec c { s with pending := rest }) ∧
  (∀ s : State, s.pending = [] →
    ∃ t, step s = .next t ∧ Kept s t ∧ { t.dev with core := s.dev.core } = s.dev ∧
      { t.dev.core with time := s.dev.core.time } = s.dev.core ∧
      t.dev.core.time = s.dev.core.time + (if s.dev.timeRuns then 1 else 0))

/-- No command of the block stops it, and no command touches the queue behind it (R29: the block is always in one of its states; a write
that is turned away is turned away with a reason code, R397). -/
def Obligations.EveryStepConsumesOneCommand : Prop :=
  ∀ s : State, ∃ t, step s = .next t ∧ t.pending = s.pending.tail

/-- The fuses are one-way over every step by every command, from every state that meets the invariant FusesInv. -/
def Obligations.FusesOnlyBlow : Prop :=
  ∀ s t : State, FusesInv s.fuses → step s = .next t → FusesInv t.fuses ∧ FusesLe s.fuses t.fuses

/-- State.reset is what a power-on reset leaves (R30, R537), with the change into RESET in STATE_STATUS (R400, R427). -/
def Obligations.ResetStateHoldsResetValues : Prop :=
  State.reset.pending = [] ∧ State.reset.dev.core.state = .reset ∧ State.reset.dev.core.holdRunning = true ∧
  State.reset.dev.env.resetN = true ∧ State.reset.dev.rdN 0x2000 1 = 0x18000 ∧ State.reset.dev.rdN 0x2000 3 = 0x0B70 ∧
  (∀ i j, j < 256 → ¬(i = 0x2000 ∧ (j = 1 ∨ j = 3)) → State.reset.dev.rd i j = regDefault (objKey i j)) ∧
  State.reset.dev.staged = [] ∧ State.reset.dev.safety.permits = 0 ∧ (∀ k, (State.reset.dev.session k).role = none) ∧
  State.reset.dev.nv.log = [] ∧ FusesInv State.reset.fuses ∧
  (∀ r : Fin 6,
    exec (.powerOnReset r) { State.reset with dev := {
      wiring := Config.wiring, nv := { golden := Config.golden }, core := { state := .off }
      env := { rails := ~~~ BitVec.ofNat 6 (2 ^ r.val) } } } = .next State.reset)

/-- Refused writes (R397, R427), for every row that is one write. lateCode tells the orders that may leave something in the object itself
(R70 and alike). -/
def Obligations.RefusedCommandLeavesOnlyItsRecord : Prop :=
  ∀ (c : Instr) (s : State) (r : WriteRow), writeRow s.fuses c = some r →
    (s.dev.dictionary = false → exec c s = .next s) ∧
    (s.dev.dictionary = true → ∀ code, code = writeCheck r.desc r.act r.write s.dev → code ≠ 0 →
      ∃ t d, exec c s = .next t ∧ Kept s t ∧ d = (if lateCode code then r.act.refuse code s.dev else s.dev) ∧
        { t.dev with regs := d.regs } = d ∧ RegsKept (regsOf 0x2050 [recordSub r.write.path]) d t.dev ∧
        bits (t.dev.rd 0x2050 (recordSub r.write.path)) 63 48 = (bits (d.rd 0x2050 (recordSub r.write.path)) 63 48 + 1) % 65536 ∧
        (code < 65536 ∧ r.index < 65536 ∧ r.sub < 256 →
          bits (t.dev.rd 0x2050 (recordSub r.write.path)) 47 32 = code ∧
          bits (t.dev.rd 0x2050 (recordSub r.write.path)) 31 16 = r.index ∧
          bits (t.dev.rd 0x2050 (recordSub r.write.path)) 15 8 = r.sub))

/-- Acknowledgement (R400) by BASTE_ACK, WATCH_ACK, HEM_ACK, SHUTTLE_ACK, CAL_ACK, CASCADE_ACK, CFG_ACK, PARTIAL_ACK, CFG_SCRUB_ACK,
WARDROBE_ACK, ATTEST_ACK, FW_ACK, SPOOL_ACK, TALLY_ACK, DUMP_ACK, REPAIR_ACK, FRENCH_ACK, BIST_ACK, SCRUB_ACK, BLOCK_ACK, SAFETY_ACK,
THERMAL_ACK and WEAR_ACK. -/
def Obligations.AcknowledgeClearsUnacked : Prop :=
  ∀ (c : Instr) (s : State) (r : AckRow) (x : WriteRow), ackRow c = some r → writeRow s.fuses c = some x →
    Accepted x.desc x.act x.write s.dev →
    ∃ t, exec c s = .next t ∧ Kept s t ∧ { t.dev with regs := s.dev.regs } = s.dev ∧
      RegsKept (regsOf r.index [1]) s.dev t.dev ∧
      t.dev.rd r.index 1 =
        (if r.desc.num r.write = bits (s.dev.rd r.index 1) 31 16 then setBit (s.dev.rd r.index 1) r.unacked false
         else s.dev.rd r.index 1)

/-- BOBBIN_ACK (R129), SWATCH_ACK (R473), SAMPLE_ACK (R218), TAMPER_ACK (R383), STATE_ACK outside SAFE (R400), NOTIFY_ACK (R403). -/
def Obligations.OtherAcknowledgements : Prop :=
  (∀ (b : Fin 768) (w : Wr) (s : State), Accepted objBobbinAck (actBobbinAck (0x4400 + b.val)) w s.dev →
    objBobbinAck.num w = bits (s.dev.rd (0x4400 + b.val) 1) 31 16 →
    ∃ t, exec (.bobbinAck b w) s = .next t ∧ Kept s t ∧ { t.dev with regs := s.dev.regs } = s.dev ∧
      RegsKept (regsOf (0x4400 + b.val) [1]) s.dev t.dev ∧
      bit (t.dev.rd (0x4400 + b.val) 1) 15 = false ∧ bit (t.dev.rd (0x4400 + b.val) 1) 13 = false) ∧
  (∀ (w : Wr) (s : State), Accepted objSwatchAck actSwatchAck w s.dev →
    objSwatchAck.num w = bits (s.dev.rd 0x3600 1) 31 16 →
    ∃ t, exec (.swatchAck w) s = .next t ∧ Kept s t ∧ { t.dev with regs := s.dev.regs } = s.dev ∧
      RegsKept (regsOf 0x3600 [1, 8]) s.dev t.dev ∧ bit (t.dev.rd 0x3600 1) 15 = false ∧
      t.dev.rdN 0x3600 8 = s.dev.swatch.number % 2 ^ 32) ∧
  (∀ (g : Fin 12) (w : Wr) (s : State), Accepted objSampleAck (actSampleAck g.val) w s.dev →
    s.dev.rdN (0x3120 + g.val) 5 ≤ objSampleAck.num w → objSampleAck.num w ≤ s.dev.rdN (0x3120 + g.val) 4 →
    ∃ t, exec (.sampleAck g w) s = .next t ∧ Kept s t ∧ { t.dev with regs := s.dev.regs } = s.dev ∧
      RegsKept (regsOf (0x3120 + g.val) [5]) s.dev t.dev ∧ t.dev.rdN (0x3120 + g.val) 5 = objSampleAck.num w) ∧
  (∀ (w : Wr) (s : State), Accepted objTamperAck actTamperAck w s.dev → objTamperAck.num w = s.dev.nv.tamperSeq →
    ∃ t, exec (.tamperAck w) s = .next t ∧ Kept s t ∧ { t.dev with nv := s.dev.nv } = s.dev ∧
      t.dev.nv = { s.dev.nv with tampered := false, tamperUnacked := false, vbatLost := false }) ∧
  (∀ (w : Wr) (s : State), Accepted objStateAck actStateAck w s.dev → s.dev.core.state ≠ .safe →
    objStateAck.num w = bits (s.dev.rd 0x2000 1) 31 16 →
    ∃ t, exec (.stateAck w) s = .next t ∧ Kept s t ∧ { t.dev with regs := s.dev.regs } = s.dev ∧
      RegsKept (regsOf 0x2000 [1]) s.dev t.dev ∧ t.dev.rd 0x2000 1 = setBit (s.dev.rd 0x2000 1) 15 false) ∧
  (∀ (w : Wr) (s : State), Accepted objNotifyAck actNotifyAck w s.dev → s.dev.rdN 0x2041 3 ≤ objNotifyAck.num w →
    objNotifyAck.num w ≤ s.dev.rdN 0x2041 1 →
    ∃ t, exec (.notifyAck w) s = .next t ∧ Kept s t ∧ RegsKept (regsOf 0x2041 [3]) s.dev t.dev ∧
      t.dev.rdN 0x2041 3 = objNotifyAck.num w ∧ t.dev.tr.ring = s.dev.tr.ring ∧
      (∀ v, v < 64 → t.dev.tr.pendingVec.getLsbD v =
        (decide (17 ≤ v) && s.dev.tr.ring.any (fun e => decide (objNotifyAck.num w < e.number) && e.vector == v))))

/-- OBJECT_WRITE (R22 to R27, R397) for objects whose row adds nothing: RW held, RWN staged. -/
def Obligations.ObjectWriteHoldsOrStages : Prop :=
  ∀ (idx : BitVec 16) (sub : BitVec 8) (w : Wr) (s : State) (o : Desc),
    findDesc idx.toNat sub.toNat = some o → o.hook = .plain → o.scope ≠ .cascade → userIndex idx.toNat = false →
    ¬(0x3100 ≤ idx.toNat ∧ idx.toNat ≤ 0x310B ∧ sub.toNat = 0x20) → ¬(0x3980 ≤ idx.toNat ∧ idx.toNat ≤ 0x39BF) →
    Accepted o (plainAct o idx.toNat sub.toNat) w s.dev →
    (o.acc = .rw →
      ∃ t, exec (.objectWrite idx sub w) s = .next t ∧ Kept s t ∧ { t.dev with regs := s.dev.regs } = s.dev ∧
        RegsKept (regsOf idx.toNat [sub.toNat]) s.dev t.dev ∧ t.dev.rd idx.toNat sub.toNat = o.valueOf w) ∧
    (o.acc = .rwn → s.dev.immediate = false →
      ∃ t, exec (.objectWrite idx sub w) s = .next t ∧ Kept s t ∧ { t.dev with staged := s.dev.staged } = s.dev ∧
        t.dev.pendingOf idx.toNat sub.toNat =
          some { index := idx.toNat, sub := sub.toNat, val := o.valOf w, scope := scopeOf o.scope idx.toNat
                 due := (s.dev.scopeSeq (scopeOf o.scope idx.toNat) + 1) % 2 ^ 32 } ∧
        ∀ i j, ¬(i = idx.toNat ∧ j = sub.toNat) → t.dev.pendingOf i j = s.dev.pendingOf i j)

/-- POWER_ON_RESET, SUPPLY_REMOVAL, RAIL_FALL, VAUX_FALL, RESET_N_ASSERT, RESET_N_RELEASE (R30, R34, R537, R559). -/
def Obligations.SuppliesAndResetPin : Prop :=
  (∀ (r : Fin 6) (s : State), s.dev.env.rails.getLsbD r.val = false →
    (s.dev.core.state = .off →
      ∃ t, exec (.powerOnReset r) s = .next t ∧ Kept s t ∧ t.dev.core.state = .reset ∧
        t.dev.core.holdRunning = (t.dev.allRails && s.dev.env.resetN) ∧
        t.dev.env.rails = s.dev.env.rails ||| BitVec.ofNat 6 (2 ^ r.val) ∧ t.dev.nv = s.dev.nv ∧
        t.dev.rdN 0x2000 3 = 0x0B70 ∧ t.dev.safety.permits = 0) ∧
    (s.dev.core.state ≠ .off → s.dev.core.state ≠ .reset → s.dev.env.armed.getLsbD r.val = true →
      ∃ t, exec (.powerOnReset r) s = .next t ∧ Kept s t ∧ t.dev.core.state = .reset ∧
        t.dev.core.holdRunning = (t.dev.allRails && s.dev.env.resetN) ∧
        t.dev.core.deferred = [(0x0B70, s.dev.core.state.code, 1)] ∧
        t.dev.env.rails = s.dev.env.rails ||| BitVec.ofNat 6 (2 ^ r.val) ∧ t.dev.nv = s.dev.nv)) ∧
  (∀ s : State, ∃ t, exec .supplyRemoval s = .next t ∧ Kept s t ∧ t.dev.core.state = .off ∧ t.dev.env.rails = 0 ∧
    t.dev.env.armed = BitVec.allOnes 6 ∧ t.dev.nv = s.dev.nv ∧ t.dev.safety.permits = 0) ∧
  (∀ (r : Fin 5) (s : State), ∃ t, exec (.railFall r) s = .next t ∧ Kept s t ∧ { t.dev with env := s.dev.env } = s.dev ∧
    t.dev.env.rails.getLsbD r.val = false ∧ t.dev.env.armed.getLsbD r.val = true ∧
    ∀ k, k ≠ r.val → t.dev.env.rails.getLsbD k = s.dev.env.rails.getLsbD k ∧
      t.dev.env.armed.getLsbD k = s.dev.env.armed.getLsbD k) ∧
  (∀ s : State, ∃ t, exec .vauxFall s = .next t ∧ Kept s t ∧ t.dev.core.state = s.dev.core.state ∧ t.dev.vaux = false ∧
    t.dev.safety.permits = 0 ∧ (∀ k, k < 8 → (t.dev.ball k).driven = false) ∧ t.dev.nv = s.dev.nv) ∧
  (∀ s : State, s.dev.core.state ≠ .off →
    ∃ t, exec .resetNAssert s = .next t ∧ Kept s t ∧ t.dev.core.state = .reset ∧ t.dev.core.holdRunning = false ∧
      t.dev.env.resetN = false ∧ t.dev.nv = s.dev.nv) ∧
  (∀ s : State, s.dev.core.state = .reset →
    ∃ t, exec .resetNRelease s = .next t ∧ Kept s t ∧ t.dev.core.holdRunning = true ∧ t.dev.env.resetN = true ∧
      { t.dev with core := s.dev.core, env := s.dev.env } = s.dev)

/-- RESET_HOLD_EXPIRY, BOOT_COMPLETE, FW_RESCUE (R30, R33, R385, R388). -/
def Obligations.BootPath : Prop :=
  (∀ (p : Straps) (s : State), s.dev.core.state = .reset → s.dev.core.holdRunning = true → s.dev.env.resetN = true →
    s.dev.allRails = true →
    ∃ t, exec (.resetHoldExpiry p) s = .next t ∧ Kept s t ∧ t.dev.core.state = .boot ∧ t.dev.core.time = 0 ∧
      t.dev.core.cascadeId = p.cascadeId.toNat ∧ t.dev.core.nodeBase = p.nodeBase.toNat ∧
      t.dev.core.broadcast = p.broadcast ∧ t.dev.core.cfgWidth = p.width.toNat ∧ t.dev.core.mgmtExt = p.mgmtClk ∧
      t.dev.nv = { s.dev.nv with boots := (s.dev.nv.boots + 1) % 65536 } ∧ t.dev.env.armed = ~~~ s.dev.env.rails ∧
      t.dev.rdN 0x2000 3 = 0x0B73 ∧ t.dev.core.deferred = (0x0B73, 1, 2) :: s.dev.core.deferred) ∧
  (∀ (okA okB : Bool) (s : State), s.dev.core.state = .boot → s.dev.vaux = true → s.dev.nv.trialStarted = false →
    (startFault s.fuses (s.dev.fwSlot s.dev.nv.activeB) (if s.dev.nv.activeB then okB else okA) = 0 →
      ∃ t, exec (.bootComplete okA okB) s = .next t ∧ Kept s t ∧ t.dev.core.state = .unconfigured ∧
        t.dev.sec.runningB = s.dev.nv.activeB ∧ t.dev.nv.activeB = s.dev.nv.activeB ∧ t.dev.core.deferred = []) ∧
    (startFault s.fuses (s.dev.fwSlot s.dev.nv.activeB) (if s.dev.nv.activeB then okB else okA) ≠ 0 →
      startFault s.fuses (s.dev.fwSlot !s.dev.nv.activeB) (if !s.dev.nv.activeB then okB else okA) = 0 →
      ∃ t, exec (.bootComplete okA okB) s = .next t ∧ Kept s t ∧ t.dev.core.state = .unconfigured ∧
        t.dev.sec.runningB = !s.dev.nv.activeB) ∧
    (startFault s.fuses (s.dev.fwSlot s.dev.nv.activeB) (if s.dev.nv.activeB then okB else okA) ≠ 0 →
      startFault s.fuses (s.dev.fwSlot !s.dev.nv.activeB) (if !s.dev.nv.activeB then okB else okA) ≠ 0 →
      ∃ t, exec (.bootComplete okA okB) s = .next t ∧ Kept s t ∧
        t.dev = { s.dev with core := { s.dev.core with bootReason := 0x0254 } })) ∧
  (∀ (image : List Byte) (s : State), s.dev.tapOn = true → s.dev.core.state = .boot → s.dev.core.bootReason ≠ 0 →
    ∃ t, exec (.fwRescue image) s = .next t ∧ Kept s t ∧ t.dev.core.state = .boot ∧
      t.dev.nv = { s.dev.nv with fwA := checkedFw s.fuses image } ∧
      (t.dev.core.bootReason = 0 ↔ fwFault s.fuses image = 0) ∧ t.dev.tr.tap.instr = .fwRescue)

/-- RESET_REQUEST, FOLD_REQUEST, FOLD_QUIESCE, WAKE_REQUEST, CLEAR_REQUEST and STATE_ACK in SAFE (R27, R30, R31, R35, R334). -/
def Obligations.StateRequests : Prop :=
  (∀ (path : Transport) (s : State), Accepted objStateRequest actStateRequest ⟨path, 1, word 1, [], 0⟩ s.dev →
    ∃ t, exec (.resetRequest path) s = .next t ∧ Kept s t ∧ t.dev.core.state = .reset ∧
      t.dev.core.holdRunning = s.dev.env.resetN ∧ t.dev.rdN 0x2000 3 = 0x0B72 ∧ t.dev.nv = s.dev.nv ∧ t.dev.staged = []) ∧
  (∀ (path : Transport) (s : State), Accepted objStateRequest actStateRequest ⟨path, 1, word 2, [], 0⟩ s.dev →
    ∃ t, exec (.foldRequest path) s = .next t ∧ Kept s t ∧ s.dev.core.state = .run ∧ s.dev.allHalted = true ∧
      t.dev = { s.dev with core := { s.dev.core with foldPending := true } }) ∧
  (∀ s : State, s.dev.core.state = .run → s.dev.core.foldPending = true → s.dev.allHalted = true →
    ∃ t, exec .foldQuiesce s = .next t ∧ Kept s t ∧ t.dev.core.state = .folded ∧ t.dev.core.foldPending = false ∧
      t.dev.core.outputs = false ∧ t.dev.core.gatesOpen = false ∧ t.dev.config.cfgDone = false ∧ t.dev.tr.plls = 0 ∧
      t.dev.staged = s.dev.staged) ∧
  (∀ (path : Transport) (s : State), Accepted objStateRequest actStateRequest ⟨path, 1, word 3, [], 0⟩ s.dev →
    s.dev.core.steps = none → orderOk s.dev.config.orderInEffect = true →
    ∃ t, exec (.wakeRequest path) s = .next t ∧ Kept s t ∧ t.dev.core.state = .folded ∧
      ∃ l, t.dev.core.steps = some (0 :: l)) ∧
  (∀ (path : Transport) (s : State), Accepted objStateRequest actStateRequest ⟨path, 1, word 4, [], 0⟩ s.dev →
    ∃ t, exec (.clearRequest path) s = .next t ∧ Kept s t ∧ t.dev.core.state = .unconfigured ∧ t.dev.staged = [] ∧
      (∀ site, { t.dev.panel site with tension := 0 } = {}) ∧ t.dev.seams = [] ∧ t.dev.config.active = [] ∧
      t.dev.core.gsrHeld = true ∧ t.dev.core.outputs = false ∧ t.dev.rdN 0x2000 3 = 0x0B79 ∧ t.dev.tr.nmt = 0x7F ∧
      (t.dev.canOn = true → t.dev.out.head? = some (.can (0x700 + t.dev.nodeId) [0]))) ∧
  (∀ (w : Wr) (s : State), Accepted objStateAck actStateAck w s.dev → s.dev.core.state = .safe →
    objStateAck.num w = s.dev.rdN 0x2000 5 →
    ∃ t, exec (.stateAck w) s = .next t ∧ Kept s t ∧ t.dev.core.state = .unconfigured ∧ t.dev.staged = [] ∧
      (∀ site, { t.dev.panel site with tension := 0 } = {}) ∧ t.dev.config.active = [] ∧ t.dev.programs = [] ∧
      t.dev.core.outputs = false ∧ t.dev.rdN 0x2000 3 = 0x0B7A ∧ t.dev.tr.nmt = 0x7F)

/-- HOST_NOTCH (R18, R21 to R23): numbers and staged writes, by the scopes that the write names. -/
def Obligations.HostNotchTakesEffect : Prop :=
  ∀ (w : Wr) (s : State), Accepted objHostNotch actHostNotch w s.dev → s.dev.cal.staged = [] →
    (s.dev.staged = [] →
      ∃ t, exec (.hostNotch w) s = .next t ∧ Kept s t ∧ t.dev.staged = [] ∧
        (∀ g, g < 12 → t.dev.rdN (0x3100 + g) 8 =
          if (objHostNotch.num w).testBit g then (s.dev.rdN (0x3100 + g) 8 + 1) % 2 ^ 32 else s.dev.rdN (0x3100 + g) 8) ∧
        t.dev.rdN 0x2004 1 =
          (if (objHostNotch.num w).testBit 15 then (s.dev.rdN 0x2004 1 + 1) % 2 ^ 32 else s.dev.rdN 0x2004 1) ∧
        t.dev.core = s.dev.core ∧ t.dev.safety = s.dev.safety ∧ t.dev.sec = s.dev.sec ∧ t.dev.blocks = s.dev.blocks ∧
        t.dev.bobbins = s.dev.bobbins ∧ t.dev.programs = s.dev.programs ∧ t.dev.panels = s.dev.panels) ∧
    (∀ (x : Staged) (v : Word), s.dev.staged = [x] → x.val = .word v → 0x3000 ≤ x.index → x.index < 0x30D8 → x.sub = 0x0A →
      ∃ t, exec (.hostNotch w) s = .next t ∧ Kept s t ∧
        ((x.scope = .device ∧ (objHostNotch.num w).testBit 15 = true) ∨
            (∃ g, g < 12 ∧ x.scope = .group g ∧ (objHostNotch.num w).testBit g = true) →
          t.dev.rd x.index 0x0A = v ∧ t.dev.staged = []) ∧
        (¬((x.scope = .device ∧ (objHostNotch.num w).testBit 15 = true) ∨
            (∃ g, g < 12 ∧ x.scope = .group g ∧ (objHostNotch.num w).testBit g = true)) →
          t.dev.rd x.index 0x0A = s.dev.rd x.index 0x0A ∧ t.dev.staged = [x]))

/-- BUNDLE_TOKEN_ACCEPT (R41 to R44, R48, R49, R52, R56), MERGE_GRANT (R50, R51), TENSION_ADOPT (R64). canAccept gathers the conditions of
an acceptance; which threads feed a bundle is the routing database's (entry 61). -/
def Obligations.BundlesAndMerges : Prop :=
  (∀ (site : Fin 7344) (head : Fin 16) (column row : Nat) (a b c : Bool) (s : State), column = site.val % 102 → row = site.val / 102 →
    s.dev.canAccept site.val head.val = true →
    ¬(bits (s.dev.bundleWord column row head.val) 23 22 = 1 ∧
      ∃ x, (s.dev.groupIn column (s.dev.coupledGroup column 127 row head.val)).getLast? = some x ∧ x.2.gate = false) →
    (a && b && c → ∃ t, exec (.bundleTokenAccept site head a b c) s = .next t ∧ Kept s t ∧
      (s.dev.receivers column row head.val ≠ [] → (t.dev.panel site.val).outFull.getLsbD head.val = true) ∧
      (t.dev.panel site.val).granted.getLsbD head.val = false ∧
      (∃ v, Output.token 0 (16 * site.val + head.val) v ∈ t.dev.out) ∧ t.dev.core = s.dev.core ∧ t.dev.staged = s.dev.staged) ∧
    ((a && b && c) = false → ∃ t, exec (.bundleTokenAccept site head a b c) s = .next t ∧ Kept s t ∧
      (t.dev.panel site.val).reqWait.getLsbD head.val = true ∧ (t.dev.panel site.val).granted.getLsbD head.val = false ∧
      t.dev.out = s.dev.out ∧ t.dev.core = s.dev.core)) ∧
  (∀ (site : Fin 7344) (head : Fin 16) (a b c : Bool) (s : State), s.dev.siteLive site.val = true →
    (s.dev.panel site.val).reqWait.getLsbD head.val = true →
    ((a && b && c) = false → exec (.bundleTokenAccept site head a b c) s = .next s) ∧
    (a && b && c → ∃ t, exec (.bundleTokenAccept site head a b c) s = .next t ∧ Kept s t ∧
      (t.dev.panel site.val).reqWait.getLsbD head.val = false ∧
      (∃ v, Output.token 0 (16 * site.val + head.val) v ∈ t.dev.out) ∧ t.dev.core = s.dev.core)) ∧
  (∀ (site : Fin 7344) (head : Fin 16) (a b c : Bool) (s : State), (s.dev.panel site.val).reqWait.getLsbD head.val = false →
    s.dev.canAccept site.val head.val = false → exec (.bundleTokenAccept site head a b c) s = .next s) ∧
  (∀ (site : Fin 7344) (head : Fin 16) (a b c : Bool) (column row : Nat) (x : BundleIn) (s : State), column = site.val % 102 →
    row = site.val / 102 → s.dev.canAccept site.val head.val = true →
    s.dev.coupledGroup column 127 row head.val = [(row, head.val)] → x = s.dev.bundleIn (s.dev.levelNow column row) column row head.val →
    bits (s.dev.bundleWord column row head.val) 23 22 = 0 → bits (s.dev.bundleWord column row head.val) 18 16 = 0 →
    ∃ t, exec (.bundleTokenAccept site head a b c) s = .next t ∧ Kept s t ∧
      (∀ k w, k < 8 → w = s.dev.stitchWord column row (8 * head.val + k) → bits w 15 14 = 0 →
        bit w 3 = false → (bits w 13 12 = 1 ∨ bits w 13 12 = 2) →
        (t.dev.panel site.val).regA.getLsbD (8 * head.val + k) =
          if x.sr && bit w 5 then bit w 7
          else if bits w 13 12 = 2 && !x.ce then (s.dev.panel site.val).regA.getLsbD (8 * head.val + k)
          else (s.dev.stitchTable column row (8 * head.val + k)).getLsbD (x.ins.extractLsb' (6 * k) 6).toNat) ∧
      (∀ i, i < 128 → i / 8 ≠ head.val →
        (t.dev.panel site.val).regA.getLsbD i = (s.dev.panel site.val).regA.getLsbD i ∧
        (t.dev.panel site.val).regB.getLsbD i = (s.dev.panel site.val).regB.getLsbD i) ∧
      (∀ p, p ≠ site.val → t.dev.panel p = s.dev.panel p)) ∧
  (∀ (site : Fin 7344) (head : Fin 16) (a b c : Bool) (column row : Nat) (x : (Nat × Nat) × BundleIn) (s : State),
    column = site.val % 102 → row = site.val / 102 → s.dev.canAccept site.val head.val = true →
    bits (s.dev.bundleWord column row head.val) 23 22 = 1 →
    (s.dev.groupIn column (s.dev.coupledGroup column 127 row head.val)).getLast? = some x → x.2.gate = false →
    ∃ t, exec (.bundleTokenAccept site head a b c) s = .next t ∧ Kept s t ∧ t.dev.out = s.dev.out ∧ t.dev.core = s.dev.core ∧
      ∀ p, (t.dev.panel p).regA = (s.dev.panel p).regA ∧ (t.dev.panel p).regB = (s.dev.panel p).regB) ∧
  (∀ (column : Fin 102) (row : Fin 72) (b : Fin 16) (second : Bool) (site : Nat) (req : Nat → Bool) (s : State),
    site = siteNo column.val row.val → s.dev.siteLive site = true → bits (s.dev.bundleWord column.val row.val b.val) 23 22 = 2 →
    (s.dev.panel site).granted.getLsbD b.val = false →
    (∀ k, req k = ((s.dev.groupThreads column.val (s.dev.coupledGroup column.val 127 row.val b.val))[k]?).any (fun t => s.dev.raised column.val t)) →
    (req 0 = false → req 1 = false → exec (.mergeGrant column row b second) s = .next s) ∧
    (req 0 || req 1 → ∃ t, exec (.mergeGrant column row b second) s = .next t ∧ Kept s t ∧
      { t.dev with panels := s.dev.panels } = s.dev ∧
      (t.dev.panel site).granted.getLsbD b.val = true ∧ (t.dev.panel site).regA = (s.dev.panel site).regA ∧
      (t.dev.panel site).outFull = (s.dev.panel site).outFull ∧ (∀ p, p ≠ site → t.dev.panel p = s.dev.panel p) ∧
      (req 0 = false → (t.dev.panel site).grantSide.getLsbD b.val = true) ∧
      (req 1 = false → (t.dev.panel site).grantSide.getLsbD b.val = false) ∧
      (req 0 = true → req 1 = true → (s.dev.panel site).contested.getLsbD b.val = false →
        (t.dev.panel site).grantSide.getLsbD b.val = second ∧ (t.dev.panel site).lastContested.getLsbD b.val = second) ∧
      (req 0 = true → req 1 = true → (s.dev.panel site).contested.getLsbD b.val = true →
        (t.dev.panel site).grantSide.getLsbD b.val = !(s.dev.panel site).lastContested.getLsbD b.val ∧
        (t.dev.panel site).lastContested.getLsbD b.val = !(s.dev.panel site).lastContested.getLsbD b.val))) ∧
  (∀ (site : Fin 7344) (b : Fin 16) (s : State),
    ∃ t, exec (.tensionAdopt site b) s = .next t ∧ Kept s t ∧ { t.dev with panels := s.dev.panels } = s.dev ∧
      (t.dev.panel site.val).tension.extractLsb' (4 * b.val) 4 = BitVec.ofNat 4 (s.dev.rdN 0x2150 0) ∧
      (∀ k, k < 16 → k ≠ b.val → (t.dev.panel site.val).tension.extractLsb' (4 * k) 4 =
        (s.dev.panel site.val).tension.extractLsb' (4 * k) 4) ∧
      { t.dev.panel site.val with tension := (s.dev.panel site.val).tension } = s.dev.panel site.val ∧
      (∀ p, p ≠ site.val → t.dev.panel p = s.dev.panel p))

/-- SEAM_DIGIT_LAUNCH and SEAM_WORD_LATCH (R77 to R92). Which tracks a route takes is the routing database's (entry 61). -/
def Obligations.SeamsLaunchAndLatch : Prop :=
  (∀ (column : Fin 102) (row : Fin 72) (unit : Fin 24) (hardAck : Bool) (site : Nat) (s : State), site = siteNo column.val row.val →
    s.dev.siteLive site = true →
    s.dev.core.gatesOpen = true →
    (s.dev.seamRoom site unit.val hardAck = false → exec (.seamDigitLaunch column row unit hardAck) s = .next s) ∧
    (∀ (b n : Nat) (w : BitVec 12), unit.val < 8 → (s.dev.seam (seamOut site unit.val)).word = none →
      s.dev.portBundle column.val row.val unit.val = some b →
      (s.dev.panel site).offers b (16 + unit.val) = true → s.dev.frenchWaits site = false →
      w = s.dev.portOut column.val row.val unit.val →
      n = s.dev.portDigits column.val row.val (32 + unit.val) →
      ∃ t, exec (.seamDigitLaunch column row unit hardAck) s = .next t ∧ Kept s t ∧ w.getLsbD 11 = false ∧
        (t.dev.seam (seamOut site unit.val)).word = some w ∧ (t.dev.seam (seamOut site unit.val)).digits = n ∧
        (∀ k, k < 6 → ((t.dev.seam (seamOut site unit.val)).wires ^^^ (s.dev.seam (seamOut site unit.val)).wires).extractLsb'
            (4 * k) 4 = if k < n then 1#4 <<< (w.extractLsb' (2 * k) 2).toNat else 0) ∧
        (b < 16 → (t.dev.panel site).offers b (16 + unit.val) = false) ∧
        (∀ u, u ≠ seamOut site unit.val → t.dev.seam u = s.dev.seam u) ∧
        { t.dev with seams := s.dev.seams, panels := s.dev.panels, darn := s.dev.darn, out := s.dev.out } = s.dev) ∧
    (∀ v, 8 ≤ unit.val → (s.dev.seam (seamOut site unit.val)).word = none →
      (s.dev.seam (seamIn site unit.val)).word = some v →
      ∃ t, exec (.seamDigitLaunch column row unit hardAck) s = .next t ∧ Kept s t ∧
        (t.dev.seam (seamIn site unit.val)).word = some v ∧ (t.dev.seam (seamOut site unit.val)).word = some v ∧
        ((t.dev.seam (seamOut site unit.val)).wires ^^^ (s.dev.seam (seamOut site unit.val)).wires).extractLsb' 0 4 =
          1#4 <<< (v.extractLsb' 0 2).toNat ∧
        (∀ u, u ≠ seamOut site unit.val → t.dev.seam u = s.dev.seam u) ∧
        { t.dev with seams := s.dev.seams, out := s.dev.out } = s.dev)) ∧
  (∀ (column : Fin 102) (row : Fin 72) (unit : Fin 24) (hard : BitVec 24) (twice partner : BitVec 6) (site n : Nat)
      (levels : BitVec 24) (digit : Nat → Nat) (s : State), site = siteNo column.val row.val → s.dev.siteLive site = true → s.dev.core.gatesOpen = true →
    s.dev.seamUnits column.val row.val unit.val = [unit.val] →
    n = (if 8 ≤ unit.val then 1 else s.dev.portDigits column.val row.val unit.val) →
    levels = s.dev.seamLevels hard site unit.val n →
    (s.dev.seam (seamIn site unit.val)).invalid = false → (s.dev.seam (seamIn site unit.val)).word = none →
    (∀ k, k < n → twice.getLsbD k = false) →
    (∀ k, k < n → digitValue (digitDiff (s.dev.seam (seamIn site unit.val)).wires levels k) = some (digit k)) →
    (∀ a ∈ s.dev.sendersOf site unit.val n,
      seamIn a.1 a.2 ≠ seamIn site unit.val ∧ seamOut a.1 a.2 ≠ seamIn site unit.val) →
    ∃ t v, exec (.seamWordLatch column row unit hard twice partner) s = .next t ∧ Kept s t ∧
      (t.dev.seam (seamIn site unit.val)).word = some v ∧ (∀ k, k < n → (v.extractLsb' (2 * k) 2).toNat = digit k) ∧
      (∀ k, k < 6 → (t.dev.seam (seamIn site unit.val)).wires.extractLsb' (4 * k) 4 =
        if k < n then levels.extractLsb' (4 * k) 4 else (s.dev.seam (seamIn site unit.val)).wires.extractLsb' (4 * k) 4) ∧
      (∀ k, k < 6 → (t.dev.seam (seamIn site unit.val)).acks.getLsbD k =
        ((s.dev.seam (seamIn site unit.val)).acks.getLsbD k ^^ decide (k < n))) ∧
      (∀ a, s.dev.sendersOf site unit.val n = [a] → a.2 < 8 → s.dev.branchesOf a.1 a.2 = [seamIn site unit.val] →
        (t.dev.seam (seamOut a.1 a.2)).word = none) ∧
      (∀ u, u ≠ seamIn site unit.val →
        (∀ a ∈ s.dev.sendersOf site unit.val n, u ≠ seamOut a.1 a.2 ∧ u ≠ seamIn a.1 a.2) → t.dev.seam u = s.dev.seam u)) ∧
  (∀ (column : Fin 102) (row : Fin 72) (unit : Fin 24) (hard : BitVec 24) (twice partner : BitVec 6) (site n k : Nat) (s : State),
    site = siteNo column.val row.val → s.dev.core.state = .run →
    s.dev.core.gsrHeld = false → s.dev.core.gatesOpen = true →
    s.dev.seamUnits column.val row.val unit.val = [unit.val] →
    n = (if 8 ≤ unit.val then 1 else s.dev.portDigits column.val row.val unit.val) →
    (s.dev.seam (seamIn site unit.val)).invalid = false →
    invalidDigit (s.dev.seam (seamIn site unit.val)) (s.dev.seamLevels hard site unit.val n) twice n = some k →
    ∃ t, exec (.seamWordLatch column row unit hard twice partner) s = .next t ∧ Kept s t ∧
      t.dev.seam (seamIn site unit.val) = { s.dev.seam (seamIn site unit.val) with invalid := true } ∧
      t.dev.darn.queue = s.dev.darn.queue ++ [{
        patch := sitePatch (s.dev.physColumn column.val row.val) row.val, row := row.val
        column := s.dev.physColumn column.val row.val, source := 0x0810, kind := 1
        started := s.dev.core.time, report := .seam unit.val k }] ∧
      (∀ u, u ≠ seamIn site unit.val → t.dev.seam u = s.dev.seam u) ∧
      { t.dev with seams := s.dev.seams, darn := s.dev.darn } = s.dev)

/-- PANEL_CAPTURE, PENDING_VALUE_READ and BASTE_COMPLETE (R69 to R76). -/
def Obligations.BastingRequests : Prop :=
  (∀ (path : Transport) (upper : BitVec 16) (column row : BitVec 8) (waiting : BitVec 16) (s : State),
    Accepted objBasteRequest (actBaste (fun _ _ t => captureExists t) (latchPanel waiting))
      ⟨path, 8, word (2 ^ 56 + upper.toNat * 65536 + column.toNat * 256 + row.toNat), [], 0⟩ s.dev →
    s.dev.repairing (sitePatch column.toNat row.toNat) = false →
    s.dev.moving (sitePatch column.toNat row.toNat) = false →
    ∃ t l, exec (.panelCapture path upper column row waiting) s = .next t ∧ Kept s t ∧
      { t.dev with regs := s.dev.regs, baste := s.dev.baste } = s.dev ∧ RegsKept (regsOf 0x2170 [1]) s.dev t.dev ∧
      bit (t.dev.rd 0x2170 1) 15 = true ∧ l.length = 64 ∧
      t.dev.baste = some {
        kind := 1, target := upper.toNat * 65536 + column.toNat * 256 + row.toNat, result := some l, waiting := waiting }) ∧
  (∀ (path : Transport) (target : BitVec 32) (o : Desc) (x : Staged) (v : Word) (s : State),
    Accepted objBasteRequest (actBaste basteExists (latchBaste s.fuses)) ⟨path, 8, word (2 ^ 57 + target.toNat), [], 0⟩ s.dev →
    findDesc (target.toNat / 256 % 65536) (target.toNat % 256) = some o → o.acc = .rwn →
    s.dev.pendingOf (target.toNat / 256 % 65536) (target.toNat % 256) = some x → x.val = .word v →
    ∃ t, exec (.pendingValueRead path target) s = .next t ∧ Kept s t ∧
      { t.dev with regs := s.dev.regs, baste := s.dev.baste } = s.dev ∧ RegsKept (regsOf 0x2170 [1]) s.dev t.dev ∧
      bit (t.dev.rd 0x2170 1) 15 = true ∧
      t.dev.baste = some { kind := 2, target := target.toNat
                           result := some (leBytes 16 (v.toNat * 2 ^ 64 + (x.due * 2 ^ 32 + 2 ^ 31) + target.toNat % 2 ^ 24)) }) ∧
  (∀ (q : BasteReq) (l : List Byte) (s : State), s.dev.baste = some q → q.result = some l →
    ∃ t, exec .basteComplete s = .next t ∧ Kept s t ∧
      { t.dev with regs := s.dev.regs, strs := s.dev.strs, baste := s.dev.baste } = s.dev ∧ t.dev.baste = none ∧
      t.dev.bytesOf 0x2171 0 = l ∧ RegsKept (regsOf 0x2170 [1, 3]) s.dev t.dev ∧ t.dev.rd 0x2170 3 = 0 ∧
      bits (t.dev.rd 0x2170 1) 31 16 = nextSeq (bits (s.dev.rd 0x2170 1) 31 16) ∧ bit (t.dev.rd 0x2170 1) 14 = true ∧
      bit (t.dev.rd 0x2170 1) 15 = false ∧ bits (t.dev.rd 0x2170 1) 7 0 = q.kind % 256)

/-- WATCH_WINDOW_END and WATCH_STALL (R101 to R108, R153). The rounding of rates is entry 1's; a rate of 0 where none is measured, entry 60's. -/
def Obligations.WatchWindowsAndStalls : Prop :=
  (∀ (samples : List (Fin 512 × Nat × Nat)) (s : State), s.dev.windowRuns = true →
    ∃ t, exec (.watchWindowEnd samples) s = .next t ∧ Kept s t ∧ t.dev.core = s.dev.core ∧ t.dev.staged = s.dev.staged ∧
      (∀ w, w < 512 → t.dev.watchSt w = {} ∧
        t.dev.rdN (0x3B80 + w / 4) (0x10 * (w % 4 + 1) + 4) =
          (if s.dev.measures w then rateOf (s.dev.watchSt w).tokens s.dev.window % 2 ^ 32 else 0) ∧
        (samples.all (fun x => x.1.val != w) = true → t.dev.rdN (0x3B80 + w / 4) (0x10 * (w % 4 + 1) + 5) = 0xFFFFFFFF)) ∧
      (∀ n, n < 128 → bits (t.dev.rd (0x3B80 + n) 1) 31 16 = nextSeq (bits (s.dev.rd (0x3B80 + n) 1) 31 16) ∧
        bit (t.dev.rd (0x3B80 + n) 1) 15 = true) ∧
      (∀ h, h < 216 → bits (t.dev.rd (0x3000 + h) 1) 31 16 = nextSeq (bits (s.dev.rd (0x3000 + h) 1) 31 16) ∧
        bit (t.dev.rd (0x3000 + h) 1) 15 = true)) ∧
  (∀ (w : Fin 512) (falling : Bool) (v : Word) (site : Nat) (s : State), s.dev.thimble = true → s.dev.core.state = .run →
    v = s.dev.watchBinding w.val → v ≠ BitVec.allOnes 64 → bit (s.dev.watchCfg w.val) 14 = true → s.dev.endpointReady v = true →
    s.dev.phaseOpen v falling = true → site = s.dev.stallSite v →
    (bit (s.dev.watchCfg w.val) 13 = true →
      ∃ t, exec (.watchStall w falling) s = .next t ∧ Kept s t ∧ (t.dev.watchSt w.val).stalled = true ∧
        Reported (s.dev.setWatch w.val { s.dev.watchSt w.val with stalled := true }) t.dev) ∧
    (bit (s.dev.watchCfg w.val) 13 = false →
      ∃ t, exec (.watchStall w falling) s = .next t ∧ Kept s t ∧ (t.dev.watchSt w.val).stalled = true ∧
        { t.dev with watch := s.dev.watch, darn := s.dev.darn } = s.dev ∧
        t.dev.darn.queue = s.dev.darn.queue ++ [{
          patch := sitePatch (s.dev.physColumn (site % 102) (site / 102)) (site / 102), row := site / 102
          column := s.dev.physColumn (site % 102) (site / 102), source := 0x0811, kind := 1, started := s.dev.core.time
          report := .stall w.val (bits v 43 41) falling.toNat }]))

/-- BOBBIN_WRITE, BOBBIN_READ, GAP_MARKER_WRITE (R116 to R125, R334). -/
def Obligations.BobbinsKeepOrder : Prop :=
  (∀ (b : Fin 768) (data : BitVec 64) (ctrl : BitVec 4) (h : Nat) (cfg : Word) (x : BobbinSt) (s : State),
    s.dev.fabricLive = true → h = s.dev.bobbinHead b.val → cfg = s.dev.bobbinCfg h → x = s.dev.bobbin h →
    x.waiting = none → writeLining cfg = false →
    (s.dev.core.writes = false →
      ∃ t, exec (.bobbinWrite b data ctrl) s = .next t ∧ Kept s t ∧ { t.dev with bobbins := s.dev.bobbins } = s.dev ∧
        t.dev.bobbin h = { x with waiting := some (data, ctrl) } ∧ ∀ k, k ≠ h → t.dev.bobbin k = s.dev.bobbin k) ∧
    (s.dev.core.writes = true → packetMode cfg = false → members cfg ≠ 8 → x.run = none → x.pktDropping = false →
      (x.partCount = 0 → x.full cfg = true → fullWaits cfg = true →
        ∃ t, exec (.bobbinWrite b data ctrl) s = .next t ∧ Kept s t ∧ { t.dev with bobbins := s.dev.bobbins } = s.dev ∧
          t.dev.bobbin h = { x with waiting := some (data, ctrl) } ∧ ∀ k, k ≠ h → t.dev.bobbin k = s.dev.bobbin k) ∧
      (x.partCount = 0 → x.full cfg = true → fullWaits cfg = false → x.sent310 = true →
        ∃ t, exec (.bobbinWrite b data ctrl) s = .next t ∧ Kept s t ∧ (t.dev.bobbin h).words = x.words ∧
          t.dev.rdN (0x4400 + h) 6 = (s.dev.rdN (0x4400 + h) 6 + 1) % 2 ^ 32 ∧
          (∃ r, (t.dev.bobbin h).run = some r ∧ r.count = 1 ∧ r.closed = true) ∧
          ∀ k, k ≠ h → t.dev.bobbin k = s.dev.bobbin k) ∧
      (¬(x.partCount = 0 ∧ x.full cfg = true) →
        ∃ t, exec (.bobbinWrite b data ctrl) s = .next t ∧ Kept s t ∧ { t.dev with bobbins := s.dev.bobbins } = s.dev ∧
          (∀ k, k ≠ h → t.dev.bobbin k = s.dev.bobbin k) ∧
          (x.partCount + 1 ≠ rdWidth cfg / wrWidth cfg →
            (t.dev.bobbin h).words = x.words ∧ (t.dev.bobbin h).partCount = x.partCount + 1 ∧
            (t.dev.bobbin h).partData =
              x.partData ||| BitVec.ofNat 256 (data.toNat % 2 ^ wrWidth cfg * 2 ^ (wrWidth cfg * x.partCount))) ∧
          (x.partCount + 1 = rdWidth cfg / wrWidth cfg →
            (t.dev.bobbin h).words = x.words ++ [{
              data := x.partData ||| BitVec.ofNat 256 (data.toNat % 2 ^ wrWidth cfg * 2 ^ (wrWidth cfg * x.partCount)), tag := 0 }] ∧
            (t.dev.bobbin h).partCount = 0 ∧ (t.dev.bobbin h).partData = 0)))) ∧
  (∀ (b : Fin 768) (w : BWord) (rest : List BWord) (s : State), s.dev.fabricLive = true →
    readLining (s.dev.bobbinCfg (s.dev.bobbinHead b.val)) = false →
    (s.dev.bobbin (s.dev.bobbinHead b.val)).words = w :: rest → (s.dev.bobbin (s.dev.bobbinHead b.val)).run = none →
    (s.dev.bobbin (s.dev.bobbinHead b.val)).waiting = none →
    ∃ t, exec (.bobbinRead b false) s = .next t ∧ Kept s t ∧ { t.dev with bobbins := s.dev.bobbins, out := s.dev.out } = s.dev ∧
      t.dev.out = .token 2 (s.dev.bobbinHead b.val) (w.tag.toNat * 2 ^ 256 + w.data.toNat) :: s.dev.out ∧
      (t.dev.bobbin (s.dev.bobbinHead b.val)).words = rest ∧
      ∀ k, k ≠ s.dev.bobbinHead b.val → t.dev.bobbin k = s.dev.bobbin k) ∧
  (∀ (b : Fin 768) (h : Nat) (r : DropRun) (s : State), h = s.dev.bobbinHead b.val → (s.dev.bobbin h).run = some r →
    r.closed = true → r.truncated = false → (s.dev.bobbin h).full (s.dev.bobbinCfg h) = false →
    members (s.dev.bobbinCfg h) ≠ 8 →
    ∃ t, exec (.gapMarkerWrite b) s = .next t ∧ Kept s t ∧ { t.dev with bobbins := s.dev.bobbins, regs := s.dev.regs } = s.dev ∧
      (t.dev.bobbin h).words = (s.dev.bobbin h).words ++ [gapMarker r] ∧ (t.dev.bobbin h).run = none ∧
      t.dev.rdN (0x4400 + h) 7 = (s.dev.rdN (0x4400 + h) 7 + 1) % 2 ^ 32 ∧ ∀ k, k ≠ h → t.dev.bobbin k = s.dev.bobbin k)

/-- HEM_FABRIC_WRITE, HEM_ENTRY_CROSS, HEM_FABRIC_TAKE, PENDING_GAP_WRITE, HEM_FLUSH, ISLAND_REQUEST_TIMEOUT (R131 to R153). -/
def Obligations.HemsCarryInOrder : Prop :=
  (∀ (h : Fin 240) (data : BitVec 256) (tag : BitVec 8) (s : State), s.dev.fabricLive = true → toFabric h.val = false →
    ((s.dev.half h.val).freeEntries = 0 ∨ carriesNone h.val = true → exec (.hemFabricWrite h data tag) s = .next s) ∧
    ((s.dev.half h.val).freeEntries ≠ 0 → carriesNone h.val = false →
      ∃ t, exec (.hemFabricWrite h data tag) s = .next t ∧ Kept s t ∧ { t.dev with halves := s.dev.halves } = s.dev ∧
        (t.dev.half h.val).q = (s.dev.half h.val).q ++ [{ data := data, tag := fabricTag h.val tag }] ∧
        (t.dev.half h.val).wptr = ((s.dev.half h.val).wptr + 1) % 512 ∧ (t.dev.half h.val).rptr = (s.dev.half h.val).rptr ∧
        ∀ k, k ≠ h.val → t.dev.half k = s.dev.half k)) ∧
  (∀ (h : Fin 240) (s : State), s.dev.islandOn (hemIsland (hemOf h.val)) = true →
    (s.dev.half h.val).seenW ≠ (s.dev.half h.val).wptr →
    ∃ t, exec (.hemEntryCross h 0) s = .next t ∧ Kept s t ∧ { t.dev with halves := s.dev.halves } = s.dev ∧
      (t.dev.half h.val).q = (s.dev.half h.val).q ∧ (t.dev.half h.val).seenW = ((s.dev.half h.val).seenW + 1) % 512 ∧
      (t.dev.half h.val).seenR = (s.dev.half h.val).rptr ∧
      (t.dev.half h.val).tokens = ((s.dev.half h.val).tokens + 1) % 2 ^ 48 ∧ ∀ k, k ≠ h.val → t.dev.half k = s.dev.half k) ∧
  (∀ (h : Fin 240) (e : HEntry) (s : State), s.dev.fabricLive = true → toFabric h.val = true → h.val ≠ 217 → h.val ≠ 221 →
    (s.dev.half h.val).head = some e →
    ∃ t, exec (.hemFabricTake h) s = .next t ∧ Kept s t ∧ { t.dev with halves := s.dev.halves, out := s.dev.out } = s.dev ∧
      t.dev.out = .token 4 h.val (e.tag.toNat * 2 ^ 256 + e.data.toNat) :: s.dev.out ∧
      (t.dev.half h.val).q = (s.dev.half h.val).q.tail ∧ (t.dev.half h.val).rptr = ((s.dev.half h.val).rptr + 1) % 512 ∧
      ∀ k, k ≠ h.val → t.dev.half k = s.dev.half k) ∧
  (∀ (h : Fin 240) (g : Gap) (s : State), (s.dev.half h.val).gap = some g →
    ∃ t, exec (.pendingGapWrite h) s = .next t ∧ Kept s t ∧ { t.dev with halves := s.dev.halves } = s.dev ∧
      ((s.dev.half h.val).freeEntries = 0 → (t.dev.half h.val).q = (s.dev.half h.val).q ∧ (t.dev.half h.val).gap = some g) ∧
      ((s.dev.half h.val).freeEntries ≠ 0 →
        (t.dev.half h.val).q = (s.dev.half h.val).q ++ [{ data := gapBody g, tag := 0x80 }] ∧ (t.dev.half h.val).gap = none) ∧
      ∀ k, k ≠ h.val → t.dev.half k = s.dev.half k) ∧
  (∀ (hem : Fin 216) (path : Transport) (s : State), Accepted objHemCommand (actHemCommand hem.val) ⟨path, 1, 1, [], 0⟩ s.dev →
    ∃ t, exec (.hemFlush hem path) s = .next t ∧ Kept s t ∧ { t.dev with halves := s.dev.halves, banks := s.dev.banks } = s.dev ∧
      (∀ b, (t.dev.bank b).headRead = if 208 ≤ hem.val ∧ hem.val < 212 ∧ b = hem.val - 208 then false else (s.dev.bank b).headRead) ∧
      (∀ h ∈ halvesOf hem.val, (t.dev.half h).gap = none ∧
        (t.dev.half h).q = if toFabric h && 0 < (s.dev.half h).readerFill then (s.dev.half h).q.take 1 else []) ∧
      ∀ k, k ∉ halvesOf hem.val → t.dev.half k = s.dev.half k) ∧
  (∀ (island : Fin 120) (compare fabric : Bool) (hem : Nat) (s : State), s.dev.thimble = true →
    s.dev.islandOn island.val = false →
    hem = (if island.val < 96 then (if compare then 96 + island.val else island.val) else 96 + island.val) → hem ≠ 214 →
    ∃ t, exec (.islandRequestTimeout island compare fabric) s = .next t ∧ Kept s t ∧ (t.dev.hemWinOf hem).hang = true ∧
      Reported (s.dev.setHemWin hem { s.dev.hemWinOf hem with hang := true }) t.dev ∧
      (fabric = true → t.dev.out.head? = some (.token 5 island.val 1)))

/-- SHUTTLE_START, SHUTTLE_STOP, SHUTTLE_STOP_AT_NOTCH (R197, R199), RUN_START (R198), RESERVED_OPCODE_FAULT (R217). -/
def Obligations.ShuttleCommands : Prop :=
  (∀ (g : Fin 12) (startPc : BitVec 14) (path : Transport) (s : State), s.dev.widenSet g.val = 0 →
    Accepted objShuttleCommand (actShuttleCommand g.val) ⟨path, 4, word (1 * 2 ^ 24 + startPc.toNat), [], 0⟩ s.dev →
    ∃ t, exec (.shuttleStart g startPc path) s = .next t ∧ Kept s t ∧
      { t.dev with shuttles := s.dev.shuttles, regs := s.dev.regs } = s.dev ∧
      RegsKept (regsOf (0x3120 + g.val) [4, 5, 6]) s.dev t.dev ∧ t.dev.rdN (0x3120 + g.val) 4 = 0 ∧
      (t.dev.shuttle g.val).state = .armed ∧ (t.dev.shuttle g.val).pc = startPc.toNat ∧ (t.dev.shuttle g.val).stack = [] ∧
      (t.dev.shuttle g.val).sticky = 0 ∧ (t.dev.shuttle g.val).slices = 0 ∧
      (t.dev.shuttle g.val).flags = (s.dev.shuttle g.val).flags ∧
      (t.dev.shuttle g.val).startAt = max (s.dev.rdN (0x3100 + g.val) 4) (s.dev.core.time + 2000) ∧
      (t.dev.shuttle g.val).startFill = s.dev.rdN (0x3100 + g.val) 5 ∧
      ∀ k, k ≠ g.val → t.dev.shuttle k = s.dev.shuttle k) ∧
  (∀ (g : Fin 12) (path : Transport) (s : State), s.dev.widenSet g.val = 0 →
    Accepted objShuttleCommand (actShuttleCommand g.val) ⟨path, 4, word (2 * 2 ^ 24 + 0), [], 0⟩ s.dev →
    ∃ t, exec (.shuttleStop g path) s = .next t ∧ Kept s t ∧ { t.dev with shuttles := s.dev.shuttles } = s.dev ∧
      ((s.dev.shuttle g.val).state = .armed →
        t.dev.shuttle g.val = { s.dev.shuttle g.val with state := .halted, stopReq := .none }) ∧
      ((s.dev.shuttle g.val).state = .running ∨ (s.dev.shuttle g.val).state = .holding →
        t.dev.shuttle g.val = { s.dev.shuttle g.val with stopReq := .stop, stopAt := 0 }) ∧
      ∀ k, k ≠ g.val → t.dev.shuttle k = s.dev.shuttle k) ∧
  (∀ (g : Fin 12) (path : Transport) (s : State), s.dev.widenSet g.val = 0 →
    Accepted objShuttleCommand (actShuttleCommand g.val) ⟨path, 4, word (3 * 2 ^ 24 + 0), [], 0⟩ s.dev →
    (s.dev.shuttle g.val).stopReq ≠ .stop →
    ∃ t, exec (.shuttleStopAtNotch g path) s = .next t ∧ Kept s t ∧ { t.dev with shuttles := s.dev.shuttles } = s.dev ∧
      t.dev.shuttle g.val = { s.dev.shuttle g.val with stopReq := .atNotch, stopAt := 0 } ∧
      ∀ k, k ≠ g.val → t.dev.shuttle k = s.dev.shuttle k) ∧
  (∀ (g : Fin 12) (startAt : Nat) (x : ShuttleSt) (s : State), x = s.dev.shuttle g.val → x.state = .armed →
    s.dev.groupRuns g.val = true → x.stopReq = .none → x.floorFault = false → s.dev.cascade.notches = [] →
    s.dev.filled g.val x.startFill = true → x.startAt ≤ startAt → s.dev.progErr g.val x.pc = 0 → x.slices = 0 →
    (opExists (opOf (s.dev.progWord g.val x.pc)) = true → srcOf (s.dev.progWord g.val x.pc) ≠ 0 →
      ∃ t, exec (.runStart g startAt 0) s = .next t ∧ Kept s t ∧ (t.dev.shuttle g.val).state = .running ∧
        (t.dev.shuttle g.val).slices = 1 ∧ (t.dev.shuttle g.val).pc = x.pc ∧
        (t.dev.shuttle g.val).word = s.dev.progWord g.val x.pc ∧
        (t.dev.shuttle g.val).pin = 4000 * (if x.startFill = 0 then x.startAt else startAt) +
          16 * periodOf (s.dev.table g.val) (tsetOf (s.dev.progWord g.val x.pc)) ∧
        ∀ k, k ≠ g.val → t.dev.shuttle k = s.dev.shuttle k) ∧
    (opExists (opOf (s.dev.progWord g.val x.pc)) = false →
      ∃ t, exec (.reservedOpcodeFault g startAt 0 none) s = .next t ∧ Kept s t ∧ (t.dev.shuttle g.val).state = .halted ∧
        t.dev.rdN (0x3100 + g.val) 0x16 = 0x0420 ∧ t.dev.rdN (0x3100 + g.val) 0x15 = x.pc % 2 ^ 64 ∧
        t.dev.rdN (0x3100 + g.val) 0x14 = 0 ∧ bit (t.dev.rd (0x3100 + g.val) 1) 15 = true ∧
        bits (t.dev.rd (0x3100 + g.val) 1) 31 16 = nextSeq (bits (s.dev.rd (0x3100 + g.val) 1) 31 16) ∧
        ∀ k, k ≠ g.val → t.dev.shuttle k = s.dev.shuttle k))

/-- SLICE, JUMP, LOAD, LOOP, CALL, RETURN, BRANCH_FLAG, BRANCH_FAIL, MATCH_FLAG, CLEAR (R211 to R213). -/
def Obligations.ControlActions : Prop :=
  ∀ (g : Fin 12) (x : ShuttleSt) (w next : BitVec 64) (after : Nat) (s : State), x = s.dev.shuttle g.val → w = x.word →
    after = (x.pc + 1) % 16384 → PlainBoundary s.dev g.val →
    ∀ (c : Instr) (pc : Nat) (stack : List Nat) (ctr : Option (Nat × Nat)),
    (c = .slice g 0 none ∧ opOf w = 0x01 ∧ bits w 47 32 ≤ x.reps ∧ pc = after ∧ stack = x.stack ∧ ctr = none) ∨
    (c = .slice g 0 none ∧ opOf w = 0x01 ∧ x.reps < bits w 47 32 ∧ pc = x.pc ∧ stack = x.stack ∧ ctr = none) ∨
    (c = .jump g 0 none ∧ opOf w = 0x02 ∧ pc = targetOf w ∧ stack = x.stack ∧ ctr = none) ∨
    (c = .load g 0 none ∧ opOf w = 0x03 ∧ pc = after ∧ stack = x.stack ∧ ctr = some (bits w 33 32, bits w 31 0)) ∨
    (c = .loop g 0 none ∧ opOf w = 0x04 ∧ s.dev.rdN (0x3100 + g.val) (0x0C + ctrOf w) = 0 ∧ pc = after ∧ stack = x.stack ∧
      ctr = none) ∨
    (c = .loop g 0 none ∧ opOf w = 0x04 ∧ s.dev.rdN (0x3100 + g.val) (0x0C + ctrOf w) ≠ 0 ∧
      pc = (if s.dev.rdN (0x3100 + g.val) (0x0C + ctrOf w) = 1 then after else targetOf w) ∧ stack = x.stack ∧
      ctr = some (ctrOf w, s.dev.rdN (0x3100 + g.val) (0x0C + ctrOf w) - 1)) ∨
    (c = .call g 0 none ∧ opOf w = 0x05 ∧ x.stack.length ≠ 8 ∧ pc = targetOf w ∧ stack = after :: x.stack ∧ ctr = none) ∨
    (c = .ret g 0 none ∧ opOf w = 0x06 ∧ x.stack = pc :: stack ∧ ctr = none) ∨
    (c = .branchFlag g 0 none ∧ opOf w = 0x07 ∧ stack = x.stack ∧ ctr = none ∧
      pc = if (x.flags.toNat &&& fmaskOf w == fvalueOf w) != senseOf w then targetOf w else after) ∨
    (c = .branchFail g 0 none ∧ opOf w = 0x08 ∧ stack = x.stack ∧ ctr = none ∧ bit w 39 = false ∧
      pc = if (s.dev.seenVec g.val &&& chmaskOf w != 0) != senseOf w then targetOf w else after) ∨
    (c = .matchFlag g 0 none ∧ opOf w = 0x09 ∧ stack = x.stack ∧ x.flags.toNat &&& fmaskOf w = fvalueOf w ∧ pc = after ∧
      ctr = none) ∨
    (c = .matchFlag g 0 none ∧ opOf w = 0x09 ∧ stack = x.stack ∧ x.flags.toNat &&& fmaskOf w ≠ fvalueOf w ∧
      1 < s.dev.rdN (0x3100 + g.val) (0x0C + ctrOf w) ∧ pc = x.pc ∧
      ctr = some (ctrOf w, s.dev.rdN (0x3100 + g.val) (0x0C + ctrOf w) - 1)) ∨
    (c = .matchFlag g 0 none ∧ opOf w = 0x09 ∧ stack = x.stack ∧ x.flags.toNat &&& fmaskOf w ≠ fvalueOf w ∧
      s.dev.rdN (0x3100 + g.val) (0x0C + ctrOf w) ≤ 1 ∧ pc = targetOf w ∧ ctr = some (ctrOf w, 0)) ∨
    (c = .clear g 0 none ∧ opOf w = 0x0B ∧ pc = after ∧ stack = x.stack ∧ ctr = none) →
    next = s.dev.progWord g.val pc → s.dev.progErr g.val pc = 0 → opExists (opOf next) = true → srcOf next ≠ 0 →
    ∃ t, exec c s = .next t ∧ Kept s t ∧ (t.dev.shuttle g.val).state = .running ∧ (t.dev.shuttle g.val).pc = pc ∧
      (t.dev.shuttle g.val).word = next ∧ (t.dev.shuttle g.val).stack = stack ∧
      (t.dev.shuttle g.val).slices = x.slices + 1 ∧ (t.dev.shuttle g.val).flags = x.flags ∧
      (opOf w = 0x0B → (t.dev.shuttle g.val).sticky = 0) ∧
      (∀ k v, ctr = some (k, v) → t.dev.rdN (0x3100 + g.val) (0x0C + k) = v) ∧
      (∀ k, k < 4 → (∀ v, ctr ≠ some (k, v)) →
        t.dev.rdN (0x3100 + g.val) (0x0C + k) = s.dev.rdN (0x3100 + g.val) (0x0C + k)) ∧
      ∀ k, k ≠ g.val → (t.dev.shuttle k).pc = (s.dev.shuttle k).pc ∧ (t.dev.shuttle k).stack = (s.dev.shuttle k).stack ∧
        (t.dev.shuttle k).state = (s.dev.shuttle k).state

/-- HALT, CALL and RETURN at their limits, MATCH_FAIL, SLICE_BOUNDARY, HOLD_END (R148, R199, R202, R212, R213). -/
def Obligations.BoundariesAndHolds : Prop :=
  (∀ (g : Fin 12) (s : State), PlainBoundary s.dev g.val →
    (opOf (s.dev.shuttle g.val).word = 0x3F →
      ∃ t, exec (.halt g 0 none) s = .next t ∧ Kept s t ∧ (t.dev.shuttle g.val).state = .halted ∧
        t.dev.rdN (0x3100 + g.val) 0x15 = (s.dev.shuttle g.val).pc % 2 ^ 64 ∧ t.dev.rdN (0x3100 + g.val) 0x16 = 0 ∧
        bit (t.dev.rd (0x3100 + g.val) 1) 15 = true ∧
        bits (t.dev.rd (0x3100 + g.val) 1) 31 16 = nextSeq (bits (s.dev.rd (0x3100 + g.val) 1) 31 16)) ∧
    (opOf (s.dev.shuttle g.val).word = 0x05 → (s.dev.shuttle g.val).stack.length = 8 →
      ∃ t, exec (.call g 0 none) s = .next t ∧ Kept s t ∧ (t.dev.shuttle g.val).state = .halted ∧
        t.dev.rdN (0x3100 + g.val) 0x16 = 0x0421 ∧ (t.dev.shuttle g.val).stack = (s.dev.shuttle g.val).stack) ∧
    (opOf (s.dev.shuttle g.val).word = 0x06 → (s.dev.shuttle g.val).stack = [] →
      ∃ t, exec (.ret g 0 none) s = .next t ∧ Kept s t ∧ (t.dev.shuttle g.val).state = .halted ∧
        t.dev.rdN (0x3100 + g.val) 0x16 = 0x0422)) ∧
  (∀ (g : Fin 12) (x : ShuttleSt) (next : BitVec 64) (pc : Nat) (s : State), x = s.dev.shuttle g.val →
    PlainBoundary s.dev g.val → opOf x.word = 0x0A →
    (seenRep x (x.slices - 1) (s.dev.latency g.val) = false ∧ pc = x.pc ∨
      seenRep x (x.slices - 1) (s.dev.latency g.val) = true ∧ s.dev.seenVec g.val &&& chmaskOf x.word = 0 ∧
        pc = (x.pc + 1) % 16384) →
    next = s.dev.progWord g.val pc → s.dev.progErr g.val pc = 0 → opExists (opOf next) = true → srcOf next ≠ 0 →
    ∃ t, exec (.matchFail g 0 none) s = .next t ∧ Kept s t ∧ (t.dev.shuttle g.val).state = .running ∧
      (t.dev.shuttle g.val).pc = pc ∧ (t.dev.shuttle g.val).slices = x.slices + 1 ∧
      (t.dev.shuttle g.val).reps = if pc = x.pc ∧ seenRep x (x.slices - 1) (s.dev.latency g.val) = false then x.reps + 1 else 0) ∧
  (∀ (g : Fin 12) (up : BitVec 79) (remote : Option (BitVec 8)) (s : State), (s.dev.shuttle g.val).state = .running →
    (s.dev.shuttle g.val).curSubst = false →
    (opOf (s.dev.shuttle g.val).word = 0x01 → exec (.sliceBoundary g up remote) s = exec (.slice g up remote) s) ∧
    (opOf (s.dev.shuttle g.val).word = 0x02 → exec (.sliceBoundary g up remote) s = exec (.jump g up remote) s) ∧
    (opOf (s.dev.shuttle g.val).word = 0x0A → exec (.sliceBoundary g up remote) s = exec (.matchFail g up remote) s) ∧
    (opOf (s.dev.shuttle g.val).word = 0x3F → exec (.sliceBoundary g up remote) s = exec (.halt g up remote) s)) ∧
  (∀ (g : Fin 12) (up : BitVec 79) (remote : Option (BitVec 8)) (s : State), (s.dev.shuttle g.val).state = .holding →
    (s.dev.shuttle g.val).stopReq = .stop → (s.dev.shuttle g.val).stopAt ≤ s.dev.core.time → s.dev.groupRuns g.val = true →
    ∃ t, exec (.sliceBoundary g up remote) s = .next t ∧ Kept s t ∧ (t.dev.shuttle g.val).state = .halted ∧
      t.dev.rdN (0x3100 + g.val) 0x16 = 0) ∧
  (∀ (g : Fin 12) (beats : Nat) (s : State), (s.dev.shuttle g.val).state = .holding → 0 < beats →
    s.dev.groupRuns g.val = true → (s.dev.shuttle g.val).stopReq = .none → s.dev.starved g.val = 0 →
    ∃ t, exec (.holdEnd g beats) s = .next t ∧ Kept s t ∧ (t.dev.shuttle g.val).state = .running ∧
      (t.dev.shuttle g.val).pc = (s.dev.shuttle g.val).pc ∧ (t.dev.shuttle g.val).slices = (s.dev.shuttle g.val).slices + 1 ∧
      (t.dev.shuttle g.val).pin = (s.dev.shuttle g.val).pin + 4000 * beats +
        16 * periodOf (s.dev.table g.val) (tsetOf (s.dev.shuttle g.val).word))

/-- FLAG_TOKEN_READ (R204), WIDEN_FLAG_APPLY (R309), GROUP_CLOCK_LOST and GROUP_PLL_RELOCK (R201), STARTUP_PLL_LOCK (R333). -/
def Obligations.FlagsAndClocks : Prop :=
  (∀ (g : Fin 12) (e : HEntry) (s : State), (s.dev.half (192 + 2 * g.val)).head = some e → s.dev.groupRuns g.val = true →
    e.bad = 0 → e.tag.toNat / 64 = 0 → s.dev.widenSet g.val = 0 →
    ∃ t, exec (.flagTokenRead g) s = .next t ∧ Kept s t ∧
      { t.dev with halves := s.dev.halves, shuttles := s.dev.shuttles } = s.dev ∧
      (t.dev.half (192 + 2 * g.val)).q = (s.dev.half (192 + 2 * g.val)).q.tail ∧
      (∀ i, i < 16 → (t.dev.shuttle g.val).flags.getLsbD i =
        if e.data.getLsbD (16 + i) then e.data.getLsbD i else (s.dev.shuttle g.val).flags.getLsbD i) ∧
      { t.dev.shuttle g.val with flags := (s.dev.shuttle g.val).flags } = s.dev.shuttle g.val ∧
      ∀ k, k ≠ g.val → t.dev.shuttle k = s.dev.shuttle k) ∧
  (∀ (g : Fin 12) (m v : BitVec 16) (s : State), s.dev.widenSet g.val ≠ 0 →
    ∃ t, exec (.widenFlagApply g (some (m, v))) s = .next t ∧ Kept s t ∧ { t.dev with shuttles := s.dev.shuttles } = s.dev ∧
      (t.dev.shuttle g.val).flags = ((s.dev.shuttle g.val).flags &&& ~~~ m) ||| (v &&& m) ∧
      { t.dev.shuttle g.val with flags := (s.dev.shuttle g.val).flags } = s.dev.shuttle g.val ∧
      ∀ k, k ≠ g.val → t.dev.shuttle k = s.dev.shuttle k) ∧
  (∀ (g : Fin 12) (s : State), s.dev.tr.plls.getLsbD g.val = true →
    ∃ t, exec (.groupClockLost g) s = .next t ∧ Kept s t ∧ t.dev.groupRuns g.val = false ∧
      (t.dev.shuttle g.val).state = .halted ∧
      ((s.dev.shuttle g.val).state = .running ∨ (s.dev.shuttle g.val).state = .holding →
        t.dev.rdN (0x3100 + g.val) 0x16 = 0x0406 ∧ t.dev.rdN (0x3100 + g.val) 0x13 = s.dev.core.time % 2 ^ 64) ∧
      t.dev.core = s.dev.core ∧ ∀ k, k ≠ g.val → t.dev.shuttle k = s.dev.shuttle k) ∧
  (∀ (g : Fin 12) (s : State), s.dev.core.state = .run → s.dev.vaux = true → s.dev.core.steps = none →
    ∃ t, exec (.groupPllRelock g) s = .next t ∧ Kept s t ∧ t.dev.groupRuns g.val = true ∧ t.dev.core = s.dev.core ∧
      ∀ k, k ≠ g.val → t.dev.shuttle k = s.dev.shuttle k) ∧
  (∀ (locked : BitVec 12) (rest : List Nat) (s : State), s.dev.core.steps = some (0 :: rest) →
    ∃ t, exec (.startupPllLock locked) s = .next t ∧ Kept s t ∧ t.dev.tr.plls = s.dev.tr.plls ||| locked ∧
      (rest = [] → s.dev.core.state = .folded ∨ (s.dev.core.state = .fitting ∧ s.dev.config.load.isSome = true) →
        t.dev.core.state = .run ∧ t.dev.core.steps = none))

/-- PROGRAM_WRITE, PROGRAM_PATCH_WRITE, FAIL_LATENCY_WRITE, PROGRAM_SCRUB_VISIT (R194, R207, R219 to R221). -/
def Obligations.ProgramMemories : Prop :=
  (∀ (g : Fin 12) (w : Wr) (s : State), Accepted objProgram (actProgram g.val w) w s.dev →
    ∃ t, exec (.programWrite g w) s = .next t ∧ Kept s t ∧
      { t.dev with programs := s.dev.programs, progErrs := s.dev.progErrs, shuttles := s.dev.shuttles } = s.dev ∧
      (∀ a, a < 16384 → t.dev.progWord g.val a =
        if leAt w.bytes 0 4 ≤ a ∧ a < leAt w.bytes 0 4 + (w.bytes.length - 4) / 8 then
          BitVec.ofNat 64 (leAt w.bytes (4 + 8 * (a - leAt w.bytes 0 4)) 8)
        else s.dev.progWord g.val a) ∧
      (∀ k a, k ≠ g.val → a < 16384 → t.dev.progWord k a = s.dev.progWord k a)) ∧
  (∀ (g : Fin 12) (w : Wr) (s : State), Accepted objProgramPatch (actProgramPatch g.val w) w s.dev → s.dev.immediate = false →
    ∃ t, exec (.programPatchWrite g w) s = .next t ∧ Kept s t ∧ { t.dev with staged := s.dev.staged } = s.dev ∧
      t.dev.pendingOf (0x3110 + g.val) 2 = some {
        index := 0x3110 + g.val, sub := 2, val := .bytes w.bytes, scope := .group g.val
        due := (s.dev.rdN (0x3100 + g.val) 8 + 1) % 2 ^ 32 } ∧
      ∀ i j, ¬(i = 0x3110 + g.val ∧ j = 2) → t.dev.pendingOf i j = s.dev.pendingOf i j) ∧
  (∀ (g : Fin 12) (w : Wr) (s : State), Accepted objFailLatency (actFailLatency g.val) w s.dev → s.dev.immediate = false →
    s.dev.rdN (0x3100 + g.val) 0x0A ≤ objFailLatency.num w ∧
    ∃ t, exec (.failLatencyWrite g w) s = .next t ∧ Kept s t ∧ { t.dev with staged := s.dev.staged } = s.dev ∧
      t.dev.pendingOf (0x3100 + g.val) 9 = some {
        index := 0x3100 + g.val, sub := 9, val := .word (objFailLatency.valueOf w), scope := .group g.val
        due := (s.dev.rdN (0x3100 + g.val) 8 + 1) % 2 ^ 32 } ∧
      ∀ i j, ¬(i = 0x3100 + g.val ∧ j = 9) → t.dev.pendingOf i j = s.dev.pendingOf i j) ∧
  (∀ (g : Fin 12) (a : Nat) (up : BitVec 79) (s : State), s.dev.groupRuns g.val = true →
    a = (s.dev.shuttle g.val).scrubPtr →
    (weight79 (s.dev.progErr g.val a ^^^ up) = 1 ∨ weight79 (s.dev.progErr g.val a ^^^ up) = 2 →
      ∃ t, exec (.programScrubVisit g up) s = .next t ∧ Kept s t ∧ (t.dev.shuttle g.val).scrubPtr = (a + 1) % 16384 ∧
        t.dev.progErr g.val a = 0 ∧ (∀ k b, t.dev.progWord k b = s.dev.progWord k b) ∧
        t.dev.rdN (0x3100 + g.val) 0x17 = (s.dev.rdN (0x3100 + g.val) 0x17 + 1) % 2 ^ 32 ∧
        { t.dev with
          regs := s.dev.regs, programs := s.dev.programs, progErrs := s.dev.progErrs, shuttles := s.dev.shuttles } = s.dev) ∧
    (weight79 (s.dev.progErr g.val a ^^^ up) = 3 → (s.dev.shuttle g.val).badWords.contains a = false →
      ∃ t, exec (.programScrubVisit g up) s = .next t ∧ Kept s t ∧ (t.dev.shuttle g.val).scrubPtr = (a + 1) % 16384 ∧
        t.dev.programs = s.dev.programs ∧ (t.dev.shuttle g.val).badWords = a :: (s.dev.shuttle g.val).badWords ∧
        t.dev.rdN (0x3100 + g.val) 0x18 = (s.dev.rdN (0x3100 + g.val) 0x18 + 1) % 2 ^ 32))

/-- The sixteen symbols of R231 as drive actions (R232), under NRZ. -/
def Obligations.SymbolsDrive : Prop :=
  ∀ (c : Fin 96) (rx : List (Fin 4)) (x : NeedleSt) (index start : Nat) (t : ChanTiming) (symbols : BitVec 64)
    (invalid record : Bool) (rest : List NItem) (s : State), x = s.dev.needle c.val →
    x.stream = .slice index start t symbols invalid record :: rest → x.period < 15 → x.holding = false →
    s.dev.groupRuns (c.val / 8) = true → t.format = 0 → t.eData.isSome = true → t.eOff.isSome = true → t.eRet.isSome = true →
    ∀ (i : Instr) (code : Nat) (drive : Drive) (v : Bool),
    (i = .d0 c rx ∧ code = 0x0 ∧ drive = .low ∧ v = false) ∨ (i = .d1 c rx ∧ code = 0x1 ∧ drive = .high ∧ v = true) ∨
    (i = .dz c rx ∧ code = 0x2 ∧ drive = .off ∧ v = x.v) ∨
    (i = .dk c rx ∧ code = 0x3 ∧ drive = (if x.drive.driving then driveOf x.v else x.drive) ∧ v = x.v) ∨
    (i = .cl c rx ∧ code = 0x4 ∧ drive = x.drive ∧ v = x.v) ∨ (i = .ch c rx ∧ code = 0x5 ∧ drive = x.drive ∧ v = x.v) ∨
    (i = .cm c rx ∧ code = 0x6 ∧ drive = x.drive ∧ v = x.v) ∨ (i = .cx c rx ∧ code = 0x7 ∧ drive = x.drive ∧ v = x.v) ∨
    (i = .d0cl c rx ∧ code = 0x8 ∧ drive = .low ∧ v = false) ∨ (i = .d1ch c rx ∧ code = 0x9 ∧ drive = .high ∧ v = true) ∨
    (i = .dn c rx ∧ code = 0xA ∧ drive = driveOf (!x.v) ∧ v = !x.v) ∨ (i = .te c rx ∧ code = 0xB ∧ drive = .term ∧ v = x.v) ∨
    (i = .cc c rx ∧ code = 0xC ∧ drive = x.drive ∧ v = x.v) ∨
    (i = .reservedSymbol c rx ∧ code = 0xD ∧ drive = x.drive ∧ v = x.v) ∨
    (i = .ed c rx ∧ code = 0xE ∧ drive = .low ∧ v = false) ∨ (i = .nop c rx ∧ code = 0xF ∧ drive = x.drive ∧ v = x.v) →
    symbols.toNat / 16 ^ x.period % 16 = code →
    ∃ u, exec i s = .next u ∧ Kept s u ∧ (u.dev.needle c.val).drive = drive ∧ (u.dev.needle c.val).v = v ∧
      (u.dev.needle c.val).period = x.period + 1 ∧ (u.dev.needle c.val).stream = x.stream ∧
      (∀ k, k ≠ c.val → u.dev.needle k = s.dev.needle k) ∧ u.dev.shuttles = s.dev.shuttles ∧ u.dev.core = s.dev.core

/-- Strobes and judgement (R231, R241 to R243), the counters of R250, and the end of a slice (R205). -/
def Obligations.StrobesRecord : Prop :=
  (∀ (c : Fin 96) (rx : List (Fin 4)) (x : NeedleSt) (index start : Nat) (t : ChanTiming) (symbols : BitVec 64)
      (invalid record : Bool) (rest : List NItem) (level : Nat) (s : State), x = s.dev.needle c.val →
    x.stream = .slice index start t symbols invalid record :: rest → x.period < 15 → x.holding = false →
    s.dev.groupRuns (c.val / 8) = true → t.strobeEnd = none → level = (((s.dev.rxSeen rx).head?).getD 3).val →
    ∀ (i : Instr) (code : Nat) (expect : Option Nat),
    (i = .cl c rx ∧ code = 0x4 ∧ expect = some 0) ∨ (i = .ch c rx ∧ code = 0x5 ∧ expect = some 2) ∨
    (i = .cm c rx ∧ code = 0x6 ∧ expect = some 1) ∨ (i = .cx c rx ∧ code = 0x7 ∧ expect = none) ∨
    (i = .d0cl c rx ∧ code = 0x8 ∧ expect = some 0) ∨ (i = .d1ch c rx ∧ code = 0x9 ∧ expect = some 2) ∨
    (i = .cc c rx ∧ code = 0xC ∧ expect = none) →
    symbols.toNat / 16 ^ x.period % 16 = code →
    ∃ u, exec i s = .next u ∧ Kept s u ∧
      (t.strobe.isSome = true →
        (u.dev.needle c.val).results = x.results |||
          BitVec.ofNat 64 (((if expect.any (· != level) then 8 else 0) + level * 2 + 1) * 16 ^ x.period) ∧
        (u.dev.needle c.val).failed = (x.failed || expect.any (· != level)) ∧
        u.dev.rdN (0x3200 + c.val) 8 = (s.dev.rdN (0x3200 + c.val) 8 + 1) % 2 ^ 48 ∧
        (expect.any (· != level) = true → u.dev.rdN (0x3200 + c.val) 9 = (s.dev.rdN (0x3200 + c.val) 9 + 1) % 2 ^ 48) ∧
        (expect.any (· != level) = false → u.dev.rdN (0x3200 + c.val) 9 = s.dev.rdN (0x3200 + c.val) 9)) ∧
      (t.strobe = none → (u.dev.needle c.val).results = x.results ∧ (u.dev.needle c.val).failed = x.failed ∧
        u.dev.rdN (0x3200 + c.val) 0x0D = (s.dev.rdN (0x3200 + c.val) 0x0D + 1) % 2 ^ 32 ∧
        u.dev.rdN (0x3200 + c.val) 8 = s.dev.rdN (0x3200 + c.val) 8)) ∧
  (∀ (c : Fin 96) (rx : List (Fin 4)) (x : NeedleSt) (index start : Nat) (t : ChanTiming) (symbols : BitVec 64)
      (invalid record : Bool) (rest : List NItem) (s : State), x = s.dev.needle c.val →
    x.stream = .slice index start t symbols invalid record :: rest → x.period < 15 → x.holding = false →
    s.dev.groupRuns (c.val / 8) = true →
    ∀ (i : Instr) (code : Nat),
    (i = .d0 c rx ∧ code = 0x0) ∨ (i = .d1 c rx ∧ code = 0x1) ∨ (i = .dz c rx ∧ code = 0x2) ∨ (i = .dk c rx ∧ code = 0x3) ∨
    (i = .dn c rx ∧ code = 0xA) ∨ (i = .te c rx ∧ code = 0xB) ∨ (i = .reservedSymbol c rx ∧ code = 0xD) ∨
    (i = .ed c rx ∧ code = 0xE) ∨ (i = .nop c rx ∧ code = 0xF) →
    symbols.toNat / 16 ^ x.period % 16 = code →
    ∃ u, exec i s = .next u ∧ Kept s u ∧ (u.dev.needle c.val).results = x.results ∧ (u.dev.needle c.val).failed = x.failed ∧
      u.dev.rdN (0x3200 + c.val) 8 = s.dev.rdN (0x3200 + c.val) 8 ∧
      (code = 0xD → u.dev.rdN (0x3200 + c.val) 0x0B = (s.dev.rdN (0x3200 + c.val) 0x0B + 1) % 2 ^ 32)) ∧
  (∀ (c : Fin 96) (rx : List (Fin 4)) (x : NeedleSt) (index start : Nat) (t : ChanTiming) (symbols : BitVec 64)
      (invalid : Bool) (s : State), x = s.dev.needle c.val → x.stream = [.slice index start t symbols invalid false] →
    x.period = 15 → x.holding = false → s.dev.groupRuns (c.val / 8) = true → symbols.toNat / 16 ^ 15 % 16 = 0xF →
    ∃ u, exec (.nop c rx) s = .next u ∧ Kept s u ∧ (u.dev.needle c.val).stream = [] ∧ (u.dev.needle c.val).period = 0 ∧
      (u.dev.needle c.val).results = 0 ∧
      tabGet (fun _ => 0) (u.dev.shuttle (c.val / 8)).vecs index =
        if x.failed then tabGet (fun _ => 0) (s.dev.shuttle (c.val / 8)).vecs index ||| (1#8 <<< (c.val % 8))
        else tabGet (fun _ => 0) (s.dev.shuttle (c.val / 8)).vecs index)

/-- CAL_INTERNAL, CAL_LOOP, CAL_COMPLETE (R244 to R247), TIMING_TABLE_WRITE (R236, R240), RAW_CONFIG_WRITE (R256). -/
def Obligations.CalibrationAndTables : Prop :=
  (∀ (groups : BitVec 12) (path : Transport) (kind : Nat) (i : Instr) (s : State),
    (i = .calInternal groups path ∧ kind = 1) ∨ (i = .calLoop groups path ∧ kind = 2) →
    Accepted objCalRequest actCalRequest ⟨path, 4, word (kind * 2 ^ 24 + groups.toNat), [], 0⟩ s.dev →
    ∃ t, exec i s = .next t ∧ Kept s t ∧
      RegsKept (fun j k => (j == 0x3340 && k == 1) || (0x3200 ≤ j && j < 0x3260 && k == 0x0A) || reportReg j k) s.dev t.dev ∧
      t.dev.rd 0x3340 1 = setBit (s.dev.rd 0x3340 1) 15 true ∧
      t.dev.cal = { s.dev.cal with busy := some { kind := kind, groups := groups.toNat, since := s.dev.core.time } } ∧
      (∀ c, c < 96 → groups.getLsbD (c / 8) = true → s.dev.laneActive c = true → s.dev.offLevel1 c = true →
        ∃ at', .lane c at' 1 ∈ t.dev.out) ∧
      (∀ c, c < 96 → groups.getLsbD (c / 8) = false → t.dev.needle c = s.dev.needle c) ∧
      t.dev.shuttles = s.dev.shuttles ∧ t.dev.core = s.dev.core ∧ t.dev.staged = s.dev.staged ∧ t.dev.banks = s.dev.banks) ∧
  (∀ (groups : BitVec 12) (since : Nat) (loop : List (Option (BitVec 32))) (s : State),
    s.dev.cal.busy = some { kind := 1, groups := groups.toNat, since := since } →
    ∃ t, exec (.calComplete loop) s = .next t ∧ Kept s t ∧ t.dev.cal.busy = none ∧ t.dev.rdN 0x3340 3 = 0 ∧
      t.dev.rdN 0x3340 6 = groups.toNat ∧ bit (t.dev.rd 0x3340 1) 14 = true ∧ bit (t.dev.rd 0x3340 1) 15 = false ∧
      bits (t.dev.rd 0x3340 1) 31 16 = nextSeq (bits (s.dev.rd 0x3340 1) 31 16) ∧ bits (t.dev.rd 0x3340 1) 7 0 = 1 ∧
      (∀ g, g < 12 → groups.getLsbD g = true →
        ∃ x ∈ t.dev.cal.staged, x.group = g ∧ x.kind = 1 ∧ x.temp = s.dev.groupTemp g ∧ x.due = (s.dev.rdN (0x3100 + g) 8 + 1) % 2 ^ 32) ∧
      (∀ x ∈ s.dev.cal.staged, x ∈ t.dev.cal.staged) ∧ RegsKept (regsOf 0x3340 [1, 3, 6]) s.dev t.dev) ∧
  (∀ (g : Fin 12) (i : Fin 8) (since : Nat) (loop : List (Option (BitVec 32))) (s : State),
    s.dev.cal.busy = some { kind := 2, groups := 2 ^ g.val, since := since } → s.dev.rawMode (8 * g.val + i.val) = false →
    loop[8 * g.val + i.val]? = some none →
    ∃ t, exec (.calComplete loop) s = .next t ∧ Kept s t ∧ t.dev.cal.busy = none ∧ t.dev.rdN 0x3340 3 = 0x0523 ∧
      t.dev.rdN 0x3340 6 = 0 ∧ bit (t.dev.rd 0x3340 1) 14 = true ∧ bit (t.dev.rd 0x3340 1) 15 = false) ∧
  (∀ (g : Fin 12) (w : Wr) (s : State), Accepted objTimingTable (actTimingTable g.val w) w s.dev → s.dev.immediate = false →
    w.bytes.length = 8704 ∧
    ∃ t, exec (.timingTableWrite g w) s = .next t ∧ Kept s t ∧ { t.dev with staged := s.dev.staged } = s.dev ∧
      t.dev.pendingOf (0x3300 + g.val) 1 = some {
        index := 0x3300 + g.val, sub := 1, val := .bytes w.bytes, scope := .group g.val
        due := (s.dev.rdN (0x3100 + g.val) 8 + 1) % 2 ^ 32 } ∧
      ∀ i j, ¬(i = 0x3300 + g.val ∧ j = 1) → t.dev.pendingOf i j = s.dev.pendingOf i j) ∧
  (∀ (c : Fin 96) (w : Wr) (s : State), Accepted objRawConfig (actRawConfig c.val) w s.dev → s.dev.immediate = false →
    ∃ t, exec (.rawConfigWrite c w) s = .next t ∧ Kept s t ∧ { t.dev with staged := s.dev.staged } = s.dev ∧
      t.dev.pendingOf (0x3200 + c.val) 5 = some {
        index := 0x3200 + c.val, sub := 5, val := .word (objRawConfig.valueOf w), scope := .group (c.val / 8)
        due := (s.dev.rdN (0x3100 + c.val / 8) 8 + 1) % 2 ^ 32 } ∧
      ∀ i j, ¬(i = 0x3200 + c.val ∧ j = 5) → t.dev.pendingOf i j = s.dev.pendingOf i j)

/-- RAW_SERIALISER_TAKE, RAW_IDLE_UNIT, RAW_RX_LOCK, RAW_RECEIVER_ENTRY, RAW_LOCK_LOST (R252 to R255), in coding NONE where the coding
bears on the bits. -/
def Obligations.RawLanes : Prop :=
  (∀ (c : Fin 96) (e : HEntry) (s : State), s.dev.rawRuns c.val = true → s.dev.rawHead c.val = some e →
    coding (s.dev.rawCfg c.val) = 0 →
    ∃ t, exec (.rawSerialiserTake c) s = .next t ∧ Kept s t ∧
      { t.dev with halves := s.dev.halves, needles := s.dev.needles, out := s.dev.out } = s.dev ∧
      t.dev.needle c.val = { s.dev.needle c.val with holding := false } ∧ (∀ k, k ≠ c.val → t.dev.needle k = s.dev.needle k) ∧
      (t.dev.half c.val).q = (s.dev.half c.val).q.tail ∧ (t.dev.half c.val).rptr = ((s.dev.half c.val).rptr + 1) % 512 ∧
      (s.dev.laneActive c.val = true → t.dev.out = .rawBits c.val
        ((List.range 256).map (fun i => e.data.getLsbD i ^^ bit (s.dev.rawCfg c.val) 28)) :: s.dev.out) ∧
      ∀ k, k ≠ c.val → t.dev.half k = s.dev.half k) ∧
  (∀ (c : Fin 96) (s : State), s.dev.rawRuns c.val = true → s.dev.rawHead c.val = none →
    ∃ t, exec (.rawIdleUnit c) s = .next t ∧ Kept s t ∧ (t.dev.half c.val).loss = ((s.dev.half c.val).loss + 1) % 2 ^ 32 ∧
      (t.dev.half c.val).q = (s.dev.half c.val).q ∧ (t.dev.needle c.val).sent531 = true ∧ t.dev.shuttles = s.dev.shuttles) ∧
  (∀ (c : Fin 96) (line l : List Bool) (start : Nat) (s : State), s.dev.rawHears c.val = true →
    l = (s.dev.rawLine c.val line).drop start → s.dev.locksOn c.val l = true →
    ∃ t, exec (.rawRxLock c line start) s = .next t ∧ Kept s t ∧
      { t.dev with regs := s.dev.regs, needles := s.dev.needles } = s.dev ∧
      t.dev.rd (0x3200 + c.val) 6 = setBit (s.dev.rd (0x3200 + c.val) 6) 31 true ∧
      RegsKept (regsOf (0x3200 + c.val) [6]) s.dev t.dev ∧
      (∀ k : Nat, k < 58 → (t.dev.needle c.val).raw.descrambler.getLsbD k = (l.reverse[k]?).getD false) ∧
      (coding (s.dev.rawCfg c.val) = 1 → (t.dev.needle c.val).raw.rxDisp =
        dispAfter10 false (l.drop (l.length - 10))) ∧
      ∀ k, k ≠ c.val → t.dev.needle k = s.dev.needle k) ∧
  (∀ (c : Fin 96) (line : BitVec 256) (s : State), s.dev.rawHears c.val = true → bit (s.dev.rd (0x3200 + c.val) 6) 31 = true →
    coding (s.dev.rawCfg c.val) = 0 → s.dev.hemEnabled (96 + c.val) = true → (s.dev.half (96 + c.val)).gap = none →
    4 < (s.dev.half (96 + c.val)).freeEntries →
    ∃ t, exec (.rawReceiverEntry c line) s = .next t ∧ Kept s t ∧ { t.dev with halves := s.dev.halves } = s.dev ∧
      (t.dev.half (96 + c.val)).q = (s.dev.half (96 + c.val)).q ++ [{
        data := if bit (s.dev.rawCfg c.val) 27 then ~~~ line else line, tag := 0 }] ∧
      ∀ k, k ≠ 96 + c.val → t.dev.half k = s.dev.half k) ∧
  (∀ (c : Fin 96) (n : Fin 24) (line : BitVec 256) (l : List Bool) (s : State), s.dev.rawHears c.val = true →
    bit (s.dev.rd (0x3200 + c.val) 6) 31 = true → l = s.dev.rawLine c.val (lsbBits 256 line.toNat) →
    (coding (s.dev.rawCfg c.val) = 0 ∨
      (coding (s.dev.rawCfg c.val) = 1 ∧ (s.dev.rawChars c.val n.val 0 l).2.2.1 = true) ∨
      (2 ≤ coding (s.dev.rawCfg c.val) ∧ n.val = 1 ∧
        lockFails ((s.dev.rawBlock c.val 0 (l.take 66)).2.needle c.val).raw.recent true = true) →
      ∃ t, exec (.rawLockLost c n line) s = .next t ∧ Kept s t ∧ bit (t.dev.rd (0x3200 + c.val) 6) 31 = false ∧
        t.dev.core = s.dev.core ∧ t.dev.shuttles = s.dev.shuttles ∧ t.dev.staged = s.dev.staged) ∧
    (coding (s.dev.rawCfg c.val) = 1 → (s.dev.rawChars c.val n.val 0 l).2.2.1 = false →
      exec (.rawLockLost c n line) s = .next s))

/-- BANK_TICK, GPIO_ENTRY_APPLY, EXT_CLOCK_MISSING, BANK_CLOCK_SWITCH, PIN_FUNCTION_WRITE, BANK_CLOCK_WRITE, BANK_OUT_WRITE,
PIN_FUNCTION_SWITCH (R260 to R271, R285). -/
def Obligations.GpioBanks : Prop :=
  (∀ (b : Fin 4) (levels : BitVec 16) (s : State), s.dev.thimble = true → s.dev.core.state ≠ .folded →
    (s.dev.bank b.val).switching = false →
    ∃ t, exec (.bankTick b levels) s = .next t ∧ Kept s t ∧ (t.dev.bank b.val).cap1 = levels ∧
      (t.dev.bank b.val).cap2 = (s.dev.bank b.val).cap1 ∧ (t.dev.bank b.val).shown = (s.dev.bank b.val).cap2 ∧
      (t.dev.bank b.val).time1 = s.dev.core.time ∧ (t.dev.bank b.val).objWait = none ∧
      t.dev.rdN (bankIdx b.val) 6 = (s.dev.rdN (bankIdx b.val) 6 + 1) % 2 ^ 48 ∧
      (∀ m v n, (s.dev.bank b.val).objWait = some (m, v) → n < 16 → s.dev.pinActs b.val n = 4 →
        bit (t.dev.rd (bankIdx b.val) 4) n = if m.getLsbD n then v.getLsbD n else bit (s.dev.rd (bankIdx b.val) 4) n) ∧
      ((s.dev.bank b.val).objWait = none → t.dev.rd (bankIdx b.val) 4 = s.dev.rd (bankIdx b.val) 4) ∧
      (∀ k, k ≠ b.val → t.dev.bank k = s.dev.bank k) ∧ t.dev.core = s.dev.core) ∧
  (∀ (b : Fin 4) (e : HEntry) (s : State), s.dev.islandOn (112 + b.val) = true → (s.dev.half (224 + 2 * b.val)).head = some e →
    e.bad = 0 → e.tag.toNat / 64 = 0 →
    ((s.dev.bank b.val).applied = true → exec (.gpioEntryApply b) s = .next s) ∧
    ((s.dev.bank b.val).applied = false → e.data.toNat / 2 ^ 192 ≤ s.dev.core.time →
      ∃ t, exec (.gpioEntryApply b) s = .next t ∧ Kept s t ∧
        { t.dev with regs := s.dev.regs, halves := s.dev.halves, banks := s.dev.banks } = s.dev ∧
        RegsKept (regsOf (bankIdx b.val) [7]) s.dev t.dev ∧
        (t.dev.half (224 + 2 * b.val)).q = (s.dev.half (224 + 2 * b.val)).q.tail ∧
        (∀ n, n < 16 → s.dev.pinActs b.val n = 2 → (t.dev.bank b.val).outVal.getLsbD n =
          if e.data.getLsbD (16 + n) then e.data.getLsbD n else (s.dev.bank b.val).outVal.getLsbD n) ∧
        ∀ k, k ≠ b.val → t.dev.bank k = s.dev.bank k) ∧
    ((s.dev.bank b.val).applied = false → s.dev.core.time < e.data.toNat / 2 ^ 192 →
      ∃ t, exec (.gpioEntryApply b) s = .next t ∧ Kept s t ∧ { t.dev with banks := s.dev.banks } = s.dev ∧
        t.dev.bank b.val = { s.dev.bank b.val with headRead := true } ∧ ∀ k, k ≠ b.val → t.dev.bank k = s.dev.bank k)) ∧
  (∀ (b : Fin 4) (s : State), s.dev.thimble = true → bit (s.dev.rd (bankIdx b.val) 2) 31 = true →
    ∃ t, exec (.extClockMissing b) s = .next t ∧ Kept s t ∧ { t.dev with banks := s.dev.banks, hemWin := s.dev.hemWin } = s.dev ∧
      t.dev.bank b.val = { s.dev.bank b.val with extMissing := true } ∧ t.dev.islandOn (112 + b.val) = false ∧
      (t.dev.hemWinOf (208 + b.val)).stopped = true) ∧
  (∀ (b : Fin 4) (s : State),
    ((s.dev.bank b.val).switching = true →
      ∃ t, exec (.bankClockSwitch b) s = .next t ∧ Kept s t ∧ { t.dev with banks := s.dev.banks, hemWin := s.dev.hemWin } = s.dev ∧
        t.dev.bank b.val = { s.dev.bank b.val with
          switching := false, extMissing := false, fallback := !s.dev.groupRuns (bits (s.dev.rd (bankIdx b.val) 2) 27 24) } ∧
        (∀ k, k ≠ b.val → t.dev.bank k = s.dev.bank k) ∧
        (s.dev.thimble = true → s.dev.core.state ≠ .folded → t.dev.bankFallback b.val =
          (!bit (s.dev.rd (bankIdx b.val) 2) 31 && !s.dev.groupRuns (bits (s.dev.rd (bankIdx b.val) 2) 27 24)))) ∧
    ((s.dev.bank b.val).switching = false → exec (.bankClockSwitch b) s = .next s)) ∧
  (∀ (b : Fin 4) (n : Fin 16) (w : Wr) (s : State), Accepted objPinFunction (actPinFunction b.val n.val) w s.dev →
    s.dev.immediate = false →
    ∃ t, exec (.pinFunctionWrite b n w) s = .next t ∧ Kept s t ∧ { t.dev with staged := s.dev.staged } = s.dev ∧
      t.dev.pendingOf (pinIdx b.val n.val) 2 = some {
        index := pinIdx b.val n.val, sub := 2, val := .word (objPinFunction.valueOf w), scope := .device
        due := (s.dev.rdN 0x2004 1 + 1) % 2 ^ 32 }) ∧
  (∀ (b : Fin 4) (w : Wr) (s : State), Accepted objBankClock (actBankClock b.val) w s.dev → s.dev.immediate = false →
    ∃ t, exec (.bankClockWrite b w) s = .next t ∧ Kept s t ∧ { t.dev with staged := s.dev.staged } = s.dev ∧
      t.dev.pendingOf (bankIdx b.val) 2 = some {
        index := bankIdx b.val, sub := 2, val := .word (objBankClock.valueOf w), scope := .device
        due := (s.dev.rdN 0x2004 1 + 1) % 2 ^ 32 }) ∧
  (∀ (b : Fin 4) (w : Wr) (s : State), Accepted objBankOut (actBankOut b.val) w s.dev → (s.dev.bank b.val).objWait = none →
    ∃ t, exec (.bankOutWrite b w) s = .next t ∧ Kept s t ∧ { t.dev with banks := s.dev.banks } = s.dev ∧
      (∃ m v, (t.dev.bank b.val).objWait = some (m, v) ∧ m.toNat = bits (objBankOut.valueOf w) 31 16 ∧
        ∀ n, n < 16 → m.getLsbD n = true → v.getLsbD n = bit (objBankOut.valueOf w) n) ∧
      ∀ k, k ≠ b.val → t.dev.bank k = s.dev.bank k) ∧
  (∀ (b : Fin 4) (n : Fin 16) (x : BankSt) (s : State), x = s.dev.bank b.val → s.dev.islandOn (112 + b.val) = true →
    (x.holding.find? (fun h => h.1 == n.val) = none → s.dev.pinDue b.val n.val = true →
      ∃ t, exec (.pinFunctionSwitch b n) s = .next t ∧ Kept s t ∧ { t.dev with regs := s.dev.regs, banks := s.dev.banks } = s.dev ∧
        RegsKept (regsOf (bankIdx b.val) [4]) s.dev t.dev ∧
        bit (t.dev.rd (bankIdx b.val) 4) n.val = (x.newObj.getLsbD n.val && bit (s.dev.rd (bankIdx b.val) 4) n.val) ∧
        (t.dev.bank b.val).outVal.getLsbD n.val = (x.newVal.getLsbD n.val && x.outVal.getLsbD n.val) ∧
        (t.dev.bank b.val).outEn.getLsbD n.val = (x.newEn.getLsbD n.val && x.outEn.getLsbD n.val) ∧
        t.dev.pinActs b.val n.val = s.dev.pinActs b.val n.val ∧
        (t.dev.bank b.val).holding = x.holding ++
          [(n.val, x.wasLevel.getLsbD n.val, x.wasDriven.getLsbD n.val, s.dev.rdN (bankIdx b.val) 6)]) ∧
    (∀ h, x.holding.find? (fun h => h.1 == n.val) = some h →
      (s.dev.rdN (bankIdx b.val) 6 = h.2.2.2 → exec (.pinFunctionSwitch b n) s = .next s) ∧
      (s.dev.rdN (bankIdx b.val) 6 ≠ h.2.2.2 →
        (x.changing.eraseP (fun e => e.1 == n.val)).find? (fun e => e.1 == n.val) = none →
        ∃ t, exec (.pinFunctionSwitch b n) s = .next t ∧ Kept s t ∧ { t.dev with banks := s.dev.banks } = s.dev ∧
          t.dev.pinActs b.val n.val = s.dev.rdN (pinIdx b.val n.val) 2 ∧
          (t.dev.bank b.val).holding.find? (fun h => h.1 == n.val) = none)))

/-- PUMP_CHARGE, PUMP_DECAY, SAFE_READBACK (R274 to R278, R507). -/
def Obligations.SafeBallsNeedPermits : Prop :=
  (∀ (ball : Fin 8) (digit old : BitVec 2) (s : State), s.dev.fabricLive = true → s.dev.vaux = true → digit = 1 ∨ digit = 2 →
    (s.dev.ball ball.val).lastDigit = some old → old ≠ digit → s.dev.env.rails.getLsbD 0 = true →
    s.dev.pumpStopped ball.val = false →
    ∃ t, exec (.pumpCharge ball digit) s = .next t ∧ Kept s t ∧
      { t.dev with regs := s.dev.regs, safeBalls := s.dev.safeBalls } = s.dev ∧
      RegsKept (regsOf 0x2880 [2 + ball.val / 2]) s.dev t.dev ∧ (t.dev.ball ball.val).lastDigit = some digit ∧
      (t.dev.ball ball.val).lastCharge = s.dev.core.time ∧
      (s.dev.safety.permits.getLsbD (ball.val / 2) = false → (t.dev.ball ball.val).driven = false ∧
        (t.dev.ball ball.val).charged = !s.dev.safety.withdrawn.getLsbD (ball.val / 2)) ∧
      (s.dev.safety.permits.getLsbD (ball.val / 2) = true → (s.dev.ball ball.val).charged = true →
        s.dev.core.time ≤ (s.dev.ball ball.val).lastCharge + 2500 → (t.dev.ball ball.val).driven = true) ∧
      (s.dev.safety.permits.getLsbD (ball.val / 2) = true → (s.dev.ball ball.val).charged = false →
        (t.dev.ball ball.val).driven = (s.dev.ball ball.val).driven ∧ (t.dev.ball ball.val).charged = true) ∧
      ∀ k, k ≠ ball.val → t.dev.ball k = s.dev.ball k) ∧
  (∀ (ball : Fin 8) (digit : BitVec 2) (s : State), s.dev.fabricLive = true → s.dev.vaux = true → digit = 1 ∨ digit = 2 →
    s.dev.pumpStopped ball.val = true →
    ∃ t, exec (.pumpCharge ball digit) s = .next t ∧ Kept s t ∧ { t.dev with safeBalls := s.dev.safeBalls } = s.dev ∧
      t.dev.ball ball.val = { s.dev.ball ball.val with lastDigit := some digit } ∧
      ∀ k, k ≠ ball.val → t.dev.ball k = s.dev.ball k) ∧
  (∀ (ball : Fin 8) (s : State),
    ((s.dev.ball ball.val).charged = false ∨ (s.dev.ball ball.val).lastCharge + 2500 ≤ s.dev.core.time →
      ∃ t, exec (.pumpDecay ball) s = .next t ∧ Kept s t ∧ { t.dev with safeBalls := s.dev.safeBalls } = s.dev ∧
        (t.dev.ball ball.val).driven = false ∧ (t.dev.ball ball.val).charged = false ∧
        ∀ k, k ≠ ball.val → t.dev.ball k = s.dev.ball k) ∧
    ((s.dev.ball ball.val).charged = true → s.dev.core.time < (s.dev.ball ball.val).lastCharge + 2500 →
      exec (.pumpDecay ball) s = .next s)) ∧
  (∀ (levels : BitVec 8) (s : State), s.dev.thimble = true →
    (∀ k, k < 8 → (if k % 2 = 0 then levels.getLsbD k else !levels.getLsbD k) = (s.dev.ball k).driven) →
    ∃ t, exec (.safeReadback levels) s = .next t ∧ Kept s t ∧ { t.dev with safeBalls := s.dev.safeBalls } = s.dev ∧
      ∀ k, k < 8 → t.dev.ball k = { s.dev.ball k with level := levels.getLsbD k, badActive := 0, badSafe := 0 }) ∧
  (∀ (levels : BitVec 8) (k : Fin 8) (s : State), s.dev.thimble = true → s.dev.core.state = .run →
    (if k.val % 2 = 0 then levels.getLsbD k.val else !levels.getLsbD k.val) = true → (s.dev.ball k.val).driven = false →
    1 ≤ (s.dev.ball k.val).badActive →
    ∃ t, exec (.safeReadback levels) s = .next t ∧ Kept s t ∧ t.dev.core.state = .safe ∧ t.dev.safety.permits = 0 ∧
      t.dev.rdN 0x2000 3 = 0x0910 ∧ t.dev.core.outputs = false)

/-- BYPASS to EXTEST_TRAIN (R282, R283), TEST_LOGIC_RESET (R372), JTAG_STATE, OBJECT_DATA, JTAG_OBJECT_READ, JTAG_OBJECT_WRITE (R419
to R421). -/
def Obligations.TestAccessPort : Prop :=
  (∀ (i : Instr) (x : TapInstr) (c : BitVec 128) (s : State), s.dev.tapOn = true →
    (i = .bypass ∧ x = .bypass ∧ c = 0) ∨ (i = .idcode ∧ x = .idcode ∧ c = Config.idcode.setWidth 128) ∨
      (i = .highz ∧ x = .highz ∧ c = 0) →
    ∃ t, exec i s = .next t ∧ Kept s t ∧ { t.dev with tr := s.dev.tr } = s.dev ∧
      t.dev.tr = { s.dev.tr with tap := { s.dev.tr.tap with instr := x, driving := false, captured := c } }) ∧
  (∀ (pins : ScanIn) (cells : ScanDrive) (x : Dev) (s : State), s.dev.tapOn = true → x = s.dev.tapInstr .samplePreload →
    ∃ t, exec (.samplePreload pins cells) s = .next t ∧ Kept s t ∧ { t.dev with tr := s.dev.tr } = s.dev ∧
      t.dev.tr = { s.dev.tr with tap := { s.dev.tr.tap with
        instr := .samplePreload, driving := false, sampleOut := x.scanOut, sample := x.scanIn pins, cells := cells } } ∧
      (∀ p, p < 64 → t.dev.tr.tap.sampleOut.gpioEn.getLsbD p = (x.pinState (p / 16) (p % 16)).1 ∧
        t.dev.tr.tap.sample.gpio.getLsbD p =
          if (x.pinState (p / 16) (p % 16)).1 then (x.pinState (p / 16) (p % 16)).2 else pins.gpio.getLsbD p)) ∧
  (∀ (pins : ScanIn) (cells held : ScanDrive) (i : Instr) (x : TapInstr) (s : State), s.dev.tapOn = true →
    (i = .extest pins cells ∧ x = .extest ∧ held = cells) ∨ (i = .clamp pins ∧ x = .clamp ∧ held = s.dev.tr.tap.cells) ∨
      (i = .extestPulse pins cells ∧ x = .extestPulse ∧ held = cells) ∨
      (i = .extestTrain pins cells ∧ x = .extestTrain ∧ held = cells) →
    (s.dev.core.state = .unconfigured →
      ∃ t, exec i s = .next t ∧ Kept s t ∧ { t.dev with tr := s.dev.tr } = s.dev ∧
        t.dev.tr = { s.dev.tr with tap := { s.dev.tr.tap with
          instr := x, driving := true, cells := held, sampleOut := (s.dev.tapInstr x).scanOut
          sample := (s.dev.tapInstr x).scanIn pins } } ∧
        ∀ b n, b < 4 → n < 16 → t.dev.pinState b n = (held.gpioEn.getLsbD (16 * b + n), held.gpioOut.getLsbD (16 * b + n))) ∧
    (s.dev.core.state ≠ .unconfigured →
      ∃ t, exec i s = .next t ∧ Kept s t ∧
        t.dev.tr.tap = { s.dev.tr.tap with
          instr := .samplePreload, driving := false, cells := held
          sampleOut := (s.dev.tapInstr .samplePreload).scanOut, sample := (s.dev.tapInstr .samplePreload).scanIn pins } ∧
        Reported { s.dev with tr := { s.dev.tr with tap := t.dev.tr.tap } } t.dev ∧
        (s.dev.thimble = true → ∃ e ∈ t.dev.nv.log, e.reason = 0x0B33 ∧ e.time = s.dev.core.time))) ∧
  (∀ s : State, s.dev.tapOn = true →
    ∃ t, exec .testLogicReset s = .next t ∧ Kept s t ∧ t.dev.tr.tap = { s.dev.tr.tap with instr := .idcode, driving := false } ∧
      (t.dev.session 2).role = none ∧ (t.dev.session 2).pending = false ∧
      (∀ k, k ≠ 2 → t.dev.session k = s.dev.session k) ∧ t.dev.core = s.dev.core) ∧
  (∀ s : State, s.dev.tapOn = true →
    ∃ t, exec .jtagState s = .next t ∧ Kept s t ∧ { t.dev with tr := s.dev.tr } = s.dev ∧ t.dev.tr.tap.instr = .state ∧
      (t.dev.tr.tap.captured.extractLsb' 56 8).toNat = s.dev.core.state.code) ∧
  (∀ (data : BitVec 32) (s : State), s.dev.tapOn = true →
    ∃ t, exec (.objectData data) s = .next t ∧ Kept s t ∧ { t.dev with tr := s.dev.tr } = s.dev ∧
      t.dev.tr.tap.instr = .objectData ∧ t.dev.tr.tap.pointer = (s.dev.tr.tap.pointer + 4) % 131072 ∧
      t.dev.tr.tap.captured = BitVec.ofNat 128 (ofLe (bufferBytes s.dev.tr.tap.buffer s.dev.tr.tap.pointer 4)) ∧
      bufferBytes t.dev.tr.tap.buffer s.dev.tr.tap.pointer 4 = leBytes 4 data.toNat ∧
      ∀ p, p < s.dev.tr.tap.pointer ∨ s.dev.tr.tap.pointer + 4 ≤ p →
        bufferBytes t.dev.tr.tap.buffer p 1 = bufferBytes s.dev.tr.tap.buffer p 1) ∧
  (∀ (idx : BitVec 16) (sub : BitVec 8) (s : State), s.dev.tapOn = true → s.dev.tr.tap.busy = false →
    (s.dev.core.state = .boot →
      ∃ t, exec (.jtagObjectRead idx sub) s = .next t ∧ Kept s t ∧ { t.dev with tr := s.dev.tr } = s.dev ∧
        t.dev.tr.tap.seq = nextSeq s.dev.tr.tap.seq ∧ t.dev.tr.tap.error = true ∧ t.dev.tr.tap.reason = 0x0B10) ∧
    (s.dev.core.state ≠ .boot → userIndex idx.toNat = false → findDesc idx.toNat sub.toNat = none →
      ∃ t, exec (.jtagObjectRead idx sub) s = .next t ∧ Kept s t ∧ { t.dev with tr := s.dev.tr } = s.dev ∧
        t.dev.tr.tap.seq = nextSeq s.dev.tr.tap.seq ∧ t.dev.tr.tap.error = true ∧ t.dev.tr.tap.reason = 0x0B02) ∧
    (∀ o, s.dev.core.state ≠ .boot → userIndex idx.toNat = false → findDesc idx.toNat sub.toNat = some o → o.isBytes = false →
      o.acc ≠ .wo → resultStatus idx.toNat sub.toNat = none →
      ∃ t, exec (.jtagObjectRead idx sub) s = .next t ∧ Kept s t ∧ { t.dev with tr := s.dev.tr } = s.dev ∧
        t.dev.tr.tap.seq = nextSeq s.dev.tr.tap.seq ∧ t.dev.tr.tap.error = false ∧
        t.dev.tr.tap.value = (if o.signed then ofInt 8 (signedOf o.width (Dev.readWord s.fuses s.dev.tapObject o idx.toNat sub.toNat))
          else Dev.readWord s.fuses s.dev.tapObject o idx.toNat sub.toNat))) ∧
  (∀ (idx : BitVec 16) (sub : BitVec 8) (value : BitVec 64) (s : State) (r : State × WriteEnd), s.dev.tapOn = true →
    s.dev.tr.tap.busy = false → s.dev.core.state ≠ .boot → userIndex idx.toNat = false →
    r = State.writeObj { s with dev := s.dev.tapObject } idx.toNat sub.toNat
      (wideWrite .jtag idx.toNat sub.toNat value s.dev.tr.tap.buffer) →
    ∃ t, exec (.jtagObjectWrite idx sub value) s = .next t ∧ t.pending = s.pending ∧ t.fuses = r.1.fuses ∧
      { t.dev with tr := r.1.dev.tr } = r.1.dev ∧ t.dev.tr.tap.reason = r.2.code ∧ t.dev.tr.tap.error = (r.2.code != 0) ∧
      (findDesc idx.toNat sub.toNat = none → r.2.code = 0x0B02))

/-- CELL_FORWARD, LINK_OPEN, LINK_UP, LINK_STABLE, TIMING_EXCHANGE (R290 to R301, R311). -/
def Obligations.RingLinks : Prop :=
  (∀ (fromEast : Bool) (c : Cell) (s : State), s.dev.thimble = true → (s.dev.link fromEast).up = true →
    (c.crcOk = true → c.source ≠ s.dev.core.cascadeId → c.dest ≠ s.dev.core.cascadeId → c.type ≠ 8 → c.type ≠ 12 → c.type ≠ 15 →
      ∃ t e, exec (.cellForward fromEast c) s = .next t ∧ Kept s t ∧
        { t.dev with cascade := s.dev.cascade, out := s.dev.out } = s.dev ∧ t.dev.out = .cell e c :: s.dev.out ∧
        ((s.dev.link !fromEast).up = true → (s.dev.link !fromEast).wrapped = false → e = !fromEast) ∧
        ((s.dev.link !fromEast).up = false → e = fromEast) ∧
        ((s.dev.link !fromEast).wrapped = true → (s.dev.link fromEast).wrapped = false → e = fromEast) ∧
        t.dev.link fromEast = { s.dev.link fromEast with failed := (false :: (s.dev.link fromEast).failed).take 1024 } ∧
        t.dev.link (!fromEast) = s.dev.link (!fromEast)) ∧
    (c.crcOk = false →
      ∃ t, exec (.cellForward fromEast c) s = .next t ∧ Kept s t ∧
        t.dev.rdN 0x2401 (if fromEast then 3 else 4) = (s.dev.rdN 0x2401 (if fromEast then 3 else 4) + 1) % 2 ^ 32 ∧
        (({ s.dev.link fromEast with failed := (true :: (s.dev.link fromEast).failed).take 1024 } : LinkSt).sound = true →
          t.dev.out = s.dev.out ∧ (t.dev.link fromEast).up = true) ∧
        (16 ≤ (((true :: (s.dev.link fromEast).failed).take 1024).filter (fun b => b)).length →
          (t.dev.link fromEast).up = false ∧ (t.dev.link fromEast).wrapped = true))) ∧
  (∀ (east : Bool) (v : LinkView) (x : LinkSt) (s : State), s.dev.thimble = true → (s.dev.link east).up = true →
    x = { s.dev.link east with view := v } →
    (x.sound = false →
      ∃ t, exec (.linkOpen ⟨east, v⟩) s = .next t ∧ Kept s t ∧ t.dev.link east = { wrapped := true, view := v, failed := x.failed } ∧
        t.dev.link (!east) = s.dev.link (!east) ∧ bit (t.dev.rd 0x2400 1) 3 = true ∧
        (east = true ∨ s.dev.loading = none → t.dev.core = s.dev.core) ∧
        ((s.dev.link !east).up = false → t.dev.role = 0 ∧ t.dev.rdN 0x2400 9 = 0xFF ∧ bit (t.dev.rd 0x2400 1) 0 = false) ∧
        ((s.dev.link !east).up = true → t.dev.role = s.dev.role)) ∧
    (x.sound = true →
      ∃ t, exec (.linkOpen ⟨east, v⟩) s = .next t ∧ Kept s t ∧ { t.dev with cascade := s.dev.cascade } = s.dev ∧
        t.dev.link east = x ∧ t.dev.link (!east) = s.dev.link (!east))) ∧
  (∀ (east : Bool) (v : LinkView) (peer : Fin 16) (delay : BitVec 30) (time : Option Nat) (x : LinkSt) (s : State),
    s.dev.thimble = true → (s.dev.link east).up = false → x = { s.dev.link east with view := v } →
    (x.sound = true → peer.val ≠ s.dev.core.cascadeId → s.dev.role ≠ 3 → bit (s.dev.rd 0x2400 1) 2 = false →
      ∃ t, exec (.linkUp ⟨east, v⟩ peer delay time true) s = .next t ∧ Kept s t ∧ (t.dev.link east).up = true ∧
        (t.dev.link east).wrapped = (s.dev.link east).wrapped ∧ t.dev.link (!east) = s.dev.link (!east) ∧ t.dev.role = 1 ∧
        (s.dev.allHalted = true → ∀ n, time = some n → t.dev.core.time = n) ∧
        (s.dev.allHalted = false ∨ time = none → t.dev.core.time = s.dev.core.time)) ∧
    (x.sound = true →
      ∃ t, exec (.linkUp ⟨east, v⟩ peer delay time false) s = .next t ∧ Kept s t ∧ (t.dev.link east).up = true ∧
        t.dev.role = 0 ∧ t.dev.cascade.foreign = true ∧ t.dev.core = s.dev.core) ∧
    (x.sound = false → ∀ freqOk,
      ∃ t, exec (.linkUp ⟨east, v⟩ peer delay time freqOk) s = .next t ∧ Kept s t ∧
        { t.dev with cascade := s.dev.cascade } = s.dev ∧ t.dev.link east = x)) ∧
  (∀ (east : Bool) (s : State), (s.dev.link east).up = true → (s.dev.link east).wrapped = true →
    ∃ t, exec (.linkStable east) s = .next t ∧ Kept s t ∧ { t.dev with cascade := s.dev.cascade } = s.dev ∧
      t.dev.link east = { s.dev.link east with unwrapDue := true } ∧ t.dev.link (!east) = s.dev.link (!east)) ∧
  (∀ (east : Bool) (t1 t2 t3 t4 offset : Int) (s : State), s.dev.thimble = true → (s.dev.link east).up = true → s.dev.role ≠ 0 →
    (∃ t, exec (.timingExchange east t1 t2 t3 t4 ⟨offset, true⟩) s = .next t ∧ Kept s t ∧
      (t.dev.link east).delays.head? =
        some ((t4 - t1) - (t3 - t2) + signedOf 2 (s.dev.rd 0x2401 (if east then 7 else 8))) ∧
      (t.dev.link east).confirm = (s.dev.link east).confirm - 1 ∧
      (s.dev.role = 3 ∨ s.dev.rdN 0x2400 9 = 0xFF → t.dev.core = s.dev.core ∧ t.dev.role = s.dev.role) ∧
      (s.dev.role ≠ 3 → s.dev.rdN 0x2400 9 ≠ 0xFF →
        t.dev.rd 0x2400 8 = ofInt 4 offset ∧
        (-2500 ≤ offset → offset ≤ 2500 → (s.dev.link east).confirm ≤ 1 → (s.dev.link !east).confirm = 0 →
          bit (t.dev.rd 0x2400 1) 0 = true ∧ t.dev.role = 2) ∧
        (offset < -2500 ∨ 2500 < offset → bit (t.dev.rd 0x2400 1) 0 = false ∧ t.dev.role = s.dev.role) ∧
        (s.dev.allHalted = true → t.dev.core.time = ((s.dev.core.time : Int) + (s.dev.cascade.phase - offset) / 1000000).toNat) ∧
        (s.dev.allHalted = false → t.dev.core = s.dev.core ∧ t.dev.cascade.corrected = s.dev.core.time ∧
          4 * (t.dev.cascade.phase - s.dev.cascade.phase) ≤ ((s.dev.core.time - s.dev.cascade.corrected : Nat) : Int) ∧
          4 * (s.dev.cascade.phase - t.dev.cascade.phase) ≤ ((s.dev.core.time - s.dev.cascade.corrected : Nat) : Int)))) ∧
    (∃ t, exec (.timingExchange east t1 t2 t3 t4 ⟨offset, false⟩) s = .next t ∧ Kept s t ∧ t.dev.role = 0 ∧
      t.dev.cascade.foreign = true ∧ t.dev.core = s.dev.core))

/-- HEARTBEAT_SEND, HEARTBEAT_RECEIVE, MASTER_LOST, MASTER_CLAIM, MASTER_RELEASE, LEAVE (R293 to R297, R310): each answers a next state,
with what it does there. -/
def Obligations.RingElection : Prop :=
  (∀ (v : RingView) (s : State), s.dev.thimble = true → s.dev.role = 3 →
    ∃ t, exec (.heartbeatSend v) s = .next t ∧ Kept s t ∧ t.dev.core = s.dev.core ∧ t.dev.role = 3 ∧
      t.dev.cascade.heartbeatSeq = (s.dev.cascade.heartbeatSeq + 1) % 2 ^ 32 ∧ t.dev.rdN 0x2400 3 = v.members.toNat ∧
      t.dev.rdN 0x2400 4 = v.healthy.toNat ∧
      ∀ east e, s.dev.cellPort east = some e →
        .cell e { type := 0, source := s.dev.core.cascadeId, dest := 16, body := BitVec.ofNat 256 (heartbeatBody
          s.dev.core.cascadeId ((s.dev.cascade.heartbeatSeq + 1) % 2 ^ 32) s.dev.core.time v.members.toNat) } ∈ t.dev.out ∧
        .cell e { type := 1, source := s.dev.core.cascadeId, dest := 16
                  body := BitVec.ofNat 256 (s.dev.core.time % 2 ^ 64) } ∈ t.dev.out) ∧
  (∀ (fromEast : Bool) (master : Fin 16) (seq : BitVec 32) (time : BitVec 64) (v : RingView) (known : Nat) (s : State),
    s.dev.thimble = true → (s.dev.link fromEast).up = true → s.dev.cascade.foreign = false → s.dev.role ≠ 0 →
    known = s.dev.rdN 0x2400 9 →
    (master.val ≠ s.dev.core.cascadeId →
      ∃ t e c, exec (.heartbeatReceive fromEast master seq time v false) s = .next t ∧ Kept s t ∧
        t.dev.out = .cell e c :: s.dev.out ∧ s.dev.cellPort (!fromEast) = some e ∧ c.type = 0 ∧ c.source = master.val ∧
        (known = 0xFF ∨ master.val ≤ known → t.dev.rdN 0x2400 9 = master.val ∧ bits (t.dev.rd 0x2400 1) 11 8 = master.val ∧
          bit (t.dev.rd 0x2400 1) 1 = false ∧ t.dev.rdN 0x2400 3 = v.members.toNat ∧ t.dev.rdN 0x2400 4 = v.healthy.toNat) ∧
        (known = 0xFF ∨ known = master.val → t.dev.role = s.dev.role ∧ t.dev.core = s.dev.core) ∧
        (known ≠ 0xFF → master.val < known → t.dev.role = 1 ∧
          (s.dev.allHalted = true → t.dev.core.time = time.toNat) ∧ (s.dev.allHalted = false → t.dev.core = s.dev.core)) ∧
        (known ≠ 0xFF → known < master.val → { t.dev with out := s.dev.out } = s.dev)) ∧
    (master.val = s.dev.core.cascadeId → exec (.heartbeatReceive fromEast master seq time v false) s = .next s) ∧
    (bit (s.dev.rd 0x2400 1) 2 = false →
      ∃ t, exec (.heartbeatReceive fromEast master seq time v true) s = .next t ∧ Kept s t ∧ t.dev.role = 0 ∧
        bit (t.dev.rd 0x2400 1) 2 = true ∧ t.dev.rdN 0x2400 9 = 0xFF ∧ t.dev.core = s.dev.core)) ∧
  (∀ s : State, s.dev.thimble = true → s.dev.role = 1 ∨ s.dev.role = 2 → s.dev.rdN 0x2400 9 ≠ 0xFF →
    ∃ t, exec .masterLost s = .next t ∧ Kept s t ∧ { t.dev with regs := s.dev.regs } = s.dev ∧
      RegsKept (regsOf 0x2400 [1, 9]) s.dev t.dev ∧ t.dev.rdN 0x2400 9 = 0xFF ∧ bit (t.dev.rd 0x2400 1) 1 = true ∧
      t.dev.role = s.dev.role) ∧
  (∀ (claimant : Fin 16) (gone : BitVec 16) (s : State), s.dev.thimble = true → s.dev.role ≠ 0 → s.dev.rdN 0x2400 9 = 0xFF →
    (claimant.val = s.dev.core.cascadeId → s.dev.candidate gone = true →
      (∃ t, exec (.masterClaim ⟨claimant, gone⟩ false) s = .next t ∧ Kept s t ∧ t.dev.role = 3 ∧ t.dev.rdN 0x2400 9 = claimant.val ∧
        bit (t.dev.rd 0x2400 1) 0 = true ∧ bit (t.dev.rd 0x2400 1) 1 = false ∧ t.dev.core = s.dev.core) ∧
      (∃ t, exec (.masterClaim ⟨claimant, gone⟩ true) s = .next t ∧ Kept s t ∧ t.dev = s.dev.broadcast 5 claimant.val)) ∧
    (claimant.val = s.dev.core.cascadeId → s.dev.candidate gone = false → ∀ objected,
      exec (.masterClaim ⟨claimant, gone⟩ objected) s = .next s) ∧
    (claimant.val ≠ s.dev.core.cascadeId → s.dev.healthy = true → s.dev.core.cascadeId < claimant.val → ∀ objected,
      ∃ t, exec (.masterClaim ⟨claimant, gone⟩ objected) s = .next t ∧ Kept s t ∧ t.dev = s.dev.broadcast 5 s.dev.core.cascadeId) ∧
    (claimant.val ≠ s.dev.core.cascadeId → ¬(s.dev.healthy = true ∧ s.dev.core.cascadeId < claimant.val) →
      (∃ t, exec (.masterClaim ⟨claimant, gone⟩ false) s = .next t ∧ Kept s t ∧ t.dev.rdN 0x2400 9 = claimant.val ∧
        t.dev.role ≠ 3 ∧ bit (t.dev.rd 0x2400 1) 1 = false ∧ t.dev.core = s.dev.core) ∧
      exec (.masterClaim ⟨claimant, gone⟩ true) s = .next s)) ∧
  (∀ (source : Fin 16) (s : State), s.dev.thimble = true →
    (source.val = s.dev.core.cascadeId → s.dev.role = 3 →
      (s.dev.healthy = false →
        ∃ t, exec (.masterRelease source) s = .next t ∧ Kept s t ∧ t.dev.role = 2 ∧ t.dev.rdN 0x2400 9 = 0xFF ∧
          t.dev.cascade.handover = true ∧ t.dev.core = s.dev.core ∧ t.dev.out = (s.dev.broadcast 6 source.val).out) ∧
      (s.dev.healthy = true → exec (.masterRelease source) s = .next s)) ∧
    (source.val ≠ s.dev.core.cascadeId → s.dev.rdN 0x2400 9 = source.val →
      ∃ t, exec (.masterRelease source) s = .next t ∧ Kept s t ∧ t.dev.role = s.dev.role ∧ t.dev.rdN 0x2400 9 = 0xFF ∧
        t.dev.cascade.handover = true ∧ t.dev.core = s.dev.core)) ∧
  (∀ (path : Transport) (s : State), Accepted objCascadeRequest actCascadeRequest (ringWr path 1) s.dev →
    (s.dev.role = 0 → exec (.leave path) s = .next s) ∧
    (s.dev.role ≠ 0 → s.dev.established = false →
      ∃ t, exec (.leave path) s = .next t ∧ Kept s t ∧ t.dev.role = 0 ∧ t.dev.rdN 0x2400 9 = 0xFF ∧ t.dev.core = s.dev.core ∧
        ∀ east, t.dev.link east = {}) ∧
    (s.dev.established = true →
      ∃ t, exec (.leave path) s = .next t ∧ Kept s t ∧ t.dev.role = s.dev.role ∧ t.dev.cascade.leaving = true ∧
        t.dev.core = s.dev.core ∧ t.dev.regs = s.dev.regs ∧
        ∀ east e, s.dev.cellPort east = some e → ∃ c, c.type = 8 ∧ c.source = s.dev.core.cascadeId ∧ .cell e c ∈ t.dev.out))

/-- CASCADE_NOTCH_RECEIVE, CASCADE_NOTCH_APPLY, CASCADE_NOTCH_REQUEST, CASCADE_SWATCH_RECEIVE, CASCADE_SWATCH, CASCADE_REQUEST_CELL,
CASCADE_RECOVER, CASCADE_RECOVER_COMPLETE (R302 to R304, R312). -/
def Obligations.RingBroadcasts : Prop :=
  (∀ (number : BitVec 32) (time : BitVec 64) (s : State), s.dev.thimble = true → s.dev.role = 1 ∨ s.dev.role = 2 →
    ∃ t, exec (.cascadeNotchReceive number time) s = .next t ∧ Kept s t ∧ t.dev.cascade = { s.dev.cascade with
      notchNumber := number.toNat
      notches := s.dev.cascade.notches ++ [{
        time := time.toNat, number := number.toNat, late := decide (time.toNat < s.dev.core.time) }] } ∧
      t.dev.core = s.dev.core ∧ t.dev.staged = s.dev.staged ∧ t.dev.shuttles = s.dev.shuttles) ∧
  (∀ (e : CasEvent) (s : State), s.dev.thimble = true → s.dev.cascade.notches = [e] → e.applied = false →
    e.time ≤ s.dev.core.time → e.groupsDone = 0 → s.dev.staged = [] → s.dev.cal.staged = [] →
    ∃ t, exec (.cascadeNotchApply []) s = .next t ∧ Kept s t ∧ t.dev.core = s.dev.core ∧
      t.dev.rdN 0x2004 1 = (s.dev.rdN 0x2004 1 + 1) % 2 ^ 32 ∧
      (∀ g, g < 12 → t.dev.rdN (0x3100 + g) 8 =
        if (s.dev.shuttle g).state = .halted then (s.dev.rdN (0x3100 + g) 8 + 1) % 2 ^ 32 else s.dev.rdN (0x3100 + g) 8)) ∧
  (∀ (path : Transport) (s : State), Accepted objCascadeRequest actCascadeRequest (ringWr path 2) s.dev →
    (s.dev.role = 3 →
      ∃ t c, exec (.cascadeNotchRequest path) s = .next t ∧ Kept s t ∧
        { t.dev with cascade := s.dev.cascade, out := s.dev.out } = s.dev ∧ c.type = 2 ∧
        t.dev.out = ((s.dev.sendCell true c).sendCell false c).out ∧
        t.dev.cascade.notchNumber = (s.dev.cascade.notchNumber + 1) % 2 ^ 32 ∧
        t.dev.cascade.notches = s.dev.cascade.notches ++ [{
          time := s.dev.core.time + s.dev.rdN 0x2400 7, number := (s.dev.cascade.notchNumber + 1) % 2 ^ 32, late := false }]) ∧
    (s.dev.role ≠ 3 →
      ∃ t c, exec (.cascadeNotchRequest path) s = .next t ∧ Kept s t ∧ t.dev = s.dev.sendCell true c ∧
        c.type = 7 ∧ c.dest = s.dev.rdN 0x2400 9 ∧ c.body = BitVec.ofNat 256 (2 * 2 ^ 64 + s.dev.core.time % 2 ^ 64))) ∧
  (∀ (number : BitVec 32) (time : BitVec 64) (s : State), s.dev.thimble = true → s.dev.role = 1 ∨ s.dev.role = 2 →
    ∃ t, exec (.cascadeSwatchReceive number time) s = .next t ∧ Kept s t ∧ t.dev.cascade.swatchNumber = number.toNat ∧
      t.dev.core = s.dev.core ∧ t.dev.swatch.routed = 0 ∧
      (s.dev.swatch.det = none → s.dev.swatch.busy = none → bit (s.dev.rd 0x3600 4) 7 = false →
        ∃ x, t.dev.swatch.det = some x ∧ x.cascade = number.toNat ∧ x.latch = max time.toNat s.dev.core.time)) ∧
  (∀ (path : Transport) (s : State), Accepted objCascadeRequest actCascadeRequest (ringWr path 3) s.dev → s.dev.role ≠ 3 →
    ∃ t c, exec (.cascadeSwatch path) s = .next t ∧ Kept s t ∧
      { t.dev with swatch := s.dev.swatch, out := s.dev.out } = s.dev ∧ t.dev.swatch.routed = s.dev.swatch.routed ||| 1 ∧
      c.type = 7 ∧ c.dest = s.dev.rdN 0x2400 9 ∧ c.body = BitVec.ofNat 256 (3 * 2 ^ 64 + s.dev.core.time % 2 ^ 64) ∧
      t.dev.out = (s.dev.sendCell true c).out) ∧
  (∀ (time : BitVec 64) (s : State), s.dev.thimble = true → s.dev.role = 3 → s.dev.established = true →
    (∃ t, exec (.cascadeRequestCell ⟨false, time⟩) s = .next t ∧ Kept s t ∧
      { t.dev with cascade := s.dev.cascade, out := s.dev.out } = s.dev ∧
      t.dev.cascade.notches = s.dev.cascade.notches ++ [{
        time := time.toNat + s.dev.rdN 0x2400 7, number := (s.dev.cascade.notchNumber + 1) % 2 ^ 32, late := false }]) ∧
    (∃ t, exec (.cascadeRequestCell ⟨true, time⟩) s = .next t ∧ Kept s t ∧ t.dev.core = s.dev.core ∧
      t.dev.cascade.swatchNumber = (s.dev.cascade.swatchNumber + 1) % 2 ^ 32)) ∧
  (∀ (w : Wr) (s : State), Accepted objRecoverRequest actRecoverRequest w s.dev →
    ∃ t, exec (.cascadeRecover w) s = .next t ∧ Kept s t ∧ t.dev.core = s.dev.core ∧ bit (t.dev.rd 0x2450 1) 15 = true ∧
      t.dev.cascade = { s.dev.cascade with
        recover := s.dev.cascade.recover ++
          [(bits (objRecoverRequest.valueOf w) 15 12, bits (objRecoverRequest.valueOf w) 3 0)] }) ∧
  (∀ (broken : Bool) (target n : Nat) (rest : List (Nat × Nat)) (s : State), s.dev.cascade.recover = (target, n) :: rest →
    ∃ t, exec (.cascadeRecoverComplete broken) s = .next t ∧ Kept s t ∧
      t.dev.cascade = { s.dev.cascade with recover := rest, broken := false } ∧
      bit (t.dev.rd 0x2450 1) 15 = (if rest = [] then false else bit (s.dev.rd 0x2450 1) 15) ∧ bit (t.dev.rd 0x2450 1) 14 = true ∧
      bits (t.dev.rd 0x2450 1) 31 16 = nextSeq (bits (s.dev.rd 0x2450 1) 31 16) ∧ t.dev.core = s.dev.core ∧
      (broken = true ∨ s.dev.cascade.broken = true → s.dev.thimble = true →
        ∃ e ∈ t.dev.nv.log, e.reason = 0x0A51 ∧ e.time = s.dev.core.time)) ∧
  (∀ s : State, s.dev.cascade.recover = [] → exec (.cascadeRecoverComplete false) s = .next s)

/-- THREAD_TOKEN_SEND, THREAD_TOKEN_RECEIVE, CREDIT_RETURN, THREAD_RESEAL (R305 to R308), WIDEN_COMMAND_RECEIVE (R309),
TREF_0_PRESENCE_CHANGE (R13, R427, R429). -/
def Obligations.ThreadsAndWidening : Prop :=
  (∀ (west : Bool) (e : HEntry) (i : Nat) (s : State), s.dev.islandOn (if west then 111 else 109) = true →
    (s.dev.half (sendHalf west)).head = some e → i = e.tag.toNat % 16 + (if west then 16 else 0) →
    (e.bad ≠ 0 →
      ∃ t, exec (.threadTokenSend west) s = .next t ∧ Kept s t ∧ { t.dev with halves := s.dev.halves } = s.dev ∧
        (t.dev.half (sendHalf west)).q = (s.dev.half (sendHalf west)).q.tail) ∧
    (e.bad = 0 → s.dev.threadSource i = true → (s.dev.thread i).unreachable = false →
      ((s.dev.thread i).credits = 0 ∨ (s.dev.thread i).sealing = true → exec (.threadTokenSend west) s = .next s) ∧
      ((s.dev.thread i).credits ≠ 0 → (s.dev.thread i).sealing = false →
        ∃ t c, exec (.threadTokenSend west) s = .next t ∧ Kept s t ∧ (t.dev.thread i).credits = (s.dev.thread i).credits - 1 ∧
          (t.dev.half (sendHalf west)).q = (s.dev.half (sendHalf west)).q.tail ∧
          c.type = 32 + i ∧ c.dest = bits (s.dev.threadMap i) 11 8 ∧ c.body = e.data ∧
          t.dev.out = (s.dev.sendCell (!west) c).out ∧ t.dev.rdN (0x2410 + i) 3 = (s.dev.rdN (0x2410 + i) 3 + 1) % 2 ^ 32 ∧
          (∀ k, k ≠ i → t.dev.thread k = s.dev.thread k) ∧ ∀ h, h ≠ sendHalf west → t.dev.half h = s.dev.half h))) ∧
  (∀ (west : Bool) (thread : Fin 16) (data : BitVec 256) (i : Nat) (s : State), s.dev.thimble = true →
    i = thread.val + (if west then 16 else 0) → s.dev.threadDest i = true →
    (s.dev.core.state ≠ .unconfigured →
      ∃ t, exec (.threadTokenReceive west thread data) s = .next t ∧ Kept s t ∧
        { t.dev with halves := s.dev.halves, regs := s.dev.regs } = s.dev ∧
        (t.dev.half (receiveHalf west)).q = (s.dev.half (receiveHalf west)).q ++ [{ data := data, tag := BitVec.ofNat 8 thread.val }] ∧
        RegsKept (regsOf (0x2410 + i) [4]) s.dev t.dev ∧ t.dev.rdN (0x2410 + i) 4 = (s.dev.rdN (0x2410 + i) 4 + 1) % 2 ^ 32 ∧
        ∀ h, h ≠ receiveHalf west → t.dev.half h = s.dev.half h) ∧
    (s.dev.core.state = .unconfigured → exec (.threadTokenReceive west thread data) s = .next s)) ∧
  (∀ (i : Fin 32) (s : State), s.dev.thimble = true → s.dev.threadSource i.val = true →
    ((s.dev.thread i.val).credits < bits (s.dev.threadMap i.val) 7 0 →
      ∃ t, exec (.creditReturn i) s = .next t ∧ Kept s t ∧ (t.dev.thread i.val).credits = (s.dev.thread i.val).credits + 1 ∧
        bits (t.dev.rd (0x2410 + i.val) 1) 7 0 = (s.dev.thread i.val).credits + 1 ∧
        RegsKept (regsOf (0x2410 + i.val) [1]) s.dev t.dev ∧ ∀ k, k ≠ i.val → t.dev.thread k = s.dev.thread k) ∧
    (bits (s.dev.threadMap i.val) 7 0 ≤ (s.dev.thread i.val).credits → exec (.creditReturn i) s = .next s)) ∧
  (∀ (i : Fin 32) (held : BitVec 8) (sent received : BitVec 32) (present : Bool) (s : State), s.dev.thimble = true →
    s.dev.threadSource i.val = true ∨ s.dev.threadDest i.val = true →
    ∃ t, exec (.threadReseal i held ⟨sent, received⟩ present) s = .next t ∧ Kept s t ∧
      (present = true → t.dev.rdN (0x2410 + i.val) 5 =
        (s.dev.rdN (0x2410 + i.val) 5 + s.dev.newlyLost i.val sent received) % 2 ^ 32) ∧
      (present = true → s.dev.threadSource i.val = true →
        (t.dev.thread i.val).credits = bits (s.dev.threadMap i.val) 7 0 - held.toNat ∧
        (t.dev.thread i.val).unreachable = false ∧ (t.dev.thread i.val).sealing = false) ∧
      (present = true → s.dev.threadDest i.val = true → s.dev.core.state ≠ .unconfigured →
        ∃ e : HEntry, (t.dev.half (receiveHalf (16 ≤ i.val))).q = (s.dev.half (receiveHalf (16 ≤ i.val))).q ++ [e] ∧
          e.tag = BitVec.ofNat 8 (0x80 + i.val % 16) ∧
          e.data = gapBody { count := s.dev.newlyLost i.val sent received, firstTime := s.dev.core.time }) ∧
      (present = false → s.dev.threadSource i.val = true →
        (t.dev.thread i.val).unreachable = true ∧ (t.dev.thread i.val).credits = (s.dev.thread i.val).credits) ∧
      (∀ k, k ≠ i.val → t.dev.thread k = s.dev.thread k) ∧ t.dev.core = s.dev.core) ∧
  (∀ (g : Fin 12) (startPc : BitVec 14) (time : Nat) (s : State), s.dev.remoteMembers g.val = true →
    s.dev.groupRuns g.val = true →
    ((s.dev.shuttle g.val).state = .halted → s.dev.calibrating g.val = false →
      ∃ t, exec (.widenCommandReceive g 0 startPc time) s = .next t ∧ Kept s t ∧ (t.dev.shuttle g.val).state = .armed ∧
        (t.dev.shuttle g.val).pc = startPc.toNat ∧ (t.dev.shuttle g.val).startAt = time ∧
        ∀ k, k ≠ g.val → t.dev.shuttle k = s.dev.shuttle k) ∧
    ((s.dev.shuttle g.val).state = .running → (s.dev.shuttle g.val).stopReq ≠ .stop →
      ∃ t, exec (.widenCommandReceive g 1 startPc time) s = .next t ∧ Kept s t ∧ { t.dev with shuttles := s.dev.shuttles } = s.dev ∧
        t.dev.shuttle g.val = { s.dev.shuttle g.val with stopReq := .stop, stopAt := time } ∧
        ∀ k, k ≠ g.val → t.dev.shuttle k = s.dev.shuttle k) ∧
    ((s.dev.shuttle g.val).state = .running →
      ∃ t, exec (.widenCommandReceive g 3 startPc time) s = .next t ∧ Kept s t ∧ (t.dev.shuttle g.val).state = .halted ∧
        t.dev.rdN (0x3100 + g.val) 0x16 = 0x0A42 ∧
        ∀ k, k ∉ s.dev.localSet g.val → t.dev.shuttle k = s.dev.shuttle k)) ∧
  (∀ (present locks : Bool) (s : State),
    ∃ t, exec (.tref0PresenceChange ⟨present, locks⟩) s = .next t ∧ Kept s t ∧
      { t.dev.env with tref := s.dev.env.tref, cascadePll := s.dev.env.cascadePll } = s.dev.env ∧
      t.dev.env.tref.getLsbD 0 = present ∧ (∀ k, 0 < k → t.dev.env.tref.getLsbD k = s.dev.env.tref.getLsbD k) ∧
      (∀ n, n = 109 ∨ n = 111 → t.dev.islandOn n = (s.dev.thimble && present && locks)) ∧
      t.dev.core = s.dev.core ∧ t.dev.cascade = s.dev.cascade ∧ t.dev.shuttles = s.dev.shuttles ∧ t.dev.staged = s.dev.staged)

/-- MAILBOX_READ, MAILBOX_WRITE (R416), PCIE_LINK_RESET (R418). -/
def Obligations.Mailbox : Prop :=
  (∀ (idx : BitVec 16) (sub : BitVec 8) (irq : Bool) (s : State), s.dev.dictionary = true →
    (s.dev.tr.mbBusy = true →
      ∃ t, exec (.mailboxRead idx sub irq) s = .next t ∧ Kept s t ∧
        t.dev = { s.dev with tr := { s.dev.tr with mbOverrun := true } }) ∧
    (s.dev.tr.mbBusy = false → userIndex idx.toNat = false → findDesc idx.toNat sub.toNat = none →
      ∃ t, exec (.mailboxRead idx sub irq) s = .next t ∧ Kept s t ∧ t.dev.tr.mbReason = 0x0B02 ∧ t.dev.tr.mbBusy = false ∧
        t.dev.tr.mbSeq = nextSeq s.dev.tr.mbSeq ∧ { t.dev with tr := s.dev.tr, out := s.dev.out } = s.dev) ∧
    (∀ o, s.dev.tr.mbBusy = false → userIndex idx.toNat = false → findDesc idx.toNat sub.toNat = some o →
      resultStatus idx.toNat sub.toNat = none → idx.toNat / 256 ≠ 0x1F →
      ∃ t l, exec (.mailboxRead idx sub irq) s = .next t ∧ Kept s t ∧ { t.dev with tr := s.dev.tr, out := s.dev.out } = s.dev ∧
        t.dev.tr.mbReason = 0 ∧ t.dev.tr.mbBusy = false ∧ t.dev.tr.mbSeq = nextSeq s.dev.tr.mbSeq ∧
        t.dev.out = (if irq then .msix 16 :: s.dev.out else s.dev.out) ∧ t.dev.tr.mbLength = l.length ∧
        bufferBytes t.dev.tr.mbBuffer 0 l.length = l ∧
        (o.isBytes = false → l = leBytes o.width (Dev.readWord s.fuses (s.dev.mailboxStart irq) o idx.toNat sub.toNat).toNat))) ∧
  (∀ (idx : BitVec 16) (sub : BitVec 8) (irq : Bool) (data : List Byte) (length : BitVec 24) (d : Dev) (r : State × WriteEnd)
      (s : State), s.dev.dictionary = true → s.dev.tr.mbBusy = false → userIndex idx.toNat = false → 0 < length.toNat →
    length.toNat ≤ 131072 →
    d = Dev.mailboxStart { s.dev with tr := { s.dev.tr with mbBuffer := bufferPut s.dev.tr.mbBuffer 0 (data.take 131072) } } irq →
    r = State.writeObj { s with dev := d } idx.toNat sub.toNat
      (bytesWrite .mailbox idx.toNat sub.toNat (bufferBytes d.tr.mbBuffer 0 length.toNat)) →
    ∃ t, exec (.mailboxWrite idx sub irq data length) s = .next t ∧ t.pending = s.pending ∧ t.fuses = r.1.fuses ∧
      t.dev.tr.mbReason = r.2.code ∧ t.dev.tr.mbBusy = false ∧ t.dev.regs = r.1.dev.regs ∧ t.dev.staged = r.1.dev.staged ∧
      t.dev.tr.mbLength = (if r.2.code = 0 then length.toNat else 0)) ∧
  (∀ s : State, s.dev.dictionary = true →
    ∃ t, exec .pcieLinkReset s = .next t ∧ Kept s t ∧ (t.dev.session 1).role = none ∧ (t.dev.session 1).pending = false ∧
      (∀ k, k ≠ 1 → t.dev.session k = s.dev.session k) ∧ t.dev.core = s.dev.core ∧ t.dev.tr.mbBusy = false ∧
      (s.dev.tr.mbBusy = true → t.dev.tr.mbReason = 0x0B09 ∧ t.dev.tr.mbSeq = nextSeq s.dev.tr.mbSeq) ∧
      (s.dev.tr.mbBusy = false → t.dev.tr.mbReason = s.dev.tr.mbReason ∧ t.dev.tr.mbSeq = s.dev.tr.mbSeq)) ∧
  (∀ (idx sub off len : Nat) (f : Fuses) (d : Dev),
    (8 < off + len ∨ findDesc idx sub = none → d.windowRead f idx sub off len = lowBytes len (-1)) ∧
    (∀ o, findDesc idx sub = some o → o.isBytes = false → resultStatus idx sub = none →
      d.windowRead f idx sub 0 8 =
        (if o.signed then ofInt 8 (signedOf o.width (d.readWord f o idx sub)) else d.readWord f o idx sub)))

/-- FABRIC_READ, FABRIC_WRITE (R422, R423), USER_OBJECT_ACCESS, USER_ANSWER, USER_TIMEOUT (R424). -/
def Obligations.FabricPortAndUserObjects : Prop :=
  (∀ (e : HEntry) (o : Desc) (s : State), s.dev.dictionary = true → (s.dev.half 236).head = some e → portForm e = true →
    portField e 0 8 = 1 → userIndex (portField e 144 16) = false → findDesc (portField e 144 16) (portField e 136 8) = some o →
    o.isBytes = false → resultStatus (portField e 144 16) (portField e 136 8) = none → (s.dev.half 237).gap = none →
    4 < (s.dev.half 237).freeEntries → s.dev.core.state ≠ .unconfigured →
    ∃ t v, exec .fabricRead s = .next t ∧ Kept s t ∧ { t.dev with halves := s.dev.halves } = s.dev ∧
      (t.dev.half 236).q = (s.dev.half 236).q.tail ∧
      v = o.extended (Dev.readVal s.fuses (s.dev.putHalf 236 (s.dev.half 236).pop) o (portField e 144 16) (portField e 136 8)) ∧
      (t.dev.half 237).q = (s.dev.half 237).q ++ [{
        data := portBody v (portField e 144 16) (portField e 136 8) o.width 0 (portField e 96 16) 0 0 0x81, tag := 0 }]) ∧
  (∀ (e : HEntry) (r : State × WriteEnd) (len : Nat) (v : Word) (s : State), s.dev.dictionary = true →
    (s.dev.half 236).head = some e → portForm e = true → portField e 0 8 = 2 → userIndex (portField e 144 16) = false →
    len = portField e 128 8 → v = word (portField e 192 64) →
    r = State.writeObj { s with dev := s.dev.putHalf 236 (s.dev.half 236).pop } (portField e 144 16) (portField e 136 8)
      { path := .fabric, len := if extendsFrom len v then len else 9, value := v } →
    ∃ t, exec .fabricWrite s = .next t ∧ t.pending = s.pending ∧ t.fuses = r.1.fuses ∧
      t.dev = r.1.dev.portAnswer e r.2.code v len) ∧
  (∀ (path : Transport) (idx : Fin 4096) (sub : BitVec 8) (write : Bool) (len : Fin 9) (value : BitVec 64) (s : State),
    s.dev.dictionary = true → path = .can ∨ path = .window →
    (s.dev.userOn = true → len.val ≠ 0 → (s.dev.half 237).gap = none → 4 < (s.dev.half 237).freeEntries →
      s.dev.core.state ≠ .unconfigured →
      ∃ t, exec (.userObjectAccess path idx sub write len value) s = .next t ∧ Kept s t ∧
        t.dev.tr = { s.dev.tr with
          nextId := (s.dev.tr.nextId + 1) % 65536
          userWaits := s.dev.tr.userWaits ++ [{
            id := (s.dev.tr.nextId + 1) % 65536, tr := path, index := 0x5000 + idx.val, sub := sub.toNat, write := write
            len := len.val }] } ∧
        (t.dev.half 237).q = (s.dev.half 237).q ++ [{
          data := portBody value (0x5000 + idx.val) sub.toNat len.val 0 ((s.dev.tr.nextId + 1) % 65536) (s.dev.roleOf path)
            (sessionNo path) (if write then 0x12 else 0x11), tag := 0 }] ∧
        { t.dev with tr := s.dev.tr, halves := s.dev.halves } = s.dev) ∧
    (s.dev.userOn = false → path = .can → write = false →
      ∃ t, exec (.userObjectAccess path idx sub write len value) s = .next t ∧ Kept s t ∧
        t.dev.out = .abort 0x06020000 :: s.dev.out ∧ t.dev.regs = s.dev.regs)) ∧
  (∀ (e : HEntry) (x : UserWait) (s : State), s.dev.dictionary = true → (s.dev.half 236).head = some e → portForm e = true →
    portField e 0 8 = 0x91 → s.dev.tr.userWaits.find? (fun y => y.id == portField e 96 16) = some x → x.tr = .can →
    portField e 112 16 = 0 →
    ∃ t, exec .userAnswer s = .next t ∧ Kept s t ∧ (t.dev.half 236).q = (s.dev.half 236).q.tail ∧
      t.dev.tr.userWaits = s.dev.tr.userWaits.filter (fun y => y.id != x.id) ∧
      t.dev.out = .answer .can 0 (if x.write then [] else leBytes (min (portField e 128 8) 8) (portField e 192 64)) :: s.dev.out ∧
      t.dev.regs = s.dev.regs ∧ t.dev.core = s.dev.core) ∧
  (∀ (id : BitVec 16) (x : UserWait) (s : State), s.dev.dictionary = true →
    s.dev.tr.userWaits.find? (fun y => y.id == id.toNat) = some x → x.tr = .jtag →
    ∃ t, exec (.userTimeout id) s = .next t ∧ Kept s t ∧ t.dev.tr.tap.reason = 0x0B08 ∧ t.dev.tr.tap.error = true ∧
      t.dev.tr.tap.busy = false ∧ t.dev.tr.tap.seq = nextSeq s.dev.tr.tap.seq ∧
      t.dev.tr.userWaits = s.dev.tr.userWaits.filter (fun y => y.id != x.id) ∧ t.dev.core = s.dev.core ∧
      (x.write = false → t.dev.regs = s.dev.regs))

/-- NMT_START, NMT_STOP, NMT_PRE_OPERATIONAL, NMT_RESET_NODE, NMT_RESET_COMMUNICATION, CAN_HEARTBEAT, CAN_BUS_OFF, CAN_ERROR_PASSIVE
(R405 to R409, R428), SYNC_RECEIVE (R411, R466), TPDO_EVENT_CHECK (R411). -/
def Obligations.CanNode : Prop :=
  (∀ (i : Instr) (n : Nat) (s : State), s.dev.canOn = true →
    (i = .nmtStart ∧ n = 0x05) ∨ (i = .nmtStop ∧ n = 0x04) ∨ (i = .nmtPreOperational ∧ n = 0x7F) →
    ∃ t, exec i s = .next t ∧ Kept s t ∧ t.dev = { s.dev with tr := { s.dev.tr with nmt := n } }) ∧
  (∀ (i : Instr) (s : State), s.dev.canOn = true → i = .nmtResetNode ∨ i = .nmtResetCommunication →
    ∃ t, exec i s = .next t ∧ Kept s t ∧ t.dev.tr.nmt = 0x7F ∧ t.dev.tr.usdo = none ∧ t.dev.tr.tpdo = [] ∧
      t.dev.out = .can (0x700 + s.dev.nodeId) [0] :: s.dev.out ∧ (t.dev.session 0).role = none ∧
      (∀ n, n < 16 → bit (t.dev.rd (0x1400 + n) 1) 31 = true ∧ bit (t.dev.rd (0x1800 + n) 1) 31 = true) ∧
      t.dev.core = s.dev.core ∧ t.dev.staged = s.dev.staged) ∧
  (∀ s : State, s.dev.canOn = true → s.dev.rdN 0x1017 0 ≠ 0 →
    ∃ t, exec .canHeartbeat s = .next t ∧ Kept s t ∧
      t.dev = { s.dev with out := .can (0x700 + s.dev.nodeId) [BitVec.ofNat 8 s.dev.tr.nmt] :: s.dev.out }) ∧
  (∀ s : State, s.dev.canOn = true →
    ∃ t, exec .canBusOff s = .next t ∧ Kept s t ∧
      Reported { s.dev with tr := { s.dev.tr with bus := 0, tec := 0, recCount := 0 } } t.dev ∧
      ∃ e ∈ t.dev.nv.log, e.reason = 0x0B41 ∧ e.time = s.dev.core.time) ∧
  (∀ (tec rec' : BitVec 8) (s : State), s.dev.canOn = true →
    ∃ t, exec (.canErrorPassive tec rec') s = .next t ∧ Kept s t ∧ t.dev = { s.dev with tr := { s.dev.tr with
      bus := if 127 < tec.toNat ∨ 127 < rec'.toNat then 1 else 0, tec := tec.toNat, recCount := rec'.toNat } }) ∧
  (∀ s : State, s.dev.canOn = true → s.dev.tr.nmt = 0x7F → bit (s.dev.rd 0x3600 5) 59 = true →
    s.dev.swatch.syncs + 1 < bits (s.dev.rd 0x3600 5) 31 24 →
    ∃ t, exec .syncReceive s = .next t ∧ Kept s t ∧
      t.dev = { s.dev with swatch := { s.dev.swatch with syncs := s.dev.swatch.syncs + 1 } }) ∧
  (∀ (n : Fin 16) (old : List Byte) (s : State), s.dev.canOn = true → s.dev.tr.nmt = 0x05 →
    (∀ k, k < 16 → s.dev.pdoOff (0x1800 + k) = decide (k ≠ n.val)) → 254 ≤ s.dev.rdN (0x1800 + n.val) 2 →
    (s.dev.tpdoSt n.val).last = some old → s.dev.rdN (0x1800 + n.val) 5 ≠ 0 →
    (s.dev.tpdoSt n.val).lastTime + s.dev.rdN (0x1800 + n.val) 5 * 1000000 ≤ s.dev.core.time →
    ∃ t, exec .tpdoEventCheck s = .next t ∧ Kept s t ∧ { t.dev with tr := s.dev.tr, out := s.dev.out } = s.dev ∧
      t.dev.out = .can (bits (s.dev.rd (0x1800 + n.val) 1) 28 0) (s.dev.tpdoData s.fuses n.val) :: s.dev.out ∧
      (t.dev.tpdoSt n.val).lastTime = s.dev.core.time ∧ (t.dev.tpdoSt n.val).last = some (s.dev.tpdoData s.fuses n.val))

/-- USDO_REQUEST, USDO_TIMEOUT (R410), RPDO_RECEIVE (R411). -/
def Obligations.UsdoAndRpdo : Prop :=
  (∀ (idx : BitVec 16) (sub : BitVec 8) (o : Desc) (s : State), s.dev.usdoOn = true → s.dev.tr.usdo = none →
    userIndex idx.toNat = false → findDesc idx.toNat sub.toNat = some o → o.acc ≠ .wo → o.isBytes = false →
    resultStatus idx.toNat sub.toNat = none →
    ∃ t, exec (.usdoRequest (.read idx sub)) s = .next t ∧ Kept s t ∧ { t.dev with out := s.dev.out } = s.dev ∧
      t.dev.out = .answer .can 0 (leBytes o.width (Dev.readWord s.fuses s.dev o idx.toNat sub.toNat).toNat) :: s.dev.out) ∧
  (∀ (idx : BitVec 16) (sub : BitVec 8) (data : List Byte) (r : State × WriteEnd) (s : State), s.dev.usdoOn = true →
    s.dev.tr.usdo = none → userIndex idx.toNat = false → idx.toNat ≠ 0x1F50 →
    r = s.writeObj idx.toNat sub.toNat (bytesWrite .can idx.toNat sub.toNat (data.take 8)) →
    ∃ t, exec (.usdoRequest (.write idx sub data)) s = .next t ∧ t.pending = s.pending ∧ t.fuses = r.1.fuses ∧
      { t.dev with out := r.1.dev.out } = r.1.dev ∧
      t.dev.out = (if r.2.code = 0 then Output.answer .can 0 [] else .abort r.2.abort) :: r.1.dev.out) ∧
  (∀ (idx : BitVec 16) (sub : BitVec 8) (total : Nat) (s : State), s.dev.usdoOn = true →
    (131072 < total →
      ∃ t, exec (.usdoRequest (.start idx sub total)) s = .next t ∧ Kept s t ∧ t.dev.tr.usdo = none ∧
        t.dev.out = .abort 0x06070010 :: s.dev.out ∧ bits (t.dev.rd 0x2050 1) 47 32 = 0x0B04) ∧
    (total ≤ 131072 →
      ∃ t, exec (.usdoRequest (.start idx sub total)) s = .next t ∧ Kept s t ∧
        { t.dev with tr := s.dev.tr, out := s.dev.out } = s.dev ∧ t.dev.tr.usdo = some {
          index := idx.toNat, sub := sub.toNat, write := true, data := [], total := total })) ∧
  (∀ (x : UsdoSt) (data : List Byte) (r : State × WriteEnd) (s : State), s.dev.usdoOn = true → s.dev.tr.usdo = some x →
    x.write = true → (x.data ++ data).length = x.total → userIndex x.index = false → x.index ≠ 0x1F50 →
    r = State.writeObj { s with dev := { s.dev with tr := { s.dev.tr with usdo := none } } } x.index x.sub
      (bytesWrite .can x.index x.sub (x.data ++ data)) →
    ∃ t, exec (.usdoRequest (.segment data true)) s = .next t ∧ t.pending = s.pending ∧ t.fuses = r.1.fuses ∧
      { t.dev with out := r.1.dev.out } = r.1.dev) ∧
  (∀ (x : UsdoSt) (s : State), s.dev.usdoOn = true → s.dev.tr.usdo = some x → x.index < 65536 → x.sub < 256 →
    ∃ t, exec .usdoTimeout s = .next t ∧ Kept s t ∧ t.dev.tr = { s.dev.tr with usdo := none } ∧
      t.dev.out = .abort 0x05040000 :: s.dev.out ∧ RegsKept (regsOf 0x2050 [1]) s.dev t.dev ∧
      (x.write = true → bits (t.dev.rd 0x2050 1) 47 32 = 0x0B11 ∧ bits (t.dev.rd 0x2050 1) 31 16 = x.index ∧
        bits (t.dev.rd 0x2050 1) 15 8 = x.sub) ∧
      (x.write = false → t.dev.regs = s.dev.regs)) ∧
  (∀ (n : Fin 16) (data : List Byte) (v : Word) (r : State × WriteEnd) (s : State), s.dev.pdoOn = true →
    s.dev.pdoOff (0x1400 + n.val) = false → s.dev.mapOf (0x1600 + n.val) = [v] → mapBytes v ≤ data.length →
    r = s.writeObj (bits v 31 16) (bits v 15 8) (bytesWrite .can (bits v 31 16) (bits v 15 8) (data.take (mapBytes v))) →
    ∃ t, exec (.rpdoReceive n data) s = .next t ∧ t.pending = s.pending ∧ t.fuses = r.1.fuses ∧
      (r.2.code = 0 → t = r.1) ∧ (r.2.code ≠ 0 → bits (t.dev.rd 0x2050 1) 47 32 = 0x0B13))

/-- R31, for FOLD_REQUEST, WAKE_REQUEST and CLEAR_REQUEST; RESET is allowed from every state in which a request can be made (R30). A
running shuttle is one that is not HALTED (R195). -/
def Obligations.DisallowedStateRequestsRefused : Prop :=
  ∀ (path : Transport) (c : Instr) (code : Nat) (s : State), s.dev.dictionary = true →
    (c = .foldRequest path ∧ 1 ≤ s.dev.roleOf path ∧
      ((s.dev.core.state ≠ .run ∧ code = 0x0B20) ∨
        (s.dev.core.state = .run ∧ (∃ g, g < 12 ∧ (s.dev.shuttle g).state ≠ .halted) ∧ code = 0x0B23))) ∨
      (c = .wakeRequest path ∧ 1 ≤ s.dev.roleOf path ∧ s.dev.core.state ≠ .folded ∧ code = 0x0B20) ∨
      (c = .clearRequest path ∧ 2 ≤ s.dev.roleOf path ∧ s.dev.core.state ≠ .fitting ∧ s.dev.core.state ≠ .run ∧
        s.dev.core.state ≠ .folded ∧ code = 0x0B20) →
    ∃ t, exec c s = .next t ∧ Kept s t ∧ t.dev.core = s.dev.core ∧ { t.dev with regs := s.dev.regs } = s.dev ∧
      RegsKept (regsOf 0x2050 [recordSub path]) s.dev t.dev ∧
      bits (t.dev.rd 0x2050 (recordSub path)) 47 32 = code ∧ bits (t.dev.rd 0x2050 (recordSub path)) 31 16 = 0x2001 ∧
      bits (t.dev.rd 0x2050 (recordSub path)) 15 8 = 0

/-- TREF_FREQUENCY_WRITE, GROUP_TREF_WRITE (R429), SENSOR_UPDATE (R428, R520, R528), WEAR_MODEL_UPDATE, GAUGE_MEASURE, WEAR_PREDICTION,
WEAR_HEADROOM_WRITE (R522 to R526; the rounding is the model's, entry 6). -/
def Obligations.SensorsReferencesWear : Prop :=
  (∀ (n : Fin 4) (w : Wr) (s : State), Accepted objTrefFrequency (actTrefFrequency n.val) w s.dev →
    ∃ t, exec (.trefFrequencyWrite n w) s = .next t ∧ Kept s t ∧ { t.dev with regs := s.dev.regs } = s.dev ∧
      RegsKept (regsOf 0x2080 [1 + n.val]) s.dev t.dev ∧ t.dev.rd 0x2080 (1 + n.val) = objTrefFrequency.valueOf w ∧
      (s.dev.core.state = .unconfigured ∨ s.dev.core.state = .fitting)) ∧
  (∀ (w : Wr) (s : State), Accepted objGroupTref actGroupTref w s.dev → (∀ g, g < 12 → (s.dev.shuttle g).state = .halted) →
    ∃ t, exec (.groupTrefWrite w) s = .next t ∧ Kept s t ∧ t.dev.rd 0x2080 5 = objGroupTref.valueOf w ∧
      t.dev.core = s.dev.core ∧ t.dev.staged = s.dev.staged ∧
      (∀ k, { t.dev.shuttle k with unlocked := (s.dev.shuttle k).unlocked } = s.dev.shuttle k) ∧
      RegsKept (fun i j => reportReg i j || regsOf 0x2080 [5] i j || regsOf 0x3340 [5] i j) s.dev t.dev ∧
      ∀ g, g < 12 →
        (trefOf (s.dev.rd 0x2080 5) g = trefOf (objGroupTref.valueOf w) g →
          t.dev.tr.plls.getLsbD g = s.dev.tr.plls.getLsbD g ∧ bit (t.dev.rd 0x3340 5) g = bit (s.dev.rd 0x3340 5) g) ∧
        (trefOf (s.dev.rd 0x2080 5) g ≠ trefOf (objGroupTref.valueOf w) g →
          t.dev.tr.plls.getLsbD g = false ∧ bit (t.dev.rd 0x3340 5) g = true)) ∧
  (∀ (temps volts : List (BitVec 16)) (s : State), s.dev.thimble = true → s.dev.safety.tripReadings = 0 →
    ∃ t, exec (.sensorUpdate temps volts) s = .next t ∧ Kept s t ∧ t.dev.core = s.dev.core ∧ t.dev.staged = s.dev.staged ∧
      t.dev.shuttles = s.dev.shuttles ∧ (∀ k, k < 16 → tabGet (fun _ => 0) t.dev.tr.temps k = (temps.getD k 0).toInt) ∧
      (∀ k, k < 8 → tabGet (fun _ => 0) t.dev.tr.volts k = (volts.getD k 0).toNat) ∧
      (∀ v, temps = List.replicate 16 v → s.dev.safety.excluded = 0 → -320 ≤ v.toInt → v.toInt < 960 →
        t.dev.rd 0x2020 1 = ofInt 2 v.toInt ∧
        (896 ≤ v.toInt → bit (s.dev.rd 0x2030 1) 14 = false →
          bit (t.dev.rd 0x2030 1) 14 = true ∧ bit (t.dev.rd 0x2030 1) 15 = true ∧
          t.dev.rdN 0x2030 3 = (s.dev.rdN 0x2030 3 + 1) % 2 ^ 32))) ∧
  (∀ (v : BitVec 16) (volts : List (BitVec 16)) (s : State), s.dev.thimble = true → s.dev.core.state = .run →
    s.dev.safety.excluded = 0 → 1 ≤ s.dev.safety.tripReadings → 960 ≤ v.toInt → v.toInt ≤ 1200 →
    ∃ t, exec (.sensorUpdate (List.replicate 16 v) volts) s = .next t ∧ Kept s t ∧ t.dev.core.state = .safe ∧
      t.dev.rdN 0x2000 3 = 0x0902 ∧ t.dev.safety.permits = 0 ∧ t.dev.core.outputs = false) ∧
  (∀ s : State, s.dev.timeRuns = true →
    ∃ t, exec .wearModelUpdate s = .next t ∧ Kept s t ∧ { t.dev with nv := s.dev.nv } = s.dev ∧
      t.dev.nv = { s.dev.nv with
        wearModel := s.dev.nv.wearModel + s.dev.wearNow, wearRates := (s.dev.wearNow :: s.dev.nv.wearRates).take 86400 }) ∧
  (∀ (ratios : List (BitVec 32)) (s : State), s.dev.thimble = true →
    ∃ t, exec (.gaugeMeasure ratios) s = .next t ∧ Kept s t ∧ { t.dev with regs := s.dev.regs } = s.dev ∧
      RegsKept (fun i j => i == 0x2303 || regsOf 0x2300 [4] i j) s.dev t.dev ∧
      (∀ k, k < 76 → t.dev.rdN 0x2303 (k + 1) = (ratios.getD k 0).toNat) ∧
      (∀ k, k < 64 → (ratios.getD k 0).toNat ≤ t.dev.rdN 0x2300 4) ∧
      (t.dev.rdN 0x2300 4 = 0 ∨ ∃ k, k < 64 ∧ t.dev.rdN 0x2300 4 = (ratios.getD k 0).toNat)) ∧
  (∀ (used limit consumed sum n : Nat) (s : State), s.dev.thimble = true → used = max s.dev.wearModelled s.dev.wearMeasured →
    limit = wearLimit (s.dev.rdN 0x2300 9) → limit ≠ 0 → consumed = used * 10000 / limit → n = s.dev.nv.wearRates.length →
    n ≠ 0 → sum = s.dev.nv.wearRates.foldl (fun a w => a + w) 0 → sum ≠ 0 → sum / n / 100 < 2 ^ 32 →
    (limit - used) * 100 * n / sum < 2 ^ 32 → consumed < 9500 →
    ∃ t, exec .wearPrediction s = .next t ∧ Kept s t ∧ t.dev.core = s.dev.core ∧ t.dev.freeCtr = s.dev.freeCtr ∧
      t.dev.rdN 0x2300 6 = consumed ∧ t.dev.rdN 0x2300 8 = sum / n / 100 ∧
      t.dev.rdN 0x2300 7 = (limit - used) * 100 * n / sum ∧
      (consumed < 8000 → { t.dev with regs := s.dev.regs } = s.dev ∧ RegsKept (regsOf 0x2300 [6, 7, 8]) s.dev t.dev) ∧
      (8000 ≤ consumed → tabGet (fun _ => 0) s.dev.nv.wearSent limit = 0 →
        tabGet (fun _ => 0) t.dev.nv.wearSent limit = 1 ∧ bit (t.dev.rd 0x2300 1) 15 = true ∧
        bits (t.dev.rd 0x2300 1) 31 16 = nextSeq (bits (s.dev.rd 0x2300 1) 31 16) ∧
        ∃ e ∈ t.dev.nv.log, e.reason = 0x0940 ∧ e.time = s.dev.core.time)) ∧
  (∀ (w : Wr) (s : State), Accepted objWearHeadroom actWearHeadroom w s.dev →
    ∃ t, exec (.wearHeadroomWrite w) s = .next t ∧ Kept s t ∧ t.dev.rd 0x2300 9 = objWearHeadroom.valueOf w ∧
      t.dev.core = s.dev.core ∧
      (1000 < (objWearHeadroom.valueOf w).toNat →
        { t.dev with regs := s.dev.regs } = s.dev ∧ RegsKept (regsOf 0x2300 [9]) s.dev t.dev) ∧
      ((objWearHeadroom.valueOf w).toNat ≤ 1000 → bit (t.dev.rd 0x2300 1) 15 = true ∧
        ∃ e ∈ t.dev.nv.log, e.reason = 0x0943 ∧ e.time = s.dev.core.time))

/-- PERMIT_REFRESH, PERMIT_GATE_TIMEOUT, LOCKSTEP_MISMATCH, LOCKSTEP_SELF_TEST, LINING_PLANE_FAIL, LINING_BOTH_FAIL, LINING_TEST (R507 to
R511, R514). -/
def Obligations.PermitsAndDangerousFaults : Prop :=
  (∀ s : State, s.dev.thimble = true →
    ∃ t, exec .permitRefresh s = .next t ∧ Kept s t ∧ t.dev.core = s.dev.core ∧ t.dev.safety.refreshed = true ∧
      t.dev.safety.lastRefresh = some s.dev.core.time ∧ t.dev.safety.refreshLate = false ∧
      (s.dev.safety.refreshLate = true → ∃ e ∈ t.dev.nv.log, e.reason = 0x0922) ∧
      ∀ f, f < 4 → t.dev.safety.permits.getLsbD f = (decide (t.dev.permitFails f = 0) && !t.dev.proving f)) ∧
  (∀ (t0 : Nat) (s : State), s.dev.vaux = true → s.dev.safety.refreshed = true → s.dev.safety.lastRefresh = some t0 →
    (s.dev.core.time < t0 + 8000 → exec .permitGateTimeout s = .next s) ∧
    (t0 + 8000 ≤ s.dev.core.time →
      ∃ t, exec .permitGateTimeout s = .next t ∧ Kept s t ∧ t.dev.core = s.dev.core ∧ t.dev.safety.permits = 0 ∧
        t.dev.safety.refreshed = false ∧ t.dev.safety.refreshLate = true ∧
        (∀ k, k < 8 → s.dev.safety.permits.getLsbD (k / 2) = true → (t.dev.ball k).driven = false) ∧
        (∀ k, s.dev.safety.permits.getLsbD (k / 2) = false → t.dev.ball k = s.dev.ball k) ∧
        { t.dev with regs := s.dev.regs, safeBalls := s.dev.safeBalls, safety := s.dev.safety } = s.dev)) ∧
  (∀ (c : Instr) (reason : Nat) (s : State), s.dev.canTrip = true → s.dev.thimble = true →
    (c = .lockstepMismatch ∧ reason = 0x0920) ∨ (c = .lockstepSelfTest false ∧ reason = 0x0920) ∨
      (c = .liningBothFail ∧ s.dev.safety.linings ≠ 0 ∧ reason = 0x0921) ∨
      (∃ p : Fin 2, c = .liningPlaneFail p ∧ s.dev.safety.linings = BitVec.ofNat 2 (2 ^ p.val) ∧ reason = 0x0921) →
    ∃ t, exec c s = .next t ∧ Kept s t ∧ t.dev.core.state = .safe ∧ t.dev.safety.permits = 0 ∧ t.dev.core.outputs = false ∧
      t.dev.rdN 0x2000 3 = reason ∧ t.dev.rdN 0x3A00 5 = (s.dev.rdN 0x3A00 5 + 1) % 2 ^ 32) ∧
  (∀ s : State, exec (.lockstepSelfTest true) s = .next s) ∧
  (∀ (p : Fin 2) (s : State), s.dev.thimble = true → s.dev.safety.linings = 3 →
    ∃ t, exec (.liningPlaneFail p) s = .next t ∧ Kept s t ∧ t.dev.core = s.dev.core ∧
      t.dev.safety = { s.dev.safety with linings := 3 &&& ~~~ BitVec.ofNat 2 (2 ^ p.val) } ∧
      (∃ e ∈ t.dev.nv.log, e.reason = 0x0923 ∧ e.inst = p.val) ∧
      exec (.liningTest (~~~ BitVec.ofNat 2 (2 ^ p.val))) s = .next t) ∧
  (∀ (passed : BitVec 2) (s : State), s.dev.safety.linings &&& ~~~ passed = 0 → exec (.liningTest passed) s = .next s)

/-- PROOF_REQUEST, PROOF_TEST_END (R517), PROOF_DUE_WARNING, PROOF_INTERVAL_EXPIRY (R518). -/
def Obligations.ProofTests : Prop :=
  (∀ (w : Wr) (f : Nat) (s : State), Accepted objProofRequest actProofRequest w s.dev →
    (List.range 4).find? (fun k => (BitVec.ofNat 4 (objProofRequest.num w)).getLsbD k) = some f →
    ∃ t, exec (.proofRequest w) s = .next t ∧ Kept s t ∧ t.dev.core = s.dev.core ∧
      t.dev.safety.proof = some (BitVec.ofNat 4 (objProofRequest.num w), 0) ∧ bit (t.dev.rd 0x3A00 1) 14 = true ∧
      t.dev.safety.permits.getLsbD f = false) ∧
  (∀ (todo passed : BitVec 4) (f : Nat) (s : State), s.dev.thimble = true → s.dev.core.state = .run →
    s.dev.safety.proof = some (todo, passed) → (List.range 4).find? (fun k => todo.getLsbD k) = some f →
    (todo &&& ~~~ BitVec.ofNat 4 (2 ^ f) = 0 →
      ∃ t, exec (.proofTestEnd true) s = .next t ∧ Kept s t ∧ t.dev.core = s.dev.core ∧ t.dev.safety.proof = none ∧
        t.dev.rd (0x3A10 + f) 4 = word s.dev.core.time ∧ (∃ e ∈ t.dev.nv.log, e.reason = 0x0932 ∧ e.inst = f) ∧
        bits (t.dev.rd 0x3A00 1) 3 0 = (passed ||| BitVec.ofNat 4 (2 ^ f)).toNat ∧ bit (t.dev.rd 0x3A00 1) 14 = false ∧
        bit (t.dev.rd 0x3A00 1) 15 = true ∧ t.dev.rdN 0x3A00 4 = 0) ∧
    (∃ t, exec (.proofTestEnd false) s = .next t ∧ Kept s t ∧ t.dev.core.state = .safe ∧ t.dev.safety.proof = none ∧
      t.dev.safety.permits = 0 ∧ t.dev.rdN 0x3A00 4 = 0x0931 ∧ t.dev.rdN 0x2000 3 = 0x0931)) ∧
  (∀ (f : Fin 4) (s : State), s.dev.thimble = true → s.dev.rdN (0x3A10 + f.val) 4 ≠ 0 →
    s.dev.safety.proofWarned.getLsbD f.val = false →
    s.dev.proofEnd f.val ≤ s.dev.core.time + s.dev.rdN (0x3A10 + f.val) 3 * 100000000 →
    ∃ t, exec (.proofDueWarning f) s = .next t ∧ Kept s t ∧
      Reported { s.dev with safety := { s.dev.safety with
        proofWarned := s.dev.safety.proofWarned ||| BitVec.ofNat 4 (2 ^ f.val) } } t.dev) ∧
  (∀ (f : Fin 4) (s : State), s.dev.thimble = true → s.dev.rdN (0x3A10 + f.val) 4 ≠ 0 →
    s.dev.safety.proofExpired.getLsbD f.val = false → s.dev.proofEnd f.val ≤ s.dev.core.time →
    ∃ t, exec (.proofIntervalExpiry f) s = .next t ∧ Kept s t ∧ t.dev.core = s.dev.core ∧
      t.dev.safety.proofExpired = s.dev.safety.proofExpired ||| BitVec.ofNat 4 (2 ^ f.val) ∧
      (bit (s.dev.rd (0x3A10 + f.val) 2) 29 = true → t.dev.safety.permits.getLsbD f.val = false))

/-- HEADER_RECORD (R318), FRAME_RECORD, KEY_ROLL, GROUP_HASH, SIGNATURE_RECORD, END_RECORD (R325, R332, R336, R339, R342, R365 to R367). -/
def Obligations.ImageRecords : Prop :=
  (∀ (v : List (BitVec 16)) (l : List Byte) (d : Dev) (s : State), s.dev.portOn = true → s.dev.loading = none →
    l = s.dev.portBytes v →
    d = { s.dev with config := { s.dev.config with forwarding := false } } →
    (s.dev.portTakes (parseHeader l).targetId = false →
      ∃ t, exec (.headerRecord (.port v)) s = .next t ∧ Kept s t ∧
        { t.dev with out := s.dev.out } = { s.dev with config := { s.dev.config with forwarding := true } } ∧
        (s.dev.core.broadcast = false → s.dev.core.cfgWidth = 0 → t.dev.out = .cfgDout l :: s.dev.out)) ∧
    (s.dev.portTakes (parseHeader l).targetId = true →
      (headerRefusal s.fuses d l ≠ 0 → ∃ t, exec (.headerRecord (.port v)) s = .next t ∧ Kept s t ∧ t.dev = d) ∧
      (headerRefusal s.fuses d l = 0 → (parseHeader l).kind = 1 →
        ∃ t, exec (.headerRecord (.port v)) s = .next t ∧ Kept s t ∧ t.dev.core.state = .fitting ∧
          t.dev.config.load = some (startLoad s.fuses d .port l) ∧ t.dev.core.gsrHeld = true ∧ t.dev.core.outputs = false ∧
          (∀ p ∈ t.dev.panels, p.2 = { tension := p.2.tension }) ∧ t.dev.staged = [] ∧
          t.dev.config.active = s.dev.config.active ∧ t.dev.programs = [] ∧ t.dev.rdN 0x2000 3 = 0x0B75 ∧
          bit (t.dev.rd 0x2100 1) 15 = true) ∧
      (headerRefusal s.fuses d l = 0 → (parseHeader l).kind = 2 →
        ∃ t, exec (.headerRecord (.port v)) s = .next t ∧ Kept s t ∧ t.dev.core = s.dev.core ∧
          t.dev.config.load = some (startLoad s.fuses d .port l) ∧ t.dev.panels = s.dev.panels ∧
          t.dev.config.active = s.dev.config.active ∧ t.dev.config.shadow = [] ∧ bit (t.dev.rd 0x2110 1) 15 = true))) ∧
  (∀ (i : Instr) (r : RecordIn) (l : List Byte) (taps : List (Fin 512)) (bindings : List (Fin 512 × Word)) (x : LoadSt)
      (s : State),
    (i = .frameRecord r taps ∧ recType l = 2) ∨ (i = .keyRoll r ∧ recType l = 3 ∧ taps = []) ∨
      (i = .groupHash r ∧ recType l = 4 ∧ taps = []) ∨ (i = .signatureRecord r ∧ recType l = 5 ∧ taps = []) ∨
      (i = .endRecord r bindings ∧ recType l = 0xF ∧ taps = []) →
    (s.dev.passesBy r = some l → ∃ t, exec i s = .next t ∧ Kept s t ∧ t.dev = s.dev.forward l) ∧ (s.dev.passesBy r = none →
    s.dev.loading = some x → s.dev.recordSource r = some x.source → r ≠ .slot true → s.dev.recordBytes r false = some l →
    (∀ e, takeRecord s.fuses true (fun w => taps.any (fun t => t.val == w)) x l = .error e →
      (x.header.kind = 1 →
        ∃ t, exec i s = .next t ∧ Kept s t ∧
          t.dev.config.load = some { x with taken := x.taken + l.length, held := some e.code } ∧
          t.dev.core = { s.dev.core with steps := none } ∧ t.dev.rd 0x2100 3 = word e.code ∧
          bit (t.dev.rd 0x2100 1) 13 = true ∧ bit (t.dev.rd 0x2100 1) 14 = true ∧ bit (t.dev.rd 0x2100 1) 15 = false) ∧
      (x.header.kind = 2 →
        ∃ t, exec i s = .next t ∧ Kept s t ∧ t.dev.config.load = none ∧ t.dev.config.shadow = [] ∧
          t.dev.config.active = s.dev.config.active ∧ t.dev.config.staged = s.dev.config.staged ∧
          t.dev.rd 0x2110 7 = word e.code ∧ t.dev.core = s.dev.core ∧ t.dev.panels = s.dev.panels)) ∧
    (∀ m, takeRecord s.fuses true (fun w => taps.any (fun t => t.val == w)) x l = .ok (m, none) → m.ended = false →
      ∃ t, exec i s = .next t ∧ Kept s t ∧ { t.dev with config := s.dev.config } = s.dev ∧ t.dev.config.load = some m ∧
        t.dev.config.active = s.dev.config.active ∧ t.dev.config.shadow = s.dev.config.shadow) ∧
    (∀ m a f, takeRecord s.fuses true (fun w => taps.any (fun t => t.val == w)) x l = .ok (m, some (a, f)) → m.ended = false →
      addrSpace a = 0 →
      (m.header.kind = 1 →
        ∃ t, exec i s = .next t ∧ Kept s t ∧ { t.dev with config := s.dev.config, regs := s.dev.regs } = s.dev ∧
          t.dev.config.load = some m ∧ t.dev.frame a = f ∧ (∀ b, b ≠ a → t.dev.frame b = s.dev.frame b) ∧
          t.dev.config.shadow = s.dev.config.shadow ∧
          RegsKept (regsOf 0x2100 [5]) s.dev t.dev ∧ t.dev.rd 0x2100 5 = word m.frames) ∧
      (m.header.kind = 2 →
        ∃ t, exec i s = .next t ∧ Kept s t ∧ { t.dev with config := s.dev.config } = s.dev ∧ t.dev.config.load = some m ∧
          t.dev.config.active = s.dev.config.active ∧
          t.dev.config.shadow = tabIns (tabDel s.dev.config.shadow a) a f)) ∧
    (∀ m, takeRecord s.fuses true (fun w => taps.any (fun t => t.val == w)) x l = .ok (m, none) → m.ended = true →
      (m.header.kind = 2 →
        ∃ t, exec i s = .next t ∧ Kept s t ∧ t.dev.core = s.dev.core ∧ t.dev.config.load = none ∧
          t.dev.config.staged = some {
            header := m.header, source := m.source, digest := m.chain, setup := m.setup, valid := true } ∧
          t.dev.config.active = s.dev.config.active ∧ t.dev.config.shadow = s.dev.config.shadow ∧
          bit (t.dev.rd 0x2110 1) 15 = false ∧ bit (t.dev.rd 0x2110 1) 13 = true) ∧
      (m.header.kind = 1 → s.dev.core.state = .fitting → orderOk s.dev.config.orderInEffect = true →
        ∃ t c rest, exec i s = .next t ∧ Kept s t ∧ t.dev.core.state = .fitting ∧ t.dev.core.steps = some (c :: rest) ∧
          t.dev.config.load = some m ∧ bits (t.dev.rd 0x2100 1) 7 0 = 3))))

/-- STREAM_DATA, STREAM_ABANDON, CFG_CS_N_RISE, STREAM_INACTIVITY, FITTING_TIMEOUT, LOAD_REQUEST, START_ORDER_WRITE (R330 to R336). -/
def Obligations.StreamsAndTimeouts : Prop :=
  (∀ (w : Wr) (s : State), Accepted objStreamData actStreamData w s.dev →
    ∃ t, exec (.streamData w) s = .next t ∧ Kept s t ∧ { t.dev with config := s.dev.config } = s.dev ∧
      t.dev.config = { s.dev.config with
        streamBytes := (s.dev.config.streamBytes ++ w.bytes).drop s.dev.config.skip
        skip := s.dev.config.skip - (s.dev.config.streamBytes ++ w.bytes).length }) ∧
  (∀ (path : Transport) (s : State), Accepted objStreamCommand actStreamCommand ⟨path, 1, 1, [], 0⟩ s.dev →
    ((∀ x, s.dev.loading = some x → x.source ≠ .pcie) →
      ∃ t, exec (.streamAbandon path) s = .next t ∧ Kept s t ∧
        t.dev = { s.dev with config := { s.dev.config with streamBytes := [], skip := 0 } }) ∧
    (∀ x, s.dev.loading = some x → x.source = .pcie → x.header.kind = 2 →
      ∃ t, exec (.streamAbandon path) s = .next t ∧ Kept s t ∧ t.dev.config.load = none ∧ t.dev.config.streamBytes = [] ∧
        t.dev.config.skip = 0 ∧ t.dev.rd 0x2110 7 = word 0x0131 ∧ t.dev.core = s.dev.core)) ∧
  (∀ s : State, s.dev.thimble = true →
    (s.dev.loading = none →
      ∃ t, exec .cfgCsNRise s = .next t ∧ Kept s t ∧
        t.dev = { s.dev with config := { s.dev.config with forwarding := false } }) ∧
    (∀ x, s.dev.loading = some x → x.source = .port →
      ∃ t, exec .cfgCsNRise s = .next t ∧ Kept s t ∧ t.dev.config.forwarding = false ∧
        t.dev.core.state = s.dev.core.state ∧ t.dev.config.active = s.dev.config.active ∧
        (x.header.kind = 1 → t.dev.config.load = some { x with held := some 0x0130 } ∧ bit (t.dev.rd 0x2100 1) 13 = true ∧
          t.dev.rd 0x2100 3 = word 0x0130 ∧ ∃ e ∈ t.dev.nv.log, e.reason = 0x0130) ∧
        (x.header.kind = 2 → t.dev.config.load = none ∧ t.dev.rd 0x2110 7 = word 0x0131 ∧
          ∃ e ∈ t.dev.nv.log, e.reason = 0x0131))) ∧
  (∀ s : State, (s.dev.loading = none → exec .streamInactivity s = .next s) ∧
    (∀ x, s.dev.loading = some x →
      ∃ t, exec .streamInactivity s = .next t ∧ Kept s t ∧ t.dev.config.load = none ∧
        (x.header.kind = 1 → t.dev.core.state = .unconfigured ∧ t.dev.rdN 0x2000 3 = 0x0132 ∧
          ∀ p ∈ t.dev.panels, p.2 = { tension := p.2.tension }) ∧
        (x.header.kind = 2 → t.dev.core = s.dev.core ∧ t.dev.rd 0x2110 7 = word 0x0131))) ∧
  (∀ (x : LoadSt) (s : State), s.dev.core.state = .fitting → s.dev.config.load = some x → x.held.isSome = true →
    ∃ t, exec .fittingTimeout s = .next t ∧ Kept s t ∧ t.dev.core.state = .unconfigured ∧ t.dev.rdN 0x2000 3 = 0x0132 ∧
      t.dev.config.load = none ∧ t.dev.config.active = [] ∧ (∀ p ∈ t.dev.panels, p.2 = { tension := p.2.tension }) ∧
      t.dev.staged = [] ∧
      t.dev.core.outputs = false) ∧
  (∀ (w : Wr) (n : Nat) (s : State), Accepted objLoadRequest actLoadRequest w s.dev → n = objLoadRequest.num w →
    ∃ t, exec (.loadRequest w) s = .next t ∧ Kept s t ∧ (s.dev.slot n).state = 2 ∧
      t.dev.slot n = { s.dev.slot n with reads := ((s.dev.slot n).reads + 1) % 2 ^ 32 } ∧
      (∀ k, k ≠ n → t.dev.slot k = s.dev.slot k) ∧ t.dev.core = s.dev.core ∧ RegsKept reportReg s.dev t.dev ∧
      t.dev.config = (if s.dev.loading.isSome then s.dev.config else { s.dev.config with slotLoad := some (n, 0) })) ∧
  (∀ (w : Wr) (s : State), Accepted objStartOrder actStartOrder w s.dev →
    ∃ t, exec (.startOrderWrite w) s = .next t ∧ Kept s t ∧ { t.dev with regs := s.dev.regs } = s.dev ∧
      RegsKept (regsOf 0x2010 [1]) s.dev t.dev ∧ t.dev.rd 0x2010 1 = objStartOrder.valueOf w ∧
      orderOk (objStartOrder.num w) = true)

/-- PARTIAL_COMMIT_COMPLETE, PARTIAL_DISCARD (R341, R342), CFG_SCRUB_FRAME (R343 to R345), RECOVERY_COPY_COMPLETE (R355). -/
def Obligations.CommitsScrubRecovery : Prop :=
  (∀ (ups : List FrameUpset) (bindings : List (Fin 512 × Word)) (i : StagedImage) (s : State), s.dev.config.staged = some i →
    i.committing = true →
    (∀ x y, checkStaged ups s.dev.config.shadow = .ok x → checkStaged ups s.dev.config.staging = .ok y →
      ∃ t, exec (.partialCommitComplete ups bindings) s = .next t ∧ Kept s t ∧ t.dev.core = s.dev.core ∧
        t.dev.config.staged = none ∧ t.dev.config.shadow = [] ∧ t.dev.config.staging = [] ∧
        t.dev.config.partials =
          { header := i.header, digest := i.digest, slot := i.source.slotOf } :: s.dev.config.partials ∧
        t.dev.rd 0x2110 5 = word i.header.patchMask ∧ t.dev.rd 0x2110 6 = word i.header.imageId ∧
        bit (t.dev.rd 0x2110 1) 10 = false ∧ bit (t.dev.rd 0x2110 1) 14 = true) ∧
    (∀ a, checkStaged ups s.dev.config.shadow = .error a ∨
        ((checkStaged ups s.dev.config.shadow).isOk = true ∧ checkStaged ups s.dev.config.staging = .error a) →
      ∃ t, exec (.partialCommitComplete ups bindings) s = .next t ∧ Kept s t ∧
        t.dev.core = s.dev.core ∧ t.dev.config = { s.dev.config with staged := none, shadow := [], staging := [] } ∧
        t.dev.panels = s.dev.panels ∧ t.dev.rd 0x2110 7 = word 0x0124 ∧ t.dev.rdN 0x2110 8 = a % 2 ^ 64 ∧
        bit (t.dev.rd 0x2110 1) 10 = false)) ∧
  (∀ (path : Transport) (s : State), Accepted objPartialDiscard actPartialDiscard ⟨path, 1, 1, [], 0⟩ s.dev →
    (s.dev.config.staged = none → exec (.partialDiscard path) s = .next s) ∧
    (∀ i, s.dev.config.staged = some i →
      ∃ t, exec (.partialDiscard path) s = .next t ∧ Kept s t ∧ t.dev.core = s.dev.core ∧
        t.dev.config = { s.dev.config with staged := none, staging := [], shadow := [] } ∧ t.dev.rd 0x2110 7 = word 0x0120 ∧
        bit (t.dev.rd 0x2110 1) 13 = false)) ∧
  (∀ (q : Fin 54) (p a : Nat) (data : BitVec 2048) (check : BitVec 12) (crc : BitVec 32) (seen : Frame) (s : State),
    s.dev.thimble = true → s.dev.core.state = .run ∨ s.dev.core.state = .folded ∨ s.dev.core.state = .safe →
    s.dev.patchHeld q.val = false → s.dev.config.passDone.getLsbD q.val = false →
    p = tabGet (fun _ => 0) s.dev.config.scrubPos q.val → p < 2719 →
    a = panelAddr (scrubSite q.val p).1 (scrubSite q.val p).2 (p % 20) → seen = (s.dev.frame a).upset data check crc →
    (∀ g, seen.settled a = some g →
      ∃ t, exec (.cfgScrubFrame q data check crc) s = .next t ∧ Kept s t ∧ t.dev.core = s.dev.core ∧
        t.dev.frame a = g ∧ (∀ b, b ≠ a → t.dev.frame b = s.dev.frame b) ∧
        t.dev.config.scrubPos = tabSet (fun _ => 0) s.dev.config.scrubPos q.val (p + 1) ∧
        (seen.syndrome = 0 → { t.dev with config := s.dev.config } = s.dev ∧ t.dev.config.sent160 = s.dev.config.sent160) ∧
        (seen.syndrome ≠ 0 → t.dev.rdN 0x2120 3 = (s.dev.rdN 0x2120 3 + 1) % 2 ^ 32 ∧ t.dev.config.sent160 = true ∧
          RegsKept (fun i j => reportReg i j || regsOf 0x2120 [3] i j) s.dev t.dev)) ∧
    (seen.settled a = none →
      ∃ t, exec (.cfgScrubFrame q data check crc) s = .next t ∧ Kept s t ∧
        t.dev.config.scrubPos = tabSet (fun _ => 0) s.dev.config.scrubPos q.val (p + 1) ∧
        (s.dev.config.recoveryFor.getLsbD q.val = true → s.dev.core.state ≠ .safe → t.dev.core = s.dev.core ∧
          ∃ r, t.dev.darn.queue = s.dev.darn.queue ++ [r] ∧ r.source = 0x0812 ∧ r.row = (scrubSite q.val p).2) ∧
        (s.dev.config.recoveryFor.getLsbD q.val = false → t.dev.isolated q.val = true))) ∧
  (∀ s : State, s.dev.thimble = true → s.dev.config.copying ≠ 0 →
    ∃ t, exec .recoveryCopyComplete s = .next t ∧ Kept s t ∧ t.dev.core = s.dev.core ∧
      t.dev.config = { s.dev.config with
        recoveryFor := s.dev.config.recoveryFor ||| s.dev.config.copying, copying := 0 } ∧
      (∀ q, q < 54 → s.dev.config.copying.getLsbD q = true → (q, s.dev.recoveryCopy s.fuses q) ∈ t.dev.nv.recovery) ∧
      t.dev.rd 0x2120 6 = word 2 ∧ RegsKept (fun i j => reportReg i j || regsOf 0x2120 [6] i j) s.dev t.dev)

/-- SLOT_OPEN, SLOT_DATA, SLOT_CLOSE, SLOT_VERIFY_COMPLETE, SLOT_ERASE, SLOT_ERASE_COMPLETE, SLOT_ABANDON, SLOT_WRITE_TIMEOUT (R352,
R353), LOG_SELECT (R351, R533). -/
def Obligations.WardrobeSlots : Prop :=
  (∀ (path : Transport) (slot : BitVec 8) (n : Nat) (s : State), n = slot.toNat →
    (Accepted objSlotCommand actSlotCommand (slotWr path 1 slot) s.dev →
      ∃ t, exec (.slotOpen path slot) s = .next t ∧ Kept s t ∧ t.dev.core = s.dev.core ∧ t.dev.sec.openSlot = some n ∧
        t.dev.slot n = { state := 1, reads := (s.dev.slot n).reads } ∧ (∀ k, k ≠ n → t.dev.slot k = s.dev.slot k) ∧
        RegsKept (regsOf 0x2130 [1]) s.dev t.dev) ∧
    (Accepted objSlotCommand actSlotCommand (slotWr path 2 slot) s.dev → s.dev.sec.openSlot = some n →
      s.dev.sec.slotBusy = none →
      ∃ t, exec (.slotClose path slot) s = .next t ∧ Kept s t ∧ t.dev.core = s.dev.core ∧ t.dev.nv = s.dev.nv ∧
        t.dev.sec.slotBusy = some (n, 2) ∧ bit (t.dev.rd 0x2130 1) 15 = true ∧ RegsKept (regsOf 0x2130 [1]) s.dev t.dev) ∧
    (Accepted objSlotCommand actSlotCommand (slotWr path 3 slot) s.dev →
      ∃ t, exec (.slotErase path slot) s = .next t ∧ Kept s t ∧ t.dev.core = s.dev.core ∧ t.dev.nv = s.dev.nv ∧
        t.dev.sec.slotBusy = some (n, 3) ∧ bit (t.dev.rd 0x2130 1) 15 = true ∧ RegsKept (regsOf 0x2130 [1]) s.dev t.dev) ∧
    (Accepted objSlotCommand actSlotCommand (slotWr path 4 slot) s.dev → s.dev.sec.openSlot = some n →
      ∃ t, exec (.slotAbandon path slot) s = .next t ∧ Kept s t ∧ t.dev.core = s.dev.core ∧ t.dev.sec.openSlot = none ∧
        t.dev.sec.slotBusy = none ∧ (t.dev.slot n).state = 0 ∧ (t.dev.slot n).data = [] ∧
        (∀ k, k ≠ n → t.dev.slot k = s.dev.slot k) ∧ t.dev.rd 0x2130 4 = word 0x0261)) ∧
  (∀ (w : Wr) (n : Nat) (x : Slot) (s : State), Accepted objSlotData (actSlotData s.fuses) w s.dev →
    s.dev.sec.openSlot = some n → s.dev.sec.slotBusy = none → x = s.dev.slot n →
    ((x.data ++ w.bytes).length < 256 →
      ∃ t, exec (.slotData w) s = .next t ∧ Kept s t ∧ t.dev.core = s.dev.core ∧ t.dev.sec = s.dev.sec ∧
        t.dev.slot n = { x with data := x.data ++ w.bytes, checked := false } ∧ ∀ k, k ≠ n → t.dev.slot k = s.dev.slot k) ∧
    (x.checked = true → 256 ≤ (x.data ++ w.bytes).length →
      ((x.data ++ w.bytes).length ≤ 45088768 →
        (x.data ++ w.bytes).length ≤ (parseHeader ((x.data ++ w.bytes).take 256)).streamLength →
        ∃ t, exec (.slotData w) s = .next t ∧ Kept s t ∧ t.dev.core = s.dev.core ∧ t.dev.sec = s.dev.sec ∧
          (t.dev.slot n).data = x.data ++ w.bytes ∧ (t.dev.slot n).state = x.state ∧
          ∀ k, k ≠ n → t.dev.slot k = s.dev.slot k) ∧
      (45088768 < (x.data ++ w.bytes).length ∨
          (parseHeader ((x.data ++ w.bytes).take 256)).streamLength < (x.data ++ w.bytes).length →
        ∃ t, exec (.slotData w) s = .next t ∧ Kept s t ∧ t.dev.core = s.dev.core ∧ t.dev.sec.openSlot = none ∧
          (t.dev.slot n).state = 0 ∧ (t.dev.slot n).data = [] ∧ t.dev.rd 0x2130 4 = word 0x0261))) ∧
  (∀ (w : Wr) (n : Nat) (s : State), Accepted objSlotData (actSlotData s.fuses) w s.dev →
    s.dev.sec.openSlot = some n → s.dev.sec.slotBusy.isSome = true →
    ((s.dev.slot n).data.length + w.bytes.length ≤ (s.dev.slot n).header.streamLength →
      exec (.slotData w) s = .next s) ∧
    ((s.dev.slot n).header.streamLength < (s.dev.slot n).data.length + w.bytes.length →
      ∃ t, exec (.slotData w) s = .next t ∧ Kept s t ∧ t.dev.core = s.dev.core ∧ t.dev.sec.openSlot = none ∧
        t.dev.sec.slotBusy = none ∧ (t.dev.slot n).state = 0 ∧ t.dev.rd 0x2130 4 = word 0x0261)) ∧
  (∀ (n : Nat) (taps : List (Fin 512)) (v : Nat) (d : Dev) (s : State), s.dev.sec.slotBusy = some (n, 2) →
    v = verifyStream s.fuses d (fun w => taps.any (fun t => t.val == w)) (s.dev.slot n).data → d = s.dev.touchUnits (slotUnit n) (unitsOf (s.dev.slot n).data.length) →
    (∃ t, exec (.slotVerifyComplete ⟨true, taps⟩) s = .next t ∧ Kept s t ∧ t.dev.core = s.dev.core ∧ (t.dev.slot n).state = 0 ∧
      t.dev.sec.openSlot = none ∧ t.dev.sec.slotBusy = none ∧ t.dev.rd 0x2130 4 = word 0x0263 ∧
      bit (t.dev.rd 0x2130 1) 15 = false) ∧
    (256 ≤ (s.dev.slot n).data.length → (s.dev.slot n).data.length = (s.dev.slot n).header.streamLength →
      (v = 0 →
        ∃ t, exec (.slotVerifyComplete ⟨false, taps⟩) s = .next t ∧ Kept s t ∧ t.dev.core = s.dev.core ∧
          t.dev.slot n = { s.dev.slot n with state := 2 } ∧ t.dev.sec.openSlot = none ∧ t.dev.sec.slotBusy = none ∧
          t.dev.rd 0x2130 4 = word 0 ∧ bit (t.dev.rd 0x2130 1) 14 = true ∧ bit (t.dev.rd 0x2130 1) 15 = false) ∧
      (v ≠ 0 →
        ∃ t, exec (.slotVerifyComplete ⟨false, taps⟩) s = .next t ∧ Kept s t ∧ t.dev.core = s.dev.core ∧ (t.dev.slot n).state = 0 ∧
          t.dev.rd 0x2130 4 = word v))) ∧
  (∀ (n : Nat) (s : State), s.dev.sec.slotBusy = some (n, 3) →
    ∃ t, exec .slotEraseComplete s = .next t ∧ Kept s t ∧ t.dev.core = s.dev.core ∧ (t.dev.slot n).state = 0 ∧
      (t.dev.slot n).data = [] ∧ (∀ k, k ≠ n → t.dev.slot k = s.dev.slot k) ∧ t.dev.sec.slotBusy = none ∧
      t.dev.rd 0x2130 4 = word 0 ∧ bit (t.dev.rd 0x2130 1) 14 = true ∧ bit (t.dev.rd 0x2130 1) 15 = false) ∧
  (∀ (n : Nat) (s : State), s.dev.sec.openSlot = some n → s.dev.sec.slotBusy = none →
    ∃ t, exec .slotWriteTimeout s = .next t ∧ Kept s t ∧ t.dev.core = s.dev.core ∧ t.dev.sec.openSlot = none ∧
      (t.dev.slot n).state = 0 ∧ (∀ k, k ≠ n → t.dev.slot k = s.dev.slot k) ∧ t.dev.rd 0x2130 4 = word 0x0261) ∧
  (∀ (w : Wr) (readFails : Bool) (s : State), Accepted objLogSelect (actLogSelect readFails) w s.dev →
    ∃ t, exec (.logSelect ⟨w, readFails⟩) s = .next t ∧ Kept s t ∧ t.dev.core = s.dev.core ∧
      t.dev.rd 0x2310 2 = objLogSelect.valueOf w ∧
      (readFails = false → t.dev.bytesOf 0x2310 3 = t.dev.logPage (objLogSelect.num w)) ∧
      (readFails = true → t.dev.bytesOf 0x2310 3 = s.dev.bytesOf 0x2310 3 ∧
        (s.dev.thimble = true → ∃ e ∈ t.dev.nv.log, e.reason = 0x0263)) ∧
      RegsKept (fun i j => reportReg i j || regsOf 0x2310 [2] i j) s.dev t.dev)

/-- KEY_PROGRAM, KEY_REVOKE, OWNER_KEY_PROGRAM, OWNER_KEY_REVOKE (R357 to R359), VERSION_RAISE (R360). -/
def Obligations.KeysAndVersions : Prop :=
  (∀ (w : Wr) (slot : Nat) (s : State), Accepted objKeyProgram (actKeyProgram s.fuses) w s.dev → slot = leAt w.bytes 0 1 →
    (slot < 4 →
      ∃ t, exec (.keyProgram w) s = .next t ∧ t.pending = s.pending ∧ t.dev = s.dev ∧
        t.fuses = { s.fuses with
          keysProgrammed := s.fuses.keysProgrammed ||| BitVec.ofNat 4 (2 ^ slot), keyValues := t.fuses.keyValues } ∧
        t.fuses.keysProgrammed.getLsbD slot = true ∧
        some (tabGet (fun _ => []) t.fuses.keyValues slot) = unwrapKey s.fuses w.bytes ∧
        ∀ k, k ≠ slot → tabGet (fun _ => []) t.fuses.keyValues k = tabGet (fun _ => []) s.fuses.keyValues k) ∧
    (4 ≤ slot →
      ∃ t, exec (.keyProgram w) s = .next t ∧ Kept s t ∧ { t.dev with nv := s.dev.nv } = s.dev ∧
        { t.dev.nv with batteryKeys := s.dev.nv.batteryKeys } = s.dev.nv ∧
        some (tabGet (fun _ => []) t.dev.nv.batteryKeys (slot - 0x10)) = unwrapKey s.fuses w.bytes)) ∧
  (∀ (w : Wr) (k : Nat) (s : State), Accepted objKeyRevoke actKeyRevoke w s.dev → k = objKeyRevoke.num w →
    ∃ t, exec (.keyRevoke w) s = .next t ∧ t.pending = s.pending ∧ { t.dev with nv := s.dev.nv } = s.dev ∧
      (k < 4 → t.fuses = { s.fuses with keysRevoked := s.fuses.keysRevoked ||| BitVec.ofNat 4 (2 ^ k) } ∧
        t.fuses.keysRevoked.getLsbD k = true) ∧
      (4 ≤ k → t.fuses = s.fuses ∧ t.dev.nv.batteryKeys = s.dev.nv.batteryKeys.filter (fun e => e.1 + 0x10 != k)) ∧
      ∀ n, n < 10 →
        (2 ≤ (s.dev.slot n).state ∧ (s.dev.slot n).header.keySlot = k → t.dev.slot n = { s.dev.slot n with state := 3 }) ∧
        (¬(2 ≤ (s.dev.slot n).state ∧ (s.dev.slot n).header.keySlot = k) → t.dev.slot n = s.dev.slot n)) ∧
  (∀ (w : Wr) (k : Nat) (s : State), Accepted objOwnerKeyProgram (actOwnerKeyProgram s.fuses) w s.dev →
    k = leAt w.bytes 0 1 →
    ∃ t, exec (.ownerKeyProgram w) s = .next t ∧ t.pending = s.pending ∧ t.dev = s.dev ∧
      s.fuses.ownersProgrammed.getLsbD k = false ∧ t.fuses.ownersProgrammed.getLsbD k = true ∧
      { t.fuses with ownersProgrammed := s.fuses.ownersProgrammed, ownerDigests := s.fuses.ownerDigests } = s.fuses ∧
      tabGet (fun _ => []) t.fuses.ownerDigests k = Config.sha512 (w.bytes.drop 4) ∧
      ∀ j, j ≠ k → tabGet (fun _ => []) t.fuses.ownerDigests j = tabGet (fun _ => []) s.fuses.ownerDigests j) ∧
  (∀ (w : Wr) (k : Nat) (s : State), Accepted objOwnerKeyRevoke (actOwnerKeyRevoke s.fuses) w s.dev →
    k = objOwnerKeyRevoke.num w →
    ∃ t, exec (.ownerKeyRevoke w) s = .next t ∧ t.pending = s.pending ∧ t.dev.core = s.dev.core ∧
      t.dev.regs = s.dev.regs ∧
      t.fuses = { s.fuses with ownersRevoked := s.fuses.ownersRevoked ||| BitVec.ofNat 4 (2 ^ k) } ∧
      (∀ n, n < 10 → 2 ≤ (s.dev.slot n).state → (s.dev.slot n).header.signer = k → (t.dev.slot n).state = 3) ∧
      (∀ n, n < 10 → (s.dev.slot n).header.signer ≠ k → t.dev.slot n = s.dev.slot n) ∧
      ∀ p, p < 3 → (t.dev.session p).role = (if (s.dev.session p).key = k then none else (s.dev.session p).role)) ∧
  (∀ (w : Wr) (v : Nat) (s : State), Accepted objVersionRaise (actVersionRaise s.fuses) w s.dev → v = objVersionRaise.num w →
    ∃ t, exec (.versionRaise w) s = .next t ∧ t.pending = s.pending ∧ { t.dev with nv := s.dev.nv } = s.dev ∧
      t.fuses = { s.fuses with versionMin := v } ∧ s.fuses.versionMin < v ∧ v ≤ 64 ∧
      ∀ n, n < 10 →
        (2 ≤ (s.dev.slot n).state ∧ (s.dev.slot n).header.securityVersion < v →
          t.dev.slot n = { s.dev.slot n with state := 4 }) ∧
        (¬(2 ≤ (s.dev.slot n).state ∧ (s.dev.slot n).header.securityVersion < v) → t.dev.slot n = s.dev.slot n))

/-- SESSION_REQUEST, SESSION_RESPONSE, SESSION_END, SESSION_TIMEOUT (R369 to R373), ATTEST_REQUEST, ATTEST_COMPLETE (R380, R381). -/
def Obligations.SessionsAndAttestation : Prop :=
  (∀ (p : Fin 3) (w : Wr) (s : State), Accepted objSessionRequest (actSessionRequest p.val) w s.dev →
    ∃ t, exec (.sessionRequest p w) s = .next t ∧ Kept s t ∧ t.dev.core = s.dev.core ∧
      t.dev.session p.val = { s.dev.session p.val with
        pending := true, asked := objSessionRequest.num w
        challenge := leBytes 32 (Config.freeBits 256 s.dev.freeCtr).toNat } ∧
      (∀ k, k ≠ p.val → t.dev.session k = s.dev.session k) ∧ t.dev.freeCtr = s.dev.freeCtr + 1 ∧
      RegsKept (regsOf (sessionIdx p.val) [1]) s.dev t.dev ∧
      bits (t.dev.rd (sessionIdx p.val) 1) 31 16 = nextSeq (bits (s.dev.rd (sessionIdx p.val) 1) 31 16) ∧
      sessionNo w.path = p.val) ∧
  (∀ (p : Fin 3) (w : Wr) (x : Session) (s : State), Accepted objResponse (actSessionResponse s.fuses p.val) w s.dev →
    x = s.dev.session p.val →
    (responseOk s.fuses s.dev p.val w.bytes = true →
      ∃ t, exec (.sessionResponse p w) s = .next t ∧ Kept s t ∧ { t.dev with sec := s.dev.sec } = s.dev ∧
        t.dev.session p.val = { x with pending := false, role := some x.asked, key := leAt w.bytes 0 1 } ∧
        x.pending = true ∧ ∀ k, k ≠ p.val → t.dev.session k = s.dev.session k) ∧
    (responseOk s.fuses s.dev p.val w.bytes = false →
      ∃ t, exec (.sessionResponse p w) s = .next t ∧ Kept s t ∧ RegsKept reportReg s.dev t.dev ∧
        t.dev.session p.val = { x with pending := false, failedAt := some s.dev.core.time } ∧
        (∀ k, k ≠ p.val → t.dev.session k = s.dev.session k) ∧
        ∃ e ∈ t.dev.nv.log, e.reason = 0x0211 ∧ e.inst = sessionIdx p.val)) ∧
  (∀ (p : Fin 3) (w : Wr) (s : State), Accepted objSessionEnd (actSessionEnd p.val) w s.dev →
    ∃ t, exec (.sessionEnd p w) s = .next t ∧ Kept s t ∧ { t.dev with sec := s.dev.sec } = s.dev ∧
      t.dev.session p.val = { s.dev.session p.val with role := none } ∧
      ∀ k, k ≠ p.val → t.dev.session k = s.dev.session k) ∧
  (∀ (p : Fin 3) (r : Nat) (s : State), s.dev.thimble = true → (s.dev.session p.val).role = some r →
    ∃ t, exec (.sessionTimeout p) s = .next t ∧ Kept s t ∧ t.dev.core = s.dev.core ∧ RegsKept reportReg s.dev t.dev ∧
      t.dev.session p.val = { s.dev.session p.val with role := none } ∧
      (∀ k, k ≠ p.val → t.dev.session k = s.dev.session k) ∧
      ∃ e ∈ t.dev.nv.log, e.reason = 0x0213 ∧ e.inst = sessionIdx p.val) ∧
  (∀ (w : Wr) (s : State), Accepted objAttestRequest (actAttestRequest s.fuses) w s.dev →
    ∃ t, exec (.attestRequest w) s = .next t ∧ Kept s t ∧
      t.dev.sec = { s.dev.sec with attest := some (attestFields s.fuses s.dev w.bytes) } ∧
      { t.dev with regs := s.dev.regs, sec := s.dev.sec } = s.dev ∧ RegsKept (regsOf 0x2220 [1, 3]) s.dev t.dev ∧
      bit (t.dev.rd 0x2220 1) 15 = true ∧ t.dev.rd 0x2220 3 = word 0) ∧
  (∀ (l : List Byte) (s : State), s.dev.sec.attest = some l →
    ∃ t, exec .attestComplete s = .next t ∧ Kept s t ∧ t.dev.sec = { s.dev.sec with attest := none } ∧
      t.dev.bytesOf 0x2221 0 = l ++ reportSignature s.fuses s.dev l ∧
      (s.fuses.identityKilled = false → reportSignature s.fuses s.dev l = Config.ecdsaSign 0 (Config.sha512 l)) ∧
      { t.dev with regs := s.dev.regs, sec := s.dev.sec, strs := s.dev.strs, freeCtr := s.dev.freeCtr } = s.dev ∧
      RegsKept (regsOf 0x2220 [1]) s.dev t.dev ∧ bit (t.dev.rd 0x2220 1) 15 = false ∧ bit (t.dev.rd 0x2220 1) 14 = true ∧
      bits (t.dev.rd 0x2220 1) 31 16 = nextSeq (bits (s.dev.rd 0x2220 1) 31 16))

/-- LC_REQUEST, LC_TRANSITION_COMPLETE (R375 to R377), TAMPER_EVENT (R382), TAMPER_CONFIG_WRITE, BATTERY_STORE_LOSS (R383). -/
def Obligations.LifeCycleAndTamper : Prop :=
  (∀ (w : Wr) (s : State), Accepted objLcRequest (actLcRequest s.fuses) w s.dev →
    ∃ t, exec (.lcRequest w) s = .next t ∧ t.pending = s.pending ∧
      t.fuses = { s.fuses with lcBegin := some (bits (objLcRequest.valueOf w) 31 24) } ∧
      { t.dev with regs := s.dev.regs } = s.dev ∧ RegsKept (regsOf 0x2200 [1, 3]) s.dev t.dev ∧
      bit (t.dev.rd 0x2200 1) 7 = true ∧ t.dev.rd 0x2200 3 = word 0 ∧ s.dev.core.state = .unconfigured ∧
      bits (objLcRequest.valueOf w) 23 0 = s.fuses.uid % 2 ^ 24) ∧
  (∀ (n : Nat) (s : State), s.fuses.lcBegin = some n → s.dev.thimble = true →
    ∃ t, exec .lcTransitionComplete s = .next t ∧ t.pending = s.pending ∧ t.fuses.lifecycle = n ∧ t.fuses.lcBegin = none ∧
      t.dev.core = s.dev.core ∧ t.dev.rd 0x2200 1 = word n ∧ (∀ p, p < 3 → (t.dev.session p).role = none) ∧
      (∃ e ∈ t.dev.nv.log, e.reason = 0x0224 ∧ e.time = s.dev.core.time) ∧
      (n = 6 → t.fuses.deviceKey = []) ∧
      (n = 5 ∨ n = 6 → t.fuses.keysRevoked = 0xF ∧ t.fuses.keyValues = [] ∧ t.fuses.ownersRevoked = 0xF ∧
        t.dev.nv.batteryKeys = [] ∧ t.dev.nv.integratorKeys = [] ∧ t.dev.nv.recovery = [] ∧
        ∀ k, k < 10 → (t.dev.slot k).state = 0 ∧ (t.dev.slot k).data = []) ∧
      (n ≤ 4 → t.fuses = { s.fuses with lifecycle := n, lcBegin := none } ∧
        t.dev.nv.batteryKeys = s.dev.nv.batteryKeys)) ∧
  (∀ (n : Fin 2) (s : State),
    (s.fuses.variantS = false ∨ bit (word s.dev.nv.tamperConfig) n.val = false → exec (.tamperEvent n) s = .next s) ∧
    (s.fuses.variantS = true → bit (word s.dev.nv.tamperConfig) n.val = true → s.dev.env.vbat = true ∨ s.dev.vaux = true →
      ∃ t, exec (.tamperEvent n) s = .next t ∧ Kept s t ∧ t.dev.nv.batteryKeys = [] ∧ t.dev.nv.tampered = true ∧
        t.dev.nv.tamperUnacked = true ∧ t.dev.nv.tamperCount = (s.dev.nv.tamperCount + 1) % 2 ^ 32 ∧
        t.dev.nv.tamperSeq = nextSeq s.dev.nv.tamperSeq ∧ t.dev.nv.tamperMask.testBit n.val = true ∧
        (s.dev.thimble = false → t.dev.core = s.dev.core ∧ t.dev.nv.tamperLate = s.dev.nv.tamperLate ++ [n.val]) ∧
        (s.dev.thimble = true → (∀ p, p < 3 → (t.dev.session p).role = none) ∧
          (∃ e ∈ t.dev.nv.log, e.reason = 0x0240 ∧ e.inst = 0x2230) ∧
          (bit (word s.dev.nv.tamperConfig) 7 = false → t.dev.core.state = s.dev.core.state) ∧
          (bit (word s.dev.nv.tamperConfig) 7 = true → s.dev.canTrip = true →
            t.dev.core.state = .safe ∧ t.dev.rdN 0x2000 3 = 0x0240)))) ∧
  (∀ (w : Wr) (s : State), Accepted objTamperConfig (actTamperConfig s.fuses) w s.dev →
    ∃ t, exec (.tamperConfigWrite w) s = .next t ∧ Kept s t ∧
      t.dev = { s.dev with nv := { s.dev.nv with tamperConfig := objTamperConfig.num w } } ∧ s.fuses.variantS = true ∧
      (s.dev.lc = 4 → ∀ n, n < 2 → s.dev.nv.tamperConfig.testBit n = true → t.dev.nv.tamperConfig.testBit n = true)) ∧
  (∀ s : State,
    (s.fuses.variantS = false → exec .batteryStoreLoss s = .next s) ∧
    (s.fuses.variantS = true → s.dev.vaux = false →
      ∃ t, exec .batteryStoreLoss s = .next t ∧ Kept s t ∧
        t.dev = { s.dev with
          env := { s.dev.env with vbat := false }, nv := { s.dev.nv with batteryKeys := [], vbatLate := true } }))

/-- FW_OPEN, FW_DATA, FW_VERIFY, FW_VERIFY_COMPLETE, FW_ACTIVATE, FW_CONFIRM, FW_RAISE_VERSION, FW_ABANDON (R384 to R386). -/
def Obligations.FirmwareCommands : Prop :=
  (∀ (path : Transport) (fails : Bool) (c : Instr) (cmd : Nat) (s : State), Accepted objFwCommand (actFwCommand s.fuses) (fwWr path cmd) s.dev →
    (c = .fwOpen path ∧ cmd = 1) ∨ (c = .fwVerify ⟨path, fails⟩ ∧ cmd = 2) ∨ (c = .fwActivate path ∧ cmd = 3) ∨
      (c = .fwConfirm path ∧ cmd = 4) ∨ (c = .fwRaiseVersion path ∧ cmd = 5) ∨ (c = .fwAbandon path ∧ cmd = 6) →
    ∃ t, exec c s = .next t ∧ t.pending = s.pending ∧ t.dev.core = s.dev.core ∧
      t.fuses = (if cmd = 5 then { s.fuses with fwMin := s.dev.runningFw.security } else s.fuses) ∧
      (cmd = 5 → s.fuses.fwMin < s.dev.runningFw.security) ∧ RegsKept (regsOf 0x2160 [1, 4]) s.dev t.dev ∧
      (cmd ≠ 2 → t.dev.rd 0x2160 4 = word 0 ∧ bit (t.dev.rd 0x2160 1) 14 = true ∧
        bits (t.dev.rd 0x2160 1) 31 16 = nextSeq (bits (s.dev.rd 0x2160 1) 31 16)) ∧
      (cmd = 1 → t.dev.sec.fwOpen = some (!s.dev.sec.runningB) ∧ t.dev.fwSlot (!s.dev.sec.runningB) = { state := 3 } ∧
        t.dev.runningFw = s.dev.runningFw) ∧
      (cmd = 2 → t.dev.sec.fwBusy = true ∧ t.dev.sec.fwUnread = fails ∧ bit (t.dev.rd 0x2160 1) 15 = true ∧ t.dev.nv = s.dev.nv) ∧
      (cmd = 3 → t.dev.nv = { s.dev.nv with activeB := !s.dev.sec.runningB, trial := true } ∧
        (s.dev.fwSlot (!s.dev.sec.runningB)).state = 1) ∧
      (cmd = 4 → t.dev.nv = { s.dev.nv with activeB := s.dev.sec.runningB, trial := false, trialStarted := false }) ∧
      (cmd = 5 → t.dev.nv = s.dev.nv) ∧
      (cmd = 6 → ∀ b, s.dev.sec.fwOpen = some b → t.dev.sec.fwOpen = none ∧
        t.dev.fwSlot b = { s.dev.fwSlot b with state := 2 } ∧ t.dev.fwSlot (!b) = s.dev.fwSlot (!b))) ∧
  (∀ (w : Wr) (b : Bool) (s : State), Accepted objFwData actFwData w s.dev → s.dev.sec.fwOpen = some b →
    s.dev.sec.fwBusy = false →
    ∃ t, exec (.fwData w) s = .next t ∧ Kept s t ∧ t.dev.core = s.dev.core ∧ t.dev.sec = s.dev.sec ∧
      t.dev.fwSlot b = { s.dev.fwSlot b with data := ((s.dev.fwSlot b).data ++ w.bytes).take 8388609 } ∧
      t.dev.fwSlot (!b) = s.dev.fwSlot (!b)) ∧
  (∀ (b : Bool) (x : FwSlot) (s : State), s.dev.sec.fwOpen = some b → s.dev.sec.fwBusy = true →
    x = checkedFw s.fuses (s.dev.fwSlot b).data →
    ∃ t, exec .fwVerifyComplete s = .next t ∧ Kept s t ∧ t.dev.core = s.dev.core ∧ t.dev.sec.fwOpen = none ∧
      t.dev.sec.fwBusy = false ∧ t.dev.fwSlot b = (if s.dev.sec.fwUnread then { x with state := 2 } else x) ∧
      t.dev.fwSlot (!b) = s.dev.fwSlot (!b) ∧
      t.dev.rd 0x2160 4 = word (if s.dev.sec.fwUnread then 0x0263 else fwFault s.fuses (s.dev.fwSlot b).data) ∧
      bit (t.dev.rd 0x2160 1) 14 = true ∧ bit (t.dev.rd 0x2160 1) 15 = false)

/-- SPOOL_START (R438), SPOOL_DOORBELL (R435), DESCRIPTOR_FETCH (R437), BURST_GRANT (R440), BEAT_COMPLETE (R433, R439), BUS_ERROR of a
fetch (R442), SPOOL_ABORT (R445). -/
def Obligations.SpoolChannels : Prop :=
  (∀ (c : Fin 16) (path : Transport) (index : BitVec 16) (s : State),
    Accepted objSpoolCommand (actSpoolCommand c.val) ⟨path, 4, word (0x01000000 + index.toNat), [], 0⟩ s.dev →
    ∃ t, exec (.spoolStart c path index) s = .next t ∧ Kept s t ∧ index.toNat < s.dev.spRing c.val ∧
      (s.dev.chan c.val).state ≠ .running ∧ (t.dev.chan c.val).state = .running ∧ t.dev.spHead c.val = index.toNat ∧
      (t.dev.chan c.val).cur = none ∧ (t.dev.chan c.val).fetched = none ∧ (t.dev.chan c.val).written = 0 ∧
      (∀ k, k ≠ c.val → t.dev.chan k = s.dev.chan k) ∧ RegsKept (regsOf (0x3400 + c.val) [8]) s.dev t.dev ∧
      { t.dev with regs := s.dev.regs, spool := s.dev.spool } = s.dev) ∧
  (∀ (c : Fin 16) (page : Option Nat) (w x : Wr) (s : State),
    ((page = none ∧ x = w) ∨ (page = some 0 ∧ w.len = 4 ∧ bits w.value 31 16 = 0 ∧ x = { w with path := .window })) →
    Accepted objSpoolTail (actSpoolReg c.val 9) x s.dev →
    ∃ t, exec (.spoolDoorbell c page w) s = .next t ∧ Kept s t ∧ { t.dev with regs := s.dev.regs } = s.dev ∧
      t.dev.spTail c.val = bits w.value 15 0 ∧ t.dev.spTail c.val < s.dev.spRing c.val ∧
      RegsKept (regsOf (0x3400 + c.val) [9]) s.dev t.dev) ∧
  (∀ (c : Fin 16) (off : Nat) (w : Wr) (s : State), s.dev.dictionary = true → off ≠ 0 ∨ w.len ≠ 4 →
    ∃ t, exec (.spoolDoorbell c (some off) w) s = .next t ∧ Kept s t ∧ { t.dev with regs := s.dev.regs } = s.dev ∧
      RegsKept (regsOf 0x2050 [recordSub .window]) s.dev t.dev ∧
      bits (t.dev.rd 0x2050 (recordSub .window)) 47 32 = 0x0B04) ∧
  (∀ (c : Fin 16) (raw : BitVec 256) (s : State), (s.dev.chan c.val).state = .running → (s.dev.chan c.val).cur = none →
    s.dev.spHead c.val ≠ s.dev.spTail c.val → Descr.own { raw := raw } = true →
    s.dev.descrInvalid c.val { raw := raw } = false →
    ∃ t, exec (.descriptorFetch c raw) s = .next t ∧ Kept s t ∧ (t.dev.chan c.val).cur = some { raw := raw } ∧
      (t.dev.chan c.val).issued = 0 ∧ (t.dev.chan c.val).done = 0 ∧ (t.dev.chan c.val).moved = 0 ∧
      (t.dev.chan c.val).state = .running ∧ (∀ k, k ≠ c.val → t.dev.chan k = s.dev.chan k) ∧
      { t.dev with spool := s.dev.spool } = s.dev) ∧
  (∀ (fromHost : Bool) (bad : Option (Fin 64)) (c n : Nat) (k : Descr) (d : Dev) (s : State),
    d = forEach 16 (fun c e => (e.pace c).markerEnd c) s.dev → d.arbitrate fromHost = some c → n = d.burstReady c fromHost →
    (d.chan c).cur = some k → fromHost = true ∨ endKind (d.spCfg c) = 4 →
    ∃ t, exec (.burstGrant ⟨fromHost, bad⟩) s = .next t ∧ Kept s t ∧ 0 < n ∧
      { t.dev with spool := d.spool, rr := d.rr, out := d.out } = d ∧
      tabGet (fun _ => 15) t.dev.rr (4 * fromHost.toNat + bits (d.spCfg c) 28 27) = c ∧
      (t.dev.chan c).issued = (d.chan c).issued + n ∧ (t.dev.chan c).done = (d.chan c).done ∧
      (∀ j, j ≠ c → t.dev.chan j = d.chan j) ∧
      (fromHost = true → t.dev.out = .hostRead (k.host + 64 * (d.chan c).issued) (64 * n) :: d.out) ∧
      (fromHost = false → t.dev.out = d.out ∧ (t.dev.chan c).buf.length = (d.chan c).buf.length + n)) ∧
  (∀ (c : Fin 16) (data : BitVec 512) (k : Descr) (x : SpoolSt) (e : Dev) (s : State), x = s.dev.chan c.val → x.cur = some k →
    x.done + 1 < x.issued → k.fromHost = true → endKind (s.dev.spCfg c.val) = 2 →
    s.dev.lockedBlock k = false → s.dev.liningAccess (k.device / 1024) ≠ 1 →
    e = s.dev.liningWrite (k.device / 1024) (k.device % 1024 + 8 * x.done) (leBytes 64 data.toNat) →
    ∃ t, exec (.beatComplete c data) s = .next t ∧ Kept s t ∧ t.dev.blocks = e.blocks ∧
      t.dev.chan c.val = { x with done := x.done + 1, moved := x.moved + 64 } ∧
      (∀ j, j ≠ c.val → t.dev.chan j = s.dev.chan j) ∧
      t.dev.rdN (0x3400 + c.val) 0x0D = (s.dev.rdN (0x3400 + c.val) 0x0D + 64) % 2 ^ 48 ∧
      t.dev.rdN 0x3410 3 = (s.dev.rdN 0x3410 3 + 64) % 2 ^ 48 ∧
      RegsKept (fun i j => regsOf (0x3400 + c.val) [0x0D] i j || regsOf 0x3410 [3] i j) s.dev t.dev ∧
      { t.dev with regs := s.dev.regs, spool := s.dev.spool, blocks := s.dev.blocks } = s.dev) ∧
  (∀ (c : Fin 16) (data : BitVec 512) (k : Descr) (b : List Byte) (rest : List (List Byte)) (x : SpoolSt) (s : State),
    x = s.dev.chan c.val → x.cur = some k → x.buf = b :: rest → k.fromHost = false → x.done < x.issued →
    (x.done + 1 < x.issued →
      ∃ t, exec (.beatComplete c data) s = .next t ∧ Kept s t ∧
        t.dev.chan c.val = { x with done := x.done + 1, moved := x.moved + b.length, buf := rest } ∧
        (∀ j, j ≠ c.val → t.dev.chan j = s.dev.chan j) ∧ t.dev.out = .hostWrite (k.host + 64 * x.done) b :: s.dev.out ∧
        t.dev.rdN (0x3400 + c.val) 0x0D = (s.dev.rdN (0x3400 + c.val) 0x0D + b.length) % 2 ^ 48 ∧
        t.dev.rdN 0x3410 2 = (s.dev.rdN 0x3410 2 + b.length) % 2 ^ 48 ∧
        RegsKept (fun i j => regsOf (0x3400 + c.val) [0x0D] i j || regsOf 0x3410 [2] i j) s.dev t.dev ∧
        { t.dev with regs := s.dev.regs, spool := s.dev.spool, out := s.dev.out } = s.dev) ∧
    (x.done + 1 = x.issued → x.issued = k.beats → x.abort = none → x.gap = none → x.poisonAt = none → x.state = .running →
      endKind (s.dev.spCfg c.val) = 4 → x.fetched = none → x.fetchFail = none →
      ∃ t, exec (.beatComplete c data) s = .next t ∧ Kept s t ∧ (t.dev.chan c.val).cur = none ∧
        (t.dev.chan c.val).state = .running ∧ (t.dev.chan c.val).written = x.written + 1 ∧
        t.dev.spHead c.val = (if s.dev.spHead c.val + 1 < s.dev.spRing c.val then s.dev.spHead c.val + 1 else 0) % 2 ^ 64 ∧
        t.dev.rdN (0x3400 + c.val) 0x0E = (s.dev.rdN (0x3400 + c.val) 0x0E + 1) % 2 ^ 32 ∧
        t.dev.out = (if k.irq then [.msix c.val] else []) ++
          [.hostWrite (s.dev.rdN (0x3400 + c.val) 4 + 32 * s.dev.spHead c.val + 31) [0],
           .hostWrite (s.dev.rdN (0x3400 + c.val) 4 + 32 * s.dev.spHead c.val + 20)
             (leBytes 4 (x.moved + b.length) ++ leBytes 4 (2 ^ 28 + x.eop.toNat * 2 ^ 21) ++ leBytes 3 0),
           .hostWrite (k.host + 64 * x.done) b] ++ s.dev.out)) ∧
  (∀ (c : Fin 16) (cause : Fin 6) (s : State), (s.dev.chan c.val).state = .running → (s.dev.chan c.val).cur = none →
    s.dev.spHead c.val ≠ s.dev.spTail c.val → 0 < cause.val →
    ∃ t, exec (.busError c 1 cause) s = .next t ∧ Kept s t ∧ (t.dev.chan c.val).state = .halted ∧
      (∀ j, j ≠ c.val → t.dev.chan j = s.dev.chan j) ∧ t.dev.spHead c.val = s.dev.spHead c.val ∧
      t.dev.rd (0x3400 + c.val) 0x0C = word (causeReason cause.val) ∧
      t.dev.rd (0x3400 + c.val) 0x0B = word (errorInfo 1 true cause.val (s.dev.spHead c.val)) ∧
      bit (t.dev.rd (0x3400 + c.val) 1) 15 = true ∧
      ∀ a l, Output.hostWrite a l ∈ t.dev.out → Output.hostWrite a l ∈ s.dev.out) ∧
  (∀ (c : Fin 16) (path : Transport) (index : BitVec 16) (x : SpoolSt) (s : State), x = s.dev.chan c.val →
    Accepted objSpoolCommand (actSpoolCommand c.val) ⟨path, 4, word (0x02000000 + index.toNat), [], 0⟩ s.dev →
    (index.toNat = s.dev.spHead c.val → s.dev.wasWritten c.val index.toNat = false → x.issued = x.done →
      ∃ t, exec (.spoolAbort c path index) s = .next t ∧ Kept s t ∧ (t.dev.chan c.val).state = .stopped ∧
        (t.dev.chan c.val).cur = none ∧ (t.dev.chan c.val).fetched = none ∧
        (∀ j, j ≠ c.val → t.dev.chan j = s.dev.chan j) ∧ bits (t.dev.rd (0x3400 + c.val) 1) 10 8 = 1 ∧
        bit (t.dev.rd (0x3400 + c.val) 1) 15 = true ∧
        bits (t.dev.rd (0x3400 + c.val) 1) 31 16 = nextSeq (bits (s.dev.rd (0x3400 + c.val) 1) 31 16) ∧
        (s.dev.spHead c.val = s.dev.spTail c.val ∧ x.cur = none → t.dev.out = s.dev.out ∧
          t.dev.spHead c.val = s.dev.spHead c.val) ∧
        (¬(s.dev.spHead c.val = s.dev.spTail c.val ∧ x.cur = none) →
          t.dev.out = [.msix c.val, .hostWrite (s.dev.rdN (0x3400 + c.val) 4 + 32 * s.dev.spHead c.val + 31) [0],
            .hostWrite (s.dev.rdN (0x3400 + c.val) 4 + 32 * s.dev.spHead c.val + 20)
              (leBytes 4 x.moved ++ leBytes 4 (x.status 3 0 false false) ++ leBytes 3 (x.poisonAt.getD 0))] ++ s.dev.out) ∧
        RegsKept (fun i j => regsOf (0x3400 + c.val) [1, 8, 0x0A, 0x0B, 0x0C, 0x0E] i j || regsOf 0x3410 [4] i j) s.dev t.dev ∧
        { t.dev with regs := s.dev.regs, spool := s.dev.spool, out := s.dev.out, freeCtr := s.dev.freeCtr } = s.dev) ∧
    (index.toNat = s.dev.spHead c.val → s.dev.wasWritten c.val index.toNat = false → x.issued ≠ x.done →
      ∃ t, exec (.spoolAbort c path index) s = .next t ∧ Kept s t ∧ t.dev.chan c.val = { x with abort := some 1 } ∧
        (∀ j, j ≠ c.val → t.dev.chan j = s.dev.chan j) ∧ { t.dev with spool := s.dev.spool } = s.dev) ∧
    (s.dev.wasWritten c.val index.toNat = true →
      ∃ t, exec (.spoolAbort c path index) s = .next t ∧ Kept s t ∧ t.dev.spool = s.dev.spool ∧
        bits (t.dev.rd (0x3400 + c.val) 1) 10 8 = 2 ∧ bit (t.dev.rd (0x3400 + c.val) 1) 15 = true ∧
        bits (t.dev.rd (0x3400 + c.val) 1) 31 16 = nextSeq (bits (s.dev.rd (0x3400 + c.val) 1) 31 16) ∧
        RegsKept (regsOf (0x3400 + c.val) [1, 0x0A, 0x0B, 0x0C]) s.dev t.dev ∧
        { t.dev with regs := s.dev.regs, freeCtr := s.dev.freeCtr } = s.dev))

/-- BUS_ERROR of the final beat (R444, with the effects of R443 that it names). -/
def Obligations.FinalBeatFailureShowsError : Prop :=
  ∀ (c : Fin 16) (cause : Fin 6) (k : Descr) (x : SpoolSt) (s : State), x = s.dev.chan c.val → x.state = .running →
    x.cur = some k → x.issued = k.beats → x.done + 1 = k.beats → k.length % 64 = 0 → x.moved = 64 * x.done →
    (∀ g, x.gap = some g → g.1 < 65536) → 0 < cause.val →
    ∃ t st l, exec (.busError c 2 cause) s = .next t ∧ Kept s t ∧ (t.dev.chan c.val).state = .halted ∧
      (t.dev.chan c.val).cur = none ∧ (t.dev.chan c.val).fetched = none ∧
      (∀ j, j ≠ c.val → t.dev.chan j = s.dev.chan j) ∧
      t.dev.out = l ++ [.msix c.val, .hostWrite (s.dev.rdN (0x3400 + c.val) 4 + 32 * s.dev.spHead c.val + 31) [0],
        .hostWrite (s.dev.rdN (0x3400 + c.val) 4 + 32 * s.dev.spHead c.val + 20)
          (leBytes 4 (k.length - 64) ++ leBytes 4 st ++ leBytes 3 (x.poisonAt.getD 0))] ++ s.dev.out ∧
      (∀ a b, Output.hostWrite a b ∉ l) ∧ st / 2 ^ 28 = 2 ∧ st / 2 ^ 24 % 16 = cause.val ∧
      t.dev.rd (0x3400 + c.val) 0x0A = word (k.host + 64 * x.done) ∧
      t.dev.rd (0x3400 + c.val) 0x0B = word (errorInfo 2 k.fromHost cause.val (s.dev.spHead c.val)) ∧
      t.dev.rd (0x3400 + c.val) 0x0C = word (causeReason cause.val) ∧ bit (t.dev.rd (0x3400 + c.val) 1) 15 = true ∧
      bits (t.dev.rd (0x3400 + c.val) 1) 31 16 = nextSeq (bits (s.dev.rd (0x3400 + c.val) 1) 31 16) ∧
      (∀ raw, exec (.descriptorFetch c raw) t = .next t)

/-- TALLY_EVENT and the refusal of TALLY_CONFIG (R453). -/
def Obligations.TallyCounts : Prop :=
  (∀ (n : Fin 1024) (given level : Bool) (cfg : Word) (adds : Bool) (s : State), s.dev.thimble = true →
    s.dev.chained n.val = false → cfg = s.dev.tallyCfg n.val → bits cfg 23 16 ≠ 0 →
    level = s.dev.tallyLevel cfg given →
    (bits cfg 29 28 = 0 ∧ levelSource cfg = false ∧ adds = (level || bits cfg 23 16 != 7)) ∨
      (bits cfg 29 28 = 0 ∧ levelSource cfg = true ∧ adds = (level && !tabGet (fun _ => false) s.dev.tally.levels n.val)) ∨
      (bits cfg 29 28 = 1 ∧ levelSource cfg = true ∧ adds = level) →
    ∃ t, exec (.tallyEvent n given) s = .next t ∧ Kept s t ∧
      t.dev.rdN (tallyIdx n.val) 4 =
        (if adds then (s.dev.rdN (tallyIdx n.val) 4 + 1) % 2 ^ 48 else s.dev.rdN (tallyIdx n.val) 4) ∧
      (levelSource cfg = true → tabGet (fun _ => false) t.dev.tally.levels n.val = level) ∧
      (bits cfg 23 16 = 1 → level = !s.dev.islandOn (hemIsland (bits cfg 15 4))) ∧
      (bits cfg 23 16 = 2 → level = decide (s.dev.rdN (0x4400 + s.dev.bobbinHead (bits cfg 15 4)) 4 ≤
        (s.dev.bobbin (s.dev.bobbinHead (bits cfg 15 4))).words.length)) ∧
      (bits cfg 23 16 = 6 → level = given) ∧
      (bits cfg 23 16 = 7 → level = (s.dev.bank (bits cfg 15 4 / 16)).shown.getLsbD (bits cfg 15 4 % 16)) ∧
      (bits cfg 23 16 = 8 → level = s.dev.spoolWaiting (bits cfg 15 4)) ∧
      (bits cfg 23 16 = 9 → level = (decide (bits cfg 3 0 = 0) || bit (s.dev.rd 0x2030 1) 14)) ∧
      (s.dev.chained (n.val + 1) = false → ∀ m, m ≠ n.val → t.dev.rdN (tallyIdx m) 4 = s.dev.rdN (tallyIdx m) 4)) ∧
  (∀ (n : Fin 1024) (w : Wr) (v : Word) (s : State), s.dev.dictionary = true → v = objTallyConfig.valueOf w →
    objTallyConfig.early ((actTallyConfig n.val).gate s.dev w) (s.dev.roleOf w.path) w = 0 → objTallyConfig.rangeOk w = true →
    sourceExists v = true → bits v 25 24 = 0 → bits v 29 28 = 1 → levelSource v = false → bits v 23 16 ≠ 0 →
    ∃ t, exec (.tallyConfigWrite n w) s = .next t ∧ Kept s t ∧ { t.dev with regs := s.dev.regs } = s.dev ∧
      RegsKept (regsOf 0x2050 [recordSub w.path]) s.dev t.dev ∧
      bits (t.dev.rd 0x2050 (recordSub w.path)) 47 32 = 0x0B50)

/-- TALLY_CLEAR, TALLY_CLEAR_RANGE (R455, R457), TALLY_CONFIG_WRITE (R455, R458). -/
def Obligations.TallyClearsAndConfig : Prop :=
  (∀ (n : Fin 1024) (w : Wr) (s : State), Accepted objTallyClear (actTallyClear n.val) w s.dev →
    ∃ t, exec (.tallyClear n w) s = .next t ∧ Kept s t ∧ { t.dev with regs := s.dev.regs } = s.dev ∧
      t.dev.rd (tallyIdx n.val) 4 = word 0 ∧
      t.dev.rd (tallyIdx n.val) 1 = setBit (setBit (s.dev.rd (tallyIdx n.val) 1) 14 false) 12 true ∧
      RegsKept (regsOf (tallyIdx n.val) [1, 4]) s.dev t.dev) ∧
  (∀ (w : Wr) (lo hi : Nat) (s : State), Accepted objTallyClearRange actTallyClearRange w s.dev →
    lo = bits (objTallyClearRange.valueOf w) 9 0 → hi = bits (objTallyClearRange.valueOf w) 25 16 →
    ∃ t, exec (.tallyClearRange w) s = .next t ∧ Kept s t ∧ { t.dev with regs := s.dev.regs } = s.dev ∧ lo ≤ hi ∧
      (∀ m, lo ≤ m → m ≤ hi → t.dev.rd (tallyIdx m) 4 = word 0 ∧
        t.dev.rd (tallyIdx m) 1 = setBit (setBit (s.dev.rd (tallyIdx m) 1) 14 false) 12 true) ∧
      RegsKept (fun i j => decide (tallyIdx lo ≤ i) && decide (i ≤ tallyIdx hi) && (j == 1 || j == 4)) s.dev t.dev) ∧
  (∀ (n : Fin 1024) (w : Wr) (v old : Word) (s : State), Accepted objTallyConfig (actTallyConfig n.val) w s.dev →
    v = objTallyConfig.valueOf w → old = s.dev.tallyCfg n.val →
    ∃ t, exec (.tallyConfigWrite n w) s = .next t ∧ Kept s t ∧ t.dev.tallyCfg n.val = v ∧
      bit (t.dev.rd (tallyIdx n.val) 1) 13 = bit v 30 ∧ RegsKept (regsOf (tallyIdx n.val) [1, 3, 4]) s.dev t.dev ∧
      (∀ m, m ≠ n.val → tabGet (fun _ => false) t.dev.tally.levels m = tabGet (fun _ => false) s.dev.tally.levels m) ∧
      { t.dev with regs := s.dev.regs, tally := s.dev.tally } = s.dev ∧
      (bits v 23 0 = bits old 23 0 → bits v 30 28 = bits old 30 28 →
        t.dev.rd (tallyIdx n.val) 4 = s.dev.rd (tallyIdx n.val) 4 ∧ t.dev.tally = s.dev.tally ∧
        t.dev.rd (tallyIdx n.val) 1 = setBit (s.dev.rd (tallyIdx n.val) 1) 13 (bit v 30)) ∧
      (bits v 23 0 ≠ bits old 23 0 ∨ bits v 30 28 ≠ bits old 30 28 →
        t.dev.rd (tallyIdx n.val) 4 = word 0 ∧ bit (t.dev.rd (tallyIdx n.val) 1) 14 = false ∧
        bit (t.dev.rd (tallyIdx n.val) 1) 12 = true ∧ tabGet (fun _ => false) t.dev.tally.levels n.val = false))

/-- Every record latched (R462), DUMP_REQUEST and DUMP_PERIOD_EXPIRY. -/
def Obligations.DumpRecordsWholeOrNotAtAll : Prop :=
  (∀ (d e : Dev) (time trigger : Nat) (r : List Byte), d.thimble = true → d.tally.lastDump ≠ some time →
    r = d.dumpRecord time trigger → e = d.latchDump time trigger →
    e.bytesOf 0x3502 0 = r ∧ bits (e.rd 0x3501 1) 31 16 = nextSeq (bits (d.rd 0x3501 1) 31 16) ∧
    bit (e.rd 0x3501 1) 15 = true ∧ e.tally.dumps = d.tally.dumps + 1 ∧ e.tally.lastDump = some time ∧
    e.core = d.core ∧
    (d.dumpFill + r.length ≤ 32768 → e.tally.buffer = d.tally.buffer ++ [r] ∧ e.rd 0x3501 6 = d.rd 0x3501 6 ∧
      e.tr = d.tr ∧ e.out = d.out ∧ RegsKept (regsOf 0x3501 [1]) d e) ∧
    (32768 < d.dumpFill + r.length → e.tally.buffer = d.tally.buffer ∧
      e.rdN 0x3501 6 = (d.rdN 0x3501 6 + 1) % 2 ^ 32 ∧ e.tally.sent53 = true ∧
      RegsKept (fun i j => reportReg i j || regsOf 0x3501 [1, 6] i j) d e ∧
      (d.tally.sent53 = true → e.tr = d.tr ∧ e.out = d.out ∧ RegsKept (regsOf 0x3501 [1, 6]) d e) ∧
      (d.tally.sent53 = false → bit (d.rd 0x2040 0x0B) 14 = true →
        ∃ x ∈ e.tr.ring, x.reason = 0x0B53 ∧ x.time = d.core.time ∧ x.number = (d.rdN 0x2041 1 + 1) % 2 ^ 32))) ∧
  (∀ (w : Wr) (s : State), Accepted objDumpRequest actDumpRequest w s.dev →
    exec (.dumpRequest w) s = .next { s with dev := s.dev.latchDump s.dev.core.time 3 }) ∧
  (∀ s : State, s.dev.thimble = true →
    (s.dev.dumpMode = 1 → s.dev.core.time % (s.dev.rdN 0x3501 4 * 1000) = 0 →
      exec .dumpPeriodExpiry s = .next { s with dev := s.dev.latchDump s.dev.core.time 1 }) ∧
    (s.dev.dumpMode ≠ 1 → exec .dumpPeriodExpiry s = .next s))

/-- SWATCH_REQUEST_LOCAL, SWATCH_REQUEST_CASCADE (R467, R468, R304), SWATCH_LATCH (R467 to R472, R474), SWATCH_COMPLETE (R473). -/
def Obligations.Swatches : Prop :=
  (∀ (path : Transport) (s : State), Accepted objSwatchRequest actSwatchRequest ⟨path, 1, word 1, [], 0⟩ s.dev →
    bit (s.dev.rd 0x3600 4) 6 = false →
    (s.dev.swatch.det = none → s.dev.swatch.busy = none →
      bit (s.dev.rd 0x3600 4) 7 = false ∨ s.dev.swatch.number ≤ s.dev.rdN 0x3600 8 + 3 →
      ∃ t, exec (.swatchRequestLocal path) s = .next t ∧ Kept s t ∧
        t.dev.swatch = { s.dev.swatch with det := some {
          triggers := 1, details := [(0, 0)], detect := s.dev.core.time, latch := s.dev.core.time + 100, cascade := 0
          late := false } } ∧
        bit (t.dev.rd 0x3600 1) 14 = true ∧ RegsKept (regsOf 0x3600 [1]) s.dev t.dev ∧
        { t.dev with regs := s.dev.regs, swatch := s.dev.swatch } = s.dev) ∧
    (s.dev.swatch.det = none → s.dev.swatch.busy ≠ none →
      ∃ t, exec (.swatchRequestLocal path) s = .next t ∧ Kept s t ∧
        t.dev.rdN 0x3600 6 = (s.dev.rdN 0x3600 6 + 1) % 2 ^ 32 ∧
        t.dev.swatch = { s.dev.swatch with sent61 := true } ∧ t.dev.core = s.dev.core ∧
        RegsKept (fun i j => reportReg i j || regsOf 0x3600 [6] i j) s.dev t.dev) ∧
    (∀ x, s.dev.swatch.det = some x → x.detect / 5 = s.dev.core.time / 5 →
      ∃ t, exec (.swatchRequestLocal path) s = .next t ∧ Kept s t ∧
        t.dev = { s.dev with swatch := { s.dev.swatch with det := some { x with
          triggers := x.triggers ||| 1, details := x.details ++ [(0, 0)] } } })) ∧
  (∀ (path : Transport) (s : State), Accepted objSwatchRequest actSwatchRequest ⟨path, 1, word 2, [], 0⟩ s.dev →
    s.dev.established = true ∧
    (s.dev.isMaster = false →
      ∃ t, exec (.swatchRequestCascade path) s = .next t ∧ Kept s t ∧
        t.dev = { s.dev with
          swatch := { s.dev.swatch with
            routed := s.dev.swatch.routed ||| 1, routedDetails := s.dev.swatch.routedDetails ++ [(0, 0)] }
          out := (match s.dev.cellPort true with
            | some east => .cell east {
                type := 7, source := s.dev.core.cascadeId, dest := s.dev.rdN 0x2400 9
                body := BitVec.ofNat 256 (3 * 2 ^ 64 + s.dev.core.time % 2 ^ 64) } :: s.dev.out
            | none => s.dev.out) }) ∧
    (∀ n, s.dev.isMaster = true → s.dev.swatch.det = none → s.dev.swatch.busy = none → bit (s.dev.rd 0x3600 4) 7 = false →
      n = (s.dev.cascade.swatchNumber + 1) % 2 ^ 32 →
      ∃ t, exec (.swatchRequestCascade path) s = .next t ∧ Kept s t ∧
        t.dev.swatch = { s.dev.swatch with routed := 0, routedDetails := [], det := some {
          triggers := 64 + (s.dev.swatch.routed ||| 1), details := s.dev.swatch.routedDetails ++ [(0, 0)], detect := s.dev.core.time
          latch := s.dev.core.time + s.dev.notchLead, cascade := n, late := false } } ∧
        t.dev.cascade = { s.dev.cascade with swatchNumber := n } ∧
        bit (t.dev.rd 0x3600 1) 14 = true ∧ RegsKept (regsOf 0x3600 [1]) s.dev t.dev ∧
        { t.dev with regs := s.dev.regs, swatch := s.dev.swatch, cascade := s.dev.cascade, out := s.dev.out } = s.dev ∧
        ∃ c : Cell, t.dev.out = ((s.dev.sendCell true c).sendCell false c).out ∧ c.type = 3 ∧ c.dest = 16 ∧
          c.source = s.dev.core.cascadeId ∧ c.crcOk = true ∧
          c.body = BitVec.ofNat 256 (n * 2 ^ 64 + (s.dev.core.time + s.dev.notchLead)))) ∧
  (∀ (views : List PanelView) (x : SwatchDet) (n : Nat) (s : State), s.dev.thimble = true → s.dev.swatch.det = some x →
    x.latch ≤ s.dev.core.time → n = s.dev.swatch.number + 1 →
    ∃ t slot, exec (.swatchLatch views) s = .next t ∧ Kept s t ∧
      t.dev.swatch = { s.dev.swatch with det := none, busy := some slot } ∧ slot.number = n % 2 ^ 32 ∧
      slot.time = x.latch ∧ slot.triggers = x.triggers ∧
      (∃ z, slot.data = s.dev.swatchBody n x views ++ [(0x7FFC0, z)] ∧ z.length = 64) ∧
      t.dev.rd (0x3601 + s.dev.swatch.number % 4) 1 = word 0 ∧
      RegsKept (regsOf (0x3601 + s.dev.swatch.number % 4) [1]) s.dev t.dev ∧
      { t.dev with regs := s.dev.regs, swatch := s.dev.swatch } = s.dev) ∧
  (∀ (x : SwatchSlot) (k : Nat) (s : State), s.dev.thimble = true → s.dev.swatch.busy = some x →
    k = s.dev.swatch.number % 4 →
    ∃ t, exec .swatchComplete s = .next t ∧ Kept s t ∧ t.dev.swatch.busy = none ∧
      t.dev.swatch.number = s.dev.swatch.number + 1 ∧ tabGet (fun _ => {}) t.dev.swatch.slots k = x ∧
      (∀ j, j ≠ k → tabGet (fun _ => {}) t.dev.swatch.slots j = tabGet (fun _ => {}) s.dev.swatch.slots j) ∧
      t.dev.rd (0x3601 + k) 1 = word x.number ∧ t.dev.rd (0x3601 + k) 2 = word x.time ∧
      t.dev.rd (0x3601 + k) 3 = word x.triggers ∧ bits (t.dev.rd 0x3600 1) 13 12 = k ∧
      bit (t.dev.rd 0x3600 1) 15 = true ∧ bit (t.dev.rd 0x3600 1) 14 = false ∧
      bits (t.dev.rd 0x3600 1) 31 16 = nextSeq (bits (s.dev.rd 0x3600 1) 31 16) ∧
      RegsKept (fun i j => reportReg i j || regsOf (0x3601 + k) [1, 2, 3] i j || regsOf 0x3600 [1] i j) s.dev t.dev)

/-- RETIRE, REPAIR_RETURN (R491), REPAIR_START (R484, R485, R488), REPAIR_RELEASE (R485, R490, R491), FRENCH_MISMATCH (R493),
FRENCH_BREAK (R494). -/
def Obligations.RepairsAndFrenchSeams : Prop :=
  (∀ (path : Transport) (column row : BitVec 8) (s : State),
    Accepted objRepairRequest actRepairRequest ⟨path, 4, word (0x01000000 + column.toNat * 256 + row.toNat), [], 0⟩ s.dev →
    ∃ t, exec (.retire path column row) s = .next t ∧ Kept s t ∧ s.dev.core.state = .run ∧
      t.dev.darn = { s.dev.darn with repairs := s.dev.darn.repairs ++ [{
        patch := sitePatch column.toNat row.toNat, row := row.toNat, column := s.dev.physColumn column.toNat row.toNat
        source := 0, kind := 2, started := s.dev.core.time }] } ∧
      t.dev.rd 0x3900 4 = word 0 ∧ RegsKept (regsOf 0x3900 [4]) s.dev t.dev ∧
      { t.dev with regs := s.dev.regs, darn := s.dev.darn } = s.dev) ∧
  (∀ (path : Transport) (column row : BitVec 8) (s : State),
    Accepted objRepairRequest actRepairRequest ⟨path, 4, word (0x02000000 + column.toNat * 256 + row.toNat), [], 0⟩ s.dev →
    ∃ t, exec (.repairReturn path column row) s = .next t ∧ Kept s t ∧ s.dev.core.state = .run ∧
      (siteNo column.toNat row.toNat, ({ purpose := 2 } : TestSt)) ∈ t.dev.darn.testing ∧
      (∀ y ∈ s.dev.darn.testing, y.1 ≠ siteNo column.toNat row.toNat → y ∈ t.dev.darn.testing) ∧
      { t.dev.darn with testing := s.dev.darn.testing } = s.dev.darn ∧
      t.dev.rd 0x3900 4 = word 0 ∧ RegsKept (regsOf 0x3900 [4]) s.dev t.dev ∧
      { t.dev with regs := s.dev.regs, darn := s.dev.darn } = s.dev) ∧
  (∀ (f : RepairSt) (r : Nat) (s : State), s.dev.repairsRun = true → s.dev.nextFault = some f → r = f.row % 8 →
    (f.kind ≠ 1 ∨ (s.dev.isolated f.patch = false ∧ s.dev.vacant f.patch r ≠ f.column % 17 ∧ s.dev.rowKind f.patch r ≠ 1) →
      ∃ t, exec .repairStart s = .next t ∧ Kept s t ∧ { t.dev with darn := s.dev.darn } = s.dev ∧
        t.dev.darn.queue = s.dev.darn.queue.erase f ∧ t.dev.darn.repairs = s.dev.darn.repairs ++ [f] ∧
        t.dev.darn.waiting = s.dev.darn.waiting ∧
        (∀ y, y ∈ t.dev.darn.testing ↔
          y ∈ s.dev.darn.testing ∧ (f.kind ≠ 1 ∨ (s.dev.vacantSites f.patch r).contains y.1 = false))) ∧
    (f.kind = 1 → s.dev.isolated f.patch = false → s.dev.vacant f.patch r ≠ f.column % 17 → s.dev.rowKind f.patch r = 1 →
      f.patch < 54 → s.dev.thimble = true →
      ∃ t, exec .repairStart s = .next t ∧ Kept s t ∧ t.dev.core = s.dev.core ∧ t.dev.isolated f.patch = true ∧
        t.dev.darn.waiting = s.dev.darn.waiting ++ [f] ∧ t.dev.darn.repairs = s.dev.darn.repairs ∧
        t.dev.darn.queue = s.dev.darn.queue.erase f ∧
        (siteNo (17 * (f.patch % 6) + s.dev.vacant f.patch r) f.row, ({ purpose := 1 } : TestSt)) ∈ t.dev.darn.testing ∧
        t.dev.rdN 0x3900 7 = (s.dev.rdN 0x3900 7 + 1) % 2 ^ 32 ∧
        bits (t.dev.rd 0x3900 1) 31 16 = nextSeq (bits (s.dev.rd 0x3900 1) 31 16) ∧
        ∃ e ∈ t.dev.nv.log, e.reason = 0x0823 ∧
          e.inst = 256 * (s.dev.logicalColumn f.column f.row).getD f.column + f.row)) ∧
  (∀ (q : Fin 54) (recovered : Fin 2561) (readFails : Bool) (f : RepairSt) (s : State), s.dev.thimble = true →
    s.dev.repairsRun = true → s.dev.darn.repairs.find? (fun x => x.patch == q.val) = some f → s.dev.core.steps = none →
    (f.kind = 1 → recovered.val ≠ 0 → s.dev.config.recoveryFor.getLsbD q.val = false →
      ∃ t, exec (.repairRelease q ⟨recovered, readFails⟩) s = .next t ∧ Kept s t ∧ t.dev.core = s.dev.core ∧
        t.dev.darn.repairs = s.dev.darn.repairs.erase f ∧ t.dev.isolated q.val = true ∧ t.dev.panels = s.dev.panels ∧
        t.dev.rdN 0x3900 7 = (s.dev.rdN 0x3900 7 + 1) % 2 ^ 32 ∧
        (∃ e ∈ t.dev.nv.log, e.reason = 0x0162 ∧ e.inst = 0x3910 + q.val) ∧
        ∃ e ∈ t.dev.nv.log, e.reason = 0x0823 ∧
          e.inst = 256 * (s.dev.logicalColumn f.column f.row).getD f.column + f.row) ∧
    (f.kind = 1 → recovered.val = 0 ∨ (s.dev.config.recoveryFor.getLsbD q.val = true ∧ readFails = false) →
      ∃ t, exec (.repairRelease q ⟨recovered, readFails⟩) s = .next t ∧ Kept s t ∧ t.dev.core = s.dev.core ∧
        t.dev.darn.repairs = s.dev.darn.repairs.erase f ∧ t.dev.isolated q.val = false ∧
        t.dev.vacant q.val (f.row % 8) = f.column % 17 ∧ t.dev.rowKind q.val (f.row % 8) = 1 ∧
        t.dev.rdN (0x3910 + q.val) 4 = (s.dev.rdN (0x3910 + q.val) 4 + 1) % 2 ^ 32 ∧
        bit (t.dev.rd 0x3900 1) 15 = true ∧
        bits (t.dev.rd 0x3900 1) 31 16 = nextSeq (bits (s.dev.rd 0x3900 1) 31 16) ∧
        ∃ e ∈ t.dev.nv.log, (e.reason = 0x0820 ∨ e.reason = 0x0821 ∨ e.reason = 0x0822) ∧
          e.inst = 256 * (s.dev.logicalColumn f.column f.row).getD f.column + f.row) ∧
    (f.kind = 2 ∨ f.kind = 3 →
      ∃ t, exec (.repairRelease q ⟨recovered, readFails⟩) s = .next t ∧ Kept s t ∧ t.dev.core = s.dev.core ∧
        t.dev.darn = { s.dev.darn with repairs := s.dev.darn.repairs.erase f } ∧ t.dev.panels = s.dev.panels ∧
        t.dev.seams = s.dev.seams ∧ t.dev.vacant q.val (f.row % 8) = (if f.kind = 2 then f.column % 17 else 16) ∧
        t.dev.rowKind q.val (f.row % 8) = (if f.kind = 2 then 1 else 0) ∧
        RegsKept (fun i j => reportReg i j || regsOf 0x3900 [1] i j) s.dev t.dev ∧ bit (t.dev.rd 0x3900 1) 15 = true ∧
        (∃ e ∈ t.dev.nv.log, e.reason = 0x0820) ∧ (f.kind = 3 → ∃ e ∈ t.dev.nv.log, e.reason = 0x0842))) ∧
  (∀ (n : Fin 64) (bad : Option (Fin 2)) (p : Nat × Nat) (h : FrenchSt) (s : State), s.dev.thimble = true →
    s.dev.fabricLive = true → s.dev.frenchBound n.val = true → bit (s.dev.rd (0x3980 + n.val) 1) 14 = false →
    bit (s.dev.rd (0x3980 + n.val) 1) 12 = false → p = s.dev.frenchSites n.val → h = s.dev.frenchSt n.val →
    (bad = none → p.1 ≠ p.2 →
      ∃ t, exec (.frenchMismatch n bad) s = .next t ∧ Kept s t ∧ t.dev.core = s.dev.core ∧
        t.dev.panel p.1 = { h.half0.shadow with tension := (s.dev.panel p.1).tension } ∧
        t.dev.panel p.2 = { h.half1.shadow with tension := (s.dev.panel p.2).tension } ∧
        (∀ k, k ≠ p.1 → k ≠ p.2 → t.dev.panel k = s.dev.panel k) ∧
        (∀ u, u < 8 → (t.dev.seam (seamOut p.1 u)).word = none ∧ (t.dev.seam (seamOut p.2 u)).word = none) ∧
        (t.dev.frenchSt n.val).replay0 = h.half0.held ∧ (t.dev.frenchSt n.val).replay1 = h.half1.held ∧
        bit (t.dev.rd (0x3980 + n.val) 1) 12 = (!h.half0.held.isEmpty || !h.half1.held.isEmpty) ∧
        t.dev.rdN (0x3980 + n.val) 5 = (s.dev.rdN (0x3980 + n.val) 5 + 1) % 2 ^ 32 ∧
        t.dev.rd (0x3980 + n.val) 6 = word s.dev.core.time ∧
        bits (t.dev.rd (0x3980 + n.val) 1) 31 16 = nextSeq (bits (s.dev.rd (0x3980 + n.val) 1) 31 16) ∧
        RegsKept (fun i j => reportReg i j || regsOf (0x3980 + n.val) [1, 5, 6] i j) s.dev t.dev ∧
        ∃ e ∈ t.dev.nv.log, e.reason = 0x0830 ∧ e.inst = n.val) ∧
    (∀ k site, bad = some k → site = (if k.val = 0 then p.1 else p.2) → s.dev.core.state = .run →
      ∃ t x, exec (.frenchMismatch n bad) s = .next t ∧ Kept s t ∧ x.source = 0x0813 ∧ x.row = site / 102 ∧
        x.column = s.dev.physColumn (site % 102) (site / 102) ∧ x.kind = 1 ∧
        t.dev = { s.dev with darn := { s.dev.darn with queue := s.dev.darn.queue ++ [x] } })) ∧
  (∀ (n : Fin 64) (bad : Option (Fin 2)) (c : Instr) (s : State), s.dev.thimble = true → s.dev.fabricLive = true →
    s.dev.frenchBound n.val = true → bit (s.dev.rd (0x3980 + n.val) 1) 14 = false →
    bit (s.dev.rd (0x3980 + n.val) 1) 12 = true → c = .frenchBreak n ∨ c = .frenchMismatch n bad →
    ∃ t, exec c s = .next t ∧ Kept s t ∧ bit (t.dev.rd (0x3980 + n.val) 1) 14 = true ∧
      bit (t.dev.rd (0x3980 + n.val) 1) 12 = false ∧ (∃ e ∈ t.dev.nv.log, e.reason = 0x0831 ∧ e.inst = n.val) ∧
      (bit (s.dev.frenchBinding n.val) 0 = true → t.dev.core.state = .safe ∧ t.dev.rdN 0x2000 3 = 0x0831) ∧
      (bit (s.dev.frenchBinding n.val) 0 = false → t.dev.core = s.dev.core))

/-- SITE_TEST_START (R495 to R497), BIST_SLICE_END (R488, R491, R495, R496), BIST_ARRAY, BIST_ARRAY_COMPLETE (R499). -/
def Obligations.SelfTest : Prop :=
  (∀ (column : Fin 102) (row : Fin 72) (site q r : Nat) (s : State), site = siteNo column.val row.val →
    q = sitePatch column.val row.val → r = row.val % 8 → s.dev.bistRuns = true → s.dev.testDue = true →
    s.dev.darn.sweep.any (fun e => e.1 == site) = false → s.dev.darn.testing.any (fun e => e.1 == site) = false →
    (s.dev.skipCode column.val row.val ≠ 0 → s.dev.darn.sweep.length < 7343 →
      ∃ t, exec (.siteTestStart column row) s = .next t ∧ Kept s t ∧ { t.dev with darn := s.dev.darn } = s.dev ∧
        tabGet (fun _ => 0) t.dev.darn.sweep site = 16 * s.dev.skipCode column.val row.val ∧
        (∀ k, k ≠ site → tabGet (fun _ => 0) t.dev.darn.sweep k = tabGet (fun _ => 0) s.dev.darn.sweep k) ∧
        t.dev.darn.testing = s.dev.darn.testing) ∧
    (s.dev.skipCode column.val row.val = 0 → s.dev.otherVacated column.val row.val = false →
      ∃ t, exec (.siteTestStart column row) s = .next t ∧ Kept s t ∧ (site, ({} : TestSt)) ∈ t.dev.darn.testing ∧
        (∀ y ∈ s.dev.darn.testing, y ∈ t.dev.darn.testing) ∧ t.dev.darn.lastTest = some s.dev.core.time ∧
        t.dev.darn.sweep = s.dev.darn.sweep ∧ { t.dev with darn := s.dev.darn, nv := s.dev.nv } = s.dev ∧
        (s.dev.rowKind q r = 1 → t.dev.nv = s.dev.nv) ∧
        (s.dev.rowKind q r ≠ 1 → t.dev.vacant q r = column.val % 17 ∧ t.dev.rowKind q r = 2))) ∧
  (∀ (column : Fin 102) (row : Fin 72) (sig4 sigT : BitVec 64) (ok4 okT : Bool) (site q : Nat) (x : TestSt) (s : State),
    site = siteNo column.val row.val → q = sitePatch column.val row.val → s.dev.thimble = true →
    s.dev.darn.testing.find? (fun t => t.1 == site) = some (site, x) → ok4 = (sig4 == s.dev.golden site x.slice 4) →
    okT = (sigT == s.dev.golden site x.slice (bits s.dev.bistCfg 27 24)) →
    (x.slice + 1 < 16 →
      ∃ t y, exec (.bistSliceEnd column row sig4 sigT) s = .next t ∧ Kept s t ∧ { t.dev with darn := s.dev.darn } = s.dev ∧
        (site, y) ∈ t.dev.darn.testing ∧ y.slice = x.slice + 1 ∧ y.margin = (x.margin || !okT) ∧ y.purpose = x.purpose ∧
        (ok4 = true ∨ x.fail ≠ none → y.fail = x.fail) ∧ (ok4 = false → x.fail = none → y.fail = some x.slice)) ∧
    (16 ≤ x.slice + 1 → x.purpose = 0 →
      ∃ t, exec (.bistSliceEnd column row sig4 sigT) s = .next t ∧ Kept s t ∧ t.dev.core = s.dev.core ∧
        (∀ y, (site, y) ∉ t.dev.darn.testing) ∧
        tabGet (fun _ => 0) (if t.dev.darn.sweep = [] then t.dev.darn.sites else t.dev.darn.sweep) site =
          (match x.fail, ok4, x.margin || !okT with
            | some k, _, _ => 48 + k
            | none, false, _ => 48 + x.slice
            | none, true, true => 32
            | none, true, false => 16) ∧
        t.dev.rdN (0x3910 + q) 5 = (s.dev.rdN (0x3910 + q) 5 + 1) % 2 ^ 32 ∧
        (x.fail ≠ none ∨ ok4 = false → ∃ e ∈ t.dev.nv.log, e.reason = 0x0840 ∧ e.inst = siteInst site) ∧
        (x.fail = none → ok4 = true → x.margin = true ∨ okT = false →
          t.dev.rdN 0x3800 9 = (s.dev.rdN 0x3800 9 + 1) % 2 ^ 32)) ∧
    (∀ f, 16 ≤ x.slice + 1 → x.purpose = 1 → s.dev.darn.waiting.find? (fun y => y.patch == q) = some f →
      s.dev.core.steps = none →
      ∃ t, exec (.bistSliceEnd column row sig4 sigT) s = .next t ∧ Kept s t ∧ t.dev.core = s.dev.core ∧
        t.dev.darn.waiting = s.dev.darn.waiting.erase f ∧ t.dev.isolated q = s.dev.isolated q ∧
        t.dev.darn.repairs = (if x.fail = none ∧ ok4 = true then s.dev.darn.repairs ++ [f] else s.dev.darn.repairs)) ∧
    (16 ≤ x.slice + 1 → 2 ≤ x.purpose →
      ∃ t, exec (.bistSliceEnd column row sig4 sigT) s = .next t ∧ Kept s t ∧ t.dev.core = s.dev.core ∧
        t.dev.nv.shiftMaps = s.dev.nv.shiftMaps ∧
        (x.fail ≠ none ∨ ok4 = false → t.dev.darn.repairs = s.dev.darn.repairs ∧ t.dev.darn.queue = s.dev.darn.queue ∧
          ∃ e ∈ t.dev.nv.log, e.reason = 0x0840 ∧ e.inst = siteInst site) ∧
        (x.fail = none → ok4 = true → ∃ f : RepairSt, f.kind = 3 ∧ f.column = column.val ∧ f.row = row.val ∧
          f.patch = q ∧ (f ∈ t.dev.darn.repairs ∨ f ∈ t.dev.darn.queue)))) ∧
  (∀ (path : Transport) (s : State), Accepted objBistRequest actBistRequest ⟨path, 1, word 1, [], 0⟩ s.dev →
    ∃ t, exec (.bistArray path) s = .next t ∧ Kept s t ∧ s.dev.core.state = .unconfigured ∧
      t.dev.darn = { s.dev.darn with array := true, sweepStart := some s.dev.core.time } ∧ t.dev.rd 0x3800 6 = word 0 ∧
      RegsKept (regsOf 0x3800 [6]) s.dev t.dev ∧ { t.dev with regs := s.dev.regs, darn := s.dev.darn } = s.dev) ∧
  (∀ (fails : List (Fin 7344 × Fin 16)) (margins : List (Fin 7344)) (s : State), s.dev.darn.array = true →
    s.dev.core.state = .unconfigured →
    ∃ t, exec (.bistArrayComplete fails margins) s = .next t ∧ Kept s t ∧ t.dev.core = s.dev.core ∧
      t.dev.darn.array = false ∧ t.dev.darn.sweepEnd = some s.dev.core.time ∧ bit (t.dev.rd 0x3800 1) 15 = true ∧
      bits (t.dev.rd 0x3800 1) 31 16 = nextSeq (bits (s.dev.rd 0x3800 1) 31 16) ∧
      (∀ x : Fin 7344,
        (∀ k, fails.find? (fun f => f.1.val == x.val) = some (x, k) →
          tabGet (fun _ => 0) t.dev.darn.sites x.val = 48 + k.val) ∧
        ((∀ k, (x, k) ∉ fails) → x ∈ margins → tabGet (fun _ => 0) t.dev.darn.sites x.val = 32) ∧
        ((∀ k, (x, k) ∉ fails) → x ∉ margins → tabGet (fun _ => 0) t.dev.darn.sites x.val = 16)) ∧
      ∀ q, q < 54 → ∀ i j, i = 0x3910 + q → j ≠ 5 → j < 256 → t.dev.rd i j = s.dev.rd i j)

/-- BLOCK_READ, BLOCK_WRITE, BLOCK_WRITE_POISON (R157 to R159, R165, R167, R168), CORRECTION_WRITEBACK (R166). -/
def Obligations.BlockPorts : Prop :=
  (∀ (m : Fin 1536) (b : Bool) (a : Fin 1024) (data : BitVec 64) (be : BitVec 8) (badOp : Bool) (up : BitVec 80)
      (x : BlockSt) (e : BitVec 80) (s : State), s.dev.portOpen m.val b = true →
    portAccess (s.dev.rd (0x4800 + m.val) 3) b ≠ 2 → x = s.dev.block m.val → e = x.err a.val ^^^ up →
    ∃ t, exec (.blockRead m b a data be badOp up) s = .next t ∧ Kept s t ∧ t.dev.core = s.dev.core ∧
      (∀ k, k ≠ m.val → t.dev.block k = s.dev.block k) ∧
      (∀ k, k ≠ a.val → (t.dev.block m.val).word k = x.word k ∧ (t.dev.block m.val).err k = x.err k) ∧
      (e = 0 → { t.dev with blocks := s.dev.blocks, out := s.dev.out } = s.dev ∧
        (t.dev.block m.val).word a.val = x.word a.val ∧ (t.dev.block m.val).err a.val = 0 ∧
        t.dev.out = .token 3 (2 * m.val + b.toNat)
          (((wordPoison (x.word a.val)).toNat * 128 + badOp.toNat * 4) * 2 ^ 64 + (wordData (x.word a.val)).toNat) ::
          s.dev.out) ∧
      ((maskBits e).length = 1 ∨ (maskBits e).length = 2 → x.writeback.contains a.val = false →
        (t.dev.block m.val).word a.val = x.word a.val ∧ (t.dev.block m.val).err a.val = e ∧
        (t.dev.block m.val).writeback = x.writeback ++ [a.val] ∧
        t.dev.rdN (0x4800 + m.val) 5 = (s.dev.rdN (0x4800 + m.val) 5 + 1) % 2 ^ 32 ∧
        t.dev.rdN (0x4800 + m.val) 6 = s.dev.rdN (0x4800 + m.val) 6 ∧
        t.dev.out.head? = some (.token 3 (2 * m.val + b.toNat)
          (((wordPoison (x.word a.val)).toNat * 128 + 32 + badOp.toNat * 4) * 2 ^ 64 + (wordData (x.word a.val)).toNat))) ∧
      ((maskBits e).length = 3 → x.writeback.contains a.val = false →
        (t.dev.block m.val).word a.val = codeword true (wordData (x.word a.val ^^^ e)) ∧
        (t.dev.block m.val).err a.val = 0 ∧
        t.dev.rdN (0x4800 + m.val) 6 = (s.dev.rdN (0x4800 + m.val) 6 + 1) % 2 ^ 32 ∧
        t.dev.rdN (0x4800 + m.val) 5 = s.dev.rdN (0x4800 + m.val) 5 ∧
        t.dev.out.head? = some (.token 3 (2 * m.val + b.toNat)
          (((wordPoison (x.word a.val ^^^ e)).toNat * 128 + 64 + badOp.toNat * 4) * 2 ^ 64 +
            (wordData (x.word a.val ^^^ e)).toNat)) ∧
        (s.dev.thimble = true → ∃ y ∈ t.dev.nv.log, y.reason = 0x0702 ∧ y.inst = m.val ∧ y.detail = a.val))) ∧
  (∀ (m : Fin 1536) (b : Bool) (a : Fin 1024) (data : BitVec 64) (be : BitVec 8) (up : BitVec 80) (x : BlockSt)
      (e : BitVec 80) (s : State), s.dev.portOpen m.val b = true → s.dev.core.writes = true →
    portAccess (s.dev.rd (0x4800 + m.val) 3) b ≠ 1 → x = s.dev.block m.val → e = x.err a.val ^^^ up →
    (maskBits e).length ≤ 3 →
    ∃ t bad v, exec (.blockWrite m b a data be up) s = .next t ∧ Kept s t ∧ t.dev.core = s.dev.core ∧
      (∀ k, k ≠ m.val → t.dev.block k = s.dev.block k) ∧
      (∀ k, k ≠ a.val → (t.dev.block m.val).word k = x.word k ∧ (t.dev.block m.val).err k = x.err k) ∧
      (t.dev.block m.val).word a.val = codeword bad v ∧ (t.dev.block m.val).err a.val = 0 ∧
      a.val ∉ (t.dev.block m.val).writeback ∧ (t.dev.block m.val).injected ≠ some a.val ∧
      (be = 0xFF → bad = false ∧ v = data) ∧
      (be ≠ 0xFF → (maskBits e).length ≤ 2 →
        bad = wordPoison (x.word a.val) ∧ v = mergeBytes (wordData (x.word a.val)) data be) ∧
      (be ≠ 0xFF → (maskBits e).length = 3 → bad = true ∧ v = mergeBytes (wordData (x.word a.val ^^^ e)) data be) ∧
      (be = 0xFF ∨ e = 0 → { t.dev with blocks := s.dev.blocks, out := s.dev.out } = s.dev ∧
        t.dev.out = (if portWriteResp (s.dev.rd (0x4800 + m.val) 3) b then
          [.token 3 (2 * m.val + b.toNat) ((bad.toNat * 136 + 16) * 2 ^ 64)] else []) ++ s.dev.out) ∧
      (be ≠ 0xFF → e ≠ 0 →
        (portWriteResp (s.dev.rd (0x4800 + m.val) 3) b = true →
          t.dev.out.head? = some (.token 3 (2 * m.val + b.toNat) ((bad.toNat * 136 + 16) * 2 ^ 64))) ∧
        (x.writeback.contains a.val = false →
          ((maskBits e).length ≤ 2 → t.dev.rdN (0x4800 + m.val) 6 = s.dev.rdN (0x4800 + m.val) 6 ∧
            t.dev.rdN (0x4800 + m.val) 5 = (s.dev.rdN (0x4800 + m.val) 5 + 1) % 2 ^ 32) ∧
          ((maskBits e).length = 3 → t.dev.rdN (0x4800 + m.val) 5 = s.dev.rdN (0x4800 + m.val) 5 ∧
            t.dev.rdN (0x4800 + m.val) 6 = (s.dev.rdN (0x4800 + m.val) 6 + 1) % 2 ^ 32)))) ∧
  (∀ (m : Fin 1536) (b : Bool) (a : Fin 1024) (data : BitVec 64) (up : BitVec 80) (x : BlockSt) (s : State),
    s.dev.portOpen m.val b = true → s.dev.core.writes = true → portAccess (s.dev.rd (0x4800 + m.val) 3) b ≠ 1 →
    x = s.dev.block m.val →
    ∃ t, exec (.blockWritePoison m b a data up) s = .next t ∧ Kept s t ∧
      { t.dev with blocks := s.dev.blocks, out := s.dev.out } = s.dev ∧
      (∀ k, k ≠ m.val → t.dev.block k = s.dev.block k) ∧
      (∀ k, k ≠ a.val → (t.dev.block m.val).word k = x.word k ∧ (t.dev.block m.val).err k = x.err k) ∧
      (t.dev.block m.val).word a.val = codeword true data ∧ (t.dev.block m.val).err a.val = 0 ∧
      t.dev.out = (if portWriteResp (s.dev.rd (0x4800 + m.val) 3) b then
        [.token 3 (2 * m.val + b.toNat) (144 * 2 ^ 64)] else []) ++ s.dev.out) ∧
  (∀ (m : Fin 1536) (b : Bool) (a : Fin 1024) (data : BitVec 64) (be : BitVec 8) (up : BitVec 80) (s : State),
    (portAccess (s.dev.rd (0x4800 + m.val) 3) b = 1 →
      exec (.blockWrite m b a data be up) s = exec (.blockRead m b a data be false up) s ∧
      exec (.blockWritePoison m b a data up) s = exec (.blockRead m b a data be false up) s) ∧
    (portAccess (s.dev.rd (0x4800 + m.val) 3) b = 2 →
      exec (.blockRead m b a data be false up) s = exec (.blockWrite m b a data be up) s)) ∧
  (∀ (m : Fin 1536) (a : Nat) (rest : List Nat) (x : BlockSt) (s : State), x = s.dev.block m.val → x.writeback = a :: rest →
    ∃ t, exec (.correctionWriteback m) s = .next t ∧ Kept s t ∧ { t.dev with blocks := s.dev.blocks } = s.dev ∧
      (∀ k, k ≠ m.val → t.dev.block k = s.dev.block k) ∧ (∀ k, (t.dev.block m.val).word k = x.word k) ∧
      (t.dev.block m.val).err a = 0 ∧ (∀ k, k ≠ a → (t.dev.block m.val).err k = x.err k) ∧
      a ∉ (t.dev.block m.val).writeback ∧ (t.dev.block m.val).recent.head? = some (a, maskBits (x.err a)))

/-- LEAK_INSTANT (R173, R174), PATROL_SCRUB_VISIT (R175), SCRUB_REQUEST, SCRUB_COMPLETE (R176, R179), BLOCK_REPAIR (R183, R185),
BLOCK_REPAIR_COMPLETE (R184), FLIP_INJECT (R187). -/
def Obligations.BlockMaintenance : Prop :=
  (∀ s : State,
    ∃ t, exec .leakInstant s = .next t ∧ Kept s t ∧ { t.dev with regs := s.dev.regs } = s.dev ∧
      (∀ m, m < 1536 → t.dev.rd (0x4800 + m) 7 = word (s.dev.rdN (0x4800 + m) 7 - 1) ∧
        (0 < s.dev.rdN (0x4800 + m) 7 → s.dev.rdN (0x4800 + m) 7 - 1 ≤ s.dev.rdN 0x3700 2 / 2 →
          bit (t.dev.rd (0x4800 + m) 1) 14 = true)) ∧
      RegsKept (fun i j => decide (0x4800 ≤ i) && decide (i ≤ 0x4DFF) && (j == 7 || j == 1)) s.dev t.dev) ∧
  (∀ (up : BitVec 80) (m a : Nat) (x : BlockSt) (e : BitVec 80) (s : State), s.dev.thimble = true → s.dev.scrub = none →
    s.dev.rdN 0x3700 5 ≠ 0 → m = s.dev.patrol / 1024 → a = s.dev.patrol % 1024 → x = s.dev.block m →
    e = x.err a ^^^ up → (maskBits e).length ≤ 2 →
    ∃ t, exec (.patrolScrubVisit up) s = .next t ∧ Kept s t ∧ t.dev.core = s.dev.core ∧
      t.dev.patrol = (if s.dev.patrol + 1 = 1536 * 1024 then 0 else s.dev.patrol + 1) ∧
      (s.dev.patrol + 1 = 1536 * 1024 → t.dev.rdN 0x3700 6 = (s.dev.rdN 0x3700 6 + 1) % 2 ^ 32) ∧
      (∀ k, k ≠ m → t.dev.block k = s.dev.block k) ∧ (∀ k, (t.dev.block m).word k = x.word k) ∧
      (t.dev.block m).err a = 0 ∧ (∀ k, k ≠ a → (t.dev.block m).err k = x.err k) ∧
      (e ≠ 0 → (t.dev.block m).recent.head? = some (a, maskBits e))) ∧
  (∀ (w : Wr) (v : Word) (s : State), Accepted objScrubRequest actScrubRequest w s.dev → v = objScrubRequest.valueOf w →
    ∃ t q, exec (.scrubRequest w) s = .next t ∧ Kept s t ∧ t.dev.scrub = some q ∧ q.first = bits v 10 0 ∧
      q.last = bits v 21 11 ∧ q.correct = bit v 31 ∧ q.accepted = s.dev.core.time ∧ q.first ≤ q.last ∧ q.last < 1536 ∧
      bit (t.dev.rd 0x3701 1) 15 = true ∧ t.dev.rd 0x3701 3 = word 0 ∧ RegsKept (regsOf 0x3701 [1, 3]) s.dev t.dev ∧
      { t.dev with regs := s.dev.regs, scrub := s.dev.scrub } = s.dev) ∧
  (∀ (ups : List (Nat × Nat × BitVec 80)) (q : ScrubReq) (s : State), s.dev.scrub = some q →
    s.dev.scrubMeets q.first q.last = false →
    ∃ t n, exec (.scrubComplete ups) s = .next t ∧ Kept s t ∧ t.dev.scrub = none ∧ t.dev.core = s.dev.core ∧
      t.dev.bytesOf 0x3702 0 = scrubSummary q n s.dev.core.time ∧ (t.dev.bytesOf 0x3702 0).length = 32 ∧
      (s.dev.blocks = [] → ups = [] → n = {}) ∧ t.dev.rd 0x3701 3 = word 0 ∧ bit (t.dev.rd 0x3701 1) 14 = true ∧
      bit (t.dev.rd 0x3701 1) 15 = false ∧
      bits (t.dev.rd 0x3701 1) 31 16 = nextSeq (bits (s.dev.rd 0x3701 1) 31 16)) ∧
  (∀ (m : Fin 1536) (w : Option Wr) (column : Bool) (n : Nat) (s : State),
    (∃ y v, w = some y ∧ Accepted objBlockRepair (actBlockRepair m.val) y s.dev ∧ v = objBlockRepair.valueOf y ∧
        column = (bits v 31 30 == 2) ∧ n = bits v 8 0) ∨
      (∃ row col due, w = none ∧ s.dev.thimble = true ∧ (s.dev.block m.val).hardDue = (row, col) :: due ∧
        s.dev.rdN 0x3700 4 ≠ 0 ∧ (s.dev.block m.val).noAuto = false ∧ (s.dev.block m.val).repair = none ∧
        column = (s.dev.block m.val).hard.any (fun e => e.2 == col && !(e.1 == row)) ∧
        noSpare (s.dev.rd (0x4800 + m.val) 8) column = false ∧ n = (if column then col else row)) →
    ∃ t, exec (.blockRepair m w) s = .next t ∧ Kept s t ∧
      t.dev.block m.val = { s.dev.block m.val with repair := some (column, n) } ∧
      (∀ k, k ≠ m.val → t.dev.block k = s.dev.block k) ∧ bit (t.dev.rd (0x4800 + m.val) 1) 13 = true ∧
      RegsKept (regsOf (0x4800 + m.val) [1]) s.dev t.dev ∧
      { t.dev with regs := s.dev.regs, blocks := s.dev.blocks } = s.dev) ∧
  (∀ (m : Fin 1536) (mapFails column : Bool) (n : Nat) (s : State), s.dev.thimble = true →
    (s.dev.block m.val).repair = some (column, n) →
    ∃ t, exec (.blockRepairComplete m mapFails) s = .next t ∧ Kept s t ∧ t.dev.core = s.dev.core ∧
      (t.dev.block m.val).repair = none ∧ (∀ k, k ≠ m.val → t.dev.block k = s.dev.block k) ∧
      (t.dev.block m.val).hardDue = (s.dev.block m.val).hardDue.filter (fun e => (if column then e.2 else e.1) != n) ∧
      bit (t.dev.rd (0x4800 + m.val) 1) 13 = false ∧
      bit (t.dev.rd (0x4800 + m.val) 1) 10 = !(t.dev.block m.val).hardDue.isEmpty ∧
      (column = true →
        bits (t.dev.rd (0x4800 + m.val) 8) 5 4 = (bits (s.dev.rd (0x4800 + m.val) 8) 5 4 + 1) % 4) ∧
      (column = false →
        bits (t.dev.rd (0x4800 + m.val) 8) 11 8 = (bits (s.dev.rd (0x4800 + m.val) 8) 11 8 + 1) % 16) ∧
      t.dev.nv.softMap = s.dev.nv.softMap ++ (if mapFails then [] else [(m.val, column, n)]) ∧
      (mapFails = false → ∃ e ∈ t.dev.nv.log, e.reason = (if column then 0x0711 else 0x0710) ∧ e.inst = m.val ∧ e.detail = n)) ∧
  (∀ (m : Fin 1536) (w : Wr) (v : Word) (a : Nat) (x : BlockSt) (s : State),
    Accepted objBlockFlipInject (actFlipInject m.val) w s.dev → v = objBlockFlipInject.valueOf w → a = bits v 9 0 →
    x = s.dev.block m.val → (maskBits (x.err a)).length ≤ 2 →
    ∃ t, exec (.flipInject m w) s = .next t ∧ Kept s t ∧ { t.dev with blocks := s.dev.blocks } = s.dev ∧
      (t.dev.block m.val).injected = some a ∧
      (t.dev.block m.val).word a = codeword (wordPoison (x.word a)) (wordData (x.word a)) ∧
      (t.dev.block m.val).err a = BitVec.ofNat 80 (bits v 31 16 * 2 ^ 64 + s.dev.rdN (0x4800 + m.val) 0x0A) ∧
      (∀ k, k ≠ a → (t.dev.block m.val).word k = x.word k ∧ (t.dev.block m.val).err k = x.err k) ∧
      (∀ k, k ≠ m.val → t.dev.block k = s.dev.block k))
end

