-- ==== Sys2Proof/Laws/Flags.lean ====
section
/-! SUPPORT. The laws of bit fields and masks: what a field, a bit or a mask reads as after it is set. -/

namespace Sys2Proof.Machine

theorem toNat_word {n : Nat} (h : n < 2 ^ 64) : (word n).toNat = n := by
  rw [word, BitVec.toNat_ofNat, Nat.mod_eq_of_lt h]

/-- A bit of a word with a field replaced. -/
theorem getLsbD_setBits (w : Word) (hi lo v i : Nat) :
    (setBits w hi lo v).getLsbD i =
      if i < 64 ∧ lo ≤ i ∧ i < hi + 1 then v.testBit (i - lo) else w.getLsbD i := by
  unfold setBits
  rw [BitVec.getLsbD_or, BitVec.getLsbD_and, BitVec.getLsbD_not, BitVec.getLsbD_ofNat, BitVec.getLsbD_ofNat,
    Nat.testBit_shiftLeft, Nat.testBit_shiftLeft, Nat.testBit_mod_two_pow, Nat.testBit_two_pow_sub_one]
  by_cases h64 : i < 64
  · by_cases hl : lo ≤ i
    · by_cases hh : i < hi + 1
      · have : i - lo < hi + 1 - lo := by omega
        simp only [h64, hl, hh, this, and_self, if_true, decide_true, Bool.true_and, Bool.not_true, Bool.and_false,
          Bool.false_or]
      · have : ¬ i - lo < hi + 1 - lo := by omega
        simp only [h64, hl, hh, this, and_false, if_false, decide_true, decide_false, Bool.and_false,
          Bool.false_and, Bool.not_false, Bool.and_true, Bool.or_false]
    · simp only [h64, hl, false_and, and_false, if_false, decide_true, decide_false, Bool.and_false,
        Bool.false_and, Bool.not_false, Bool.and_true, Bool.or_false]
  · simp only [h64, BitVec.getLsbD_of_ge w i (by omega), false_and, if_false, decide_false, Bool.false_and, Bool.or_false]

theorem bit_setBit_same (w : Word) {i : Nat} (b : Bool) (h : i < 64) : bit (setBit w i b) i = b := by
  unfold bit setBit; rw [getLsbD_setBits]; cases b <;> simp [h]

theorem bit_setBit_other (w : Word) {i j : Nat} (b : Bool) (h : i ≠ j) : bit (setBit w i b) j = bit w j := by
  unfold bit setBit; rw [getLsbD_setBits]; rw [if_neg (by omega)]

theorem bit_setBits_other (w : Word) {hi lo j : Nat} (v : Nat) (h : j < lo ∨ hi < j) :
    bit (setBits w hi lo v) j = bit w j := by
  unfold bit; rw [getLsbD_setBits]; rw [if_neg (by omega)]

/-- Bits of a field as a number. -/
theorem testBit_bits (w : Word) (hi lo k : Nat) :
    (bits w hi lo).testBit k = (decide (k < hi + 1 - lo) && w.getLsbD (lo + k)) := by
  simp [bits, Nat.testBit_mod_two_pow, Nat.testBit_shiftRight, BitVec.getLsbD]

theorem bits_lt (w : Word) (hi lo : Nat) : bits w hi lo < 2 ^ (hi + 1 - lo) := Nat.mod_lt _ (Nat.two_pow_pos _)

/-- A field reads as the low bits of what it was set to. -/
theorem bits_setBits_same (w : Word) {hi lo : Nat} (v : Nat) (h : hi < 64) :
    bits (setBits w hi lo v) hi lo = v % 2 ^ (hi + 1 - lo) := by
  apply Nat.eq_of_testBit_eq
  intro k
  rw [testBit_bits, getLsbD_setBits, Nat.testBit_mod_two_pow]
  by_cases hk : k < hi + 1 - lo
  · rw [if_pos (by omega)]; simp
  · simp [hk]

/-- Setting a field leaves every field beside it. -/
theorem bits_setBits_other (w : Word) {hi lo hi' lo' : Nat} (v : Nat) (h : hi' < lo ∨ hi < lo') :
    bits (setBits w hi lo v) hi' lo' = bits w hi' lo' := by
  apply Nat.eq_of_testBit_eq
  intro k
  rw [testBit_bits, testBit_bits, getLsbD_setBits]
  by_cases hk : k < hi' + 1 - lo'
  · rw [if_neg (by omega)]
  · simp [hk]

theorem bits_setBit_other (w : Word) {i hi lo : Nat} (b : Bool) (h : hi < i ∨ i < lo) :
    bits (setBit w i b) hi lo = bits w hi lo := bits_setBits_other w b.toNat h

/-- Whatever is set, a mask below n has exactly the bits that p asks for. -/
theorem testBit_maskOf (n : Nat) (p : Nat → Bool) (i : Nat) : (maskOf n p).testBit i = (decide (i < n) && p i) := by
  unfold maskOf
  induction n generalizing i with
  | zero => simp
  | succ n ih =>
    rw [List.range_succ, List.foldl_append]
    simp only [List.foldl_cons, List.foldl_nil]
    set a := (List.range n).foldl (fun a i => if p i then a + 2 ^ i else a) 0 with ha
    have hlt : a < 2 ^ n := by
      apply Nat.lt_pow_two_of_testBit
      intro j hj
      rw [ih]; simp [Nat.not_lt.2 hj]
    by_cases hp : p n
    · rw [if_pos hp, Nat.add_comm]
      by_cases hi : i = n
      · subst hi; rw [Nat.testBit_two_pow_add_eq, ih]; simp [hp]
      · by_cases hlt' : i < n
        · rw [Nat.testBit_two_pow_add_gt hlt', ih]; simp [hlt', Nat.lt_succ_of_lt hlt']
        · have hgt : n < i := by omega
          have hb : 2 ^ n + a < 2 ^ i := by
            have : 2 ^ (n + 1) ≤ 2 ^ i := Nat.pow_le_pow_right (by decide) hgt
            rw [Nat.pow_succ] at this; omega
          rw [Nat.testBit_lt_two_pow hb]; simp [Nat.not_lt.2 (Nat.succ_le_of_lt hgt)]
    · rw [if_neg hp, ih]
      by_cases hi : i = n
      · subst hi; simp [hp]
      · have : (i < n + 1) ↔ i < n := by omega
        simp [this]

end Sys2Proof.Machine
end

