-- ==== Sys2Proof/Laws/Tables.lean ====
section
/-! SUPPORT. The laws of tables in canonical form: what a key reads as after a key is set, and that setting a key keeps the form. -/

namespace Sys2Proof.Machine

variable {α : Type}

theorem tabGet_tabDel_same (dflt : Nat → α) (t : List (Nat × α)) (k : Nat) : tabGet dflt (tabDel t k) k = dflt k := by
  induction t with
  | nil => rfl
  | cons e t ih =>
    unfold tabDel
    split
    · exact ih
    · rename_i h; simp only [tabGet, h, if_false]; exact ih

theorem tabGet_tabDel_other (dflt : Nat → α) (t : List (Nat × α)) {k k' : Nat} (h : k ≠ k') :
    tabGet dflt (tabDel t k) k' = tabGet dflt t k' := by
  induction t with
  | nil => rfl
  | cons e t ih =>
    unfold tabDel
    split
    · rename_i ha; rw [ih]; simp only [tabGet]; rw [if_neg (by omega)]
    · simp only [tabGet, ih]

theorem tabGet_tabIns_same (dflt : Nat → α) (t : List (Nat × α)) (k : Nat) (v : α) :
    tabGet dflt (tabIns t k v) k = v := by
  induction t with
  | nil => simp [tabIns, tabGet]
  | cons e t ih =>
    unfold tabIns
    split
    · simp [tabGet]
    · split
      · simp [tabGet]
      · rename_i h; simp only [tabGet, h, if_false]; exact ih

theorem tabGet_tabIns_other (dflt : Nat → α) (t : List (Nat × α)) {k k' : Nat} (v : α) (h : k ≠ k') :
    tabGet dflt (tabIns t k v) k' = tabGet dflt t k' := by
  induction t with
  | nil => simp [tabIns, tabGet, h]
  | cons e t ih =>
    unfold tabIns
    split
    · simp [tabGet, h]
    · split
      · rename_i ha; subst ha; simp [tabGet, h]
      · simp only [tabGet, ih]

/-- A key reads as what it was set to. -/
theorem tabGet_tabSet_same [DecidableEq α] (dflt : Nat → α) (t : List (Nat × α)) (k : Nat) (v : α) :
    tabGet dflt (tabSet dflt t k v) k = v := by
  unfold tabSet
  split
  · rename_i h; rw [tabGet_tabDel_same, h]
  · exact tabGet_tabIns_same dflt t k v

/-- Setting one key leaves every other as it was. -/
theorem tabGet_tabSet_other [DecidableEq α] (dflt : Nat → α) (t : List (Nat × α)) {k k' : Nat} (v : α) (h : k ≠ k') :
    tabGet dflt (tabSet dflt t k v) k' = tabGet dflt t k' := by
  unfold tabSet
  split
  · exact tabGet_tabDel_other dflt t h
  · exact tabGet_tabIns_other dflt t v h

/-! ### The canonical form as a property of lists -/

/-- The keys of a table rise strictly, said pairwise. -/
theorem tabSorted_iff (t : List (Nat × α)) : tabSorted t = true ↔ t.Pairwise (fun a b => a.1 < b.1) := by
  induction t with
  | nil => simp [tabSorted]
  | cons e t ih =>
    cases t with
    | nil => simp [tabSorted]
    | cons f t =>
      rw [show tabSorted (e :: f :: t) = (decide (e.1 < f.1) && tabSorted (f :: t)) from rfl, Bool.and_eq_true, ih,
        decide_eq_true_eq]
      constructor
      · rintro ⟨h, hp⟩
        refine List.pairwise_cons.2 ⟨fun x hx => ?_, hp⟩
        rcases List.mem_cons.1 hx with rfl | hx
        · exact h
        · exact Nat.lt_trans h ((List.pairwise_cons.1 hp).1 x hx)
      · intro hp
        exact ⟨(List.pairwise_cons.1 hp).1 f (by simp), (List.pairwise_cons.1 hp).2⟩

theorem tabWf_iff [DecidableEq α] (dflt : Nat → α) (t : List (Nat × α)) :
    tabWf dflt t = true ↔ t.Pairwise (fun a b => a.1 < b.1) ∧ ∀ e ∈ t, e.2 ≠ dflt e.1 := by
  simp [tabWf, tabSorted_iff]

theorem mem_tabDel {t : List (Nat × α)} {k : Nat} {e : Nat × α} (h : e ∈ tabDel t k) : e ∈ t := by
  induction t with
  | nil => exact h
  | cons f t ih =>
    unfold tabDel at h
    split at h
    · exact List.mem_cons_of_mem _ (ih h)
    · rcases List.mem_cons.1 h with rfl | h
      · exact List.mem_cons_self
      · exact List.mem_cons_of_mem _ (ih h)

theorem mem_tabIns {t : List (Nat × α)} {k : Nat} {v : α} {e : Nat × α} (h : e ∈ tabIns t k v) : e = (k, v) ∨ e ∈ t := by
  induction t with
  | nil => simpa [tabIns] using h
  | cons f t ih =>
    unfold tabIns at h
    split at h
    · simpa using h
    · split at h
      · rcases List.mem_cons.1 h with rfl | h
        · exact .inl rfl
        · exact .inr (List.mem_cons_of_mem _ h)
      · rcases List.mem_cons.1 h with rfl | h
        · exact .inr List.mem_cons_self
        · exact (ih h).imp_right (List.mem_cons_of_mem _)

theorem tabDel_pairwise {t : List (Nat × α)} (k : Nat) (h : t.Pairwise (fun a b => a.1 < b.1)) :
    (tabDel t k).Pairwise (fun a b => a.1 < b.1) := by
  induction t with
  | nil => exact h
  | cons f t ih =>
    have hp := List.pairwise_cons.1 h
    unfold tabDel
    split
    · exact ih hp.2
    · exact List.pairwise_cons.2 ⟨fun x hx => hp.1 x (mem_tabDel hx), ih hp.2⟩

theorem tabIns_pairwise {t : List (Nat × α)} (k : Nat) (v : α) (h : t.Pairwise (fun a b => a.1 < b.1)) :
    (tabIns t k v).Pairwise (fun a b => a.1 < b.1) := by
  induction t with
  | nil => simp [tabIns]
  | cons f t ih =>
    have hp := List.pairwise_cons.1 h
    unfold tabIns
    split
    · rename_i hk
      refine List.pairwise_cons.2 ⟨fun x hx => ?_, h⟩
      rcases List.mem_cons.1 hx with rfl | hx
      · exact hk
      · exact Nat.lt_trans hk (hp.1 x hx)
    · split
      · rename_i ha
        exact List.pairwise_cons.2 ⟨fun x hx => ha ▸ hp.1 x hx, hp.2⟩
      · rename_i h1 h2
        refine List.pairwise_cons.2 ⟨fun x hx => ?_, ih hp.2⟩
        rcases mem_tabIns hx with rfl | hx
        · show f.1 < k; omega
        · exact hp.1 x hx

/-- Setting a key keeps the canonical form. -/
theorem tabWf_tabSet [DecidableEq α] (dflt : Nat → α) {t : List (Nat × α)} (k : Nat) (v : α) (h : tabWf dflt t = true) :
    tabWf dflt (tabSet dflt t k v) = true := by
  rw [tabWf_iff] at h ⊢
  unfold tabSet
  split
  · exact ⟨tabDel_pairwise k h.1, fun e he => h.2 e (mem_tabDel he)⟩
  · rename_i hv
    refine ⟨tabIns_pairwise k v h.1, fun e he => ?_⟩
    rcases mem_tabIns he with rfl | he
    · exact hv
    · exact h.2 e he

end Sys2Proof.Machine
end

