-- ==== Sys2Proof/Laws/State.lean ====
section
/-! SUPPORT. What each named update of the device leaves as it was, one lemma per field and update, and what each reads as after
it. -/

namespace Sys2Proof.Machine

/-! ### A change of the device alone -/

theorem onDev_next (f : Dev → Dev) (s : State) : onDev f s = .next { s with dev := f s.dev } := rfl

/-! ### Fields left as they were -/

@[simp] theorem Dev.wr_strs (d : Dev) (i j : Nat) (v : Word) : (d.wr i j v).strs = d.strs := rfl
@[simp] theorem Dev.wr_staged (d : Dev) (i j : Nat) (v : Word) : (d.wr i j v).staged = d.staged := rfl
@[simp] theorem Dev.wr_freeCtr (d : Dev) (i j : Nat) (v : Word) : (d.wr i j v).freeCtr = d.freeCtr := rfl
@[simp] theorem Dev.wr_out (d : Dev) (i j : Nat) (v : Word) : (d.wr i j v).out = d.out := rfl
@[simp] theorem Dev.wr_core (d : Dev) (i j : Nat) (v : Word) : (d.wr i j v).core = d.core := rfl
@[simp] theorem Dev.wr_env (d : Dev) (i j : Nat) (v : Word) : (d.wr i j v).env = d.env := rfl
@[simp] theorem Dev.wr_wiring (d : Dev) (i j : Nat) (v : Word) : (d.wr i j v).wiring = d.wiring := rfl
@[simp] theorem Dev.wr_nv (d : Dev) (i j : Nat) (v : Word) : (d.wr i j v).nv = d.nv := rfl
@[simp] theorem Dev.wr_panels (d : Dev) (i j : Nat) (v : Word) : (d.wr i j v).panels = d.panels := rfl
@[simp] theorem Dev.wr_seams (d : Dev) (i j : Nat) (v : Word) : (d.wr i j v).seams = d.seams := rfl
@[simp] theorem Dev.wr_baste (d : Dev) (i j : Nat) (v : Word) : (d.wr i j v).baste = d.baste := rfl
@[simp] theorem Dev.wr_watch (d : Dev) (i j : Nat) (v : Word) : (d.wr i j v).watch = d.watch := rfl
@[simp] theorem Dev.wr_window (d : Dev) (i j : Nat) (v : Word) : (d.wr i j v).window = d.window := rfl
@[simp] theorem Dev.wr_halves (d : Dev) (i j : Nat) (v : Word) : (d.wr i j v).halves = d.halves := rfl
@[simp] theorem Dev.wr_hemWin (d : Dev) (i j : Nat) (v : Word) : (d.wr i j v).hemWin = d.hemWin := rfl
@[simp] theorem Dev.wr_bobbins (d : Dev) (i j : Nat) (v : Word) : (d.wr i j v).bobbins = d.bobbins := rfl
@[simp] theorem Dev.wr_blocks (d : Dev) (i j : Nat) (v : Word) : (d.wr i j v).blocks = d.blocks := rfl
@[simp] theorem Dev.wr_scrub (d : Dev) (i j : Nat) (v : Word) : (d.wr i j v).scrub = d.scrub := rfl
@[simp] theorem Dev.wr_patrol (d : Dev) (i j : Nat) (v : Word) : (d.wr i j v).patrol = d.patrol := rfl
@[simp] theorem Dev.wr_shuttles (d : Dev) (i j : Nat) (v : Word) : (d.wr i j v).shuttles = d.shuttles := rfl
@[simp] theorem Dev.wr_programs (d : Dev) (i j : Nat) (v : Word) : (d.wr i j v).programs = d.programs := rfl
@[simp] theorem Dev.wr_progErrs (d : Dev) (i j : Nat) (v : Word) : (d.wr i j v).progErrs = d.progErrs := rfl
@[simp] theorem Dev.wr_needles (d : Dev) (i j : Nat) (v : Word) : (d.wr i j v).needles = d.needles := rfl
@[simp] theorem Dev.wr_cal (d : Dev) (i j : Nat) (v : Word) : (d.wr i j v).cal = d.cal := rfl
@[simp] theorem Dev.wr_banks (d : Dev) (i j : Nat) (v : Word) : (d.wr i j v).banks = d.banks := rfl
@[simp] theorem Dev.wr_safeBalls (d : Dev) (i j : Nat) (v : Word) : (d.wr i j v).safeBalls = d.safeBalls := rfl
@[simp] theorem Dev.wr_cascade (d : Dev) (i j : Nat) (v : Word) : (d.wr i j v).cascade = d.cascade := rfl
@[simp] theorem Dev.wr_config (d : Dev) (i j : Nat) (v : Word) : (d.wr i j v).config = d.config := rfl
@[simp] theorem Dev.wr_sec (d : Dev) (i j : Nat) (v : Word) : (d.wr i j v).sec = d.sec := rfl
@[simp] theorem Dev.wr_tr (d : Dev) (i j : Nat) (v : Word) : (d.wr i j v).tr = d.tr := rfl
@[simp] theorem Dev.wr_spool (d : Dev) (i j : Nat) (v : Word) : (d.wr i j v).spool = d.spool := rfl
@[simp] theorem Dev.wr_rr (d : Dev) (i j : Nat) (v : Word) : (d.wr i j v).rr = d.rr := rfl
@[simp] theorem Dev.wr_tally (d : Dev) (i j : Nat) (v : Word) : (d.wr i j v).tally = d.tally := rfl
@[simp] theorem Dev.wr_swatch (d : Dev) (i j : Nat) (v : Word) : (d.wr i j v).swatch = d.swatch := rfl
@[simp] theorem Dev.wr_darn (d : Dev) (i j : Nat) (v : Word) : (d.wr i j v).darn = d.darn := rfl
@[simp] theorem Dev.wr_safety (d : Dev) (i j : Nat) (v : Word) : (d.wr i j v).safety = d.safety := rfl

@[simp] theorem Dev.setBytes_regs (d : Dev) (i j : Nat) (l : List Byte) : (d.setBytes i j l).regs = d.regs := rfl
@[simp] theorem Dev.setBytes_staged (d : Dev) (i j : Nat) (l : List Byte) : (d.setBytes i j l).staged = d.staged := rfl
@[simp] theorem Dev.setBytes_freeCtr (d : Dev) (i j : Nat) (l : List Byte) : (d.setBytes i j l).freeCtr = d.freeCtr := rfl
@[simp] theorem Dev.setBytes_out (d : Dev) (i j : Nat) (l : List Byte) : (d.setBytes i j l).out = d.out := rfl
@[simp] theorem Dev.setBytes_core (d : Dev) (i j : Nat) (l : List Byte) : (d.setBytes i j l).core = d.core := rfl
@[simp] theorem Dev.setBytes_env (d : Dev) (i j : Nat) (l : List Byte) : (d.setBytes i j l).env = d.env := rfl
@[simp] theorem Dev.setBytes_wiring (d : Dev) (i j : Nat) (l : List Byte) : (d.setBytes i j l).wiring = d.wiring := rfl
@[simp] theorem Dev.setBytes_nv (d : Dev) (i j : Nat) (l : List Byte) : (d.setBytes i j l).nv = d.nv := rfl
@[simp] theorem Dev.setBytes_panels (d : Dev) (i j : Nat) (l : List Byte) : (d.setBytes i j l).panels = d.panels := rfl
@[simp] theorem Dev.setBytes_seams (d : Dev) (i j : Nat) (l : List Byte) : (d.setBytes i j l).seams = d.seams := rfl
@[simp] theorem Dev.setBytes_baste (d : Dev) (i j : Nat) (l : List Byte) : (d.setBytes i j l).baste = d.baste := rfl
@[simp] theorem Dev.setBytes_watch (d : Dev) (i j : Nat) (l : List Byte) : (d.setBytes i j l).watch = d.watch := rfl
@[simp] theorem Dev.setBytes_window (d : Dev) (i j : Nat) (l : List Byte) : (d.setBytes i j l).window = d.window := rfl
@[simp] theorem Dev.setBytes_halves (d : Dev) (i j : Nat) (l : List Byte) : (d.setBytes i j l).halves = d.halves := rfl
@[simp] theorem Dev.setBytes_hemWin (d : Dev) (i j : Nat) (l : List Byte) : (d.setBytes i j l).hemWin = d.hemWin := rfl
@[simp] theorem Dev.setBytes_bobbins (d : Dev) (i j : Nat) (l : List Byte) : (d.setBytes i j l).bobbins = d.bobbins := rfl
@[simp] theorem Dev.setBytes_blocks (d : Dev) (i j : Nat) (l : List Byte) : (d.setBytes i j l).blocks = d.blocks := rfl
@[simp] theorem Dev.setBytes_scrub (d : Dev) (i j : Nat) (l : List Byte) : (d.setBytes i j l).scrub = d.scrub := rfl
@[simp] theorem Dev.setBytes_patrol (d : Dev) (i j : Nat) (l : List Byte) : (d.setBytes i j l).patrol = d.patrol := rfl
@[simp] theorem Dev.setBytes_shuttles (d : Dev) (i j : Nat) (l : List Byte) : (d.setBytes i j l).shuttles = d.shuttles := rfl
@[simp] theorem Dev.setBytes_programs (d : Dev) (i j : Nat) (l : List Byte) : (d.setBytes i j l).programs = d.programs := rfl
@[simp] theorem Dev.setBytes_progErrs (d : Dev) (i j : Nat) (l : List Byte) : (d.setBytes i j l).progErrs = d.progErrs := rfl
@[simp] theorem Dev.setBytes_needles (d : Dev) (i j : Nat) (l : List Byte) : (d.setBytes i j l).needles = d.needles := rfl
@[simp] theorem Dev.setBytes_cal (d : Dev) (i j : Nat) (l : List Byte) : (d.setBytes i j l).cal = d.cal := rfl
@[simp] theorem Dev.setBytes_banks (d : Dev) (i j : Nat) (l : List Byte) : (d.setBytes i j l).banks = d.banks := rfl
@[simp] theorem Dev.setBytes_safeBalls (d : Dev) (i j : Nat) (l : List Byte) : (d.setBytes i j l).safeBalls = d.safeBalls := rfl
@[simp] theorem Dev.setBytes_cascade (d : Dev) (i j : Nat) (l : List Byte) : (d.setBytes i j l).cascade = d.cascade := rfl
@[simp] theorem Dev.setBytes_config (d : Dev) (i j : Nat) (l : List Byte) : (d.setBytes i j l).config = d.config := rfl
@[simp] theorem Dev.setBytes_sec (d : Dev) (i j : Nat) (l : List Byte) : (d.setBytes i j l).sec = d.sec := rfl
@[simp] theorem Dev.setBytes_tr (d : Dev) (i j : Nat) (l : List Byte) : (d.setBytes i j l).tr = d.tr := rfl
@[simp] theorem Dev.setBytes_spool (d : Dev) (i j : Nat) (l : List Byte) : (d.setBytes i j l).spool = d.spool := rfl
@[simp] theorem Dev.setBytes_rr (d : Dev) (i j : Nat) (l : List Byte) : (d.setBytes i j l).rr = d.rr := rfl
@[simp] theorem Dev.setBytes_tally (d : Dev) (i j : Nat) (l : List Byte) : (d.setBytes i j l).tally = d.tally := rfl
@[simp] theorem Dev.setBytes_swatch (d : Dev) (i j : Nat) (l : List Byte) : (d.setBytes i j l).swatch = d.swatch := rfl
@[simp] theorem Dev.setBytes_darn (d : Dev) (i j : Nat) (l : List Byte) : (d.setBytes i j l).darn = d.darn := rfl
@[simp] theorem Dev.setBytes_safety (d : Dev) (i j : Nat) (l : List Byte) : (d.setBytes i j l).safety = d.safety := rfl

@[simp] theorem Dev.setPanel_regs (d : Dev) (k : Nat) (x : PanelSt) : (d.setPanel k x).regs = d.regs := rfl
@[simp] theorem Dev.setPanel_strs (d : Dev) (k : Nat) (x : PanelSt) : (d.setPanel k x).strs = d.strs := rfl
@[simp] theorem Dev.setPanel_staged (d : Dev) (k : Nat) (x : PanelSt) : (d.setPanel k x).staged = d.staged := rfl
@[simp] theorem Dev.setPanel_freeCtr (d : Dev) (k : Nat) (x : PanelSt) : (d.setPanel k x).freeCtr = d.freeCtr := rfl
@[simp] theorem Dev.setPanel_out (d : Dev) (k : Nat) (x : PanelSt) : (d.setPanel k x).out = d.out := rfl
@[simp] theorem Dev.setPanel_core (d : Dev) (k : Nat) (x : PanelSt) : (d.setPanel k x).core = d.core := rfl
@[simp] theorem Dev.setPanel_env (d : Dev) (k : Nat) (x : PanelSt) : (d.setPanel k x).env = d.env := rfl
@[simp] theorem Dev.setPanel_wiring (d : Dev) (k : Nat) (x : PanelSt) : (d.setPanel k x).wiring = d.wiring := rfl
@[simp] theorem Dev.setPanel_nv (d : Dev) (k : Nat) (x : PanelSt) : (d.setPanel k x).nv = d.nv := rfl
@[simp] theorem Dev.setPanel_seams (d : Dev) (k : Nat) (x : PanelSt) : (d.setPanel k x).seams = d.seams := rfl
@[simp] theorem Dev.setPanel_baste (d : Dev) (k : Nat) (x : PanelSt) : (d.setPanel k x).baste = d.baste := rfl
@[simp] theorem Dev.setPanel_watch (d : Dev) (k : Nat) (x : PanelSt) : (d.setPanel k x).watch = d.watch := rfl
@[simp] theorem Dev.setPanel_window (d : Dev) (k : Nat) (x : PanelSt) : (d.setPanel k x).window = d.window := rfl
@[simp] theorem Dev.setPanel_halves (d : Dev) (k : Nat) (x : PanelSt) : (d.setPanel k x).halves = d.halves := rfl
@[simp] theorem Dev.setPanel_hemWin (d : Dev) (k : Nat) (x : PanelSt) : (d.setPanel k x).hemWin = d.hemWin := rfl
@[simp] theorem Dev.setPanel_bobbins (d : Dev) (k : Nat) (x : PanelSt) : (d.setPanel k x).bobbins = d.bobbins := rfl
@[simp] theorem Dev.setPanel_blocks (d : Dev) (k : Nat) (x : PanelSt) : (d.setPanel k x).blocks = d.blocks := rfl
@[simp] theorem Dev.setPanel_scrub (d : Dev) (k : Nat) (x : PanelSt) : (d.setPanel k x).scrub = d.scrub := rfl
@[simp] theorem Dev.setPanel_patrol (d : Dev) (k : Nat) (x : PanelSt) : (d.setPanel k x).patrol = d.patrol := rfl
@[simp] theorem Dev.setPanel_shuttles (d : Dev) (k : Nat) (x : PanelSt) : (d.setPanel k x).shuttles = d.shuttles := rfl
@[simp] theorem Dev.setPanel_programs (d : Dev) (k : Nat) (x : PanelSt) : (d.setPanel k x).programs = d.programs := rfl
@[simp] theorem Dev.setPanel_progErrs (d : Dev) (k : Nat) (x : PanelSt) : (d.setPanel k x).progErrs = d.progErrs := rfl
@[simp] theorem Dev.setPanel_needles (d : Dev) (k : Nat) (x : PanelSt) : (d.setPanel k x).needles = d.needles := rfl
@[simp] theorem Dev.setPanel_cal (d : Dev) (k : Nat) (x : PanelSt) : (d.setPanel k x).cal = d.cal := rfl
@[simp] theorem Dev.setPanel_banks (d : Dev) (k : Nat) (x : PanelSt) : (d.setPanel k x).banks = d.banks := rfl
@[simp] theorem Dev.setPanel_safeBalls (d : Dev) (k : Nat) (x : PanelSt) : (d.setPanel k x).safeBalls = d.safeBalls := rfl
@[simp] theorem Dev.setPanel_cascade (d : Dev) (k : Nat) (x : PanelSt) : (d.setPanel k x).cascade = d.cascade := rfl
@[simp] theorem Dev.setPanel_config (d : Dev) (k : Nat) (x : PanelSt) : (d.setPanel k x).config = d.config := rfl
@[simp] theorem Dev.setPanel_sec (d : Dev) (k : Nat) (x : PanelSt) : (d.setPanel k x).sec = d.sec := rfl
@[simp] theorem Dev.setPanel_tr (d : Dev) (k : Nat) (x : PanelSt) : (d.setPanel k x).tr = d.tr := rfl
@[simp] theorem Dev.setPanel_spool (d : Dev) (k : Nat) (x : PanelSt) : (d.setPanel k x).spool = d.spool := rfl
@[simp] theorem Dev.setPanel_rr (d : Dev) (k : Nat) (x : PanelSt) : (d.setPanel k x).rr = d.rr := rfl
@[simp] theorem Dev.setPanel_tally (d : Dev) (k : Nat) (x : PanelSt) : (d.setPanel k x).tally = d.tally := rfl
@[simp] theorem Dev.setPanel_swatch (d : Dev) (k : Nat) (x : PanelSt) : (d.setPanel k x).swatch = d.swatch := rfl
@[simp] theorem Dev.setPanel_darn (d : Dev) (k : Nat) (x : PanelSt) : (d.setPanel k x).darn = d.darn := rfl
@[simp] theorem Dev.setPanel_safety (d : Dev) (k : Nat) (x : PanelSt) : (d.setPanel k x).safety = d.safety := rfl

@[simp] theorem Dev.setSeam_regs (d : Dev) (k : Nat) (x : SeamSt) : (d.setSeam k x).regs = d.regs := rfl
@[simp] theorem Dev.setSeam_strs (d : Dev) (k : Nat) (x : SeamSt) : (d.setSeam k x).strs = d.strs := rfl
@[simp] theorem Dev.setSeam_staged (d : Dev) (k : Nat) (x : SeamSt) : (d.setSeam k x).staged = d.staged := rfl
@[simp] theorem Dev.setSeam_freeCtr (d : Dev) (k : Nat) (x : SeamSt) : (d.setSeam k x).freeCtr = d.freeCtr := rfl
@[simp] theorem Dev.setSeam_out (d : Dev) (k : Nat) (x : SeamSt) : (d.setSeam k x).out = d.out := rfl
@[simp] theorem Dev.setSeam_core (d : Dev) (k : Nat) (x : SeamSt) : (d.setSeam k x).core = d.core := rfl
@[simp] theorem Dev.setSeam_env (d : Dev) (k : Nat) (x : SeamSt) : (d.setSeam k x).env = d.env := rfl
@[simp] theorem Dev.setSeam_wiring (d : Dev) (k : Nat) (x : SeamSt) : (d.setSeam k x).wiring = d.wiring := rfl
@[simp] theorem Dev.setSeam_nv (d : Dev) (k : Nat) (x : SeamSt) : (d.setSeam k x).nv = d.nv := rfl
@[simp] theorem Dev.setSeam_panels (d : Dev) (k : Nat) (x : SeamSt) : (d.setSeam k x).panels = d.panels := rfl
@[simp] theorem Dev.setSeam_baste (d : Dev) (k : Nat) (x : SeamSt) : (d.setSeam k x).baste = d.baste := rfl
@[simp] theorem Dev.setSeam_watch (d : Dev) (k : Nat) (x : SeamSt) : (d.setSeam k x).watch = d.watch := rfl
@[simp] theorem Dev.setSeam_window (d : Dev) (k : Nat) (x : SeamSt) : (d.setSeam k x).window = d.window := rfl
@[simp] theorem Dev.setSeam_halves (d : Dev) (k : Nat) (x : SeamSt) : (d.setSeam k x).halves = d.halves := rfl
@[simp] theorem Dev.setSeam_hemWin (d : Dev) (k : Nat) (x : SeamSt) : (d.setSeam k x).hemWin = d.hemWin := rfl
@[simp] theorem Dev.setSeam_bobbins (d : Dev) (k : Nat) (x : SeamSt) : (d.setSeam k x).bobbins = d.bobbins := rfl
@[simp] theorem Dev.setSeam_blocks (d : Dev) (k : Nat) (x : SeamSt) : (d.setSeam k x).blocks = d.blocks := rfl
@[simp] theorem Dev.setSeam_scrub (d : Dev) (k : Nat) (x : SeamSt) : (d.setSeam k x).scrub = d.scrub := rfl
@[simp] theorem Dev.setSeam_patrol (d : Dev) (k : Nat) (x : SeamSt) : (d.setSeam k x).patrol = d.patrol := rfl
@[simp] theorem Dev.setSeam_shuttles (d : Dev) (k : Nat) (x : SeamSt) : (d.setSeam k x).shuttles = d.shuttles := rfl
@[simp] theorem Dev.setSeam_programs (d : Dev) (k : Nat) (x : SeamSt) : (d.setSeam k x).programs = d.programs := rfl
@[simp] theorem Dev.setSeam_progErrs (d : Dev) (k : Nat) (x : SeamSt) : (d.setSeam k x).progErrs = d.progErrs := rfl
@[simp] theorem Dev.setSeam_needles (d : Dev) (k : Nat) (x : SeamSt) : (d.setSeam k x).needles = d.needles := rfl
@[simp] theorem Dev.setSeam_cal (d : Dev) (k : Nat) (x : SeamSt) : (d.setSeam k x).cal = d.cal := rfl
@[simp] theorem Dev.setSeam_banks (d : Dev) (k : Nat) (x : SeamSt) : (d.setSeam k x).banks = d.banks := rfl
@[simp] theorem Dev.setSeam_safeBalls (d : Dev) (k : Nat) (x : SeamSt) : (d.setSeam k x).safeBalls = d.safeBalls := rfl
@[simp] theorem Dev.setSeam_cascade (d : Dev) (k : Nat) (x : SeamSt) : (d.setSeam k x).cascade = d.cascade := rfl
@[simp] theorem Dev.setSeam_config (d : Dev) (k : Nat) (x : SeamSt) : (d.setSeam k x).config = d.config := rfl
@[simp] theorem Dev.setSeam_sec (d : Dev) (k : Nat) (x : SeamSt) : (d.setSeam k x).sec = d.sec := rfl
@[simp] theorem Dev.setSeam_tr (d : Dev) (k : Nat) (x : SeamSt) : (d.setSeam k x).tr = d.tr := rfl
@[simp] theorem Dev.setSeam_spool (d : Dev) (k : Nat) (x : SeamSt) : (d.setSeam k x).spool = d.spool := rfl
@[simp] theorem Dev.setSeam_rr (d : Dev) (k : Nat) (x : SeamSt) : (d.setSeam k x).rr = d.rr := rfl
@[simp] theorem Dev.setSeam_tally (d : Dev) (k : Nat) (x : SeamSt) : (d.setSeam k x).tally = d.tally := rfl
@[simp] theorem Dev.setSeam_swatch (d : Dev) (k : Nat) (x : SeamSt) : (d.setSeam k x).swatch = d.swatch := rfl
@[simp] theorem Dev.setSeam_darn (d : Dev) (k : Nat) (x : SeamSt) : (d.setSeam k x).darn = d.darn := rfl
@[simp] theorem Dev.setSeam_safety (d : Dev) (k : Nat) (x : SeamSt) : (d.setSeam k x).safety = d.safety := rfl

@[simp] theorem Dev.setWatch_regs (d : Dev) (k : Nat) (x : WatchSt) : (d.setWatch k x).regs = d.regs := rfl
@[simp] theorem Dev.setWatch_strs (d : Dev) (k : Nat) (x : WatchSt) : (d.setWatch k x).strs = d.strs := rfl
@[simp] theorem Dev.setWatch_staged (d : Dev) (k : Nat) (x : WatchSt) : (d.setWatch k x).staged = d.staged := rfl
@[simp] theorem Dev.setWatch_freeCtr (d : Dev) (k : Nat) (x : WatchSt) : (d.setWatch k x).freeCtr = d.freeCtr := rfl
@[simp] theorem Dev.setWatch_out (d : Dev) (k : Nat) (x : WatchSt) : (d.setWatch k x).out = d.out := rfl
@[simp] theorem Dev.setWatch_core (d : Dev) (k : Nat) (x : WatchSt) : (d.setWatch k x).core = d.core := rfl
@[simp] theorem Dev.setWatch_env (d : Dev) (k : Nat) (x : WatchSt) : (d.setWatch k x).env = d.env := rfl
@[simp] theorem Dev.setWatch_wiring (d : Dev) (k : Nat) (x : WatchSt) : (d.setWatch k x).wiring = d.wiring := rfl
@[simp] theorem Dev.setWatch_nv (d : Dev) (k : Nat) (x : WatchSt) : (d.setWatch k x).nv = d.nv := rfl
@[simp] theorem Dev.setWatch_panels (d : Dev) (k : Nat) (x : WatchSt) : (d.setWatch k x).panels = d.panels := rfl
@[simp] theorem Dev.setWatch_seams (d : Dev) (k : Nat) (x : WatchSt) : (d.setWatch k x).seams = d.seams := rfl
@[simp] theorem Dev.setWatch_baste (d : Dev) (k : Nat) (x : WatchSt) : (d.setWatch k x).baste = d.baste := rfl
@[simp] theorem Dev.setWatch_window (d : Dev) (k : Nat) (x : WatchSt) : (d.setWatch k x).window = d.window := rfl
@[simp] theorem Dev.setWatch_halves (d : Dev) (k : Nat) (x : WatchSt) : (d.setWatch k x).halves = d.halves := rfl
@[simp] theorem Dev.setWatch_hemWin (d : Dev) (k : Nat) (x : WatchSt) : (d.setWatch k x).hemWin = d.hemWin := rfl
@[simp] theorem Dev.setWatch_bobbins (d : Dev) (k : Nat) (x : WatchSt) : (d.setWatch k x).bobbins = d.bobbins := rfl
@[simp] theorem Dev.setWatch_blocks (d : Dev) (k : Nat) (x : WatchSt) : (d.setWatch k x).blocks = d.blocks := rfl
@[simp] theorem Dev.setWatch_scrub (d : Dev) (k : Nat) (x : WatchSt) : (d.setWatch k x).scrub = d.scrub := rfl
@[simp] theorem Dev.setWatch_patrol (d : Dev) (k : Nat) (x : WatchSt) : (d.setWatch k x).patrol = d.patrol := rfl
@[simp] theorem Dev.setWatch_shuttles (d : Dev) (k : Nat) (x : WatchSt) : (d.setWatch k x).shuttles = d.shuttles := rfl
@[simp] theorem Dev.setWatch_programs (d : Dev) (k : Nat) (x : WatchSt) : (d.setWatch k x).programs = d.programs := rfl
@[simp] theorem Dev.setWatch_progErrs (d : Dev) (k : Nat) (x : WatchSt) : (d.setWatch k x).progErrs = d.progErrs := rfl
@[simp] theorem Dev.setWatch_needles (d : Dev) (k : Nat) (x : WatchSt) : (d.setWatch k x).needles = d.needles := rfl
@[simp] theorem Dev.setWatch_cal (d : Dev) (k : Nat) (x : WatchSt) : (d.setWatch k x).cal = d.cal := rfl
@[simp] theorem Dev.setWatch_banks (d : Dev) (k : Nat) (x : WatchSt) : (d.setWatch k x).banks = d.banks := rfl
@[simp] theorem Dev.setWatch_safeBalls (d : Dev) (k : Nat) (x : WatchSt) : (d.setWatch k x).safeBalls = d.safeBalls := rfl
@[simp] theorem Dev.setWatch_cascade (d : Dev) (k : Nat) (x : WatchSt) : (d.setWatch k x).cascade = d.cascade := rfl
@[simp] theorem Dev.setWatch_config (d : Dev) (k : Nat) (x : WatchSt) : (d.setWatch k x).config = d.config := rfl
@[simp] theorem Dev.setWatch_sec (d : Dev) (k : Nat) (x : WatchSt) : (d.setWatch k x).sec = d.sec := rfl
@[simp] theorem Dev.setWatch_tr (d : Dev) (k : Nat) (x : WatchSt) : (d.setWatch k x).tr = d.tr := rfl
@[simp] theorem Dev.setWatch_spool (d : Dev) (k : Nat) (x : WatchSt) : (d.setWatch k x).spool = d.spool := rfl
@[simp] theorem Dev.setWatch_rr (d : Dev) (k : Nat) (x : WatchSt) : (d.setWatch k x).rr = d.rr := rfl
@[simp] theorem Dev.setWatch_tally (d : Dev) (k : Nat) (x : WatchSt) : (d.setWatch k x).tally = d.tally := rfl
@[simp] theorem Dev.setWatch_swatch (d : Dev) (k : Nat) (x : WatchSt) : (d.setWatch k x).swatch = d.swatch := rfl
@[simp] theorem Dev.setWatch_darn (d : Dev) (k : Nat) (x : WatchSt) : (d.setWatch k x).darn = d.darn := rfl
@[simp] theorem Dev.setWatch_safety (d : Dev) (k : Nat) (x : WatchSt) : (d.setWatch k x).safety = d.safety := rfl

@[simp] theorem Dev.setHalf_regs (d : Dev) (k : Nat) (x : HalfSt) : (d.setHalf k x).regs = d.regs := rfl
@[simp] theorem Dev.setHalf_strs (d : Dev) (k : Nat) (x : HalfSt) : (d.setHalf k x).strs = d.strs := rfl
@[simp] theorem Dev.setHalf_staged (d : Dev) (k : Nat) (x : HalfSt) : (d.setHalf k x).staged = d.staged := rfl
@[simp] theorem Dev.setHalf_freeCtr (d : Dev) (k : Nat) (x : HalfSt) : (d.setHalf k x).freeCtr = d.freeCtr := rfl
@[simp] theorem Dev.setHalf_out (d : Dev) (k : Nat) (x : HalfSt) : (d.setHalf k x).out = d.out := rfl
@[simp] theorem Dev.setHalf_core (d : Dev) (k : Nat) (x : HalfSt) : (d.setHalf k x).core = d.core := rfl
@[simp] theorem Dev.setHalf_env (d : Dev) (k : Nat) (x : HalfSt) : (d.setHalf k x).env = d.env := rfl
@[simp] theorem Dev.setHalf_wiring (d : Dev) (k : Nat) (x : HalfSt) : (d.setHalf k x).wiring = d.wiring := rfl
@[simp] theorem Dev.setHalf_nv (d : Dev) (k : Nat) (x : HalfSt) : (d.setHalf k x).nv = d.nv := rfl
@[simp] theorem Dev.setHalf_panels (d : Dev) (k : Nat) (x : HalfSt) : (d.setHalf k x).panels = d.panels := rfl
@[simp] theorem Dev.setHalf_seams (d : Dev) (k : Nat) (x : HalfSt) : (d.setHalf k x).seams = d.seams := rfl
@[simp] theorem Dev.setHalf_baste (d : Dev) (k : Nat) (x : HalfSt) : (d.setHalf k x).baste = d.baste := rfl
@[simp] theorem Dev.setHalf_watch (d : Dev) (k : Nat) (x : HalfSt) : (d.setHalf k x).watch = d.watch := rfl
@[simp] theorem Dev.setHalf_window (d : Dev) (k : Nat) (x : HalfSt) : (d.setHalf k x).window = d.window := rfl
@[simp] theorem Dev.setHalf_hemWin (d : Dev) (k : Nat) (x : HalfSt) : (d.setHalf k x).hemWin = d.hemWin := rfl
@[simp] theorem Dev.setHalf_bobbins (d : Dev) (k : Nat) (x : HalfSt) : (d.setHalf k x).bobbins = d.bobbins := rfl
@[simp] theorem Dev.setHalf_blocks (d : Dev) (k : Nat) (x : HalfSt) : (d.setHalf k x).blocks = d.blocks := rfl
@[simp] theorem Dev.setHalf_scrub (d : Dev) (k : Nat) (x : HalfSt) : (d.setHalf k x).scrub = d.scrub := rfl
@[simp] theorem Dev.setHalf_patrol (d : Dev) (k : Nat) (x : HalfSt) : (d.setHalf k x).patrol = d.patrol := rfl
@[simp] theorem Dev.setHalf_shuttles (d : Dev) (k : Nat) (x : HalfSt) : (d.setHalf k x).shuttles = d.shuttles := rfl
@[simp] theorem Dev.setHalf_programs (d : Dev) (k : Nat) (x : HalfSt) : (d.setHalf k x).programs = d.programs := rfl
@[simp] theorem Dev.setHalf_progErrs (d : Dev) (k : Nat) (x : HalfSt) : (d.setHalf k x).progErrs = d.progErrs := rfl
@[simp] theorem Dev.setHalf_needles (d : Dev) (k : Nat) (x : HalfSt) : (d.setHalf k x).needles = d.needles := rfl
@[simp] theorem Dev.setHalf_cal (d : Dev) (k : Nat) (x : HalfSt) : (d.setHalf k x).cal = d.cal := rfl
@[simp] theorem Dev.setHalf_banks (d : Dev) (k : Nat) (x : HalfSt) : (d.setHalf k x).banks = d.banks := rfl
@[simp] theorem Dev.setHalf_safeBalls (d : Dev) (k : Nat) (x : HalfSt) : (d.setHalf k x).safeBalls = d.safeBalls := rfl
@[simp] theorem Dev.setHalf_cascade (d : Dev) (k : Nat) (x : HalfSt) : (d.setHalf k x).cascade = d.cascade := rfl
@[simp] theorem Dev.setHalf_config (d : Dev) (k : Nat) (x : HalfSt) : (d.setHalf k x).config = d.config := rfl
@[simp] theorem Dev.setHalf_sec (d : Dev) (k : Nat) (x : HalfSt) : (d.setHalf k x).sec = d.sec := rfl
@[simp] theorem Dev.setHalf_tr (d : Dev) (k : Nat) (x : HalfSt) : (d.setHalf k x).tr = d.tr := rfl
@[simp] theorem Dev.setHalf_spool (d : Dev) (k : Nat) (x : HalfSt) : (d.setHalf k x).spool = d.spool := rfl
@[simp] theorem Dev.setHalf_rr (d : Dev) (k : Nat) (x : HalfSt) : (d.setHalf k x).rr = d.rr := rfl
@[simp] theorem Dev.setHalf_tally (d : Dev) (k : Nat) (x : HalfSt) : (d.setHalf k x).tally = d.tally := rfl
@[simp] theorem Dev.setHalf_swatch (d : Dev) (k : Nat) (x : HalfSt) : (d.setHalf k x).swatch = d.swatch := rfl
@[simp] theorem Dev.setHalf_darn (d : Dev) (k : Nat) (x : HalfSt) : (d.setHalf k x).darn = d.darn := rfl
@[simp] theorem Dev.setHalf_safety (d : Dev) (k : Nat) (x : HalfSt) : (d.setHalf k x).safety = d.safety := rfl

@[simp] theorem Dev.setHemWin_regs (d : Dev) (k : Nat) (x : HemWin) : (d.setHemWin k x).regs = d.regs := rfl
@[simp] theorem Dev.setHemWin_strs (d : Dev) (k : Nat) (x : HemWin) : (d.setHemWin k x).strs = d.strs := rfl
@[simp] theorem Dev.setHemWin_staged (d : Dev) (k : Nat) (x : HemWin) : (d.setHemWin k x).staged = d.staged := rfl
@[simp] theorem Dev.setHemWin_freeCtr (d : Dev) (k : Nat) (x : HemWin) : (d.setHemWin k x).freeCtr = d.freeCtr := rfl
@[simp] theorem Dev.setHemWin_out (d : Dev) (k : Nat) (x : HemWin) : (d.setHemWin k x).out = d.out := rfl
@[simp] theorem Dev.setHemWin_core (d : Dev) (k : Nat) (x : HemWin) : (d.setHemWin k x).core = d.core := rfl
@[simp] theorem Dev.setHemWin_env (d : Dev) (k : Nat) (x : HemWin) : (d.setHemWin k x).env = d.env := rfl
@[simp] theorem Dev.setHemWin_wiring (d : Dev) (k : Nat) (x : HemWin) : (d.setHemWin k x).wiring = d.wiring := rfl
@[simp] theorem Dev.setHemWin_nv (d : Dev) (k : Nat) (x : HemWin) : (d.setHemWin k x).nv = d.nv := rfl
@[simp] theorem Dev.setHemWin_panels (d : Dev) (k : Nat) (x : HemWin) : (d.setHemWin k x).panels = d.panels := rfl
@[simp] theorem Dev.setHemWin_seams (d : Dev) (k : Nat) (x : HemWin) : (d.setHemWin k x).seams = d.seams := rfl
@[simp] theorem Dev.setHemWin_baste (d : Dev) (k : Nat) (x : HemWin) : (d.setHemWin k x).baste = d.baste := rfl
@[simp] theorem Dev.setHemWin_watch (d : Dev) (k : Nat) (x : HemWin) : (d.setHemWin k x).watch = d.watch := rfl
@[simp] theorem Dev.setHemWin_window (d : Dev) (k : Nat) (x : HemWin) : (d.setHemWin k x).window = d.window := rfl
@[simp] theorem Dev.setHemWin_halves (d : Dev) (k : Nat) (x : HemWin) : (d.setHemWin k x).halves = d.halves := rfl
@[simp] theorem Dev.setHemWin_bobbins (d : Dev) (k : Nat) (x : HemWin) : (d.setHemWin k x).bobbins = d.bobbins := rfl
@[simp] theorem Dev.setHemWin_blocks (d : Dev) (k : Nat) (x : HemWin) : (d.setHemWin k x).blocks = d.blocks := rfl
@[simp] theorem Dev.setHemWin_scrub (d : Dev) (k : Nat) (x : HemWin) : (d.setHemWin k x).scrub = d.scrub := rfl
@[simp] theorem Dev.setHemWin_patrol (d : Dev) (k : Nat) (x : HemWin) : (d.setHemWin k x).patrol = d.patrol := rfl
@[simp] theorem Dev.setHemWin_shuttles (d : Dev) (k : Nat) (x : HemWin) : (d.setHemWin k x).shuttles = d.shuttles := rfl
@[simp] theorem Dev.setHemWin_programs (d : Dev) (k : Nat) (x : HemWin) : (d.setHemWin k x).programs = d.programs := rfl
@[simp] theorem Dev.setHemWin_progErrs (d : Dev) (k : Nat) (x : HemWin) : (d.setHemWin k x).progErrs = d.progErrs := rfl
@[simp] theorem Dev.setHemWin_needles (d : Dev) (k : Nat) (x : HemWin) : (d.setHemWin k x).needles = d.needles := rfl
@[simp] theorem Dev.setHemWin_cal (d : Dev) (k : Nat) (x : HemWin) : (d.setHemWin k x).cal = d.cal := rfl
@[simp] theorem Dev.setHemWin_banks (d : Dev) (k : Nat) (x : HemWin) : (d.setHemWin k x).banks = d.banks := rfl
@[simp] theorem Dev.setHemWin_safeBalls (d : Dev) (k : Nat) (x : HemWin) : (d.setHemWin k x).safeBalls = d.safeBalls := rfl
@[simp] theorem Dev.setHemWin_cascade (d : Dev) (k : Nat) (x : HemWin) : (d.setHemWin k x).cascade = d.cascade := rfl
@[simp] theorem Dev.setHemWin_config (d : Dev) (k : Nat) (x : HemWin) : (d.setHemWin k x).config = d.config := rfl
@[simp] theorem Dev.setHemWin_sec (d : Dev) (k : Nat) (x : HemWin) : (d.setHemWin k x).sec = d.sec := rfl
@[simp] theorem Dev.setHemWin_tr (d : Dev) (k : Nat) (x : HemWin) : (d.setHemWin k x).tr = d.tr := rfl
@[simp] theorem Dev.setHemWin_spool (d : Dev) (k : Nat) (x : HemWin) : (d.setHemWin k x).spool = d.spool := rfl
@[simp] theorem Dev.setHemWin_rr (d : Dev) (k : Nat) (x : HemWin) : (d.setHemWin k x).rr = d.rr := rfl
@[simp] theorem Dev.setHemWin_tally (d : Dev) (k : Nat) (x : HemWin) : (d.setHemWin k x).tally = d.tally := rfl
@[simp] theorem Dev.setHemWin_swatch (d : Dev) (k : Nat) (x : HemWin) : (d.setHemWin k x).swatch = d.swatch := rfl
@[simp] theorem Dev.setHemWin_darn (d : Dev) (k : Nat) (x : HemWin) : (d.setHemWin k x).darn = d.darn := rfl
@[simp] theorem Dev.setHemWin_safety (d : Dev) (k : Nat) (x : HemWin) : (d.setHemWin k x).safety = d.safety := rfl

@[simp] theorem Dev.setBobbin_regs (d : Dev) (k : Nat) (x : BobbinSt) : (d.setBobbin k x).regs = d.regs := rfl
@[simp] theorem Dev.setBobbin_strs (d : Dev) (k : Nat) (x : BobbinSt) : (d.setBobbin k x).strs = d.strs := rfl
@[simp] theorem Dev.setBobbin_staged (d : Dev) (k : Nat) (x : BobbinSt) : (d.setBobbin k x).staged = d.staged := rfl
@[simp] theorem Dev.setBobbin_freeCtr (d : Dev) (k : Nat) (x : BobbinSt) : (d.setBobbin k x).freeCtr = d.freeCtr := rfl
@[simp] theorem Dev.setBobbin_out (d : Dev) (k : Nat) (x : BobbinSt) : (d.setBobbin k x).out = d.out := rfl
@[simp] theorem Dev.setBobbin_core (d : Dev) (k : Nat) (x : BobbinSt) : (d.setBobbin k x).core = d.core := rfl
@[simp] theorem Dev.setBobbin_env (d : Dev) (k : Nat) (x : BobbinSt) : (d.setBobbin k x).env = d.env := rfl
@[simp] theorem Dev.setBobbin_wiring (d : Dev) (k : Nat) (x : BobbinSt) : (d.setBobbin k x).wiring = d.wiring := rfl
@[simp] theorem Dev.setBobbin_nv (d : Dev) (k : Nat) (x : BobbinSt) : (d.setBobbin k x).nv = d.nv := rfl
@[simp] theorem Dev.setBobbin_panels (d : Dev) (k : Nat) (x : BobbinSt) : (d.setBobbin k x).panels = d.panels := rfl
@[simp] theorem Dev.setBobbin_seams (d : Dev) (k : Nat) (x : BobbinSt) : (d.setBobbin k x).seams = d.seams := rfl
@[simp] theorem Dev.setBobbin_baste (d : Dev) (k : Nat) (x : BobbinSt) : (d.setBobbin k x).baste = d.baste := rfl
@[simp] theorem Dev.setBobbin_watch (d : Dev) (k : Nat) (x : BobbinSt) : (d.setBobbin k x).watch = d.watch := rfl
@[simp] theorem Dev.setBobbin_window (d : Dev) (k : Nat) (x : BobbinSt) : (d.setBobbin k x).window = d.window := rfl
@[simp] theorem Dev.setBobbin_halves (d : Dev) (k : Nat) (x : BobbinSt) : (d.setBobbin k x).halves = d.halves := rfl
@[simp] theorem Dev.setBobbin_hemWin (d : Dev) (k : Nat) (x : BobbinSt) : (d.setBobbin k x).hemWin = d.hemWin := rfl
@[simp] theorem Dev.setBobbin_blocks (d : Dev) (k : Nat) (x : BobbinSt) : (d.setBobbin k x).blocks = d.blocks := rfl
@[simp] theorem Dev.setBobbin_scrub (d : Dev) (k : Nat) (x : BobbinSt) : (d.setBobbin k x).scrub = d.scrub := rfl
@[simp] theorem Dev.setBobbin_patrol (d : Dev) (k : Nat) (x : BobbinSt) : (d.setBobbin k x).patrol = d.patrol := rfl
@[simp] theorem Dev.setBobbin_shuttles (d : Dev) (k : Nat) (x : BobbinSt) : (d.setBobbin k x).shuttles = d.shuttles := rfl
@[simp] theorem Dev.setBobbin_programs (d : Dev) (k : Nat) (x : BobbinSt) : (d.setBobbin k x).programs = d.programs := rfl
@[simp] theorem Dev.setBobbin_progErrs (d : Dev) (k : Nat) (x : BobbinSt) : (d.setBobbin k x).progErrs = d.progErrs := rfl
@[simp] theorem Dev.setBobbin_needles (d : Dev) (k : Nat) (x : BobbinSt) : (d.setBobbin k x).needles = d.needles := rfl
@[simp] theorem Dev.setBobbin_cal (d : Dev) (k : Nat) (x : BobbinSt) : (d.setBobbin k x).cal = d.cal := rfl
@[simp] theorem Dev.setBobbin_banks (d : Dev) (k : Nat) (x : BobbinSt) : (d.setBobbin k x).banks = d.banks := rfl
@[simp] theorem Dev.setBobbin_safeBalls (d : Dev) (k : Nat) (x : BobbinSt) : (d.setBobbin k x).safeBalls = d.safeBalls := rfl
@[simp] theorem Dev.setBobbin_cascade (d : Dev) (k : Nat) (x : BobbinSt) : (d.setBobbin k x).cascade = d.cascade := rfl
@[simp] theorem Dev.setBobbin_config (d : Dev) (k : Nat) (x : BobbinSt) : (d.setBobbin k x).config = d.config := rfl
@[simp] theorem Dev.setBobbin_sec (d : Dev) (k : Nat) (x : BobbinSt) : (d.setBobbin k x).sec = d.sec := rfl
@[simp] theorem Dev.setBobbin_tr (d : Dev) (k : Nat) (x : BobbinSt) : (d.setBobbin k x).tr = d.tr := rfl
@[simp] theorem Dev.setBobbin_spool (d : Dev) (k : Nat) (x : BobbinSt) : (d.setBobbin k x).spool = d.spool := rfl
@[simp] theorem Dev.setBobbin_rr (d : Dev) (k : Nat) (x : BobbinSt) : (d.setBobbin k x).rr = d.rr := rfl
@[simp] theorem Dev.setBobbin_tally (d : Dev) (k : Nat) (x : BobbinSt) : (d.setBobbin k x).tally = d.tally := rfl
@[simp] theorem Dev.setBobbin_swatch (d : Dev) (k : Nat) (x : BobbinSt) : (d.setBobbin k x).swatch = d.swatch := rfl
@[simp] theorem Dev.setBobbin_darn (d : Dev) (k : Nat) (x : BobbinSt) : (d.setBobbin k x).darn = d.darn := rfl
@[simp] theorem Dev.setBobbin_safety (d : Dev) (k : Nat) (x : BobbinSt) : (d.setBobbin k x).safety = d.safety := rfl

@[simp] theorem Dev.setBlock_regs (d : Dev) (k : Nat) (x : BlockSt) : (d.setBlock k x).regs = d.regs := rfl
@[simp] theorem Dev.setBlock_strs (d : Dev) (k : Nat) (x : BlockSt) : (d.setBlock k x).strs = d.strs := rfl
@[simp] theorem Dev.setBlock_staged (d : Dev) (k : Nat) (x : BlockSt) : (d.setBlock k x).staged = d.staged := rfl
@[simp] theorem Dev.setBlock_freeCtr (d : Dev) (k : Nat) (x : BlockSt) : (d.setBlock k x).freeCtr = d.freeCtr := rfl
@[simp] theorem Dev.setBlock_out (d : Dev) (k : Nat) (x : BlockSt) : (d.setBlock k x).out = d.out := rfl
@[simp] theorem Dev.setBlock_core (d : Dev) (k : Nat) (x : BlockSt) : (d.setBlock k x).core = d.core := rfl
@[simp] theorem Dev.setBlock_env (d : Dev) (k : Nat) (x : BlockSt) : (d.setBlock k x).env = d.env := rfl
@[simp] theorem Dev.setBlock_wiring (d : Dev) (k : Nat) (x : BlockSt) : (d.setBlock k x).wiring = d.wiring := rfl
@[simp] theorem Dev.setBlock_nv (d : Dev) (k : Nat) (x : BlockSt) : (d.setBlock k x).nv = d.nv := rfl
@[simp] theorem Dev.setBlock_panels (d : Dev) (k : Nat) (x : BlockSt) : (d.setBlock k x).panels = d.panels := rfl
@[simp] theorem Dev.setBlock_seams (d : Dev) (k : Nat) (x : BlockSt) : (d.setBlock k x).seams = d.seams := rfl
@[simp] theorem Dev.setBlock_baste (d : Dev) (k : Nat) (x : BlockSt) : (d.setBlock k x).baste = d.baste := rfl
@[simp] theorem Dev.setBlock_watch (d : Dev) (k : Nat) (x : BlockSt) : (d.setBlock k x).watch = d.watch := rfl
@[simp] theorem Dev.setBlock_window (d : Dev) (k : Nat) (x : BlockSt) : (d.setBlock k x).window = d.window := rfl
@[simp] theorem Dev.setBlock_halves (d : Dev) (k : Nat) (x : BlockSt) : (d.setBlock k x).halves = d.halves := rfl
@[simp] theorem Dev.setBlock_hemWin (d : Dev) (k : Nat) (x : BlockSt) : (d.setBlock k x).hemWin = d.hemWin := rfl
@[simp] theorem Dev.setBlock_bobbins (d : Dev) (k : Nat) (x : BlockSt) : (d.setBlock k x).bobbins = d.bobbins := rfl
@[simp] theorem Dev.setBlock_scrub (d : Dev) (k : Nat) (x : BlockSt) : (d.setBlock k x).scrub = d.scrub := rfl
@[simp] theorem Dev.setBlock_patrol (d : Dev) (k : Nat) (x : BlockSt) : (d.setBlock k x).patrol = d.patrol := rfl
@[simp] theorem Dev.setBlock_shuttles (d : Dev) (k : Nat) (x : BlockSt) : (d.setBlock k x).shuttles = d.shuttles := rfl
@[simp] theorem Dev.setBlock_programs (d : Dev) (k : Nat) (x : BlockSt) : (d.setBlock k x).programs = d.programs := rfl
@[simp] theorem Dev.setBlock_progErrs (d : Dev) (k : Nat) (x : BlockSt) : (d.setBlock k x).progErrs = d.progErrs := rfl
@[simp] theorem Dev.setBlock_needles (d : Dev) (k : Nat) (x : BlockSt) : (d.setBlock k x).needles = d.needles := rfl
@[simp] theorem Dev.setBlock_cal (d : Dev) (k : Nat) (x : BlockSt) : (d.setBlock k x).cal = d.cal := rfl
@[simp] theorem Dev.setBlock_banks (d : Dev) (k : Nat) (x : BlockSt) : (d.setBlock k x).banks = d.banks := rfl
@[simp] theorem Dev.setBlock_safeBalls (d : Dev) (k : Nat) (x : BlockSt) : (d.setBlock k x).safeBalls = d.safeBalls := rfl
@[simp] theorem Dev.setBlock_cascade (d : Dev) (k : Nat) (x : BlockSt) : (d.setBlock k x).cascade = d.cascade := rfl
@[simp] theorem Dev.setBlock_config (d : Dev) (k : Nat) (x : BlockSt) : (d.setBlock k x).config = d.config := rfl
@[simp] theorem Dev.setBlock_sec (d : Dev) (k : Nat) (x : BlockSt) : (d.setBlock k x).sec = d.sec := rfl
@[simp] theorem Dev.setBlock_tr (d : Dev) (k : Nat) (x : BlockSt) : (d.setBlock k x).tr = d.tr := rfl
@[simp] theorem Dev.setBlock_spool (d : Dev) (k : Nat) (x : BlockSt) : (d.setBlock k x).spool = d.spool := rfl
@[simp] theorem Dev.setBlock_rr (d : Dev) (k : Nat) (x : BlockSt) : (d.setBlock k x).rr = d.rr := rfl
@[simp] theorem Dev.setBlock_tally (d : Dev) (k : Nat) (x : BlockSt) : (d.setBlock k x).tally = d.tally := rfl
@[simp] theorem Dev.setBlock_swatch (d : Dev) (k : Nat) (x : BlockSt) : (d.setBlock k x).swatch = d.swatch := rfl
@[simp] theorem Dev.setBlock_darn (d : Dev) (k : Nat) (x : BlockSt) : (d.setBlock k x).darn = d.darn := rfl
@[simp] theorem Dev.setBlock_safety (d : Dev) (k : Nat) (x : BlockSt) : (d.setBlock k x).safety = d.safety := rfl

@[simp] theorem Dev.setShuttle_regs (d : Dev) (k : Nat) (x : ShuttleSt) : (d.setShuttle k x).regs = d.regs := rfl
@[simp] theorem Dev.setShuttle_strs (d : Dev) (k : Nat) (x : ShuttleSt) : (d.setShuttle k x).strs = d.strs := rfl
@[simp] theorem Dev.setShuttle_staged (d : Dev) (k : Nat) (x : ShuttleSt) : (d.setShuttle k x).staged = d.staged := rfl
@[simp] theorem Dev.setShuttle_freeCtr (d : Dev) (k : Nat) (x : ShuttleSt) : (d.setShuttle k x).freeCtr = d.freeCtr := rfl
@[simp] theorem Dev.setShuttle_out (d : Dev) (k : Nat) (x : ShuttleSt) : (d.setShuttle k x).out = d.out := rfl
@[simp] theorem Dev.setShuttle_core (d : Dev) (k : Nat) (x : ShuttleSt) : (d.setShuttle k x).core = d.core := rfl
@[simp] theorem Dev.setShuttle_env (d : Dev) (k : Nat) (x : ShuttleSt) : (d.setShuttle k x).env = d.env := rfl
@[simp] theorem Dev.setShuttle_wiring (d : Dev) (k : Nat) (x : ShuttleSt) : (d.setShuttle k x).wiring = d.wiring := rfl
@[simp] theorem Dev.setShuttle_nv (d : Dev) (k : Nat) (x : ShuttleSt) : (d.setShuttle k x).nv = d.nv := rfl
@[simp] theorem Dev.setShuttle_panels (d : Dev) (k : Nat) (x : ShuttleSt) : (d.setShuttle k x).panels = d.panels := rfl
@[simp] theorem Dev.setShuttle_seams (d : Dev) (k : Nat) (x : ShuttleSt) : (d.setShuttle k x).seams = d.seams := rfl
@[simp] theorem Dev.setShuttle_baste (d : Dev) (k : Nat) (x : ShuttleSt) : (d.setShuttle k x).baste = d.baste := rfl
@[simp] theorem Dev.setShuttle_watch (d : Dev) (k : Nat) (x : ShuttleSt) : (d.setShuttle k x).watch = d.watch := rfl
@[simp] theorem Dev.setShuttle_window (d : Dev) (k : Nat) (x : ShuttleSt) : (d.setShuttle k x).window = d.window := rfl
@[simp] theorem Dev.setShuttle_halves (d : Dev) (k : Nat) (x : ShuttleSt) : (d.setShuttle k x).halves = d.halves := rfl
@[simp] theorem Dev.setShuttle_hemWin (d : Dev) (k : Nat) (x : ShuttleSt) : (d.setShuttle k x).hemWin = d.hemWin := rfl
@[simp] theorem Dev.setShuttle_bobbins (d : Dev) (k : Nat) (x : ShuttleSt) : (d.setShuttle k x).bobbins = d.bobbins := rfl
@[simp] theorem Dev.setShuttle_blocks (d : Dev) (k : Nat) (x : ShuttleSt) : (d.setShuttle k x).blocks = d.blocks := rfl
@[simp] theorem Dev.setShuttle_scrub (d : Dev) (k : Nat) (x : ShuttleSt) : (d.setShuttle k x).scrub = d.scrub := rfl
@[simp] theorem Dev.setShuttle_patrol (d : Dev) (k : Nat) (x : ShuttleSt) : (d.setShuttle k x).patrol = d.patrol := rfl
@[simp] theorem Dev.setShuttle_programs (d : Dev) (k : Nat) (x : ShuttleSt) : (d.setShuttle k x).programs = d.programs := rfl
@[simp] theorem Dev.setShuttle_progErrs (d : Dev) (k : Nat) (x : ShuttleSt) : (d.setShuttle k x).progErrs = d.progErrs := rfl
@[simp] theorem Dev.setShuttle_needles (d : Dev) (k : Nat) (x : ShuttleSt) : (d.setShuttle k x).needles = d.needles := rfl
@[simp] theorem Dev.setShuttle_cal (d : Dev) (k : Nat) (x : ShuttleSt) : (d.setShuttle k x).cal = d.cal := rfl
@[simp] theorem Dev.setShuttle_banks (d : Dev) (k : Nat) (x : ShuttleSt) : (d.setShuttle k x).banks = d.banks := rfl
@[simp] theorem Dev.setShuttle_safeBalls (d : Dev) (k : Nat) (x : ShuttleSt) : (d.setShuttle k x).safeBalls = d.safeBalls := rfl
@[simp] theorem Dev.setShuttle_cascade (d : Dev) (k : Nat) (x : ShuttleSt) : (d.setShuttle k x).cascade = d.cascade := rfl
@[simp] theorem Dev.setShuttle_config (d : Dev) (k : Nat) (x : ShuttleSt) : (d.setShuttle k x).config = d.config := rfl
@[simp] theorem Dev.setShuttle_sec (d : Dev) (k : Nat) (x : ShuttleSt) : (d.setShuttle k x).sec = d.sec := rfl
@[simp] theorem Dev.setShuttle_tr (d : Dev) (k : Nat) (x : ShuttleSt) : (d.setShuttle k x).tr = d.tr := rfl
@[simp] theorem Dev.setShuttle_spool (d : Dev) (k : Nat) (x : ShuttleSt) : (d.setShuttle k x).spool = d.spool := rfl
@[simp] theorem Dev.setShuttle_rr (d : Dev) (k : Nat) (x : ShuttleSt) : (d.setShuttle k x).rr = d.rr := rfl
@[simp] theorem Dev.setShuttle_tally (d : Dev) (k : Nat) (x : ShuttleSt) : (d.setShuttle k x).tally = d.tally := rfl
@[simp] theorem Dev.setShuttle_swatch (d : Dev) (k : Nat) (x : ShuttleSt) : (d.setShuttle k x).swatch = d.swatch := rfl
@[simp] theorem Dev.setShuttle_darn (d : Dev) (k : Nat) (x : ShuttleSt) : (d.setShuttle k x).darn = d.darn := rfl
@[simp] theorem Dev.setShuttle_safety (d : Dev) (k : Nat) (x : ShuttleSt) : (d.setShuttle k x).safety = d.safety := rfl

@[simp] theorem Dev.setNeedle_regs (d : Dev) (k : Nat) (x : NeedleSt) : (d.setNeedle k x).regs = d.regs := rfl
@[simp] theorem Dev.setNeedle_strs (d : Dev) (k : Nat) (x : NeedleSt) : (d.setNeedle k x).strs = d.strs := rfl
@[simp] theorem Dev.setNeedle_staged (d : Dev) (k : Nat) (x : NeedleSt) : (d.setNeedle k x).staged = d.staged := rfl
@[simp] theorem Dev.setNeedle_freeCtr (d : Dev) (k : Nat) (x : NeedleSt) : (d.setNeedle k x).freeCtr = d.freeCtr := rfl
@[simp] theorem Dev.setNeedle_out (d : Dev) (k : Nat) (x : NeedleSt) : (d.setNeedle k x).out = d.out := rfl
@[simp] theorem Dev.setNeedle_core (d : Dev) (k : Nat) (x : NeedleSt) : (d.setNeedle k x).core = d.core := rfl
@[simp] theorem Dev.setNeedle_env (d : Dev) (k : Nat) (x : NeedleSt) : (d.setNeedle k x).env = d.env := rfl
@[simp] theorem Dev.setNeedle_wiring (d : Dev) (k : Nat) (x : NeedleSt) : (d.setNeedle k x).wiring = d.wiring := rfl
@[simp] theorem Dev.setNeedle_nv (d : Dev) (k : Nat) (x : NeedleSt) : (d.setNeedle k x).nv = d.nv := rfl
@[simp] theorem Dev.setNeedle_panels (d : Dev) (k : Nat) (x : NeedleSt) : (d.setNeedle k x).panels = d.panels := rfl
@[simp] theorem Dev.setNeedle_seams (d : Dev) (k : Nat) (x : NeedleSt) : (d.setNeedle k x).seams = d.seams := rfl
@[simp] theorem Dev.setNeedle_baste (d : Dev) (k : Nat) (x : NeedleSt) : (d.setNeedle k x).baste = d.baste := rfl
@[simp] theorem Dev.setNeedle_watch (d : Dev) (k : Nat) (x : NeedleSt) : (d.setNeedle k x).watch = d.watch := rfl
@[simp] theorem Dev.setNeedle_window (d : Dev) (k : Nat) (x : NeedleSt) : (d.setNeedle k x).window = d.window := rfl
@[simp] theorem Dev.setNeedle_halves (d : Dev) (k : Nat) (x : NeedleSt) : (d.setNeedle k x).halves = d.halves := rfl
@[simp] theorem Dev.setNeedle_hemWin (d : Dev) (k : Nat) (x : NeedleSt) : (d.setNeedle k x).hemWin = d.hemWin := rfl
@[simp] theorem Dev.setNeedle_bobbins (d : Dev) (k : Nat) (x : NeedleSt) : (d.setNeedle k x).bobbins = d.bobbins := rfl
@[simp] theorem Dev.setNeedle_blocks (d : Dev) (k : Nat) (x : NeedleSt) : (d.setNeedle k x).blocks = d.blocks := rfl
@[simp] theorem Dev.setNeedle_scrub (d : Dev) (k : Nat) (x : NeedleSt) : (d.setNeedle k x).scrub = d.scrub := rfl
@[simp] theorem Dev.setNeedle_patrol (d : Dev) (k : Nat) (x : NeedleSt) : (d.setNeedle k x).patrol = d.patrol := rfl
@[simp] theorem Dev.setNeedle_shuttles (d : Dev) (k : Nat) (x : NeedleSt) : (d.setNeedle k x).shuttles = d.shuttles := rfl
@[simp] theorem Dev.setNeedle_programs (d : Dev) (k : Nat) (x : NeedleSt) : (d.setNeedle k x).programs = d.programs := rfl
@[simp] theorem Dev.setNeedle_progErrs (d : Dev) (k : Nat) (x : NeedleSt) : (d.setNeedle k x).progErrs = d.progErrs := rfl
@[simp] theorem Dev.setNeedle_cal (d : Dev) (k : Nat) (x : NeedleSt) : (d.setNeedle k x).cal = d.cal := rfl
@[simp] theorem Dev.setNeedle_banks (d : Dev) (k : Nat) (x : NeedleSt) : (d.setNeedle k x).banks = d.banks := rfl
@[simp] theorem Dev.setNeedle_safeBalls (d : Dev) (k : Nat) (x : NeedleSt) : (d.setNeedle k x).safeBalls = d.safeBalls := rfl
@[simp] theorem Dev.setNeedle_cascade (d : Dev) (k : Nat) (x : NeedleSt) : (d.setNeedle k x).cascade = d.cascade := rfl
@[simp] theorem Dev.setNeedle_config (d : Dev) (k : Nat) (x : NeedleSt) : (d.setNeedle k x).config = d.config := rfl
@[simp] theorem Dev.setNeedle_sec (d : Dev) (k : Nat) (x : NeedleSt) : (d.setNeedle k x).sec = d.sec := rfl
@[simp] theorem Dev.setNeedle_tr (d : Dev) (k : Nat) (x : NeedleSt) : (d.setNeedle k x).tr = d.tr := rfl
@[simp] theorem Dev.setNeedle_spool (d : Dev) (k : Nat) (x : NeedleSt) : (d.setNeedle k x).spool = d.spool := rfl
@[simp] theorem Dev.setNeedle_rr (d : Dev) (k : Nat) (x : NeedleSt) : (d.setNeedle k x).rr = d.rr := rfl
@[simp] theorem Dev.setNeedle_tally (d : Dev) (k : Nat) (x : NeedleSt) : (d.setNeedle k x).tally = d.tally := rfl
@[simp] theorem Dev.setNeedle_swatch (d : Dev) (k : Nat) (x : NeedleSt) : (d.setNeedle k x).swatch = d.swatch := rfl
@[simp] theorem Dev.setNeedle_darn (d : Dev) (k : Nat) (x : NeedleSt) : (d.setNeedle k x).darn = d.darn := rfl
@[simp] theorem Dev.setNeedle_safety (d : Dev) (k : Nat) (x : NeedleSt) : (d.setNeedle k x).safety = d.safety := rfl

@[simp] theorem Dev.setBank_regs (d : Dev) (k : Nat) (x : BankSt) : (d.setBank k x).regs = d.regs := rfl
@[simp] theorem Dev.setBank_strs (d : Dev) (k : Nat) (x : BankSt) : (d.setBank k x).strs = d.strs := rfl
@[simp] theorem Dev.setBank_staged (d : Dev) (k : Nat) (x : BankSt) : (d.setBank k x).staged = d.staged := rfl
@[simp] theorem Dev.setBank_freeCtr (d : Dev) (k : Nat) (x : BankSt) : (d.setBank k x).freeCtr = d.freeCtr := rfl
@[simp] theorem Dev.setBank_out (d : Dev) (k : Nat) (x : BankSt) : (d.setBank k x).out = d.out := rfl
@[simp] theorem Dev.setBank_core (d : Dev) (k : Nat) (x : BankSt) : (d.setBank k x).core = d.core := rfl
@[simp] theorem Dev.setBank_env (d : Dev) (k : Nat) (x : BankSt) : (d.setBank k x).env = d.env := rfl
@[simp] theorem Dev.setBank_wiring (d : Dev) (k : Nat) (x : BankSt) : (d.setBank k x).wiring = d.wiring := rfl
@[simp] theorem Dev.setBank_nv (d : Dev) (k : Nat) (x : BankSt) : (d.setBank k x).nv = d.nv := rfl
@[simp] theorem Dev.setBank_panels (d : Dev) (k : Nat) (x : BankSt) : (d.setBank k x).panels = d.panels := rfl
@[simp] theorem Dev.setBank_seams (d : Dev) (k : Nat) (x : BankSt) : (d.setBank k x).seams = d.seams := rfl
@[simp] theorem Dev.setBank_baste (d : Dev) (k : Nat) (x : BankSt) : (d.setBank k x).baste = d.baste := rfl
@[simp] theorem Dev.setBank_watch (d : Dev) (k : Nat) (x : BankSt) : (d.setBank k x).watch = d.watch := rfl
@[simp] theorem Dev.setBank_window (d : Dev) (k : Nat) (x : BankSt) : (d.setBank k x).window = d.window := rfl
@[simp] theorem Dev.setBank_halves (d : Dev) (k : Nat) (x : BankSt) : (d.setBank k x).halves = d.halves := rfl
@[simp] theorem Dev.setBank_hemWin (d : Dev) (k : Nat) (x : BankSt) : (d.setBank k x).hemWin = d.hemWin := rfl
@[simp] theorem Dev.setBank_bobbins (d : Dev) (k : Nat) (x : BankSt) : (d.setBank k x).bobbins = d.bobbins := rfl
@[simp] theorem Dev.setBank_blocks (d : Dev) (k : Nat) (x : BankSt) : (d.setBank k x).blocks = d.blocks := rfl
@[simp] theorem Dev.setBank_scrub (d : Dev) (k : Nat) (x : BankSt) : (d.setBank k x).scrub = d.scrub := rfl
@[simp] theorem Dev.setBank_patrol (d : Dev) (k : Nat) (x : BankSt) : (d.setBank k x).patrol = d.patrol := rfl
@[simp] theorem Dev.setBank_shuttles (d : Dev) (k : Nat) (x : BankSt) : (d.setBank k x).shuttles = d.shuttles := rfl
@[simp] theorem Dev.setBank_programs (d : Dev) (k : Nat) (x : BankSt) : (d.setBank k x).programs = d.programs := rfl
@[simp] theorem Dev.setBank_progErrs (d : Dev) (k : Nat) (x : BankSt) : (d.setBank k x).progErrs = d.progErrs := rfl
@[simp] theorem Dev.setBank_needles (d : Dev) (k : Nat) (x : BankSt) : (d.setBank k x).needles = d.needles := rfl
@[simp] theorem Dev.setBank_cal (d : Dev) (k : Nat) (x : BankSt) : (d.setBank k x).cal = d.cal := rfl
@[simp] theorem Dev.setBank_safeBalls (d : Dev) (k : Nat) (x : BankSt) : (d.setBank k x).safeBalls = d.safeBalls := rfl
@[simp] theorem Dev.setBank_cascade (d : Dev) (k : Nat) (x : BankSt) : (d.setBank k x).cascade = d.cascade := rfl
@[simp] theorem Dev.setBank_config (d : Dev) (k : Nat) (x : BankSt) : (d.setBank k x).config = d.config := rfl
@[simp] theorem Dev.setBank_sec (d : Dev) (k : Nat) (x : BankSt) : (d.setBank k x).sec = d.sec := rfl
@[simp] theorem Dev.setBank_tr (d : Dev) (k : Nat) (x : BankSt) : (d.setBank k x).tr = d.tr := rfl
@[simp] theorem Dev.setBank_spool (d : Dev) (k : Nat) (x : BankSt) : (d.setBank k x).spool = d.spool := rfl
@[simp] theorem Dev.setBank_rr (d : Dev) (k : Nat) (x : BankSt) : (d.setBank k x).rr = d.rr := rfl
@[simp] theorem Dev.setBank_tally (d : Dev) (k : Nat) (x : BankSt) : (d.setBank k x).tally = d.tally := rfl
@[simp] theorem Dev.setBank_swatch (d : Dev) (k : Nat) (x : BankSt) : (d.setBank k x).swatch = d.swatch := rfl
@[simp] theorem Dev.setBank_darn (d : Dev) (k : Nat) (x : BankSt) : (d.setBank k x).darn = d.darn := rfl
@[simp] theorem Dev.setBank_safety (d : Dev) (k : Nat) (x : BankSt) : (d.setBank k x).safety = d.safety := rfl

@[simp] theorem Dev.setBall_regs (d : Dev) (k : Nat) (x : SafeBall) : (d.setBall k x).regs = d.regs := rfl
@[simp] theorem Dev.setBall_strs (d : Dev) (k : Nat) (x : SafeBall) : (d.setBall k x).strs = d.strs := rfl
@[simp] theorem Dev.setBall_staged (d : Dev) (k : Nat) (x : SafeBall) : (d.setBall k x).staged = d.staged := rfl
@[simp] theorem Dev.setBall_freeCtr (d : Dev) (k : Nat) (x : SafeBall) : (d.setBall k x).freeCtr = d.freeCtr := rfl
@[simp] theorem Dev.setBall_out (d : Dev) (k : Nat) (x : SafeBall) : (d.setBall k x).out = d.out := rfl
@[simp] theorem Dev.setBall_core (d : Dev) (k : Nat) (x : SafeBall) : (d.setBall k x).core = d.core := rfl
@[simp] theorem Dev.setBall_env (d : Dev) (k : Nat) (x : SafeBall) : (d.setBall k x).env = d.env := rfl
@[simp] theorem Dev.setBall_wiring (d : Dev) (k : Nat) (x : SafeBall) : (d.setBall k x).wiring = d.wiring := rfl
@[simp] theorem Dev.setBall_nv (d : Dev) (k : Nat) (x : SafeBall) : (d.setBall k x).nv = d.nv := rfl
@[simp] theorem Dev.setBall_panels (d : Dev) (k : Nat) (x : SafeBall) : (d.setBall k x).panels = d.panels := rfl
@[simp] theorem Dev.setBall_seams (d : Dev) (k : Nat) (x : SafeBall) : (d.setBall k x).seams = d.seams := rfl
@[simp] theorem Dev.setBall_baste (d : Dev) (k : Nat) (x : SafeBall) : (d.setBall k x).baste = d.baste := rfl
@[simp] theorem Dev.setBall_watch (d : Dev) (k : Nat) (x : SafeBall) : (d.setBall k x).watch = d.watch := rfl
@[simp] theorem Dev.setBall_window (d : Dev) (k : Nat) (x : SafeBall) : (d.setBall k x).window = d.window := rfl
@[simp] theorem Dev.setBall_halves (d : Dev) (k : Nat) (x : SafeBall) : (d.setBall k x).halves = d.halves := rfl
@[simp] theorem Dev.setBall_hemWin (d : Dev) (k : Nat) (x : SafeBall) : (d.setBall k x).hemWin = d.hemWin := rfl
@[simp] theorem Dev.setBall_bobbins (d : Dev) (k : Nat) (x : SafeBall) : (d.setBall k x).bobbins = d.bobbins := rfl
@[simp] theorem Dev.setBall_blocks (d : Dev) (k : Nat) (x : SafeBall) : (d.setBall k x).blocks = d.blocks := rfl
@[simp] theorem Dev.setBall_scrub (d : Dev) (k : Nat) (x : SafeBall) : (d.setBall k x).scrub = d.scrub := rfl
@[simp] theorem Dev.setBall_patrol (d : Dev) (k : Nat) (x : SafeBall) : (d.setBall k x).patrol = d.patrol := rfl
@[simp] theorem Dev.setBall_shuttles (d : Dev) (k : Nat) (x : SafeBall) : (d.setBall k x).shuttles = d.shuttles := rfl
@[simp] theorem Dev.setBall_programs (d : Dev) (k : Nat) (x : SafeBall) : (d.setBall k x).programs = d.programs := rfl
@[simp] theorem Dev.setBall_progErrs (d : Dev) (k : Nat) (x : SafeBall) : (d.setBall k x).progErrs = d.progErrs := rfl
@[simp] theorem Dev.setBall_needles (d : Dev) (k : Nat) (x : SafeBall) : (d.setBall k x).needles = d.needles := rfl
@[simp] theorem Dev.setBall_cal (d : Dev) (k : Nat) (x : SafeBall) : (d.setBall k x).cal = d.cal := rfl
@[simp] theorem Dev.setBall_banks (d : Dev) (k : Nat) (x : SafeBall) : (d.setBall k x).banks = d.banks := rfl
@[simp] theorem Dev.setBall_cascade (d : Dev) (k : Nat) (x : SafeBall) : (d.setBall k x).cascade = d.cascade := rfl
@[simp] theorem Dev.setBall_config (d : Dev) (k : Nat) (x : SafeBall) : (d.setBall k x).config = d.config := rfl
@[simp] theorem Dev.setBall_sec (d : Dev) (k : Nat) (x : SafeBall) : (d.setBall k x).sec = d.sec := rfl
@[simp] theorem Dev.setBall_tr (d : Dev) (k : Nat) (x : SafeBall) : (d.setBall k x).tr = d.tr := rfl
@[simp] theorem Dev.setBall_spool (d : Dev) (k : Nat) (x : SafeBall) : (d.setBall k x).spool = d.spool := rfl
@[simp] theorem Dev.setBall_rr (d : Dev) (k : Nat) (x : SafeBall) : (d.setBall k x).rr = d.rr := rfl
@[simp] theorem Dev.setBall_tally (d : Dev) (k : Nat) (x : SafeBall) : (d.setBall k x).tally = d.tally := rfl
@[simp] theorem Dev.setBall_swatch (d : Dev) (k : Nat) (x : SafeBall) : (d.setBall k x).swatch = d.swatch := rfl
@[simp] theorem Dev.setBall_darn (d : Dev) (k : Nat) (x : SafeBall) : (d.setBall k x).darn = d.darn := rfl
@[simp] theorem Dev.setBall_safety (d : Dev) (k : Nat) (x : SafeBall) : (d.setBall k x).safety = d.safety := rfl

@[simp] theorem Dev.setChan_regs (d : Dev) (k : Nat) (x : SpoolSt) : (d.setChan k x).regs = d.regs := rfl
@[simp] theorem Dev.setChan_strs (d : Dev) (k : Nat) (x : SpoolSt) : (d.setChan k x).strs = d.strs := rfl
@[simp] theorem Dev.setChan_staged (d : Dev) (k : Nat) (x : SpoolSt) : (d.setChan k x).staged = d.staged := rfl
@[simp] theorem Dev.setChan_freeCtr (d : Dev) (k : Nat) (x : SpoolSt) : (d.setChan k x).freeCtr = d.freeCtr := rfl
@[simp] theorem Dev.setChan_out (d : Dev) (k : Nat) (x : SpoolSt) : (d.setChan k x).out = d.out := rfl
@[simp] theorem Dev.setChan_core (d : Dev) (k : Nat) (x : SpoolSt) : (d.setChan k x).core = d.core := rfl
@[simp] theorem Dev.setChan_env (d : Dev) (k : Nat) (x : SpoolSt) : (d.setChan k x).env = d.env := rfl
@[simp] theorem Dev.setChan_wiring (d : Dev) (k : Nat) (x : SpoolSt) : (d.setChan k x).wiring = d.wiring := rfl
@[simp] theorem Dev.setChan_nv (d : Dev) (k : Nat) (x : SpoolSt) : (d.setChan k x).nv = d.nv := rfl
@[simp] theorem Dev.setChan_panels (d : Dev) (k : Nat) (x : SpoolSt) : (d.setChan k x).panels = d.panels := rfl
@[simp] theorem Dev.setChan_seams (d : Dev) (k : Nat) (x : SpoolSt) : (d.setChan k x).seams = d.seams := rfl
@[simp] theorem Dev.setChan_baste (d : Dev) (k : Nat) (x : SpoolSt) : (d.setChan k x).baste = d.baste := rfl
@[simp] theorem Dev.setChan_watch (d : Dev) (k : Nat) (x : SpoolSt) : (d.setChan k x).watch = d.watch := rfl
@[simp] theorem Dev.setChan_window (d : Dev) (k : Nat) (x : SpoolSt) : (d.setChan k x).window = d.window := rfl
@[simp] theorem Dev.setChan_halves (d : Dev) (k : Nat) (x : SpoolSt) : (d.setChan k x).halves = d.halves := rfl
@[simp] theorem Dev.setChan_hemWin (d : Dev) (k : Nat) (x : SpoolSt) : (d.setChan k x).hemWin = d.hemWin := rfl
@[simp] theorem Dev.setChan_bobbins (d : Dev) (k : Nat) (x : SpoolSt) : (d.setChan k x).bobbins = d.bobbins := rfl
@[simp] theorem Dev.setChan_blocks (d : Dev) (k : Nat) (x : SpoolSt) : (d.setChan k x).blocks = d.blocks := rfl
@[simp] theorem Dev.setChan_scrub (d : Dev) (k : Nat) (x : SpoolSt) : (d.setChan k x).scrub = d.scrub := rfl
@[simp] theorem Dev.setChan_patrol (d : Dev) (k : Nat) (x : SpoolSt) : (d.setChan k x).patrol = d.patrol := rfl
@[simp] theorem Dev.setChan_shuttles (d : Dev) (k : Nat) (x : SpoolSt) : (d.setChan k x).shuttles = d.shuttles := rfl
@[simp] theorem Dev.setChan_programs (d : Dev) (k : Nat) (x : SpoolSt) : (d.setChan k x).programs = d.programs := rfl
@[simp] theorem Dev.setChan_progErrs (d : Dev) (k : Nat) (x : SpoolSt) : (d.setChan k x).progErrs = d.progErrs := rfl
@[simp] theorem Dev.setChan_needles (d : Dev) (k : Nat) (x : SpoolSt) : (d.setChan k x).needles = d.needles := rfl
@[simp] theorem Dev.setChan_cal (d : Dev) (k : Nat) (x : SpoolSt) : (d.setChan k x).cal = d.cal := rfl
@[simp] theorem Dev.setChan_banks (d : Dev) (k : Nat) (x : SpoolSt) : (d.setChan k x).banks = d.banks := rfl
@[simp] theorem Dev.setChan_safeBalls (d : Dev) (k : Nat) (x : SpoolSt) : (d.setChan k x).safeBalls = d.safeBalls := rfl
@[simp] theorem Dev.setChan_cascade (d : Dev) (k : Nat) (x : SpoolSt) : (d.setChan k x).cascade = d.cascade := rfl
@[simp] theorem Dev.setChan_config (d : Dev) (k : Nat) (x : SpoolSt) : (d.setChan k x).config = d.config := rfl
@[simp] theorem Dev.setChan_sec (d : Dev) (k : Nat) (x : SpoolSt) : (d.setChan k x).sec = d.sec := rfl
@[simp] theorem Dev.setChan_tr (d : Dev) (k : Nat) (x : SpoolSt) : (d.setChan k x).tr = d.tr := rfl
@[simp] theorem Dev.setChan_rr (d : Dev) (k : Nat) (x : SpoolSt) : (d.setChan k x).rr = d.rr := rfl
@[simp] theorem Dev.setChan_tally (d : Dev) (k : Nat) (x : SpoolSt) : (d.setChan k x).tally = d.tally := rfl
@[simp] theorem Dev.setChan_swatch (d : Dev) (k : Nat) (x : SpoolSt) : (d.setChan k x).swatch = d.swatch := rfl
@[simp] theorem Dev.setChan_darn (d : Dev) (k : Nat) (x : SpoolSt) : (d.setChan k x).darn = d.darn := rfl
@[simp] theorem Dev.setChan_safety (d : Dev) (k : Nat) (x : SpoolSt) : (d.setChan k x).safety = d.safety := rfl

@[simp] theorem Dev.setSession_regs (d : Dev) (k : Nat) (x : Session) : (d.setSession k x).regs = d.regs := rfl
@[simp] theorem Dev.setSession_strs (d : Dev) (k : Nat) (x : Session) : (d.setSession k x).strs = d.strs := rfl
@[simp] theorem Dev.setSession_staged (d : Dev) (k : Nat) (x : Session) : (d.setSession k x).staged = d.staged := rfl
@[simp] theorem Dev.setSession_freeCtr (d : Dev) (k : Nat) (x : Session) : (d.setSession k x).freeCtr = d.freeCtr := rfl
@[simp] theorem Dev.setSession_out (d : Dev) (k : Nat) (x : Session) : (d.setSession k x).out = d.out := rfl
@[simp] theorem Dev.setSession_core (d : Dev) (k : Nat) (x : Session) : (d.setSession k x).core = d.core := rfl
@[simp] theorem Dev.setSession_env (d : Dev) (k : Nat) (x : Session) : (d.setSession k x).env = d.env := rfl
@[simp] theorem Dev.setSession_wiring (d : Dev) (k : Nat) (x : Session) : (d.setSession k x).wiring = d.wiring := rfl
@[simp] theorem Dev.setSession_nv (d : Dev) (k : Nat) (x : Session) : (d.setSession k x).nv = d.nv := rfl
@[simp] theorem Dev.setSession_panels (d : Dev) (k : Nat) (x : Session) : (d.setSession k x).panels = d.panels := rfl
@[simp] theorem Dev.setSession_seams (d : Dev) (k : Nat) (x : Session) : (d.setSession k x).seams = d.seams := rfl
@[simp] theorem Dev.setSession_baste (d : Dev) (k : Nat) (x : Session) : (d.setSession k x).baste = d.baste := rfl
@[simp] theorem Dev.setSession_watch (d : Dev) (k : Nat) (x : Session) : (d.setSession k x).watch = d.watch := rfl
@[simp] theorem Dev.setSession_window (d : Dev) (k : Nat) (x : Session) : (d.setSession k x).window = d.window := rfl
@[simp] theorem Dev.setSession_halves (d : Dev) (k : Nat) (x : Session) : (d.setSession k x).halves = d.halves := rfl
@[simp] theorem Dev.setSession_hemWin (d : Dev) (k : Nat) (x : Session) : (d.setSession k x).hemWin = d.hemWin := rfl
@[simp] theorem Dev.setSession_bobbins (d : Dev) (k : Nat) (x : Session) : (d.setSession k x).bobbins = d.bobbins := rfl
@[simp] theorem Dev.setSession_blocks (d : Dev) (k : Nat) (x : Session) : (d.setSession k x).blocks = d.blocks := rfl
@[simp] theorem Dev.setSession_scrub (d : Dev) (k : Nat) (x : Session) : (d.setSession k x).scrub = d.scrub := rfl
@[simp] theorem Dev.setSession_patrol (d : Dev) (k : Nat) (x : Session) : (d.setSession k x).patrol = d.patrol := rfl
@[simp] theorem Dev.setSession_shuttles (d : Dev) (k : Nat) (x : Session) : (d.setSession k x).shuttles = d.shuttles := rfl
@[simp] theorem Dev.setSession_programs (d : Dev) (k : Nat) (x : Session) : (d.setSession k x).programs = d.programs := rfl
@[simp] theorem Dev.setSession_progErrs (d : Dev) (k : Nat) (x : Session) : (d.setSession k x).progErrs = d.progErrs := rfl
@[simp] theorem Dev.setSession_needles (d : Dev) (k : Nat) (x : Session) : (d.setSession k x).needles = d.needles := rfl
@[simp] theorem Dev.setSession_cal (d : Dev) (k : Nat) (x : Session) : (d.setSession k x).cal = d.cal := rfl
@[simp] theorem Dev.setSession_banks (d : Dev) (k : Nat) (x : Session) : (d.setSession k x).banks = d.banks := rfl
@[simp] theorem Dev.setSession_safeBalls (d : Dev) (k : Nat) (x : Session) : (d.setSession k x).safeBalls = d.safeBalls := rfl
@[simp] theorem Dev.setSession_cascade (d : Dev) (k : Nat) (x : Session) : (d.setSession k x).cascade = d.cascade := rfl
@[simp] theorem Dev.setSession_config (d : Dev) (k : Nat) (x : Session) : (d.setSession k x).config = d.config := rfl
@[simp] theorem Dev.setSession_tr (d : Dev) (k : Nat) (x : Session) : (d.setSession k x).tr = d.tr := rfl
@[simp] theorem Dev.setSession_spool (d : Dev) (k : Nat) (x : Session) : (d.setSession k x).spool = d.spool := rfl
@[simp] theorem Dev.setSession_rr (d : Dev) (k : Nat) (x : Session) : (d.setSession k x).rr = d.rr := rfl
@[simp] theorem Dev.setSession_tally (d : Dev) (k : Nat) (x : Session) : (d.setSession k x).tally = d.tally := rfl
@[simp] theorem Dev.setSession_swatch (d : Dev) (k : Nat) (x : Session) : (d.setSession k x).swatch = d.swatch := rfl
@[simp] theorem Dev.setSession_darn (d : Dev) (k : Nat) (x : Session) : (d.setSession k x).darn = d.darn := rfl
@[simp] theorem Dev.setSession_safety (d : Dev) (k : Nat) (x : Session) : (d.setSession k x).safety = d.safety := rfl

@[simp] theorem Dev.setThread_regs (d : Dev) (k : Nat) (x : ThreadSt) : (d.setThread k x).regs = d.regs := rfl
@[simp] theorem Dev.setThread_strs (d : Dev) (k : Nat) (x : ThreadSt) : (d.setThread k x).strs = d.strs := rfl
@[simp] theorem Dev.setThread_staged (d : Dev) (k : Nat) (x : ThreadSt) : (d.setThread k x).staged = d.staged := rfl
@[simp] theorem Dev.setThread_freeCtr (d : Dev) (k : Nat) (x : ThreadSt) : (d.setThread k x).freeCtr = d.freeCtr := rfl
@[simp] theorem Dev.setThread_out (d : Dev) (k : Nat) (x : ThreadSt) : (d.setThread k x).out = d.out := rfl
@[simp] theorem Dev.setThread_core (d : Dev) (k : Nat) (x : ThreadSt) : (d.setThread k x).core = d.core := rfl
@[simp] theorem Dev.setThread_env (d : Dev) (k : Nat) (x : ThreadSt) : (d.setThread k x).env = d.env := rfl
@[simp] theorem Dev.setThread_wiring (d : Dev) (k : Nat) (x : ThreadSt) : (d.setThread k x).wiring = d.wiring := rfl
@[simp] theorem Dev.setThread_nv (d : Dev) (k : Nat) (x : ThreadSt) : (d.setThread k x).nv = d.nv := rfl
@[simp] theorem Dev.setThread_panels (d : Dev) (k : Nat) (x : ThreadSt) : (d.setThread k x).panels = d.panels := rfl
@[simp] theorem Dev.setThread_seams (d : Dev) (k : Nat) (x : ThreadSt) : (d.setThread k x).seams = d.seams := rfl
@[simp] theorem Dev.setThread_baste (d : Dev) (k : Nat) (x : ThreadSt) : (d.setThread k x).baste = d.baste := rfl
@[simp] theorem Dev.setThread_watch (d : Dev) (k : Nat) (x : ThreadSt) : (d.setThread k x).watch = d.watch := rfl
@[simp] theorem Dev.setThread_window (d : Dev) (k : Nat) (x : ThreadSt) : (d.setThread k x).window = d.window := rfl
@[simp] theorem Dev.setThread_halves (d : Dev) (k : Nat) (x : ThreadSt) : (d.setThread k x).halves = d.halves := rfl
@[simp] theorem Dev.setThread_hemWin (d : Dev) (k : Nat) (x : ThreadSt) : (d.setThread k x).hemWin = d.hemWin := rfl
@[simp] theorem Dev.setThread_bobbins (d : Dev) (k : Nat) (x : ThreadSt) : (d.setThread k x).bobbins = d.bobbins := rfl
@[simp] theorem Dev.setThread_blocks (d : Dev) (k : Nat) (x : ThreadSt) : (d.setThread k x).blocks = d.blocks := rfl
@[simp] theorem Dev.setThread_scrub (d : Dev) (k : Nat) (x : ThreadSt) : (d.setThread k x).scrub = d.scrub := rfl
@[simp] theorem Dev.setThread_patrol (d : Dev) (k : Nat) (x : ThreadSt) : (d.setThread k x).patrol = d.patrol := rfl
@[simp] theorem Dev.setThread_shuttles (d : Dev) (k : Nat) (x : ThreadSt) : (d.setThread k x).shuttles = d.shuttles := rfl
@[simp] theorem Dev.setThread_programs (d : Dev) (k : Nat) (x : ThreadSt) : (d.setThread k x).programs = d.programs := rfl
@[simp] theorem Dev.setThread_progErrs (d : Dev) (k : Nat) (x : ThreadSt) : (d.setThread k x).progErrs = d.progErrs := rfl
@[simp] theorem Dev.setThread_needles (d : Dev) (k : Nat) (x : ThreadSt) : (d.setThread k x).needles = d.needles := rfl
@[simp] theorem Dev.setThread_cal (d : Dev) (k : Nat) (x : ThreadSt) : (d.setThread k x).cal = d.cal := rfl
@[simp] theorem Dev.setThread_banks (d : Dev) (k : Nat) (x : ThreadSt) : (d.setThread k x).banks = d.banks := rfl
@[simp] theorem Dev.setThread_safeBalls (d : Dev) (k : Nat) (x : ThreadSt) : (d.setThread k x).safeBalls = d.safeBalls := rfl
@[simp] theorem Dev.setThread_config (d : Dev) (k : Nat) (x : ThreadSt) : (d.setThread k x).config = d.config := rfl
@[simp] theorem Dev.setThread_sec (d : Dev) (k : Nat) (x : ThreadSt) : (d.setThread k x).sec = d.sec := rfl
@[simp] theorem Dev.setThread_tr (d : Dev) (k : Nat) (x : ThreadSt) : (d.setThread k x).tr = d.tr := rfl
@[simp] theorem Dev.setThread_spool (d : Dev) (k : Nat) (x : ThreadSt) : (d.setThread k x).spool = d.spool := rfl
@[simp] theorem Dev.setThread_rr (d : Dev) (k : Nat) (x : ThreadSt) : (d.setThread k x).rr = d.rr := rfl
@[simp] theorem Dev.setThread_tally (d : Dev) (k : Nat) (x : ThreadSt) : (d.setThread k x).tally = d.tally := rfl
@[simp] theorem Dev.setThread_swatch (d : Dev) (k : Nat) (x : ThreadSt) : (d.setThread k x).swatch = d.swatch := rfl
@[simp] theorem Dev.setThread_darn (d : Dev) (k : Nat) (x : ThreadSt) : (d.setThread k x).darn = d.darn := rfl
@[simp] theorem Dev.setThread_safety (d : Dev) (k : Nat) (x : ThreadSt) : (d.setThread k x).safety = d.safety := rfl

@[simp] theorem Dev.setSlot_regs (d : Dev) (k : Nat) (x : Slot) : (d.setSlot k x).regs = d.regs := rfl
@[simp] theorem Dev.setSlot_strs (d : Dev) (k : Nat) (x : Slot) : (d.setSlot k x).strs = d.strs := rfl
@[simp] theorem Dev.setSlot_staged (d : Dev) (k : Nat) (x : Slot) : (d.setSlot k x).staged = d.staged := rfl
@[simp] theorem Dev.setSlot_freeCtr (d : Dev) (k : Nat) (x : Slot) : (d.setSlot k x).freeCtr = d.freeCtr := rfl
@[simp] theorem Dev.setSlot_out (d : Dev) (k : Nat) (x : Slot) : (d.setSlot k x).out = d.out := rfl
@[simp] theorem Dev.setSlot_core (d : Dev) (k : Nat) (x : Slot) : (d.setSlot k x).core = d.core := rfl
@[simp] theorem Dev.setSlot_env (d : Dev) (k : Nat) (x : Slot) : (d.setSlot k x).env = d.env := rfl
@[simp] theorem Dev.setSlot_wiring (d : Dev) (k : Nat) (x : Slot) : (d.setSlot k x).wiring = d.wiring := rfl
@[simp] theorem Dev.setSlot_panels (d : Dev) (k : Nat) (x : Slot) : (d.setSlot k x).panels = d.panels := rfl
@[simp] theorem Dev.setSlot_seams (d : Dev) (k : Nat) (x : Slot) : (d.setSlot k x).seams = d.seams := rfl
@[simp] theorem Dev.setSlot_baste (d : Dev) (k : Nat) (x : Slot) : (d.setSlot k x).baste = d.baste := rfl
@[simp] theorem Dev.setSlot_watch (d : Dev) (k : Nat) (x : Slot) : (d.setSlot k x).watch = d.watch := rfl
@[simp] theorem Dev.setSlot_window (d : Dev) (k : Nat) (x : Slot) : (d.setSlot k x).window = d.window := rfl
@[simp] theorem Dev.setSlot_halves (d : Dev) (k : Nat) (x : Slot) : (d.setSlot k x).halves = d.halves := rfl
@[simp] theorem Dev.setSlot_hemWin (d : Dev) (k : Nat) (x : Slot) : (d.setSlot k x).hemWin = d.hemWin := rfl
@[simp] theorem Dev.setSlot_bobbins (d : Dev) (k : Nat) (x : Slot) : (d.setSlot k x).bobbins = d.bobbins := rfl
@[simp] theorem Dev.setSlot_blocks (d : Dev) (k : Nat) (x : Slot) : (d.setSlot k x).blocks = d.blocks := rfl
@[simp] theorem Dev.setSlot_scrub (d : Dev) (k : Nat) (x : Slot) : (d.setSlot k x).scrub = d.scrub := rfl
@[simp] theorem Dev.setSlot_patrol (d : Dev) (k : Nat) (x : Slot) : (d.setSlot k x).patrol = d.patrol := rfl
@[simp] theorem Dev.setSlot_shuttles (d : Dev) (k : Nat) (x : Slot) : (d.setSlot k x).shuttles = d.shuttles := rfl
@[simp] theorem Dev.setSlot_programs (d : Dev) (k : Nat) (x : Slot) : (d.setSlot k x).programs = d.programs := rfl
@[simp] theorem Dev.setSlot_progErrs (d : Dev) (k : Nat) (x : Slot) : (d.setSlot k x).progErrs = d.progErrs := rfl
@[simp] theorem Dev.setSlot_needles (d : Dev) (k : Nat) (x : Slot) : (d.setSlot k x).needles = d.needles := rfl
@[simp] theorem Dev.setSlot_cal (d : Dev) (k : Nat) (x : Slot) : (d.setSlot k x).cal = d.cal := rfl
@[simp] theorem Dev.setSlot_banks (d : Dev) (k : Nat) (x : Slot) : (d.setSlot k x).banks = d.banks := rfl
@[simp] theorem Dev.setSlot_safeBalls (d : Dev) (k : Nat) (x : Slot) : (d.setSlot k x).safeBalls = d.safeBalls := rfl
@[simp] theorem Dev.setSlot_cascade (d : Dev) (k : Nat) (x : Slot) : (d.setSlot k x).cascade = d.cascade := rfl
@[simp] theorem Dev.setSlot_config (d : Dev) (k : Nat) (x : Slot) : (d.setSlot k x).config = d.config := rfl
@[simp] theorem Dev.setSlot_sec (d : Dev) (k : Nat) (x : Slot) : (d.setSlot k x).sec = d.sec := rfl
@[simp] theorem Dev.setSlot_tr (d : Dev) (k : Nat) (x : Slot) : (d.setSlot k x).tr = d.tr := rfl
@[simp] theorem Dev.setSlot_spool (d : Dev) (k : Nat) (x : Slot) : (d.setSlot k x).spool = d.spool := rfl
@[simp] theorem Dev.setSlot_rr (d : Dev) (k : Nat) (x : Slot) : (d.setSlot k x).rr = d.rr := rfl
@[simp] theorem Dev.setSlot_tally (d : Dev) (k : Nat) (x : Slot) : (d.setSlot k x).tally = d.tally := rfl
@[simp] theorem Dev.setSlot_swatch (d : Dev) (k : Nat) (x : Slot) : (d.setSlot k x).swatch = d.swatch := rfl
@[simp] theorem Dev.setSlot_darn (d : Dev) (k : Nat) (x : Slot) : (d.setSlot k x).darn = d.darn := rfl
@[simp] theorem Dev.setSlot_safety (d : Dev) (k : Nat) (x : Slot) : (d.setSlot k x).safety = d.safety := rfl

@[simp] theorem Dev.setFrench_regs (d : Dev) (k : Nat) (x : FrenchSt) : (d.setFrench k x).regs = d.regs := rfl
@[simp] theorem Dev.setFrench_strs (d : Dev) (k : Nat) (x : FrenchSt) : (d.setFrench k x).strs = d.strs := rfl
@[simp] theorem Dev.setFrench_staged (d : Dev) (k : Nat) (x : FrenchSt) : (d.setFrench k x).staged = d.staged := rfl
@[simp] theorem Dev.setFrench_freeCtr (d : Dev) (k : Nat) (x : FrenchSt) : (d.setFrench k x).freeCtr = d.freeCtr := rfl
@[simp] theorem Dev.setFrench_out (d : Dev) (k : Nat) (x : FrenchSt) : (d.setFrench k x).out = d.out := rfl
@[simp] theorem Dev.setFrench_core (d : Dev) (k : Nat) (x : FrenchSt) : (d.setFrench k x).core = d.core := rfl
@[simp] theorem Dev.setFrench_env (d : Dev) (k : Nat) (x : FrenchSt) : (d.setFrench k x).env = d.env := rfl
@[simp] theorem Dev.setFrench_wiring (d : Dev) (k : Nat) (x : FrenchSt) : (d.setFrench k x).wiring = d.wiring := rfl
@[simp] theorem Dev.setFrench_nv (d : Dev) (k : Nat) (x : FrenchSt) : (d.setFrench k x).nv = d.nv := rfl
@[simp] theorem Dev.setFrench_panels (d : Dev) (k : Nat) (x : FrenchSt) : (d.setFrench k x).panels = d.panels := rfl
@[simp] theorem Dev.setFrench_seams (d : Dev) (k : Nat) (x : FrenchSt) : (d.setFrench k x).seams = d.seams := rfl
@[simp] theorem Dev.setFrench_baste (d : Dev) (k : Nat) (x : FrenchSt) : (d.setFrench k x).baste = d.baste := rfl
@[simp] theorem Dev.setFrench_watch (d : Dev) (k : Nat) (x : FrenchSt) : (d.setFrench k x).watch = d.watch := rfl
@[simp] theorem Dev.setFrench_window (d : Dev) (k : Nat) (x : FrenchSt) : (d.setFrench k x).window = d.window := rfl
@[simp] theorem Dev.setFrench_halves (d : Dev) (k : Nat) (x : FrenchSt) : (d.setFrench k x).halves = d.halves := rfl
@[simp] theorem Dev.setFrench_hemWin (d : Dev) (k : Nat) (x : FrenchSt) : (d.setFrench k x).hemWin = d.hemWin := rfl
@[simp] theorem Dev.setFrench_bobbins (d : Dev) (k : Nat) (x : FrenchSt) : (d.setFrench k x).bobbins = d.bobbins := rfl
@[simp] theorem Dev.setFrench_blocks (d : Dev) (k : Nat) (x : FrenchSt) : (d.setFrench k x).blocks = d.blocks := rfl
@[simp] theorem Dev.setFrench_scrub (d : Dev) (k : Nat) (x : FrenchSt) : (d.setFrench k x).scrub = d.scrub := rfl
@[simp] theorem Dev.setFrench_patrol (d : Dev) (k : Nat) (x : FrenchSt) : (d.setFrench k x).patrol = d.patrol := rfl
@[simp] theorem Dev.setFrench_shuttles (d : Dev) (k : Nat) (x : FrenchSt) : (d.setFrench k x).shuttles = d.shuttles := rfl
@[simp] theorem Dev.setFrench_programs (d : Dev) (k : Nat) (x : FrenchSt) : (d.setFrench k x).programs = d.programs := rfl
@[simp] theorem Dev.setFrench_progErrs (d : Dev) (k : Nat) (x : FrenchSt) : (d.setFrench k x).progErrs = d.progErrs := rfl
@[simp] theorem Dev.setFrench_needles (d : Dev) (k : Nat) (x : FrenchSt) : (d.setFrench k x).needles = d.needles := rfl
@[simp] theorem Dev.setFrench_cal (d : Dev) (k : Nat) (x : FrenchSt) : (d.setFrench k x).cal = d.cal := rfl
@[simp] theorem Dev.setFrench_banks (d : Dev) (k : Nat) (x : FrenchSt) : (d.setFrench k x).banks = d.banks := rfl
@[simp] theorem Dev.setFrench_safeBalls (d : Dev) (k : Nat) (x : FrenchSt) : (d.setFrench k x).safeBalls = d.safeBalls := rfl
@[simp] theorem Dev.setFrench_cascade (d : Dev) (k : Nat) (x : FrenchSt) : (d.setFrench k x).cascade = d.cascade := rfl
@[simp] theorem Dev.setFrench_config (d : Dev) (k : Nat) (x : FrenchSt) : (d.setFrench k x).config = d.config := rfl
@[simp] theorem Dev.setFrench_sec (d : Dev) (k : Nat) (x : FrenchSt) : (d.setFrench k x).sec = d.sec := rfl
@[simp] theorem Dev.setFrench_tr (d : Dev) (k : Nat) (x : FrenchSt) : (d.setFrench k x).tr = d.tr := rfl
@[simp] theorem Dev.setFrench_spool (d : Dev) (k : Nat) (x : FrenchSt) : (d.setFrench k x).spool = d.spool := rfl
@[simp] theorem Dev.setFrench_rr (d : Dev) (k : Nat) (x : FrenchSt) : (d.setFrench k x).rr = d.rr := rfl
@[simp] theorem Dev.setFrench_tally (d : Dev) (k : Nat) (x : FrenchSt) : (d.setFrench k x).tally = d.tally := rfl
@[simp] theorem Dev.setFrench_swatch (d : Dev) (k : Nat) (x : FrenchSt) : (d.setFrench k x).swatch = d.swatch := rfl
@[simp] theorem Dev.setFrench_safety (d : Dev) (k : Nat) (x : FrenchSt) : (d.setFrench k x).safety = d.safety := rfl

@[simp] theorem Dev.emit_regs (d : Dev) (x : Output) : (d.emit x).regs = d.regs := rfl
@[simp] theorem Dev.emit_strs (d : Dev) (x : Output) : (d.emit x).strs = d.strs := rfl
@[simp] theorem Dev.emit_staged (d : Dev) (x : Output) : (d.emit x).staged = d.staged := rfl
@[simp] theorem Dev.emit_freeCtr (d : Dev) (x : Output) : (d.emit x).freeCtr = d.freeCtr := rfl
@[simp] theorem Dev.emit_core (d : Dev) (x : Output) : (d.emit x).core = d.core := rfl
@[simp] theorem Dev.emit_env (d : Dev) (x : Output) : (d.emit x).env = d.env := rfl
@[simp] theorem Dev.emit_wiring (d : Dev) (x : Output) : (d.emit x).wiring = d.wiring := rfl
@[simp] theorem Dev.emit_nv (d : Dev) (x : Output) : (d.emit x).nv = d.nv := rfl
@[simp] theorem Dev.emit_panels (d : Dev) (x : Output) : (d.emit x).panels = d.panels := rfl
@[simp] theorem Dev.emit_seams (d : Dev) (x : Output) : (d.emit x).seams = d.seams := rfl
@[simp] theorem Dev.emit_baste (d : Dev) (x : Output) : (d.emit x).baste = d.baste := rfl
@[simp] theorem Dev.emit_watch (d : Dev) (x : Output) : (d.emit x).watch = d.watch := rfl
@[simp] theorem Dev.emit_window (d : Dev) (x : Output) : (d.emit x).window = d.window := rfl
@[simp] theorem Dev.emit_halves (d : Dev) (x : Output) : (d.emit x).halves = d.halves := rfl
@[simp] theorem Dev.emit_hemWin (d : Dev) (x : Output) : (d.emit x).hemWin = d.hemWin := rfl
@[simp] theorem Dev.emit_bobbins (d : Dev) (x : Output) : (d.emit x).bobbins = d.bobbins := rfl
@[simp] theorem Dev.emit_blocks (d : Dev) (x : Output) : (d.emit x).blocks = d.blocks := rfl
@[simp] theorem Dev.emit_scrub (d : Dev) (x : Output) : (d.emit x).scrub = d.scrub := rfl
@[simp] theorem Dev.emit_patrol (d : Dev) (x : Output) : (d.emit x).patrol = d.patrol := rfl
@[simp] theorem Dev.emit_shuttles (d : Dev) (x : Output) : (d.emit x).shuttles = d.shuttles := rfl
@[simp] theorem Dev.emit_programs (d : Dev) (x : Output) : (d.emit x).programs = d.programs := rfl
@[simp] theorem Dev.emit_progErrs (d : Dev) (x : Output) : (d.emit x).progErrs = d.progErrs := rfl
@[simp] theorem Dev.emit_needles (d : Dev) (x : Output) : (d.emit x).needles = d.needles := rfl
@[simp] theorem Dev.emit_cal (d : Dev) (x : Output) : (d.emit x).cal = d.cal := rfl
@[simp] theorem Dev.emit_banks (d : Dev) (x : Output) : (d.emit x).banks = d.banks := rfl
@[simp] theorem Dev.emit_safeBalls (d : Dev) (x : Output) : (d.emit x).safeBalls = d.safeBalls := rfl
@[simp] theorem Dev.emit_cascade (d : Dev) (x : Output) : (d.emit x).cascade = d.cascade := rfl
@[simp] theorem Dev.emit_config (d : Dev) (x : Output) : (d.emit x).config = d.config := rfl
@[simp] theorem Dev.emit_sec (d : Dev) (x : Output) : (d.emit x).sec = d.sec := rfl
@[simp] theorem Dev.emit_tr (d : Dev) (x : Output) : (d.emit x).tr = d.tr := rfl
@[simp] theorem Dev.emit_spool (d : Dev) (x : Output) : (d.emit x).spool = d.spool := rfl
@[simp] theorem Dev.emit_rr (d : Dev) (x : Output) : (d.emit x).rr = d.rr := rfl
@[simp] theorem Dev.emit_tally (d : Dev) (x : Output) : (d.emit x).tally = d.tally := rfl
@[simp] theorem Dev.emit_swatch (d : Dev) (x : Output) : (d.emit x).swatch = d.swatch := rfl
@[simp] theorem Dev.emit_darn (d : Dev) (x : Output) : (d.emit x).darn = d.darn := rfl
@[simp] theorem Dev.emit_safety (d : Dev) (x : Output) : (d.emit x).safety = d.safety := rfl

/-! ### Reading back -/

theorem objKey_inj {i j i' j' : Nat} (h : j < 256) (h' : j' < 256) (e : objKey i j = objKey i' j') : i = i' ∧ j = j' := by
  unfold objKey at e; omega

theorem Dev.rd_wr_same (d : Dev) (i j : Nat) (v : Word) : (d.wr i j v).rd i j = v := tabGet_tabSet_same _ _ _ _

theorem Dev.rd_wr_other (d : Dev) {i j i' j' : Nat} (v : Word) (h : objKey i j ≠ objKey i' j') :
    (d.wr i j v).rd i' j' = d.rd i' j' := tabGet_tabSet_other _ _ _ h

theorem Dev.rd_wr (d : Dev) (i j i' j' : Nat) (v : Word) :
    (d.wr i j v).rd i' j' = if objKey i j = objKey i' j' then v else d.rd i' j' := by
  by_cases h : objKey i j = objKey i' j'
  · simp only [h, if_true]; unfold Dev.rd Dev.wr; simp only [h]; exact tabGet_tabSet_same _ _ _ _
  · simp only [h, if_false]; exact d.rd_wr_other v h

@[simp] theorem Dev.setBytes_rd (d : Dev) (i j : Nat) (l : List Byte) (i' j' : Nat) : (d.setBytes i j l).rd i' j' = d.rd i' j' := rfl
@[simp] theorem Dev.setPanel_rd (d : Dev) (k : Nat) (x : PanelSt) (i' j' : Nat) : (d.setPanel k x).rd i' j' = d.rd i' j' := rfl
@[simp] theorem Dev.setSeam_rd (d : Dev) (k : Nat) (x : SeamSt) (i' j' : Nat) : (d.setSeam k x).rd i' j' = d.rd i' j' := rfl
@[simp] theorem Dev.setWatch_rd (d : Dev) (k : Nat) (x : WatchSt) (i' j' : Nat) : (d.setWatch k x).rd i' j' = d.rd i' j' := rfl
@[simp] theorem Dev.setHalf_rd (d : Dev) (k : Nat) (x : HalfSt) (i' j' : Nat) : (d.setHalf k x).rd i' j' = d.rd i' j' := rfl
@[simp] theorem Dev.setHemWin_rd (d : Dev) (k : Nat) (x : HemWin) (i' j' : Nat) : (d.setHemWin k x).rd i' j' = d.rd i' j' := rfl
@[simp] theorem Dev.setBobbin_rd (d : Dev) (k : Nat) (x : BobbinSt) (i' j' : Nat) : (d.setBobbin k x).rd i' j' = d.rd i' j' := rfl
@[simp] theorem Dev.setBlock_rd (d : Dev) (k : Nat) (x : BlockSt) (i' j' : Nat) : (d.setBlock k x).rd i' j' = d.rd i' j' := rfl
@[simp] theorem Dev.setShuttle_rd (d : Dev) (k : Nat) (x : ShuttleSt) (i' j' : Nat) : (d.setShuttle k x).rd i' j' = d.rd i' j' := rfl
@[simp] theorem Dev.setNeedle_rd (d : Dev) (k : Nat) (x : NeedleSt) (i' j' : Nat) : (d.setNeedle k x).rd i' j' = d.rd i' j' := rfl
@[simp] theorem Dev.setBank_rd (d : Dev) (k : Nat) (x : BankSt) (i' j' : Nat) : (d.setBank k x).rd i' j' = d.rd i' j' := rfl
@[simp] theorem Dev.setBall_rd (d : Dev) (k : Nat) (x : SafeBall) (i' j' : Nat) : (d.setBall k x).rd i' j' = d.rd i' j' := rfl
@[simp] theorem Dev.setChan_rd (d : Dev) (k : Nat) (x : SpoolSt) (i' j' : Nat) : (d.setChan k x).rd i' j' = d.rd i' j' := rfl
@[simp] theorem Dev.setSession_rd (d : Dev) (k : Nat) (x : Session) (i' j' : Nat) : (d.setSession k x).rd i' j' = d.rd i' j' := rfl
@[simp] theorem Dev.setThread_rd (d : Dev) (k : Nat) (x : ThreadSt) (i' j' : Nat) : (d.setThread k x).rd i' j' = d.rd i' j' := rfl
@[simp] theorem Dev.setSlot_rd (d : Dev) (k : Nat) (x : Slot) (i' j' : Nat) : (d.setSlot k x).rd i' j' = d.rd i' j' := rfl
@[simp] theorem Dev.setFrench_rd (d : Dev) (k : Nat) (x : FrenchSt) (i' j' : Nat) : (d.setFrench k x).rd i' j' = d.rd i' j' := rfl
@[simp] theorem Dev.emit_rd (d : Dev) (x : Output) (i' j' : Nat) : (d.emit x).rd i' j' = d.rd i' j' := rfl

@[simp] theorem Dev.panel_setPanel_same (d : Dev) (k : Nat) (x : PanelSt) : (d.setPanel k x).panel k = x := tabGet_tabSet_same _ _ _ _
theorem Dev.panel_setPanel_other (d : Dev) (k : Nat) (x : PanelSt) (k' : Nat) (h : k ≠ k') : (d.setPanel k x).panel k' = d.panel k' :=
  tabGet_tabSet_other _ _ _ h

@[simp] theorem Dev.seam_setSeam_same (d : Dev) (k : Nat) (x : SeamSt) : (d.setSeam k x).seam k = x := tabGet_tabSet_same _ _ _ _
theorem Dev.seam_setSeam_other (d : Dev) (k : Nat) (x : SeamSt) (k' : Nat) (h : k ≠ k') : (d.setSeam k x).seam k' = d.seam k' :=
  tabGet_tabSet_other _ _ _ h

@[simp] theorem Dev.watchSt_setWatch_same (d : Dev) (k : Nat) (x : WatchSt) : (d.setWatch k x).watchSt k = x := tabGet_tabSet_same _ _ _ _
theorem Dev.watchSt_setWatch_other (d : Dev) (k : Nat) (x : WatchSt) (k' : Nat) (h : k ≠ k') : (d.setWatch k x).watchSt k' = d.watchSt k' :=
  tabGet_tabSet_other _ _ _ h

@[simp] theorem Dev.half_setHalf_same (d : Dev) (k : Nat) (x : HalfSt) : (d.setHalf k x).half k = x := tabGet_tabSet_same _ _ _ _
theorem Dev.half_setHalf_other (d : Dev) (k : Nat) (x : HalfSt) (k' : Nat) (h : k ≠ k') : (d.setHalf k x).half k' = d.half k' :=
  tabGet_tabSet_other _ _ _ h

@[simp] theorem Dev.hemWinOf_setHemWin_same (d : Dev) (k : Nat) (x : HemWin) : (d.setHemWin k x).hemWinOf k = x := tabGet_tabSet_same _ _ _ _
theorem Dev.hemWinOf_setHemWin_other (d : Dev) (k : Nat) (x : HemWin) (k' : Nat) (h : k ≠ k') : (d.setHemWin k x).hemWinOf k' = d.hemWinOf k' :=
  tabGet_tabSet_other _ _ _ h

@[simp] theorem Dev.bobbin_setBobbin_same (d : Dev) (k : Nat) (x : BobbinSt) : (d.setBobbin k x).bobbin k = x := tabGet_tabSet_same _ _ _ _
theorem Dev.bobbin_setBobbin_other (d : Dev) (k : Nat) (x : BobbinSt) (k' : Nat) (h : k ≠ k') : (d.setBobbin k x).bobbin k' = d.bobbin k' :=
  tabGet_tabSet_other _ _ _ h

@[simp] theorem Dev.block_setBlock_same (d : Dev) (k : Nat) (x : BlockSt) : (d.setBlock k x).block k = x := tabGet_tabSet_same _ _ _ _
theorem Dev.block_setBlock_other (d : Dev) (k : Nat) (x : BlockSt) (k' : Nat) (h : k ≠ k') : (d.setBlock k x).block k' = d.block k' :=
  tabGet_tabSet_other _ _ _ h

@[simp] theorem Dev.shuttle_setShuttle_same (d : Dev) (k : Nat) (x : ShuttleSt) : (d.setShuttle k x).shuttle k = x := tabGet_tabSet_same _ _ _ _
theorem Dev.shuttle_setShuttle_other (d : Dev) (k : Nat) (x : ShuttleSt) (k' : Nat) (h : k ≠ k') : (d.setShuttle k x).shuttle k' = d.shuttle k' :=
  tabGet_tabSet_other _ _ _ h

@[simp] theorem Dev.needle_setNeedle_same (d : Dev) (k : Nat) (x : NeedleSt) : (d.setNeedle k x).needle k = x := tabGet_tabSet_same _ _ _ _
theorem Dev.needle_setNeedle_other (d : Dev) (k : Nat) (x : NeedleSt) (k' : Nat) (h : k ≠ k') : (d.setNeedle k x).needle k' = d.needle k' :=
  tabGet_tabSet_other _ _ _ h

@[simp] theorem Dev.bank_setBank_same (d : Dev) (k : Nat) (x : BankSt) : (d.setBank k x).bank k = x := tabGet_tabSet_same _ _ _ _
theorem Dev.bank_setBank_other (d : Dev) (k : Nat) (x : BankSt) (k' : Nat) (h : k ≠ k') : (d.setBank k x).bank k' = d.bank k' :=
  tabGet_tabSet_other _ _ _ h

@[simp] theorem Dev.ball_setBall_same (d : Dev) (k : Nat) (x : SafeBall) : (d.setBall k x).ball k = x := tabGet_tabSet_same _ _ _ _
theorem Dev.ball_setBall_other (d : Dev) (k : Nat) (x : SafeBall) (k' : Nat) (h : k ≠ k') : (d.setBall k x).ball k' = d.ball k' :=
  tabGet_tabSet_other _ _ _ h

@[simp] theorem Dev.chan_setChan_same (d : Dev) (k : Nat) (x : SpoolSt) : (d.setChan k x).chan k = x := tabGet_tabSet_same _ _ _ _
theorem Dev.chan_setChan_other (d : Dev) (k : Nat) (x : SpoolSt) (k' : Nat) (h : k ≠ k') : (d.setChan k x).chan k' = d.chan k' :=
  tabGet_tabSet_other _ _ _ h

@[simp] theorem Dev.session_setSession_same (d : Dev) (k : Nat) (x : Session) : (d.setSession k x).session k = x := tabGet_tabSet_same _ _ _ _
theorem Dev.session_setSession_other (d : Dev) (k : Nat) (x : Session) (k' : Nat) (h : k ≠ k') : (d.setSession k x).session k' = d.session k' :=
  tabGet_tabSet_other _ _ _ h

@[simp] theorem Dev.thread_setThread_same (d : Dev) (k : Nat) (x : ThreadSt) : (d.setThread k x).thread k = x := tabGet_tabSet_same _ _ _ _
theorem Dev.thread_setThread_other (d : Dev) (k : Nat) (x : ThreadSt) (k' : Nat) (h : k ≠ k') : (d.setThread k x).thread k' = d.thread k' :=
  tabGet_tabSet_other _ _ _ h

@[simp] theorem Dev.slot_setSlot_same (d : Dev) (k : Nat) (x : Slot) : (d.setSlot k x).slot k = x := tabGet_tabSet_same _ _ _ _
theorem Dev.slot_setSlot_other (d : Dev) (k : Nat) (x : Slot) (k' : Nat) (h : k ≠ k') : (d.setSlot k x).slot k' = d.slot k' :=
  tabGet_tabSet_other _ _ _ h

@[simp] theorem Dev.frenchSt_setFrench_same (d : Dev) (k : Nat) (x : FrenchSt) : (d.setFrench k x).frenchSt k = x := tabGet_tabSet_same _ _ _ _
theorem Dev.frenchSt_setFrench_other (d : Dev) (k : Nat) (x : FrenchSt) (k' : Nat) (h : k ≠ k') : (d.setFrench k x).frenchSt k' = d.frenchSt k' :=
  tabGet_tabSet_other _ _ _ h

end Sys2Proof.Machine
end

