-- ==== Sys2Proof/Laws/Ops.lean ====
section
/-! SUPPORT. What the shared operations over the device do, said once each: registers counted, flagged and completed, free values,
outputs, log entries and notifications, and the write of one object. -/

namespace Sys2Proof.Machine

/-! ### Registers -/

/-- A register set touches nothing beside the registers. -/
theorem Dev.wr_regsOnly (d : Dev) (i j : Nat) (v : Word) (r : List (Nat × Word)) :
    { d.wr i j v with regs := r } = { d with regs := r } := rfl

theorem Dev.setFlag_regsOnly (d : Dev) (i j k : Nat) (b : Bool) (r : List (Nat × Word)) :
    { d.setFlag i j k b with regs := r } = { d with regs := r } := Dev.wr_regsOnly d _ _ _ r

theorem Dev.wrN_regsOnly (d : Dev) (i j n : Nat) (r : List (Nat × Word)) :
    { d.wrN i j n with regs := r } = { d with regs := r } := Dev.wr_regsOnly d _ _ _ r

theorem Dev.count_regsOnly (d : Dev) (i j width n : Nat) (r : List (Nat × Word)) :
    { d.count i j width n with regs := r } = { d with regs := r } := Dev.wr_regsOnly d _ _ _ r

theorem Dev.complete_regsOnly (d : Dev) (i j u : Nat) (busy : Option Nat) (r : List (Nat × Word)) :
    { d.complete i j u busy with regs := r } = { d with regs := r } := Dev.wr_regsOnly d _ _ _ r

/-- A write of one register leaves every other one. -/
theorem Dev.wr_regsKept (d : Dev) (i j : Nat) (v : Word) (hj : j < 256) : RegsKept (regsOf i [j]) d (d.wr i j v) := by
  intro i' j' hj' h
  apply d.rd_wr_other v
  intro e
  obtain ⟨rfl, rfl⟩ := objKey_inj hj hj' e
  simp [regsOf] at h

theorem RegsKept.refl (p : Nat → Nat → Bool) (d : Dev) : RegsKept p d d := fun _ _ _ _ => rfl

theorem RegsKept.trans {p q r : Nat → Nat → Bool} {d e f : Dev} (h : RegsKept p d e) (k : RegsKept q e f)
    (hp : ∀ i j, r i j = false → p i j = false) (hq : ∀ i j, r i j = false → q i j = false) : RegsKept r d f :=
  fun i j hj hr => (k i j hj (hq i j hr)).trans (h i j hj (hp i j hr))

/-- A register that wrN sets reads as the number, if it fits the word. -/
theorem Dev.rdN_wrN_same (d : Dev) (i j n : Nat) (h : n < 2 ^ 64) : (d.wrN i j n).rdN i j = n := by
  unfold Dev.rdN Dev.wrN; rw [Dev.rd_wr_same, toNat_word h]

theorem Dev.rdN_wrN_other (d : Dev) {i j i' j' : Nat} (n : Nat) (h : objKey i j ≠ objKey i' j') :
    (d.wrN i j n).rdN i' j' = d.rdN i' j' := by
  unfold Dev.rdN Dev.wrN; rw [Dev.rd_wr_other d _ h]

theorem Dev.count_eq (d : Dev) (i j width n : Nat) : d.count i j width n = d.wrN i j ((d.rdN i j + n) % 2 ^ width) := rfl
theorem Dev.setFlag_eq (d : Dev) (i j k : Nat) (b : Bool) : d.setFlag i j k b = d.wr i j (setBit (d.rd i j) k b) := rfl

/-- A result that completes: SEQ one further, UNACKED set, BUSY clear where there is one, every other bit as it was (R400). -/
theorem Dev.complete_word (d : Dev) (i j u : Nat) (busy : Option Nat) :
    (d.complete i j u busy).rd i j =
      (match busy with
        | some b => setBit (setBit (setBits (d.rd i j) 31 16 (nextSeq (bits (d.rd i j) 31 16))) u true) b false
        | none => setBit (setBits (d.rd i j) 31 16 (nextSeq (bits (d.rd i j) 31 16))) u true) := by
  cases busy <;> (unfold Dev.complete; rw [Dev.rd_wr_same])

/-- A register beside the status word is not touched by a completion. -/
theorem Dev.complete_other (d : Dev) {i j i' j' : Nat} (u : Nat) (busy : Option Nat) (h : objKey i j ≠ objKey i' j') :
    (d.complete i j u busy).rd i' j' = d.rd i' j' := by unfold Dev.complete; exact d.rd_wr_other _ h

/-- The acknowledgement of R400: UNACKED cleared by the current SEQ, nothing otherwise. -/
theorem Dev.ack_cases (d : Dev) (i j u v : Nat) :
    (v = d.seqOf i j ∧ d.ack i j u v = d.wr i j (setBit (d.rd i j) u false)) ∨ (v ≠ d.seqOf i j ∧ d.ack i j u v = d) := by
  unfold Dev.ack
  split
  · exact .inl ⟨‹_›, rfl⟩
  · exact .inr ⟨‹_›, rfl⟩

theorem seq_lt (d : Dev) (i j : Nat) : d.seqOf i j < 65536 := bits_lt _ 31 16

theorem nextSeq_lt {n : Nat} (h : n < 65536) : nextSeq n < 65536 := by unfold nextSeq; split <;> omega

theorem nextSeq_pos (n : Nat) : 0 < nextSeq n := by unfold nextSeq; split <;> omega

/-! ### Writes (R397) -/

/-- An accepted write is the object's effect. -/
theorem rowWrite_accepted {o : Desc} {a : Act} {w : Wr} {d : Dev} (i j : Nat) (h : Accepted o a w d) :
    rowWrite o a i j w d = a.apply d w := by
  unfold rowWrite; rw [if_pos h.1]; unfold runWrite; rw [if_pos h.2]

/-- A write that does not reach the dictionary changes nothing. -/
theorem rowWrite_unreached (o : Desc) (a : Act) (w : Wr) {d : Dev} (i j : Nat) (h : d.dictionary = false) :
    rowWrite o a i j w d = d := by
  unfold rowWrite; rw [if_neg (by simp [h])]

/-- A refused write leaves its record, and what the object states for a refusal of orders 5 to 8. -/
theorem rowWrite_refused {o : Desc} {a : Act} {w : Wr} {d : Dev} (i j : Nat) (h : d.dictionary = true)
    (hc : writeCheck o a w d ≠ 0) :
    rowWrite o a i j w d =
      (if lateCode (writeCheck o a w d) then a.refuse (writeCheck o a w d) d else d).recordRefusal w.path i j
        (writeCheck o a w d) := by
  unfold rowWrite; rw [if_pos h]; unfold runWrite; rw [if_neg hc]

/-- What a refusal leaves beside the transport record. -/
theorem Dev.recordRefusal_regsOnly (d : Dev) (t : Transport) (i j c : Nat) (r : List (Nat × Word)) :
    { d.recordRefusal t i j c with regs := r } = { d with regs := r } := by
  unfold Dev.recordRefusal Dev.wrN; exact Dev.wr_regsOnly d _ _ _ r

/-! ### Log entries and notifications -/

theorem Reported.refl (d : Dev) : Reported d d := by constructor <;> first | rfl | exact RegsKept.refl _ _ | (intros; rfl)

theorem Reported.trans {d e f : Dev} (h : Reported d e) (k : Reported e f) : Reported d f where
  regs := h.regs.trans k.regs (fun _ _ => id) (fun _ _ => id)
  core := k.core.trans h.core
  env := k.env.trans h.env
  strs := k.strs.trans h.strs
  staged := k.staged.trans h.staged
  freeCtr := k.freeCtr.trans h.freeCtr
  nv := by have a := h.nv; have b := k.nv; rw [← a, ← b]
  tr := by have a := h.tr; have b := k.tr; rw [← a, ← b]
  half := fun x hx => (k.half x hx).trans (h.half x hx)
  hemWin := fun x hx => (k.hemWin x hx).trans (h.hemWin x hx)
  panels := k.panels.trans h.panels
  seams := k.seams.trans h.seams
  wiring := k.wiring.trans h.wiring
  baste := k.baste.trans h.baste
  watch := k.watch.trans h.watch
  window := k.window.trans h.window
  bobbins := k.bobbins.trans h.bobbins
  blocks := k.blocks.trans h.blocks
  scrub := k.scrub.trans h.scrub
  patrol := k.patrol.trans h.patrol
  shuttles := k.shuttles.trans h.shuttles
  programs := k.programs.trans h.programs
  progErrs := k.progErrs.trans h.progErrs
  needles := k.needles.trans h.needles
  cal := k.cal.trans h.cal
  banks := k.banks.trans h.banks
  safeBalls := k.safeBalls.trans h.safeBalls
  cascade := k.cascade.trans h.cascade
  config := k.config.trans h.config
  sec := k.sec.trans h.sec
  spool := k.spool.trans h.spool
  rr := k.rr.trans h.rr
  tally := k.tally.trans h.tally
  swatch := k.swatch.trans h.swatch
  darn := k.darn.trans h.darn
  safety := k.safety.trans h.safety

/-- One register of reporting set. -/
theorem Dev.wr_reported (d : Dev) (i j : Nat) (v : Word) (hj : j < 256) (h : reportReg i j = true) : Reported d (d.wr i j v) where
  regs := by
    intro i' j' hj' hr
    apply d.rd_wr_other v
    intro e
    obtain ⟨rfl, rfl⟩ := objKey_inj hj hj' e
    rw [h] at hr; exact absurd hr (by decide)
  core := rfl
  env := rfl
  strs := rfl
  staged := rfl
  freeCtr := rfl
  nv := rfl
  tr := rfl
  half := fun _ _ => rfl
  hemWin := fun _ _ => rfl
  panels := rfl
  seams := rfl
  wiring := rfl
  baste := rfl
  watch := rfl
  window := rfl
  bobbins := rfl
  blocks := rfl
  scrub := rfl
  patrol := rfl
  shuttles := rfl
  programs := rfl
  progErrs := rfl
  needles := rfl
  cal := rfl
  banks := rfl
  safeBalls := rfl
  cascade := rfl
  config := rfl
  sec := rfl
  spool := rfl
  rr := rfl
  tally := rfl
  swatch := rfl
  darn := rfl
  safety := rfl

theorem Dev.emit_reported (d : Dev) (o : Output) : Reported d (d.emit o) := by
  constructor <;> first | rfl | exact RegsKept.refl _ _ | (intros; rfl)

theorem Dev.level_reported (d : Dev) (u : Nat) : Reported d (d.level u) := by
  unfold Dev.level
  split
  · dsimp only
    split
    · constructor <;> first | rfl | exact RegsKept.refl _ _ | (intros; rfl)
    · exact .refl d
  · exact .refl d

theorem Dev.touchRaw_reported (d : Dev) (u n : Nat) : Reported d (d.touchRaw u n) := by
  unfold Dev.touchRaw
  dsimp only
  have h1 (c : List (Nat × Nat)) : Reported d { d with nv := { d.nv with unitCount := c } } := by
    constructor <;> first | rfl | exact RegsKept.refl _ _ | (intros; rfl)
  have h2 := (h1 (tabSet (fun _ => 0) d.nv.unitCount (d.unitOf u) (d.unitCount (d.unitOf u) + n))).trans (Dev.level_reported _ u)
  split
  · exact h2.trans (Dev.wr_reported _ _ _ _ (by decide) (by decide))
  · exact h2

theorem Dev.lastEvent_reported (d : Dev) (reason inst : Nat) : Reported d (d.lastEvent reason inst) := by
  unfold Dev.lastEvent
  exact (Dev.wr_reported d 0x2003 1 _ (by decide) (by decide)).trans (Dev.wr_reported _ 0x2003 2 _ (by decide) (by decide))

theorem Dev.enterLog_reported (d : Dev) (time reason inst detail : Nat) : Reported d (d.enterLog time reason inst detail) := by
  unfold Dev.enterLog
  dsimp only
  refine Reported.trans ?_ (Dev.lastEvent_reported _ _ _)
  refine Reported.trans ?_ (Dev.wr_reported _ _ _ _ (by decide) (by decide))
  refine Reported.trans ?_ (Dev.touchRaw_reported _ _ _)
  constructor <;> first | rfl | exact RegsKept.refl _ _ | (intros; rfl)

theorem Dev.emcy_reported (d : Dev) (code reason inst : Nat) : Reported d (d.emcy code reason inst) := by
  unfold Dev.emcy
  split
  · exact .refl d
  · dsimp only
    have sent (o : Output) (t : Option Nat) : Reported d { d.emit o with tr := { d.tr with emcyLast := t } } := by
      constructor <;> first | rfl | exact RegsKept.refl _ _ | (intros; rfl)
    have held : Reported d (d.count 0x2040 0x0C 32 1) := Dev.wr_reported d 0x2040 0x0C _ (by decide) (by decide)
    repeat' split
    all_goals first | exact held | exact sent _ _

theorem Dev.msix_reported (d : Dev) (v : Nat) : Reported d (d.msix v) := by
  unfold Dev.msix
  split
  · exact .refl d
  · constructor <;> first | rfl | exact RegsKept.refl _ _ | (intros; rfl)

theorem Dev.ringEntry_reported (d : Dev) (reason inst vector : Nat) : Reported d (d.ringEntry reason inst vector) := by
  unfold Dev.ringEntry
  dsimp only
  refine Reported.trans ?_ (Dev.msix_reported _ _)
  refine Reported.trans ?_ (Dev.wr_reported _ _ _ _ (by decide) (by decide))
  refine Reported.trans (e := if 256 < (d.rdN 0x2041 1 + 1) % 2 ^ 32 && d.rdN 0x2041 3 < (d.rdN 0x2041 1 + 1) % 2 ^ 32 - 256
    then d.count 0x2041 4 32 1 else d) ?_ ?_
  · split
    · exact Dev.wr_reported _ _ _ _ (by decide) (by decide)
    · exact .refl d
  · constructor <;> first | rfl | exact RegsKept.refl _ _ | (intros; rfl)

theorem Dev.notifyRing_reported (d : Dev) (reason inst : Nat) : Reported d (d.notifyRing reason inst) := by
  unfold Dev.notifyRing
  dsimp only
  have h1 := Dev.lastEvent_reported d reason inst
  have h2 : Reported d (if bit (d.rd 0x2040 (reason / 256)) 14 then
      (d.lastEvent reason inst).ringEntry reason inst (bits (d.rd 0x2040 (reason / 256)) 5 0) else d.lastEvent reason inst) := by
    split
    · exact h1.trans (Dev.ringEntry_reported _ _ _ _)
    · exact h1
  split
  · exact h2.trans (Dev.emcy_reported _ _ _ _)
  · exact h2

theorem Dev.setHemWin214_reported (d : Dev) (w : HemWin) : Reported d (d.setHemWin 214 w) := by
  constructor <;> first | rfl | exact RegsKept.refl _ _ | (intro h hh; exact tabGet_tabSet_other _ _ _ (Ne.symm hh)) | (intros; rfl)

theorem Dev.putHalf237_reported (d : Dev) (x : HalfSt) : Reported d (d.putHalf 237 x) := by
  constructor <;> first | rfl | exact RegsKept.refl _ _ | (intro h hh; exact tabGet_tabSet_other _ _ _ (Ne.symm hh)) | (intros; rfl)

theorem Dev.fabricNotify_reported (d : Dev) (reason inst : Nat) : Reported d (d.fabricNotify reason inst) := by
  unfold Dev.fabricNotify
  dsimp only
  split
  · exact (Dev.putHalf237_reported d _).trans (Dev.setHemWin214_reported _ _)
  · exact Dev.putHalf237_reported d _

/-- A notification only reports. -/
theorem Dev.notify_reported (d : Dev) (reason inst : Nat) : Reported d (d.notify reason inst) := by
  unfold Dev.notify
  split
  · exact .refl d
  · dsimp only
    have h1 := Dev.notifyRing_reported d reason inst
    split
    · have h2 := h1.trans (Dev.fabricNotify_reported _ reason inst)
      split
      · exact (h2.trans (Dev.setHemWin214_reported _ _)).trans (Dev.notifyRing_reported _ _ _)
      · exact h2
    · exact h1

theorem Dev.peakCheck_reported (d : Dev) : Reported d d.peakCheck := by
  have seen (n : Nat) : Reported d { d with nv := { d.nv with wearPeakSeen := n } } := by
    constructor <;> first | rfl | exact RegsKept.refl _ _ | (intros; rfl)
  unfold Dev.peakCheck
  split
  · exact ((seen _).trans (Dev.enterLog_reported _ _ _ _ _)).trans (Dev.notify_reported _ _ _)
  · exact .refl d

theorem Dev.logAt_reported (d : Dev) (time reason inst detail : Nat) : Reported d (d.logAt time reason inst detail) :=
  (Dev.enterLog_reported d time reason inst detail).trans (Dev.peakCheck_reported _)

/-- A log entry only reports. -/
theorem Dev.log_reported (d : Dev) (reason inst detail : Nat) : Reported d (d.log reason inst detail) := by
  unfold Dev.log
  split
  · exact Dev.logAt_reported _ _ _ _ _
  · exact .refl d

theorem Dev.logNotify_reported (d : Dev) (reason inst detail : Nat) : Reported d (d.logNotify reason inst detail) :=
  (Dev.log_reported d reason inst detail).trans (Dev.notify_reported _ _ _)

end Sys2Proof.Machine
end

