-- ==== Sys2Proof/Machine/Package.lean ====
section
/-! DEFINITION. The package's grid of balls (R552 to R555): names of positions, the three regions, and where the channel lanes lie. -/

namespace Sys2Proof.Machine

/-- The names of the rows, index 1 first (R552). -/
def ballRows : List String :=
  ["A", "B", "C", "D", "E", "F", "G", "H", "J", "K", "L", "M", "N", "P", "T", "U", "V", "W", "Y"] ++
  ["AA", "AB", "AC", "AD", "AE", "AF", "AG", "AH", "AJ", "AK", "AL", "AM", "AN", "AP", "AT", "AU", "AV", "AW", "AY"] ++
  ["BA", "BB"]

/-- A ball position: row index and column, each 1 to 40. -/
structure Ball where
  row : Nat
  column : Nat
  deriving DecidableEq, Repr

/-- The name of a position, as AU35 (R552). -/
def Ball.name (b : Ball) : String := ballRows.getD (b.row - 1) "" ++ toString b.column

/-- The regions of the grid (R553). -/
inductive BallRegion where
  | outer
  | inner
  | core
  deriving DecidableEq, Repr

/-- The region of a position, by its distance from the nearest edge. -/
def Ball.region (b : Ball) : BallRegion :=
  let edge := min (min (b.row - 1) (40 - b.row)) (min (b.column - 1) (40 - b.column))
  if edge < 6 then .outer else if edge < 10 then .inner else .core

/-- What lies at the six depths of a lane position, from the edge inwards (R554). -/
inductive LaneBall where
  | txP
  | txN
  | outerGround
  | rxP
  | rxN
  | innerGround
  deriving DecidableEq, Repr

/-- The depth of a lane's ball, 0 at the edge. -/
def LaneBall.depth : LaneBall → Nat
  | .txP => 0
  | .txN => 1
  | .outerGround => 2
  | .rxP => 3
  | .rxN => 4
  | .innerGround => 5

/-- The ball of a channel (R554): groups 0 to 2 lie north, 3 to 5 east, 6 to 8 south, 9 to 11 west. -/
def laneBall (c : Fin 96) (p : LaneBall) : Ball :=
  let g := c.val / 8
  let k := 10 * (g % 3) + c.val % 8
  match g / 3 with
  | 0 => { row := p.depth + 1, column := 7 + k }
  | 1 => { row := 7 + k, column := 40 - p.depth }
  | 2 => { row := 40 - p.depth, column := 34 - k }
  | _ => { row := 34 - k, column := p.depth + 1 }

/-- The signal balls by group, in the order of R555. -/
def signalBalls : List (String × Nat) :=
  [("Channel lanes", 384), ("Cascade", 32), ("PCI Express", 34), ("Timing references", 8), ("GPIO", 64), ("SAFE", 8),
   ("Configuration port", 24), ("CAN FD", 2), ("JTAG", 5), ("Straps, reset, PCIe sideband", 12), ("Thermal diode", 2), ("VBAT", 1),
   ("Tamper", 2), ("Analogue test", 4)]

end Sys2Proof.Machine
end

