-- ==== Sys2Proof/Tests/Slice0.lean ====
section
/-! SUPPORT. Tests: the well-formedness checks refuse what they should; small states that meet the hypotheses of every clause of the
statements together; single steps on small states, with results taken from the spec. -/

namespace Sys2Proof.Tests

set_option Elab.async false

open Sys2Proof Sys2Proof.Machine

/-! ### Small states -/

/-- A device in a state of R29 with the fabric released, in life cycle VIRGIN, so that every path holds OWNER. -/
def dev (st : DevState) : Dev :=
  { core := { state := st, gsrHeld := false, gatesOpen := true, writes := true, outputs := true }, regs := [(0x220001, 1)] }

/-- A state of a device alone. -/
def of (d : Dev) : State := { dev := d }

/-- A write of a fixed-size value over CAN FD. -/
def wr (len v : Nat) : Wr := { path := .can, len := len, value := word v }

/-- A write of a byte string over CAN FD. -/
def wb (l : List Byte) : Wr := { path := .can, bytes := l }

/-! ### Witnesses: the machine, power and states -/

theorem witness_StepRunsFrontCommand : State.reset.pending = [] := rfl

theorem witness_FusesOnlyBlow :
    FusesInv { lifecycle := 4, lcBegin := some 5 } ∧
    ∃ t, step { State.reset with pending := [.lcTransitionComplete], fuses := { lifecycle := 4, lcBegin := some 5 } } = .next t :=
  ⟨fun n h => by cases h; decide, _, rfl⟩

theorem witness_RefusedCommandLeavesOnlyItsRecord :
    (∃ r, writeRow {} (.cfgAck (wr 1 0)) = some r ∧ (dev .boot).dictionary = false ∧ (dev .run).dictionary = true ∧
      writeCheck r.desc r.act r.write (dev .run) ≠ 0) :=
  ⟨_, rfl, by decide, by decide, by decide +kernel⟩

theorem witness_AcknowledgeClearsUnacked :
    ∃ r x, ackRow (.cfgAck (wr 2 0xFFFF)) = some r ∧ writeRow {} (.cfgAck (wr 2 0xFFFF)) = some x ∧
      Accepted x.desc x.act x.write (dev .run) ∧
      r.desc.num r.write ≠ bits ((dev .run).rd r.index 1) 31 16 ∧
      r.desc.num r.write = bits (((dev .run).wr 0x2100 1 (word 0xFFFF8000)).rd r.index 1) 31 16 :=
  ⟨_, _, rfl, rfl, ⟨by decide, by decide +kernel⟩, by decide +kernel, by decide +kernel⟩

theorem witness_OtherAcknowledgements :
    (Accepted objBobbinAck (actBobbinAck 0x46FF) (wr 2 0) (dev .run) ∧
      objBobbinAck.num (wr 2 0) = bits ((dev .run).rd 0x46FF 1) 31 16) ∧
    (Accepted objSwatchAck actSwatchAck (wr 2 0) (dev .run) ∧ objSwatchAck.num (wr 2 0) = bits ((dev .run).rd 0x3600 1) 31 16) ∧
    (Accepted objSampleAck (actSampleAck 11) (wr 4 7) ((dev .run).wrN 0x312B 4 7) ∧
      ((dev .run).wrN 0x312B 4 7).rdN 0x312B 5 ≤ objSampleAck.num (wr 4 7) ∧
      objSampleAck.num (wr 4 7) ≤ ((dev .run).wrN 0x312B 4 7).rdN 0x312B 4) ∧
    (Accepted objTamperAck actTamperAck (wr 2 0) (dev .run) ∧ objTamperAck.num (wr 2 0) = (dev .run).nv.tamperSeq) ∧
    (Accepted objStateAck actStateAck (wr 2 0) (dev .folded) ∧ (dev .folded).core.state ≠ .safe ∧
      objStateAck.num (wr 2 0) = bits ((dev .folded).rd 0x2000 1) 31 16) ∧
    (Accepted objNotifyAck actNotifyAck (wr 4 0) (dev .safe) ∧ (dev .safe).rdN 0x2041 3 ≤ objNotifyAck.num (wr 4 0) ∧
      objNotifyAck.num (wr 4 0) ≤ (dev .safe).rdN 0x2041 1) := by
  unfold Accepted; decide +kernel

theorem witness_ObjectWriteHoldsOrStages :
    (∃ o, findDesc 0x1015 0 = some o ∧ o.hook = .plain ∧ o.scope ≠ .cascade ∧ userIndex 0x1015 = false ∧
      Accepted o (plainAct o 0x1015 0) (wr 2 100) (dev .run) ∧ o.acc = .rw) ∧
    (∃ o, findDesc 0x2150 0 = some o ∧ o.hook = .plain ∧ o.scope ≠ .cascade ∧ userIndex 0x2150 = false ∧
      Accepted o (plainAct o 0x2150 0) (wr 1 15) (dev .run) ∧ o.acc = .rwn ∧ (dev .run).immediate = false) :=
  ⟨⟨_, rfl, by decide, by decide, by decide, ⟨by decide, by decide +kernel⟩, rfl⟩,
   ⟨_, rfl, by decide, by decide, by decide, ⟨by decide, by decide +kernel⟩, rfl, by decide⟩⟩

theorem witness_SuppliesAndResetPin :
    (∀ r : Fin 6, (~~~ BitVec.ofNat 6 (2 ^ r.val)).getLsbD r.val = false ∧ (dev .off).core.state = .off) ∧
    ((0x1F : BitVec 6).getLsbD 5 = false ∧ (dev .run).core.state ≠ .off ∧ (dev .run).core.state ≠ .reset ∧
      (dev .run).env.armed.getLsbD 5 = true) ∧
    (dev .safe).core.state ≠ .off ∧ State.reset.dev.core.state = .reset := by decide

/-- A device whose BOOT is held. -/
def bootHeld : Dev := { core := { state := .boot, bootReason := 0x0254 } }

theorem witness_BootPath :
    (State.reset.dev.core.state = .reset ∧ State.reset.dev.core.holdRunning = true ∧ State.reset.dev.env.resetN = true ∧
      State.reset.dev.allRails = true) ∧
    ((dev .boot).core.state = .boot ∧ (dev .boot).vaux = true ∧ (dev .boot).nv.trialStarted = false) ∧
    startFault {} ((dev .boot).fwSlot false) true = 0 ∧
    startFault { fwMin := 64 } ((dev .boot).fwSlot false) true ≠ 0 ∧ startFault {} ((dev .boot).fwSlot true) true ≠ 0 ∧
    (bootHeld.tapOn = true ∧ bootHeld.core.state = .boot ∧ bootHeld.core.bootReason ≠ 0) := by decide +kernel

/-- A fitted device in RUN with CFG_DONE and the default order of steps. -/
def running : Dev := { dev .run with config := { orderInEffect := 0xE4 }, tr := { plls := 0xFFF } }

theorem witness_StateRequests :
    Accepted objStateRequest actStateRequest ⟨.can, 1, word 1, [], 0⟩ (dev .safe) ∧
    Accepted objStateRequest actStateRequest ⟨.window, 1, word 2, [], 0⟩ running ∧
    (running.core.state = .run ∧ { running.core with foldPending := true }.foldPending = true ∧ running.allHalted = true) ∧
    (Accepted objStateRequest actStateRequest ⟨.jtag, 1, word 3, [], 0⟩ { running with core := { running.core with state := .folded } } ∧
      running.core.steps = none ∧ orderOk running.config.orderInEffect = true) ∧
    Accepted objStateRequest actStateRequest ⟨.mailbox, 1, word 4, [], 0⟩ (dev .fitting) ∧
    (Accepted objStateAck actStateAck (wr 2 0) (dev .safe) ∧ (dev .safe).core.state = .safe ∧
      objStateAck.num (wr 2 0) = (dev .safe).rdN 0x2000 5) := by
  unfold Accepted; decide +kernel

/-- A staged level of hem 3, which the notch of group 0 takes. -/
def stagedHem : Staged := { index := 0x3003, sub := 0x0A, val := .word 1, scope := .group 0, due := 1 }

theorem witness_HostNotchTakesEffect :
    (Accepted objHostNotch actHostNotch (wr 2 0x8FFF) running ∧ running.cal.staged = [] ∧ running.staged = []) ∧
    (Accepted objHostNotch actHostNotch (wr 2 0x0001) { running with staged := [stagedHem] } ∧ stagedHem.val = .word 1 ∧
      0x3000 ≤ stagedHem.index ∧ stagedHem.index < 0x30D8 ∧ stagedHem.sub = 0x0A ∧
      (∃ g, g < 12 ∧ stagedHem.scope = .group g ∧ (objHostNotch.num (wr 2 0x0001)).testBit g = true)) ∧
    Accepted objHostNotch actHostNotch (wr 2 0x8000) { running with staged := [stagedHem] } := by
  unfold Accepted; decide +kernel

/-- A panel site whose bundle frame holds control word w of bundle 15, the last site of the device. -/
def lastSite (w : Nat) : Dev :=
  { running with config := { orderInEffect := 0xE4, active := [(panelAddr 101 71 5, { data := BitVec.ofNat 2048 (w * 2 ^ 480), check := 0, crc := 0 })] } }

/-- Bundle 15 of that site, whose IN_0 of stitch 0 port 7 feeds and whose IN_1 port 6 feeds, GATE tied as given; both ports hold a word. -/
def routed (w : Nat) (gate : Bool) : Dev :=
  (({ lastSite w with wiring := { selects := [⟨7343, 6, 960, 0, 1, [.port 7 0]⟩, ⟨7343, 6, 961, 0, 1, [.port 6 0]⟩,
      ⟨7343, 6, 1018, 0, 1, [.const gate]⟩] } }).setSeam (seamIn 7343 7) { word := some 3 }).setSeam (seamIn 7343 6) { word := some 1 }

/-- The thread k of the last site's bundle 15 has raised its request. -/
def waits (d : Dev) (k : Nat) : Bool := ((d.groupThreads 101 (d.coupledGroup 101 127 71 15))[k]?).any (fun t => d.raised 101 t)

theorem gateOf {o : Option ((Nat × Nat) × BundleIn)} (h : o.map (fun x => x.2.gate) = some false) : ∃ x, o = some x ∧ x.2.gate = false :=
  Option.map_eq_some_iff.mp h

theorem witness_BundlesAndMerges :
    ((routed 0 true).canAccept 7343 15 = true ∧ bits ((routed 0 true).bundleWord 101 71 15) 23 22 = 0 ∧
      (routed 0 true).coupledGroup 101 127 71 15 = [(71, 15)] ∧ bits ((routed 0 true).bundleWord 101 71 15) 18 16 = 0) ∧
    (((routed 0 true).setPanel 7343 { reqWait := 0x8000 }).siteLive 7343 = true ∧
      (((routed 0 true).setPanel 7343 { reqWait := 0x8000 }).panel 7343).reqWait.getLsbD 15 = true) ∧
    ((running.panel 0).reqWait.getLsbD 0 = false ∧ running.canAccept 0 0 = false) ∧
    ((routed 0x400000 false).canAccept 7343 15 = true ∧ bits ((routed 0x400000 false).bundleWord 101 71 15) 23 22 = 1 ∧
      ∃ x, ((routed 0x400000 false).groupIn 101 ((routed 0x400000 false).coupledGroup 101 127 71 15)).getLast? = some x ∧
        x.2.gate = false) ∧
    ((routed 0x800000 true).siteLive 7343 = true ∧ bits ((routed 0x800000 true).bundleWord 101 71 15) 23 22 = 2 ∧
      ((routed 0x800000 true).panel 7343).granted.getLsbD 15 = false ∧ waits (routed 0x800000 true) 0 = true ∧
      waits (routed 0x800000 true) 1 = true ∧ (∀ x, x = 0 ∨ x = 0x8000 →
        waits ((routed 0x800000 true).setPanel 7343 { contested := x }) 0 = true ∧
        waits ((routed 0x800000 true).setPanel 7343 { contested := x }) 1 = true ∧
        (((routed 0x800000 true).setPanel 7343 { contested := x }).panel 7343).contested.getLsbD 15 = (x == 0x8000#16)) ∧
      waits (lastSite 0x800000) 0 = false ∧ waits (lastSite 0x800000) 1 = false) :=
  ⟨by decide +kernel, by decide +kernel, by decide +kernel,
    ⟨by decide +kernel, by decide +kernel, gateOf (by decide +kernel)⟩,
    ⟨by decide +kernel, by decide +kernel, by decide +kernel, by decide +kernel, by decide +kernel,
      by rintro x (rfl | rfl) <;> decide +kernel, by decide +kernel⟩⟩

/-- Port 7 of the last site with a thread of six digits, each from a hard block; its output bundle 15 offers a token to port 7. -/
def seamed : Dev :=
  { running with
    wiring := {
      places := [⟨7343, 7, 0⟩, ⟨7343, 39, 0⟩]
      sinks := [⟨7343, 7, 0, 0⟩, ⟨7343, 7, 1, 0⟩, ⟨7343, 7, 2, 0⟩, ⟨7343, 7, 3, 0⟩, ⟨7343, 7, 4, 0⟩, ⟨7343, 7, 5, 0⟩]
      groups := [⟨7343, 0, [.hard]⟩], selects := [⟨7343, 18, 112, 16, 1, [.outA 127]⟩] }
    config := { orderInEffect := 0xE4, active := [(panelAddr 101 71 8, { data := 1, check := 0, crc := 0 }),
      (panelAddr 101 71 18, { data := 6, check := 0, crc := 0 })] }
    panels := [(7343, { outFull := 0x8000 })] }

/-- Port 0 of site 0 sends one digit to port 7 of the last site alone. -/
def joined : Dev :=
  { seamed with
    wiring := { sinks := [⟨7343, 7, 0, 0⟩], groups := [⟨7343, 0, [.group 0 0]⟩, ⟨0, 0, [.port 0 0]⟩] }
    config := { orderInEffect := 0xE4, active := [(panelAddr 0 0 8, { data := 1, check := 0, crc := 0 }),
      (panelAddr 101 71 8, { data := 1, check := 0, crc := 0 })] }
    seams := [(seamOut 0 0, { wires := 8, word := some 3, digits := 1 })] }

theorem witness_SeamsLaunchAndLatch :
    (seamed.siteLive 7343 = true ∧ seamed.core.gatesOpen = true ∧ (seamed.seam (seamOut 7343 7)).word = none ∧
      seamed.seamRoom 7343 7 false = true ∧ seamed.portBundle 101 71 7 = some 15 ∧ (seamed.panel 7343).offers 15 (16 + 7) = true ∧
      seamed.frenchWaits 7343 = false ∧ seamed.portDigits 101 71 (32 + 7) = 6) ∧
    (joined.siteLive 0 = true ∧ joined.seamRoom 0 0 false = false) ∧
    (((running.setSeam (seamIn 0 23) { word := some 3 }).seam (seamIn 0 23)).word = some 3 ∧
      ((running.setSeam (seamIn 0 23) { word := some 3 }).seam (seamOut 0 23)).word = none ∧
      (running.setSeam (seamIn 0 23) { word := some 3 }).siteLive 0 = true) ∧
    (seamed.seamUnits 101 71 7 = [7] ∧ seamed.portDigits 101 71 7 = 6 ∧ seamed.seamLevels 0x888888 7343 7 6 = 0x888888 ∧
      (seamed.seam (seamIn 7343 7)).invalid = false ∧ (seamed.seam (seamIn 7343 7)).word = none ∧
      (∀ k, k < 6 → (0 : BitVec 6).getLsbD k = false) ∧
      (∀ k, k < 6 → digitValue (digitDiff (seamed.seam (seamIn 7343 7)).wires 0x888888 k) = some 3) ∧
      seamed.sendersOf 7343 7 6 = []) ∧
    (joined.seamUnits 101 71 7 = [7] ∧ joined.seamLevels 0 7343 7 1 = 8 ∧ joined.sendersOf 7343 7 1 = [(0, 0)] ∧
      joined.branchesOf 0 0 = [seamIn 7343 7] ∧ seamIn 0 0 ≠ seamIn 7343 7 ∧ seamOut 0 0 ≠ seamIn 7343 7 ∧
      digitValue (digitDiff (joined.seam (seamIn 7343 7)).wires 8 0) = some 3) ∧
    (seamed.core.state = .run ∧ seamed.core.gsrHeld = false ∧
      invalidDigit (seamed.seam (seamIn 7343 7)) (seamed.seamLevels 0x300000 7343 7 6) 0 6 = some 5) := by decide +kernel

/-- The bank clock of bank 0 pending. -/
def stagedBank : Staged := { index := 0x2801, sub := 2, val := .word 10, scope := .device, due := 1 }

theorem witness_BastingRequests :
    (Accepted objBasteRequest (actBaste (fun _ _ t => captureExists t) (latchPanel 0))
        ⟨.can, 8, word (2 ^ 56 + (101 * 256 + 71)), [], 0⟩ running ∧
      running.repairing (sitePatch 101 71) = false ∧ running.moving (sitePatch 101 71) = false) ∧
    (Accepted objBasteRequest (actBaste basteExists (latchBaste {})) ⟨.can, 8, word (2 ^ 57 + (0x2801 * 256 + 2)), [], 0⟩
        { running with staged := [stagedBank] } ∧
      (∃ o, findDesc 0x2801 2 = some o ∧ o.acc = .rwn) ∧
      ({ running with staged := [stagedBank] } : Dev).pendingOf 0x2801 2 = some stagedBank) ∧
    (∃ q : BasteReq, q.result = some [] ∧ ({ running with baste := some q } : Dev).baste = some q) := by
  refine ⟨by unfold Accepted; decide +kernel, ⟨by unfold Accepted; decide +kernel, ⟨_, rfl, rfl⟩, by decide +kernel⟩,
    ⟨{ kind := 1, target := 0, result := some [] }, rfl, rfl⟩⟩

/-- Watch point 511 bound to bundle 0 of P(0,0), with its stall check on, and REPORT_ONLY as given; both phases of that bundle's handshake
are open. -/
def watched (reportOnly : Bool) : Dev :=
  ((running.wrN 0x3BFF 0x40 0).wrN 0x3BFF 0x41 (0x4000 + 0x2000 * reportOnly.toNat)).setPanel 0 { outFull := 1, returning := 1 }

theorem witness_WatchWindowsAndStalls :
    running.windowRuns = true ∧
    (∀ r f : Bool, (watched r).thimble = true ∧ (watched r).phaseOpen ((watched r).watchBinding 511) f = true ∧ (watched r).core.state = .run ∧ (watched r).watchBinding 511 ≠ BitVec.allOnes 64 ∧
      bit ((watched r).watchCfg 511) 14 = true ∧ (watched r).endpointReady ((watched r).watchBinding 511) = true ∧
      bit ((watched r).watchCfg 511) 13 = r ∧ (watched r).stallSite ((watched r).watchBinding 511) = 0) := by decide +kernel

/-- Bobbin 767 with its configuration word, 256-bit read words, and so many read words in it. -/
def filled (cfg n : Nat) (run : Option DropRun := none) : Dev :=
  (running.wrN 0x46FF 3 (0x21000000 + cfg + 767)).setBobbin 767 {
    words := List.replicate n { data := 1, tag := 0 }, run := run, sent310 := true }

theorem witness_BobbinsKeepOrder :
    (({ dev .fitting with core := { (dev .fitting).core with writes := false } } : Dev).fabricLive = true ∧
      { (dev .fitting).core with writes := false }.writes = false ∧ (running.bobbin (running.bobbinHead 0)).waiting = none ∧
      writeLining (running.bobbinCfg (running.bobbinHead 0)) = false) ∧
    ((filled 0x800000 128).fabricLive = true ∧ (filled 0x800000 128).bobbinHead 767 = 767 ∧ packetMode ((filled 0x800000 128).bobbinCfg 767) = false ∧
      members ((filled 0x800000 128).bobbinCfg 767) ≠ 8 ∧ ((filled 0x800000 128).bobbin 767).partCount = 0 ∧
      ((filled 0x800000 128).bobbin 767).full ((filled 0x800000 128).bobbinCfg 767) = true ∧
      fullWaits ((filled 0x800000 128).bobbinCfg 767) = true) ∧
    (((filled 0 128).bobbin 767).full ((filled 0 128).bobbinCfg 767) = true ∧
      fullWaits ((filled 0 128).bobbinCfg 767) = false ∧ ((filled 0 128).bobbin 767).sent310 = true) ∧
    (((filled 0 127).bobbin 767).full ((filled 0 127).bobbinCfg 767) = false ∧
      ((filled 0 127).bobbin 767).partCount + 1 ≠
        rdWidth ((filled 0 127).bobbinCfg 767) / wrWidth ((filled 0 127).bobbinCfg 767)) ∧
    (({ partCount := 15 } : BobbinSt).partCount + 1 =
      rdWidth ((filled 0 127).bobbinCfg 767) / wrWidth ((filled 0 127).bobbinCfg 767)) ∧
    ((filled 0 1).fabricLive = true ∧ readLining ((filled 0 1).bobbinCfg ((filled 0 1).bobbinHead 767)) = false ∧
      ((filled 0 1).bobbin ((filled 0 1).bobbinHead 767)).words = [{ data := 1, tag := 0 }]) ∧
    (((filled 0 127 (some ⟨1, 0, false, 0, true⟩)).bobbin 767).run = some ⟨1, 0, false, 0, true⟩ ∧
      ((filled 0 127 (some ⟨1, 0, false, 0, true⟩)).bobbin 767).full
        ((filled 0 127 (some ⟨1, 0, false, 0, true⟩)).bobbinCfg 767) = false) := by decide +kernel

/-- A hem half that is full in its writer's view, with a gap pending. -/
def fullHalf (h : Nat) : Dev :=
  running.setHalf h { q := [{ data := 7, tag := 0 }], wptr := 256, seenW := 255, gap := some {} }

theorem witness_HemsCarryInOrder :
    (running.fabricLive = true ∧ toFabric 95 = false ∧ (running.half 95).freeEntries ≠ 0 ∧ carriesNone 95 = false ∧
      ((fullHalf 95).half 95).freeEntries = 0 ∧ toFabric 216 = false ∧ carriesNone 216 = true) ∧
    ((fullHalf 238).islandOn (hemIsland (hemOf 238)) = true ∧ ((fullHalf 238).half 238).seenW ≠ ((fullHalf 238).half 238).wptr) ∧
    (toFabric 239 = true ∧ ((fullHalf 239).half 239).head = some { data := 7, tag := 0 }) ∧
    (((fullHalf 0).half 0).gap = some {} ∧ ((fullHalf 0).half 0).freeEntries = 0) ∧
    ((running.setHalf 0 { gap := some {} }).half 0).freeEntries ≠ 0 ∧
    (∀ hem : Fin 216, (hem.val = 0 ∨ hem.val = 215) → Accepted objHemCommand (actHemCommand hem.val) ⟨.can, 1, 1, [], 0⟩ running) ∧
    ((dev .run).thimble = true ∧ (dev .run).islandOn 95 = false ∧ (191 : Nat) = 96 + 95 ∧ (191 : Nat) ≠ 214) := by
  refine ⟨by decide +kernel, by decide +kernel, by decide +kernel, by decide +kernel, by decide +kernel, ?_, by decide +kernel⟩
  rintro hem (h | h) <;> rw [h] <;> exact ⟨by decide, by decide +kernel⟩


/-- Program word with an opcode, source NOP and the 48 operand bits given. -/
def pw (op operand : Nat) : BitVec 64 := BitVec.ofNat 64 (op * 2 ^ 58 + 3 * 2 ^ 49 + operand)

/-- Group 11 with the same SLICE word at the first and the last address of its program memory, and a shuttle as given. -/
def shut (x : ShuttleSt) : Dev :=
  { running with programs := [(11 * 16384, pw 1 0), (11 * 16384 + 16383, pw 1 0)], shuttles := [(11, x)] }

theorem witness_ShuttleCommands :
    (running.widenSet 11 = 0 ∧ Accepted objShuttleCommand (actShuttleCommand 11) ⟨.can, 4, word (1 * 2 ^ 24 + 16383), [], 0⟩ running) ∧
    (Accepted objShuttleCommand (actShuttleCommand 11) ⟨.can, 4, word (2 * 2 ^ 24 + 0), [], 0⟩ (shut { state := .armed })) ∧
    (Accepted objShuttleCommand (actShuttleCommand 11) ⟨.can, 4, word (2 * 2 ^ 24 + 0), [], 0⟩ (shut { state := .holding, slices := 1 })) ∧
    (Accepted objShuttleCommand (actShuttleCommand 11) ⟨.can, 4, word (3 * 2 ^ 24 + 0), [], 0⟩ (shut { state := .running, slices := 1 }) ∧
      (shut { state := .running, slices := 1 }).widenSet 11 = 0 ∧ ((shut { state := .running, slices := 1 }).shuttle 11).stopReq ≠ .stop) ∧
    (∀ pc, pc = 16383 ∨ pc = 1 →
      (shut { state := .armed, pc := pc }).groupRuns 11 = true ∧ (shut { state := .armed, pc := pc }).cascade.notches = [] ∧
      (shut { state := .armed, pc := pc }).filled 11 0 = true ∧ (shut { state := .armed, pc := pc }).progErr 11 pc = 0) ∧
    (opExists (opOf ((shut {}).progWord 11 16383)) = true ∧ srcOf ((shut {}).progWord 11 16383) ≠ 0) ∧
    opExists (opOf ((shut {}).progWord 11 1)) = false := by
  unfold Accepted
  refine ⟨by decide +kernel, by decide +kernel, by decide +kernel, by decide +kernel, ?_, by decide +kernel, by decide +kernel⟩
  rintro pc (rfl | rfl) <;> decide +kernel

/-- Group 11 at a boundary after one slice of an instruction at an address. -/
def bound (w : BitVec 64) (pc : Nat) (stack : List Nat := []) (reps : Nat := 0) (flags : BitVec 16 := 0) : Dev :=
  shut { state := .running, pc := pc, word := w, slices := 1, stack := stack, reps := reps, flags := flags }

/-- Group 11 at a boundary with a counter set. -/
def boundCtr (w : BitVec 64) (k v : Nat) (flags : BitVec 16 := 0) : Dev :=
  (bound w 16383 [] 0 flags).wrN 0x310B (0x0C + k) v

theorem plain_of (d : Dev) (h : (d.shuttle 11).state = .running ∧ (d.shuttle 11).curSubst = false ∧ d.groupRuns 11 = true ∧
    d.remoteMembers 11 = false ∧ (d.latency 11 ≤ (d.shuttle 11).slices - 1 → d.vecReady 11 ((d.shuttle 11).slices - 1 - d.latency 11) = true) ∧
    notchOf (d.shuttle 11).word = false ∧ sampleOf (d.shuttle 11).word = false ∧ d.cascade.notches = [] ∧
    (d.shuttle 11).stopReq = .none ∧ (d.shuttle 11).floorFault = false) : PlainBoundary d 11 :=
  ⟨h.1, h.2.1, h.2.2.1, h.2.2.2.1, h.2.2.2.2.1, h.2.2.2.2.2.1, h.2.2.2.2.2.2.1, h.2.2.2.2.2.2.2.1, h.2.2.2.2.2.2.2.2.1,
    h.2.2.2.2.2.2.2.2.2⟩

theorem witness_ControlActions :
    (PlainBoundary (bound (pw 1 0) 16383) 11 ∧ opOf (pw 1 0) = 1 ∧ bits (pw 1 0) 47 32 ≤ 0 ∧ (16383 + 1) % 16384 = 0) ∧
    (PlainBoundary (bound (pw 1 (0xFFFF * 2 ^ 32)) 16383 [] 0xFFFE) 11 ∧ opOf (pw 1 (0xFFFF * 2 ^ 32)) = 1 ∧
      0xFFFE < bits (pw 1 (0xFFFF * 2 ^ 32)) 47 32) ∧
    (PlainBoundary (bound (pw 2 16383) 5) 11 ∧ opOf (pw 2 16383) = 2 ∧ targetOf (pw 2 16383) = 16383) ∧
    (PlainBoundary (bound (pw 3 (3 * 2 ^ 32 + 0xFFFFFFFF)) 16383) 11 ∧ opOf (pw 3 (3 * 2 ^ 32 + 0xFFFFFFFF)) = 3) ∧
    (PlainBoundary (boundCtr (pw 4 0xFFFF) 3 0) 11 ∧ opOf (pw 4 0xFFFF) = 4 ∧ ctrOf (pw 4 0xFFFF) = 3 ∧
      (boundCtr (pw 4 0xFFFF) 3 0).rdN 0x310B (0x0C + 3) = 0) ∧
    (PlainBoundary (boundCtr (pw 4 0xFFFF) 3 1) 11 ∧ (boundCtr (pw 4 0xFFFF) 3 1).rdN 0x310B (0x0C + 3) = 1) ∧
    (PlainBoundary (boundCtr (pw 4 0xFFFF) 3 2) 11 ∧ (boundCtr (pw 4 0xFFFF) 3 2).rdN 0x310B (0x0C + 3) = 2 ∧
      targetOf (pw 4 0xFFFF) = 16383) ∧
    (PlainBoundary (bound (pw 5 16383) 7 [1, 2, 3, 4, 5, 6, 7]) 11 ∧ opOf (pw 5 16383) = 5) ∧
    (PlainBoundary (bound (pw 6 0) 7 [16383]) 11 ∧ opOf (pw 6 0) = 6) ∧
    (PlainBoundary (bound (pw 7 (2 ^ 47 + 2 ^ 31 + 16383)) 16383 [] 0 0x8000) 11 ∧ opOf (pw 7 (2 ^ 47 + 2 ^ 31 + 16383)) = 7 ∧
      (0x8000#16).toNat &&& fmaskOf (pw 7 (2 ^ 47 + 2 ^ 31 + 16383)) = fvalueOf (pw 7 (2 ^ 47 + 2 ^ 31 + 16383))) ∧
    (PlainBoundary (bound (pw 8 (2 ^ 47 + 16383)) 16383) 11 ∧ opOf (pw 8 (2 ^ 47 + 16383)) = 8 ∧
      bit (pw 8 (2 ^ 47 + 16383)) 39 = false) ∧
    (PlainBoundary (bound (pw 9 (2 ^ 47 + 2 ^ 31 + 16383)) 16383 [] 0 0x8000) 11 ∧ opOf (pw 9 (2 ^ 47 + 2 ^ 31 + 16383)) = 9) ∧
    (∀ n, n = 0 ∨ n = 1 ∨ n = 2 → PlainBoundary (boundCtr (pw 9 (2 ^ 47 + 2 ^ 31 + 0xFFFF)) 3 n) 11 ∧
      ((0#16).toNat &&& fmaskOf (pw 9 (2 ^ 47 + 2 ^ 31 + 0xFFFF))) ≠ fvalueOf (pw 9 (2 ^ 47 + 2 ^ 31 + 0xFFFF)) ∧
      (boundCtr (pw 9 (2 ^ 47 + 2 ^ 31 + 0xFFFF)) 3 n).rdN 0x310B (0x0C + 3) = n) ∧
    (PlainBoundary (bound (pw 0x0B 0) 16383) 11 ∧ opOf (pw 0x0B 0) = 0x0B) ∧
    (∀ pc, pc = 0 ∨ pc = 16383 → (shut {}).progErr 11 pc = 0 ∧ opExists (opOf ((shut {}).progWord 11 pc)) = true ∧
      srcOf ((shut {}).progWord 11 pc) ≠ 0) := by
  refine ⟨⟨plain_of _ (by decide +kernel), by decide⟩, ⟨plain_of _ (by decide +kernel), by decide⟩,
    ⟨plain_of _ (by decide +kernel), by decide⟩, ⟨plain_of _ (by decide +kernel), by decide⟩,
    ⟨plain_of _ (by decide +kernel), by decide +kernel⟩, ⟨plain_of _ (by decide +kernel), by decide +kernel⟩,
    ⟨plain_of _ (by decide +kernel), by decide +kernel⟩, ⟨plain_of _ (by decide +kernel), by decide⟩,
    ⟨plain_of _ (by decide +kernel), by decide⟩, ⟨plain_of _ (by decide +kernel), by decide⟩,
    ⟨plain_of _ (by decide +kernel), by decide⟩, ⟨plain_of _ (by decide +kernel), by decide⟩, ?_,
    ⟨plain_of _ (by decide +kernel), by decide⟩, ?_⟩
  · rintro n (rfl | rfl | rfl) <;> exact ⟨plain_of _ (by decide +kernel), by decide +kernel⟩
  · rintro pc (rfl | rfl) <;> decide +kernel

/-- Group 11 in HOLDING. -/
def held (s : StopReq) : Dev := shut { state := .holding, word := pw 1 0, slices := 1, stopReq := s }

theorem witness_BoundariesAndHolds :
    PlainBoundary (bound (pw 0x3F 0) 16383) 11 ∧ PlainBoundary (bound (pw 5 0) 0 [1, 2, 3, 4, 5, 6, 7, 8]) 11 ∧
    PlainBoundary (bound (pw 6 0) 0) 11 ∧
    (opOf (pw 0x3F 0) = 0x3F ∧ opOf (pw 5 0) = 5 ∧ opOf (pw 6 0) = 6) ∧
    (PlainBoundary (bound (pw 0x0A (2 ^ 47)) 16383) 11 ∧ opOf (pw 0x0A (2 ^ 47)) = 0x0A ∧
      seenRep ((bound (pw 0x0A (2 ^ 47)) 16383).shuttle 11) 0 ((bound (pw 0x0A (2 ^ 47)) 16383).latency 11) = false) ∧
    (PlainBoundary ((bound (pw 0x0A (2 ^ 47)) 16383).wrN 0x310B 9 0) 11 ∧
      seenRep (((bound (pw 0x0A (2 ^ 47)) 16383).wrN 0x310B 9 0).shuttle 11) 0
        (((bound (pw 0x0A (2 ^ 47)) 16383).wrN 0x310B 9 0).latency 11) = true ∧
      ((bound (pw 0x0A (2 ^ 47)) 16383).wrN 0x310B 9 0).seenVec 11 &&& chmaskOf (pw 0x0A (2 ^ 47)) = 0) ∧
    (((held .stop).shuttle 11).stopAt ≤ (held .stop).core.time ∧ (held .stop).groupRuns 11 = true) ∧
    ((held .none).groupRuns 11 = true ∧ ((held .none).shuttle 11).state = .holding ∧ (held .none).starved 11 = 0) := by
  refine ⟨plain_of _ (by decide +kernel), plain_of _ (by decide +kernel), plain_of _ (by decide +kernel), by decide,
    ⟨plain_of _ (by decide +kernel), by decide +kernel⟩, ⟨plain_of _ (by decide +kernel), by decide +kernel⟩,
    by decide +kernel, by decide +kernel⟩

/-- A flag token at the head of group 11's flag half. -/
def flagged : Dev := running.setHalf 214 { q := [{ data := 0x80008000, tag := 0 }], seenW := 1, wptr := 1 }

theorem witness_FlagsAndClocks :
    ((flagged.half 214).head = some { data := 0x80008000, tag := 0 } ∧ flagged.groupRuns 11 = true ∧ flagged.widenSet 11 = 0) ∧
    (running.wrN 0x244B 2 1).widenSet 11 ≠ 0 ∧
    (running.tr.plls.getLsbD 11 = true ∧ (held .none).tr.plls.getLsbD 11 = true) ∧
    (running.core.state = .run ∧ running.vaux = true ∧ running.core.steps = none) ∧
    (({ (dev .folded).core with steps := some [0] } : CoreSt).steps = some [0]) := by decide +kernel

/-- One word and its address as PROGRAM has them. -/
def oneWord (a : Nat) : List Byte := leBytes 4 a ++ leBytes 8 (pw 1 0).toNat

theorem witness_ProgramMemories :
    Accepted objProgram (actProgram 11 (wb (oneWord 16383))) (wb (oneWord 16383)) running ∧
    (Accepted objProgramPatch (actProgramPatch 11 (wb (oneWord 16383))) (wb (oneWord 16383)) running ∧ running.immediate = false) ∧
    (Accepted objFailLatency (actFailLatency 11) (wr 1 255) running ∧ running.immediate = false) ∧
    (running.groupRuns 11 = true ∧ (running.shuttle 11).scrubPtr = 0 ∧ weight79 (running.progErr 11 0 ^^^ 1) = 1 ∧
      weight79 (running.progErr 11 0 ^^^ 3) = 2 ∧ weight79 (running.progErr 11 0 ^^^ 7) = 3 ∧
      (running.shuttle 11).badWords.contains 0 = false) := by
  unfold Accepted; decide +kernel

/-- Channel 95 at period k of a slice, with its symbols and its strobe. -/
def sewing (k : Nat) (symbols : BitVec 64) (strobe strobeEnd : Option Nat) (record : Bool := true) : Dev :=
  { running with needles := [(95, { period := k, stream := [.slice 0 0 {
      eData := some 0, eOff := some 0, eRet := some 8, strobe := strobe, strobeEnd := strobeEnd } symbols false record] })] }

theorem witness_SymbolsDrive :
    (∀ k, k = 0 ∨ k = 14 → ((sewing k (BitVec.ofNat 64 (2 ^ 63)) none none).needle 95).period < 15 ∧
      ((sewing k (BitVec.ofNat 64 (2 ^ 63)) none none).needle 95).holding = false) ∧
    running.groupRuns (95 / 8) = true ∧
    (∀ code : Fin 16, ∀ k, k = 0 ∨ k = 14 → (BitVec.ofNat 64 (code.val * 16 ^ k)).toNat / 16 ^ k % 16 = code.val) := by
  refine ⟨?_, by decide +kernel, ?_⟩
  · rintro k (rfl | rfl) <;> decide +kernel
  · rintro code k (rfl | rfl) <;> revert code <;> decide +kernel

theorem witness_StrobesRecord :
    (∀ k, k = 0 ∨ k = 14 → ∀ strobe, strobe = none ∨ strobe = some 4 →
      ((sewing k 0 strobe none).needle 95).period < 15 ∧ ((sewing k 0 strobe none).needle 95).holding = false ∧
      (sewing k 0 strobe none).groupRuns 11 = true) ∧
    (∀ code : Fin 16, ∀ k, k = 0 ∨ k = 14 → (BitVec.ofNat 64 (code.val * 16 ^ k)).toNat / 16 ^ k % 16 = code.val) ∧
    (running.rxSeen [1] = [1] ∧ (({ running with core := { running.core with outputs := false } } : Dev).rxSeen [1]) = []) ∧
    (((sewing 15 (BitVec.allOnes 64) none none false).needle 95).period = 15 ∧
      ((sewing 15 (BitVec.allOnes 64) none none false).needle 95).stream.length = 1 ∧
      (BitVec.allOnes 64).toNat / 16 ^ 15 % 16 = 0xF) := by
  refine ⟨?_, ?_, by decide +kernel, by decide +kernel⟩
  · rintro k (rfl | rfl) strobe (rfl | rfl) <;> decide +kernel
  · rintro code k (rfl | rfl) <;> revert code <;> decide +kernel

/-- A calibration of the given kind and groups under way. -/
def calibrating (kind groups : Nat) : Dev := { running with cal := { busy := some { kind := kind, groups := groups } } }

/-- Byte p of a timing table whose 32 sets have PERIOD 4000 and no edge. -/
def tableByte (p : Nat) : Byte := if p % 272 = 0 then 0xA0 else if p % 272 = 1 then 0x0F else 0

/-- That table. -/
def plainTable : List Byte := (List.range' 0 8704).map tableByte

theorem plainTable_byte (p : Nat) (h : p < 8704) : plainTable[p]? = some (tableByte p) := by
  simp [plainTable, h]

theorem plainTable_leAt (off n : Nat) (h : off + n ≤ 8704) : leAt plainTable off n = ofLe ((List.range' off n).map tableByte) := by
  unfold leAt
  congr 1
  apply List.ext_getElem?
  intro i
  by_cases hi : i < n
  · rw [List.getElem?_take_of_lt hi, List.getElem?_drop, plainTable_byte _ (by omega), List.getElem?_map, List.getElem?_range' hi]
    simp
  · rw [List.getElem?_eq_none (by simp; omega), List.getElem?_eq_none (by simp; omega)]

theorem plainTable_zero (off n : Nat) (h : off + n ≤ 8704) (h3 : 3 ≤ off % 272) (h272 : off % 272 + n ≤ 272) :
    leAt plainTable off n = 0 := by
  rw [plainTable_leAt off n h]
  induction n generalizing off with
  | zero => rfl
  | succ n ih =>
    have hb : tableByte off = 0 := by unfold tableByte; split <;> [omega; (split <;> [omega; rfl])]
    simp only [List.range'_succ, List.map_cons, ofLe, hb]
    by_cases hn : n = 0
    · subst hn; rfl
    · rw [ih (off + 1) (by omega) (by omega) (by omega)]; rfl

theorem plainTable_period (k : Nat) (h : k < 32) : periodOf plainTable k = 4000 := by
  have e : plainTable.isEmpty = false := by decide +kernel
  unfold periodOf
  rw [e, plainTable_leAt _ _ (by omega)]
  have h0 : tableByte (272 * k) = 0xA0 := by unfold tableByte; rw [if_pos (by omega)]
  have h1 : tableByte (272 * k + 1) = 0x0F := by unfold tableByte; rw [if_neg (by omega), if_pos (by omega)]
  have h2 : tableByte (272 * k + 1 + 1) = 0 := by unfold tableByte; rw [if_neg (by omega), if_neg (by omega)]
  simp [List.range'_succ, ofLe, h0, h1, h2]

theorem plainTable_record (k i : Nat) (hk : k < 32) (hi : i < 8) : recordOf plainTable k i = {} := by
  have e : plainTable.isEmpty = false := by decide +kernel
  unfold recordOf
  simp only [e, Bool.false_eq_true, ↓reduceIte, plainTable_period k hk]
  repeat rw [plainTable_zero _ _ (by omega) (by omega) (by omega)]
  rfl

theorem plainTable_taken (g : Nat) : tableFault g plainTable = none := by
  have hl : plainTable.length = 8704 := by simp [plainTable]
  have hr : reservedAt g plainTable = none := by
    unfold reservedAt
    rw [Option.map_eq_none_iff, List.find?_eq_none]
    intro p hp
    rw [plainTable_byte p (List.mem_range.mp hp)]
    by_cases h : p % 272 < 16
    · simp only [Option.getD_some, h, ↓reduceIte, tableByte]
      split
      · simp; omega
      · split
        · simp; omega
        · simp
    · simp only [Option.getD_some, h, ↓reduceIte, tableByte]
      rw [if_neg (by omega), if_neg (by omega)]
      simp [recordReserved]
  unfold tableFault
  rw [hr, if_neg (by simp [hl])]
  rw [List.findSome?_eq_none_iff]
  intro k hk
  have hk := List.mem_range.mp hk
  unfold setFault
  rw [plainTable_period k hk, if_neg (by decide), Option.map_eq_none_iff, List.find?_eq_none]
  intro i hi
  rw [plainTable_record k i hk (List.mem_range.mp hi)]
  decide

theorem timingTable_checked (g : Nat) (l : List Byte) (d : Dev) (h : tableFault g l = none) (hl : l.length = 8704)
    (hd : ∀ m : List Byte, m.length = 8704 → objTimingTable.early ((actTimingTable g (wb m)).gate d (wb m)) (d.roleOf .can) (wb m) = 0)
    (hs : d.core.state = .run) : writeCheck objTimingTable (actTimingTable g (wb l)) (wb l) d = 0 := by
  have hc : (actTimingTable g (wb l)).check d (wb l) = 0 := by simp only [actTimingTable, wb, h]
  have hr : objTimingTable.rangeOk (wb l) = true := rfl
  have ha : (actTimingTable g (wb l)).allow d (wb l) = 0 := rfl
  have hp : (wb l).path = .can := rfl
  unfold writeCheck
  simp only [hc, hr, ha, hp, hd l hl, hs]
  decide

theorem witness_CalibrationAndTables :
    Accepted objCalRequest actCalRequest ⟨.can, 4, word (1 * 2 ^ 24 + 0xFFF), [], 0⟩ running ∧
    Accepted objCalRequest actCalRequest ⟨.can, 4, word (2 * 2 ^ 24 + 0xFFF), [], 0⟩ running ∧
    (((running.setNeedle 95 { toOff := true }).laneActive 95 = true ∧ (running.setNeedle 95 { toOff := true }).offLevel1 95 = true) ∧ (0x7FF#12).getLsbD (95 / 8) = false) ∧
    (calibrating 1 0xFFF).cal.busy = some { kind := 1, groups := (0xFFF#12).toNat, since := 0 } ∧
    ((calibrating 2 (2 ^ 11)).cal.busy = some { kind := 2, groups := 2 ^ 11, since := 0 } ∧ (calibrating 2 (2 ^ 11)).rawMode 95 = false ∧
      (List.replicate 96 (none : Option (BitVec 32)))[95]? = some none) ∧
    (Accepted objTimingTable (actTimingTable 11 (wb plainTable)) (wb plainTable) running ∧
      Accepted objRawConfig (actRawConfig 95) (wr 4 64) (running.wrN 0x325F 2 1) ∧ running.immediate = false) := by
  have h : writeCheck objTimingTable (actTimingTable 11 (wb plainTable)) (wb plainTable) running = 0 := by
    refine timingTable_checked 11 plainTable running (plainTable_taken 11) (by simp [plainTable]) ?_ (by decide)
    intro m hm
    have hlen : objTimingTable.lengthOk (wb m) = true := by simp [Desc.lengthOk, objTimingTable, wb, hm]
    have h2 : objTimingTable.typeCarried (wb m) = true := rfl
    have h3 : objTimingTable.codesOk (wb m) = true := rfl
    have h4 : (actTimingTable 11 (wb m)).gate running (wb m) = 0 := rfl
    have h5 : running.roleOf .can = 2 := by decide +kernel
    simp only [Desc.early, hlen, h2, h3, h4, h5]
    decide
  refine ⟨⟨by decide +kernel, by decide +kernel⟩, ⟨by decide +kernel, by decide +kernel⟩, by decide +kernel, by decide +kernel,
    by decide +kernel, ⟨by decide +kernel, h⟩,
    ⟨by decide +kernel, by decide +kernel⟩, by decide +kernel⟩

/-- Channel 95 in RAW mode with its drive hem enabled; cfg is its RAW_CONFIG, status its RAW_STATUS. -/
def rawDev (cfg status : Nat) : Dev :=
  (((({ running with core := { running.core with outputs := true } }.wrN 0x325F 2 1).wrN 0x325F 5 cfg).wrN 0x325F 6 status).wr
    0x305F 0x0A (word 0x8000)).wr 0x30BF 0x0A (word 0x8000)

/-- The same with an entry that its reader sees. -/
def rawFull (cfg : Nat) : Dev :=
  (rawDev cfg 0).setHalf 95 { q := [{ data := 5, tag := 0 }], wptr := 1, seenW := 1 }

/-- A comma of each disparity by turns, twice: K28.5, first bit sent first. -/
def commas : List Bool :=
  [false, false, true, true, true, true, true, false, true, false, true, true, false, false, false, false, false, true, false, true,
   false, false, true, true, true, true, true, false, true, false, true, true, false, false, false, false, false, true, false, true]

/-- That receiver LOCKED, one error short of losing its lock. -/
def rawFaulty (cfg : Nat) : Dev :=
  (rawDev cfg 0x80000000).setNeedle 95 { raw := { recent := List.replicate 3 true ++ List.replicate 12 false ++ List.replicate 12 true } }

theorem witness_RawLanes :
    ((rawFull 0).rawRuns 95 = true ∧ (rawFull 0).rawHead 95 = some { data := 5, tag := 0 } ∧ coding ((rawFull 0).rawCfg 95) = 0) ∧
    ((rawFull 0).laneActive 95 = true) ∧
    ((rawDev 0 0).rawRuns 95 = true ∧ (rawDev 0 0).rawHead 95 = none) ∧
    ((rawDev 0 0).rawHears 95 = true ∧ (rawDev 0 0).locksOn 95 ((rawDev 0 0).rawLine 95 []) = true) ∧
    (coding ((rawDev 0x44000000 0).rawCfg 95) = 1 ∧
      (rawDev 0x44000000 0).locksOn 95 (((rawDev 0x44000000 0).rawLine 95 (true :: commas)).drop 1) = true) ∧
    (((rawFaulty 0x44000000).rawChars 95 1 0 (List.replicate 256 false)).2.2.1 = true ∧
      ((rawFaulty 0x44000000).rawChars 95 23 0 (List.replicate 256 false)).2.2.1 = true ∧
      ((rawDev 0x44000000 0x80000000).rawChars 95 3 0 commas).2.2.1 = false) ∧
    (coding ((rawFaulty 0x80000000).rawCfg 95) = 2 ∧ (1 : Fin 24).val = 1 ∧
      lockFails (((rawFaulty 0x80000000).rawBlock 95 0 (List.replicate 66 false)).2.needle 95).raw.recent true = true) ∧
    ((rawDev 0 0x80000000).rawHears 95 = true ∧ bit ((rawDev 0 0x80000000).rd 0x325F 6) 31 = true ∧
      coding ((rawDev 0 0x80000000).rawCfg 95) = 0 ∧ (rawDev 0 0x80000000).hemEnabled 191 = true ∧
      ((rawDev 0 0x80000000).half 191).gap = none ∧ 4 < ((rawDev 0 0x80000000).half 191).freeEntries) := by decide +kernel

/-- Bank 3 with an entry for its outputs that is due, or due later. -/
def gpioEntry (due : Nat) : Dev :=
  running.setHalf 230 { q := [{ data := BitVec.ofNat 256 (due * 2 ^ 192 + 0x80008000), tag := 0 }], wptr := 1, seenW := 1 }

/-- Pin 15 of bank 3 about to leave its function, or held after it since the tick of SEQ 0. -/
def pinMoves (held : Bool) : Dev :=
  running.setBank 3 { changing := [(15, 0, 4)], holding := if held then [(15, true, false, 0)] else [] }

theorem witness_GpioBanks :
    (running.thimble = true ∧ running.core.state ≠ .folded ∧ (running.bank 3).switching = false ∧ (running.bank 3).objWait = none ∧
      ((running.setBank 3 { objWait := some (0x8000, 0x8000) }).bank 3).objWait = some (0x8000, 0x8000) ∧
      (running.wrN (pinIdx 3 15) 2 4).pinActs 3 15 = 4) ∧
    (∀ due, due = 0 ∨ due = 2 ^ 64 - 1 → (gpioEntry due).islandOn 115 = true ∧
      ((gpioEntry due).bank 3).applied = false ∧
      ((gpioEntry due).half 230).head = some { data := BitVec.ofNat 256 (due * 2 ^ 192 + 0x80008000), tag := 0 } ∧
      (BitVec.ofNat 256 (due * 2 ^ 192 + 0x80008000)).toNat / 2 ^ 192 = due) ∧
    bit ((running.wrN (bankIdx 3) 2 0x80000000).rd (bankIdx 3) 2) 31 = true ∧
    (((running.setBank 3 { switching := true }).bank 3).switching = true ∧ (running.setBank 3 { switching := true }).thimble = true) ∧
    (Accepted objPinFunction (actPinFunction 3 15) (wr 1 4) running ∧ running.immediate = false) ∧
    Accepted objBankClock (actBankClock 3) (wr 4 100) running ∧
    Accepted objBankOut (actBankOut 3) (wr 4 0x80008000) (running.wrN (pinIdx 3 15) 2 4) ∧
    (((pinMoves false).bank 3).holding.find? (fun x => x.1 == 15) = none ∧ (pinMoves false).pinDue 3 15 = true) ∧
    (((pinMoves true).bank 3).holding.find? (fun x => x.1 == 15) = some (15, true, false, 0) ∧
      (pinMoves true).rdN (bankIdx 3) 6 = 0 ∧ ((pinMoves true).wrN (bankIdx 3) 6 1).rdN (bankIdx 3) 6 ≠ 0 ∧
      (((pinMoves true).bank 3).changing.eraseP (fun e => e.1 == 15)).find? (fun e => e.1 == 15) = none) ∧
    (∀ held : Bool, (pinMoves held).islandOn 115 = true) := by
  unfold Accepted
  refine ⟨by decide +kernel, ?_, by decide +kernel, by decide +kernel, by decide +kernel, by decide +kernel, by decide +kernel,
    by decide +kernel, by decide +kernel, by decide +kernel⟩
  rintro due (rfl | rfl) <;> decide +kernel

/-- Ball 7 with its last digit, and whether it was charged at 0. -/
def pumped (charged driven : Bool) (bad : Nat := 0) : Dev :=
  { running with safeBalls := [(7, { lastDigit := some 2, charged := charged, driven := driven, badActive := bad })] }

/-- The French seam of safety function 3 bound, the patch of its second half isolated. -/
def isolatedSafety : Dev :=
  ((running.wrN 0x3A13 2 63).wrN 0x39BF 3 (50 * 2 ^ 40)).wrN 0x3900 8 (2 ^ 2)

theorem witness_SafeBallsNeedPermits :
    (running.fabricLive = true ∧ running.vaux = true ∧ running.env.rails.getLsbD 0 = true ∧
      ((pumped true false).ball 7).lastDigit = some 2 ∧ (2 : BitVec 2) ≠ 1 ∧ (pumped true false).pumpStopped 7 = false ∧
      (pumped true false).safety.permits.getLsbD 3 = false ∧
      ({ pumped true false with safety := { permits := 8 } } : Dev).safety.permits.getLsbD 3 = true ∧
      ((pumped true false).core.time ≤ ((pumped true false).ball 7).lastCharge + 2500) ∧
      ((pumped false false).ball 7).charged = false) ∧
    (isolatedSafety.fabricLive = true ∧ isolatedSafety.vaux = true ∧ isolatedSafety.pumpStopped 7 = true) ∧
    (((pumped true true).ball 7).lastCharge + 2500 ≤ ({ (pumped true true).core with time := 2500 } : CoreSt).time) ∧
    ((pumped true true).ball 7).charged = true ∧
    (∀ k, k < 8 → (if k % 2 = 0 then (0xAA : BitVec 8).getLsbD k else !(0xAA : BitVec 8).getLsbD k) = (running.ball k).driven) ∧
    (running.core.state = .run ∧ (if (7 : Nat) % 2 = 0 then (0x2A : BitVec 8).getLsbD 7 else !(0x2A : BitVec 8).getLsbD 7) = true ∧
      ((pumped false false 1).ball 7).driven = false ∧ 1 ≤ ((pumped false false 1).ball 7).badActive) := by decide +kernel

theorem witness_TestAccessPort :
    (running.tapOn = true ∧ (dev .unconfigured).tapOn = true ∧ (dev .unconfigured).core.state = .unconfigured ∧
      running.core.state ≠ .unconfigured ∧ running.thimble = true) ∧
    ((dev .boot).tapOn = true ∧ (dev .boot).tr.tap.busy = false ∧ (dev .boot).core.state = .boot) ∧
    (running.tr.tap.busy = false ∧ userIndex 0x1FFE = false ∧ findDesc 0x1FFE 0xFF = none) ∧
    (∃ o, findDesc 0x2020 2 = some o ∧ o.isBytes = false ∧ o.acc ≠ .wo ∧ o.signed = true ∧ resultStatus 0x2020 2 = none) := by
  refine ⟨by decide +kernel, by decide +kernel, by decide +kernel, ⟨_, rfl, by decide, by decide, by decide, by decide +kernel⟩⟩

/-- A link that is up and sound, with so many failed cells on record. -/
def linkOn (failed : Nat := 0) : LinkSt :=
  { up := true, view := { lanes := 0xFF, answers := true, farUp := true }, failed := List.replicate failed true }

/-- Member 15 of a ring of all sixteen, in the ROLE given, under a master, LOCKED or not, both links up. -/
def ring (role master : Nat) (locked : Bool) : Dev :=
  (({ running with
      core := { running.core with cascadeId := 15 }
      env := { running.env with tref := 1, cascadePll := true }
      cascade := { east := linkOn, west := linkOn, locked := 0xFFFF } }.wrN 0x2400 1
        (role * 4096 + locked.toNat)).wrN 0x2400 9 master).wrN 0x2400 3 0xFFFF

/-- The same with links as given. -/
def linked (east west : LinkSt) : Dev := { ring 2 0 true with cascade := { east := east, west := west } }

theorem witness_RingLinks :
    (∀ fromEast : Bool, (ring 2 0 true).thimble = true ∧ ((ring 2 0 true).link fromEast).up = true ∧
      ((ring 2 0 true).link !fromEast).up = true ∧ ((ring 2 0 true).link !fromEast).wrapped = false ∧
      (0 : Nat) ≠ (ring 2 0 true).core.cascadeId) ∧
    (((linked linkOn {}).link true).up = true ∧ ((linked linkOn {}).link !true).up = false) ∧
    (((linked linkOn { up := true, wrapped := true }).link !true).wrapped = true ∧
      ((linked linkOn { up := true, wrapped := true }).link true).wrapped = false) ∧
    (((linked (linkOn 14) linkOn).link true).up = true ∧
      ({ linkOn 14 with failed := (true :: (linkOn 14).failed).take 1024 } : LinkSt).sound = true) ∧
    16 ≤ (((true :: (linkOn 15).failed).take 1024).filter (fun b => b)).length ∧
    (({ linkOn with view := {} } : LinkSt).sound = false ∧ ({ linkOn with view := linkOn.view } : LinkSt).sound = true ∧
      (linked linkOn {}).loading = none) ∧
    (((linked {} linkOn).link true).up = false ∧ ({ view := linkOn.view } : LinkSt).sound = true ∧ (linked {} linkOn).role ≠ 3 ∧
      bit ((linked {} linkOn).rd 0x2400 1) 2 = false ∧ (linked {} linkOn).allHalted = true ∧ (held .none).allHalted = false) ∧
    (((linked { up := true, wrapped := true } linkOn).link true).up = true ∧
      ((linked { up := true, wrapped := true } linkOn).link true).wrapped = true) ∧
    ((linked { linkOn with confirm := 1 } linkOn).thimble = true ∧ ((linked { linkOn with confirm := 1 } linkOn).link true).confirm ≤ 1 ∧
      ((linked { linkOn with confirm := 1 } linkOn).link !true).confirm = 0 ∧ (linked linkOn linkOn).role ≠ 0 ∧
      (linked linkOn linkOn).role ≠ 3 ∧ (linked linkOn linkOn).rdN 0x2400 9 ≠ 0xFF ∧ (ring 3 15 true).role = 3 ∧
      (-2500 : Int) ≤ 2500 ∧ (2500 : Int) < 2501) := by
  decide +kernel

theorem witness_RingElection :
    ((ring 3 15 true).thimble = true ∧ (ring 3 15 true).role = 3 ∧ (ring 3 15 true).cellPort true = some true) ∧
    ((∀ fromEast : Bool, ((ring 2 15 true).link fromEast).up = true) ∧ (ring 2 15 true).cascade.foreign = false ∧
      (ring 2 15 true).role ≠ 0 ∧ (ring 1 0xFF false).rdN 0x2400 9 = 0xFF ∧ (ring 2 7 true).rdN 0x2400 9 ≠ 0xFF ∧
      (∀ master, master = 6 ∨ master = 7 ∨ master = 8 → master ≠ (ring 2 7 true).core.cascadeId) ∧
      (6 : Nat) < (ring 2 7 true).rdN 0x2400 9 ∧ (7 : Nat) = (ring 2 7 true).rdN 0x2400 9 ∧ (ring 2 7 true).rdN 0x2400 9 < 8 ∧
      bit ((ring 2 7 true).rd 0x2400 1) 2 = false ∧ (ring 2 7 true).allHalted = true) ∧
    (∀ role, role = 1 ∨ role = 2 → (ring role 0 false).role = role ∧ (ring role 0 false).rdN 0x2400 9 ≠ 0xFF) ∧
    ((ring 2 0xFF false).rdN 0x2400 9 = 0xFF ∧ (15 : Nat) = (ring 2 0xFF false).core.cascadeId ∧
      (((ring 2 0xFF false).wrN 0x2400 4 0xFFFF).candidate 0x7FFF) = true ∧
      ((ring 2 0xFF false).wrN 0x2400 4 0xFFFF).candidate 0x3FFF = false) ∧
    ({ ring 2 0xFF false with core := { (ring 2 0xFF false).core with cascadeId := 14 } } : Dev).healthy = true ∧
    ((0 : Nat) ≠ (ring 2 0xFF false).core.cascadeId ∧ ¬((ring 2 0xFF false).core.cascadeId < 0)) ∧
    (({ ring 3 15 true with cascade := { foreign := true } } : Dev).healthy = false ∧
      ({ ring 3 15 true with cascade := { foreign := true } } : Dev).role = 3 ∧ (ring 3 15 true).healthy = true) ∧
    ((0 : Nat) ≠ (ring 2 0 true).core.cascadeId ∧ (ring 2 0 true).rdN 0x2400 9 = 0) ∧
    (Accepted objCascadeRequest actCascadeRequest (ringWr .can 1) (ring 2 0 true) ∧ (ring 2 0 true).established = true) ∧
    (Accepted objCascadeRequest actCascadeRequest (ringWr .can 1) running ∧ running.role = 0) ∧
    (Accepted objCascadeRequest actCascadeRequest (ringWr .can 1) (ring 1 0xFF false) ∧ (ring 1 0xFF false).role ≠ 0 ∧
      (ring 1 0xFF false).established = false) := by
  unfold Accepted
  refine ⟨by decide +kernel, ⟨by decide +kernel, by decide +kernel, by decide +kernel, by decide +kernel, by decide +kernel, ?_,
    by decide +kernel⟩, ?_, by decide +kernel, by decide +kernel, by decide +kernel, by decide +kernel, by decide +kernel,
    by decide +kernel, by decide +kernel, by decide +kernel⟩
  · rintro m (rfl | rfl | rfl) <;> decide +kernel
  · rintro role (rfl | rfl) <;> decide +kernel

/-- A cascade notch due at time 0. -/
def casEvent : CasEvent := { time := 0, number := 1, late := false }

/-- A ring whose member 0 waits for an image and whose slot 9 holds one. -/
def recovering : Dev :=
  { ring 3 15 true with
    nv := { slots := [(9, { state := 2, data := List.replicate 64 0 })] }
    cascade := { (ring 3 15 true).cascade with unconfigured := 0x8001 } }

theorem witness_RingBroadcasts :
    ((ring 1 0 false).thimble = true ∧ (ring 1 0 false).role = 1 ∧ (ring 2 0 false).role = 2) ∧
    (({ ring 2 0 true with cascade := { notches := [casEvent] } } : Dev).cascade.notches = [casEvent] ∧ casEvent.applied = false ∧
      casEvent.time ≤ (ring 2 0 true).core.time ∧ casEvent.groupsDone = 0 ∧ (ring 2 0 true).staged = [] ∧
      (ring 2 0 true).cal.staged = []) ∧
    (Accepted objCascadeRequest actCascadeRequest (ringWr .can 2) (ring 3 15 true) ∧ (ring 3 15 true).role = 3) ∧
    (Accepted objCascadeRequest actCascadeRequest (ringWr .can 2) (ring 2 0 true) ∧ (ring 2 0 true).role ≠ 3) ∧
    Accepted objCascadeRequest actCascadeRequest (ringWr .can 3) (ring 2 0 true) ∧
    ((ring 2 0 true).swatch.det = none ∧ (ring 2 0 true).swatch.busy = none ∧ bit ((ring 2 0 true).rd 0x3600 4) 7 = false) ∧
    (ring 3 15 true).established = true ∧
    Accepted objRecoverRequest actRecoverRequest (wr 2 0xF009) recovering ∧
    ({ recovering with cascade := { recover := [(15, 9)] } } : Dev).cascade.recover = (15, 9) :: [] ∧
    ({ recovering with cascade := { recover := [(15, 9), (0, 0)], broken := true } } : Dev).cascade.recover = (15, 9) :: [(0, 0)] ∧
    (ring 3 15 true).cascade.recover = [] := by
  unfold Accepted; decide +kernel

/-- Member 15 with westward thread 15 mapped: from source to destination, both given, with 255 credits at most. -/
def threads (source dest credits : Nat) (sealing : Bool := false) (bad : Nat := 0) : Dev :=
  (({ ring 2 0 true with cascade := { threads := [(31, { credits := credits, sealing := sealing })] } }.wrN 0x242F 2
      (2 ^ 31 + source * 4096 + dest * 256 + 255)).setHalf 222 { q := [{ data := 9, tag := 0x0F, bad := bad }], wptr := 1, seenW := 1 })

/-- Group 11 in widened set 15 with a group of member 0, its shuttle in a state. -/
def widenDev (st : ShState) : Dev :=
  ({ ring 2 0 true with shuttles := [(11, { state := st, word := pw 1 0, slices := 1 })] }.wrN 0x244B 2 15).wrN 0x244B 1 1

theorem witness_ThreadsAndWidening :
    (∀ n, n = 0 ∨ n = 1 ∨ n = 255 → (threads 15 0 n).thimble = true ∧ (threads 15 0 n).islandOn 111 = true ∧
      ((threads 15 0 n).half (sendHalf true)).head = some { data := 9, tag := 0x0F } ∧ (31 : Nat) = (0x0F#8).toNat % 16 + 16 ∧
      (threads 15 0 n).threadSource 31 = true ∧ ((threads 15 0 n).thread 31).unreachable = false ∧
      ((threads 15 0 n).thread 31).credits = n ∧ bits ((threads 15 0 n).threadMap 31) 7 0 = 255) ∧
    ((threads 15 0 1 true).thread 31).sealing = true ∧
    ((threads 15 0 1 false 1).half (sendHalf true)).head = some { data := 9, tag := 0x0F, bad := 1 } ∧
    ((threads 0 15 0).threadDest 31 = true ∧ (threads 0 15 0).core.state ≠ .unconfigured ∧
      ({ threads 0 15 0 with core := { (threads 0 15 0).core with state := .unconfigured } } : Dev).core.state = .unconfigured) ∧
    (∀ st, st = .halted ∨ st = .running → (widenDev st).remoteMembers 11 = true ∧ (widenDev st).groupRuns 11 = true ∧
      (widenDev st).calibrating 11 = false ∧ ((widenDev st).shuttle 11).state = st ∧ ((widenDev st).shuttle 11).stopReq ≠ .stop) := by
  refine ⟨?_, by decide +kernel, by decide +kernel, by decide +kernel, ?_⟩
  · rintro n (rfl | rfl | rfl) <;> decide +kernel
  · rintro st (rfl | rfl) <;> decide +kernel

theorem witness_Mailbox :
    (running.dictionary = true ∧ running.tr.mbBusy = false) ∧
    ({ running with tr := { running.tr with mbBusy := true } } : Dev).tr.mbBusy = true ∧
    (userIndex 0xFFFF = false ∧ findDesc 0xFFFF 0xFF = none) ∧
    (∃ o, userIndex 0x2020 = false ∧ findDesc 0x2020 25 = some o ∧ resultStatus 0x2020 25 = none ∧ (0x2020 / 256 ≠ 0x1F) ∧
      o.isBytes = false) ∧
    (0 < (131072 : BitVec 24).toNat ∧ (131072 : BitVec 24).toNat ≤ 131072) := by
  refine ⟨by decide +kernel, by decide, by decide +kernel, ⟨_, by decide, rfl, by decide +kernel, by decide, by decide⟩, by decide⟩

/-- A request or an answer of the fabric at the head of the port's hem: TYPE, index, subindex, LENGTH, ID. -/
def portEntry (type idx sub len id : Nat) : HEntry :=
  { data := BitVec.ofNat 256 (idx * 2 ^ 144 + sub * 2 ^ 136 + len * 2 ^ 128 + id * 2 ^ 96 + type), tag := 0 }

/-- That entry in the hem, user objects enabled, and one access of ID 65535 waiting over a path. -/
def portDev (e : HEntry) (path : Transport) : Dev :=
  ({ running with tr := { running.tr with userWaits := [⟨65535, path, 0x5FFF, 255, false, 8⟩] } }.wrN 0x2060 1 1).setHalf 236
    { q := [e], wptr := 1, seenW := 1 }

theorem witness_FabricPortAndUserObjects :
    (∃ o, ((portDev (portEntry 1 0x2020 25 0 7) .can).half 236).head = some (portEntry 1 0x2020 25 0 7) ∧
      portForm (portEntry 1 0x2020 25 0 7) = true ∧ portField (portEntry 1 0x2020 25 0 7) 0 8 = 1 ∧
      userIndex (portField (portEntry 1 0x2020 25 0 7) 144 16) = false ∧
      findDesc (portField (portEntry 1 0x2020 25 0 7) 144 16) (portField (portEntry 1 0x2020 25 0 7) 136 8) = some o ∧
      o.isBytes = false ∧ resultStatus (portField (portEntry 1 0x2020 25 0 7) 144 16) (portField (portEntry 1 0x2020 25 0 7) 136 8) = none ∧
      ((portDev (portEntry 1 0x2020 25 0 7) .can).half 237).gap = none ∧
      4 < ((portDev (portEntry 1 0x2020 25 0 7) .can).half 237).freeEntries) ∧
    (portForm (portEntry 2 0x1015 0 2 7) = true ∧ portField (portEntry 2 0x1015 0 2 7) 0 8 = 2 ∧
      userIndex (portField (portEntry 2 0x1015 0 2 7) 144 16) = false) ∧
    ((portDev (portEntry 1 0 0 0 0) .can).userOn = true ∧ running.userOn = false ∧ running.dictionary = true) ∧
    (portForm (portEntry 0x91 0x5FFF 255 8 65535) = true ∧ portField (portEntry 0x91 0x5FFF 255 8 65535) 0 8 = 0x91 ∧
      (portDev (portEntry 0x91 0x5FFF 255 8 65535) .can).tr.userWaits.find?
        (fun y => y.id == portField (portEntry 0x91 0x5FFF 255 8 65535) 96 16) = some ⟨65535, .can, 0x5FFF, 255, false, 8⟩ ∧
      portField (portEntry 0x91 0x5FFF 255 8 65535) 112 16 = 0) ∧
    ((portDev (portEntry 1 0 0 0 0) .jtag).tr.userWaits.find? (fun y => y.id == (0xFFFF : BitVec 16).toNat) =
      some ⟨65535, .jtag, 0x5FFF, 255, false, 8⟩) := by
  refine ⟨⟨_, by decide +kernel, by decide +kernel, by decide +kernel, by decide +kernel, rfl, by decide, by decide +kernel,
    by decide +kernel, by decide +kernel⟩, by decide +kernel, by decide +kernel, by decide +kernel, by decide +kernel⟩

/-- NMT state operational, TPDO 15 alone enabled: event driven, an event timer of 65,535 ms, sent once with no data at 0, all that time ago. -/
def tpdoDue : Dev :=
  ({ running with
      core := { running.core with time := 65535000000 }
      tr := { running.tr with nmt := 0x05, tpdo := [(15, { last := some [] })] } }.wrN 0x180F 1 0x4000018F).wrN 0x180F 5 65535

theorem witness_CanNode :
    running.canOn = true ∧ (running.wrN 0x1017 0 1).rdN 0x1017 0 ≠ 0 ∧
    (running.tr.nmt = 0x7F ∧ bit ((running.wrN 0x3600 5 (2 ^ 59 + 255 * 2 ^ 24)).rd 0x3600 5) 59 = true ∧
      running.swatch.syncs + 1 < bits ((running.wrN 0x3600 5 (2 ^ 59 + 255 * 2 ^ 24)).rd 0x3600 5) 31 24) ∧
    (tpdoDue.canOn = true ∧ tpdoDue.tr.nmt = 0x05 ∧ (∀ k, k < 16 → tpdoDue.pdoOff (0x1800 + k) = decide (k ≠ 15)) ∧
      254 ≤ tpdoDue.rdN (0x1800 + 15) 2 ∧ (tpdoDue.tpdoSt 15).last = some [] ∧ tpdoDue.rdN (0x1800 + 15) 5 ≠ 0 ∧
      (tpdoDue.tpdoSt 15).lastTime + tpdoDue.rdN (0x1800 + 15) 5 * 1000000 ≤ tpdoDue.core.time) := by decide +kernel

/-- RPDO 15 enabled and mapped to 0x1015, in NMT state operational. -/
def rpdoOn : Dev :=
  (({ running with tr := { running.tr with nmt := 0x05 } }.wrN 0x140F 1 0x0000020F).wrN 0x160F 0 1).wrN 0x160F 1 0x10150010

theorem witness_UsdoAndRpdo :
    (∃ o, running.usdoOn = true ∧ running.tr.usdo = none ∧ userIndex 0x2020 = false ∧ findDesc 0x2020 25 = some o ∧ o.acc ≠ .wo ∧
      o.isBytes = false ∧ resultStatus 0x2020 25 = none) ∧
    (userIndex 0x1015 = false ∧ (0x1015 : Nat) ≠ 0x1F50) ∧
    (∃ x : UsdoSt, ({ running with tr := { running.tr with usdo := some x } } : Dev).usdoOn = true ∧
      x = ⟨0x1015, 0, true, [1], 2⟩ ∧ x.write = true ∧ (x.data ++ [(2 : Byte)]).length = x.total ∧ userIndex x.index = false ∧
      x.index ≠ 0x1F50 ∧ x.index < 65536 ∧ x.sub < 256) ∧
    (∃ x : UsdoSt, ({ running with tr := { running.tr with usdo := some x } } : Dev).usdoOn = true ∧
      x = ⟨0x1F54, 255, false, [1], 1⟩ ∧ x.write = false ∧ x.index < 65536 ∧ x.sub < 256) ∧
    (rpdoOn.pdoOn = true ∧ rpdoOn.pdoOff (0x1400 + 15) = false ∧ rpdoOn.mapOf (0x1600 + 15) = [word 0x10150010] ∧
      mapBytes (word 0x10150010) ≤ [(1 : Byte), 2].length) := by
  refine ⟨⟨_, by decide +kernel, by decide, by decide, rfl, by decide, by decide, by decide +kernel⟩, by decide,
    ⟨⟨0x1015, 0, true, [1], 2⟩, by decide +kernel, rfl, by decide⟩,
    ⟨⟨0x1F54, 255, false, [1], 1⟩, by decide +kernel, rfl, by decide⟩, by decide +kernel⟩

theorem witness_DisallowedStateRequestsRefused :
    (∀ p : Transport, p = .can ∨ p = .window → running.dictionary = true ∧ 2 ≤ (dev .folded).roleOf p) ∧
    ((dev .folded).dictionary = true ∧ (dev .folded).core.state ≠ .run) ∧
    (running.core.state = .run ∧ (∃ g, g < 12 ∧ ((held .none).shuttle g).state ≠ .halted)) ∧ running.core.state ≠ .folded ∧
    ((dev .safe).dictionary = true ∧ (dev .safe).core.state ≠ .fitting ∧ (dev .safe).core.state ≠ .run ∧
      (dev .safe).core.state ≠ .folded) := by
  refine ⟨?_, by decide, ⟨by decide, 11, by decide, by decide⟩, by decide, by decide⟩
  rintro p (rfl | rfl) <;> decide +kernel

/-! ### Witnesses: health and safety -/

/-- The wear of one second at rate 1, and the wear in all in hundredths of its limit. -/
def worn (percent : Nat) : Dev := { running with nv := { wearRates := [100000], wearModel := 1314000 * 360000 * percent } }

theorem witness_SensorsReferencesWear :
    Accepted objTrefFrequency (actTrefFrequency 3) (wr 4 400000) (dev .unconfigured) ∧
    (Accepted objGroupTref actGroupTref (wr 4 0) running ∧ (∀ g, g < 12 → (running.shuttle g).state = .halted)) ∧
    (running.thimble = true ∧ running.safety.tripReadings = 0 ∧ running.safety.excluded = 0 ∧
      (-320 : Int) ≤ (BitVec.ofInt 16 (-320)).toInt ∧ (959#16).toInt < 960 ∧ 896 ≤ (896#16).toInt ∧ bit (running.rd 0x2030 1) 14 = false) ∧
    (1 ≤ ({ running with safety := { tripReadings := 1 } } : Dev).safety.tripReadings ∧ 960 ≤ (960#16).toInt ∧ (1200#16).toInt ≤ 1200) ∧
    running.timeRuns = true ∧
    (∀ p, p = 0 ∨ p = 85 ∨ p = 94 → wearLimit ((worn p).rdN 0x2300 9) = 131400000 ∧ (worn p).nv.wearRates.length = 1 ∧
      (worn p).nv.wearRates.foldl (fun a w => a + w) 0 = 100000 ∧
      (131400000 - max (worn p).wearModelled (worn p).wearMeasured) * 100 * 1 / 100000 < 2 ^ 32 ∧
      max (worn p).wearModelled (worn p).wearMeasured * 10000 / 131400000 = 100 * p ∧
      tabGet (fun _ => 0) (worn p).nv.wearSent 131400000 = 0) ∧
    Accepted objWearHeadroom actWearHeadroom (wr 4 1001) running ∧ Accepted objWearHeadroom actWearHeadroom (wr 4 1000) running := by
  unfold Accepted
  refine ⟨by decide +kernel, by decide +kernel, by decide +kernel, by decide +kernel, by decide +kernel, ?_, by decide +kernel,
    by decide +kernel⟩
  rintro p (rfl | rfl | rfl) <;> decide +kernel

/-- A device in RUN with permits refreshed at 0 and function 3 permitted, at a time. -/
def permitted (time : Nat) (planes : BitVec 2 := 3) : Dev :=
  { running with
    core := { running.core with time := time }
    safety := { permits := 8, refreshed := true, lastRefresh := some 0, linings := planes } }

theorem witness_PermitsAndDangerousFaults :
    running.thimble = true ∧
    ((permitted 7999).vaux = true ∧ (permitted 7999).safety.lastRefresh = some 0 ∧ (permitted 7999).core.time < 0 + 8000 ∧
      0 + 8000 ≤ (permitted 8000).core.time) ∧
    ((permitted 0).canTrip = true ∧ (permitted 0).safety.linings ≠ 0 ∧ (permitted 0 2).safety.linings = BitVec.ofNat 2 (2 ^ 1)) ∧
    (permitted 0).safety.linings = 3 ∧ (permitted 0).safety.linings &&& ~~~ (3 : BitVec 2) = 0 := by decide +kernel

/-- Function 3 bound and in use, its proof test last passed at 1 ns, at a time. -/
def proofDev (time : Nat) : Dev :=
  (((({ permitted time with safety := { permits := 8, refreshed := true, lastRefresh := some time } }.wrN 0x3A13 2 0x80000000).wrN
    0x3A13 4 1).wrN 0x3A13 3 1))

theorem witness_ProofTests :
    (∀ f : Fin 4, (List.range 4).find? (fun k => (BitVec.ofNat 4 (2 ^ f.val)).getLsbD k) = some f.val) ∧
    (∃ w : Wr, Accepted objProofRequest actProofRequest w (proofDev 5) ∧ objProofRequest.num w = 8) ∧
    (({ proofDev 5 with safety := { proof := some (8, 7) } } : Dev).safety.proof = some (8, 7) ∧
      (8 : BitVec 4) &&& ~~~ BitVec.ofNat 4 (2 ^ 3) = 0 ∧ (proofDev 5).core.state = .run) ∧
    ((proofDev (2 ^ 60)).rdN 0x3A13 4 ≠ 0 ∧ (proofDev (2 ^ 60)).safety.proofWarned.getLsbD 3 = false ∧
      (proofDev (2 ^ 60)).safety.proofExpired.getLsbD 3 = false ∧ (proofDev (2 ^ 60)).proofEnd 3 ≤ (proofDev (2 ^ 60)).core.time) := by
  refine ⟨by decide, ⟨wr 1 8, by unfold Accepted; decide +kernel⟩, by decide +kernel, by decide +kernel⟩

/-! ### Witnesses: images and the wardrobe -/

/-- An unsigned, plain header: KIND, TARGET_ID, PATCH_MASK, PANEL_FRAMES, STREAM_LENGTH and HEADER_CRC. -/
def hdr (kind target mask panels len crc : Nat) : List Byte :=
  leBytes 4 0 ++ leBytes 2 248 ++ [0, 1] ++ leBytes 244 (0x4B594846 + 2 ^ 32 + kind * 2 ^ 48 + target * 2 ^ 56 +
    0x00096000 * 2 ^ 64 + 3 * 2 ^ 96 + 0x43 * 2 ^ 112 + 0x43 * 2 ^ 120 + mask * 2 ^ 320 + panels * 2 ^ 384 + len * 2 ^ 448 +
    0xFF * 2 ^ 528 + 0xFF * 2 ^ 536) ++ leBytes 4 crc

/-- A full image's header, a partial one's, and one's of no patch, with the CRC of R316 over them. -/
def hdrFull : List Byte := hdr 1 0 0 146880 552 3688346278
def hdrPart : List Byte := hdr 2 0 (2 ^ 53) 0 552 2293340700
def hdrNone : List Byte := hdr 2 0 0 0 552 2856922693

theorem crcStep_split (n : Nat) (l : List Byte) (c : Nat) : crcStep l c = crcStep (l.drop n) (crcStep (l.take n) c) := by
  induction n generalizing l c with
  | zero => simp [crcStep]
  | succ n ih => cases l with
    | nil => simp [crcStep]
    | cons b t => simpa [crcStep] using ih t _

theorem crc_chunks (l : List Byte) (a b c d : Nat) (h1 : crcStep (l.take 64) 0xFFFFFFFF = a)
    (h2 : crcStep ((l.drop 64).take 64) a = b) (h3 : crcStep (((l.drop 64).drop 64).take 64) b = c)
    (h4 : crcStep (((l.drop 64).drop 64).drop 64) c = d) : crc32c l = d ^^^ 0xFFFFFFFF := by
  unfold crc32c
  rw [crcStep_split 64 l, h1, crcStep_split 64 (l.drop 64), h2, crcStep_split 64 ((l.drop 64).drop 64), h3, h4]

theorem hdrFull_crc : crc32c (hdrFull.take 252) = 3688346278 :=
  crc_chunks _ 3299571716 1950167570 1000307243 606621017 (by decide +kernel) (by decide +kernel) (by decide +kernel)
    (by decide +kernel)

theorem hdrPart_crc : crc32c (hdrPart.take 252) = 2293340700 :=
  crc_chunks _ 713448995 1880184419 2097825904 2001626595 (by decide +kernel) (by decide +kernel) (by decide +kernel)
    (by decide +kernel)

theorem hdrNone_crc : crc32c (hdrNone.take 252) = 2856922693 :=
  crc_chunks _ 872514794 3302816460 1172262889 1438044602 (by decide +kernel) (by decide +kernel) (by decide +kernel)
    (by decide +kernel)

theorem header_ok (f : Fuses) (r : List Byte) (crc : Nat) (h1 : headerShape r = true) (h2 : (parseHeader r).useOrder = false)
    (h3 : crc32c (r.take 252) = crc) (h3' : leAt r 252 4 = crc) (h4 : fieldAt (recBody r) 64 32 = 0x00096000)
    (h5 : (fieldAt (recBody r) (if f.variantS then 97 else 96) 1 = 0 || f.stepping < fieldAt (recBody r) 112 8 ||
      fieldAt (recBody r) 120 8 < f.stepping) = false) : headerFault f r = 0 := by
  simp only [Bool.or_eq_false_iff, decide_eq_false_iff_not] at h5
  simp [headerFault, h1, h2, h3, h3', h4, h5.1.1, h5.1.2, h5.2]

theorem hdrFull_ok : headerFault {} hdrFull = 0 :=
  header_ok _ _ _ (by decide +kernel) (by decide +kernel) hdrFull_crc (by decide +kernel) (by decide +kernel) (by decide +kernel)

theorem hdrPart_ok : headerFault {} hdrPart = 0 :=
  header_ok _ _ _ (by decide +kernel) (by decide +kernel) hdrPart_crc (by decide +kernel) (by decide +kernel) (by decide +kernel)

theorem hdrNone_ok : headerFault {} hdrNone = 0 :=
  header_ok _ _ _ (by decide +kernel) (by decide +kernel) hdrNone_crc (by decide +kernel) (by decide +kernel) (by decide +kernel)

theorem refusal_of (f : Fuses) (d : Dev) (r : List Byte) (h : headerFault f r = 0) :
    headerRefusal f d r = if d.headerContext (parseHeader r) ≠ 0 then d.headerContext (parseHeader r) else securityFault f d r := by
  simp [headerRefusal, h]

/-- The end of a reflected CRC stays within 32 bits. -/
theorem crcBits_lt (n c : Nat) (h : c < 2 ^ 32) : crcBits n c < 2 ^ 32 := by
  induction n generalizing c with
  | zero => exact h
  | succ n ih =>
    apply ih
    have hs : c >>> 1 < 2 ^ 32 := by rw [Nat.shiftRight_eq_div_pow]; omega
    split
    · exact Nat.xor_lt_two_pow hs (by decide)
    · exact hs

theorem crcStep_lt (l : List Byte) (c : Nat) (h : c < 2 ^ 32) : crcStep l c < 2 ^ 32 := by
  induction l generalizing c with
  | nil => exact h
  | cons b t ih => exact ih _ (crcBits_lt _ _ (Nat.mod_lt _ (by decide)))

theorem crc32c_lt (l : List Byte) : crc32c l < 2 ^ 32 := Nat.xor_lt_two_pow (crcStep_lt l _ (by decide)) (by decide)

theorem crc_self (r : List Byte) (n : Nat) (h : r.length = n) :
    crc32c ((r ++ leBytes 4 (crc32c r)).take n) = leAt (r ++ leBytes 4 (crc32c r)) n 4 := by
  have hl := crc32c_lt r
  unfold leAt
  rw [List.take_left' h, List.drop_left' h]
  generalize crc32c r = v at *
  simp [leBytes, ofLe]
  omega

/-- A FRAME record of an address with no bit of data set. -/
def frm (a : Nat) : List Byte :=
  let r := leBytes 4 a ++ leBytes 2 264 ++ [0, 2] ++ List.replicate 260 0
  r ++ leBytes 4 (crc32c r)

/-- The SIGNATURE record of an unsigned image, and an END record. -/
def sig : List Byte := leBytes 4 0 ++ leBytes 2 272 ++ [0, 5] ++ List.replicate 272 0
def fin (count : Nat) : List Byte := leBytes 4 0 ++ leBytes 2 8 ++ [0, 0xF] ++ leBytes 8 count

/-- A KEY_ROLL and a GROUP_HASH record, all zero. -/
def roll : List Byte := leBytes 4 0 ++ leBytes 2 64 ++ [0, 3] ++ List.replicate 64 0
def hash : List Byte := leBytes 4 0 ++ leBytes 2 88 ++ [0, 4] ++ List.replicate 88 0

/-- A load through the port of an unsigned, plain image. -/
def ld (kind : Nat) : LoadSt := { source := .port, header := { kind := kind } }

/-- A configuration port of 16 pins, with a load under way. -/
def porting (st : DevState) (x : Option LoadSt) : Dev :=
  { dev st with
    core := { (dev st).core with cfgWidth := 2 }
    config := { orderInEffect := 0xE4, load := x } }

/-- What the 16 pins of a port carry at each CFG_CLK for an even number of bytes. -/
def samples : List Byte → List (BitVec 16)
  | a :: b :: t => (b ++ a) :: samples t
  | _ => []

/-- A load with so many panel frames taken, all those of its full image, and its signature. -/
def fullLoad (n : Nat) : LoadSt :=
  { ld 1 with header := { kind := 1, panelFrames := n }, signed := true, frames := n, seen := List.replicate n 0 }

theorem fullLoad_complete (n k : Nat) (hn : n = 146880) : framesComplete { fullLoad n with taken := k } = true := by
  simp [framesComplete, fullLoad, ld, addrSpace, addrProgram, addrTiming]
  exact hn

theorem load_ends (limit : Bool) (taps : Nat → Bool) (x : LoadSt) (r : List Byte) (hs : x.signed = true) (hf : recFormed r = true) (ht : recType r = 15)
    (hx : x.header.panelFrames + x.header.hardFrames = x.frames) (hc : leAt (recBody r) 0 4 = x.frames)
    (h0 : leAt (recBody r) 4 4 = 0) (h : framesComplete { x with taken := x.taken + r.length } = true) :
    takeRecord {} limit taps x r = .ok ({ x with taken := x.taken + r.length, ended := true }, none) := by
  simp only [hs] at h
  simp [takeRecord, hf, ht, takeEnd, hc, h0, Except.map, hs, hx, h]

theorem load_signed (limit : Bool) (taps : Nat → Bool) (x : LoadSt) (r : List Byte) (hf : recFormed r = true) (ht : recType r = 5)
    (hb : (recBody r).all (fun b => b == 0) = true) (h1 : x.header.signer = 0xFF) (h2 : x.inGroup = 0) (h3 : x.rolled = false)
    (h4 : x.signed = false) : takeRecord {} limit taps x r = .ok ({ x with taken := x.taken + r.length, signed := true }, none) := by
  simp only [takeRecord, hf, ht, takeSignature, Except.map, hb, h1, h2, h3, h4]
  simp

theorem ld_records (k : Nat) (r : List Byte) (hf : recFormed r = true) :
    (recType r = 3 → takeRecord {} true (fun _ => false) (ld k) r = .error { code := 0x0208 }) ∧
    (recType r = 4 → takeRecord {} true (fun _ => false) (ld k) r = .error { code := 0x0208 }) ∧
    (recType r = 5 → (recBody r).all (fun b => b == 0) = true →
      takeRecord {} true (fun _ => false) (ld k) r = .ok ({ ld k with taken := r.length, signed := true }, none)) := by
  refine ⟨?_, ?_, ?_⟩
  · intro ht; simp [takeRecord, hf, ht, takeKeyRoll, ld, Except.map]
  · intro ht; simp [takeRecord, hf, ht, takeGroupHash, ld, Except.map]
  · intro ht hb; simp only [takeRecord, hf, ht, takeSignature, ld, Except.map, hb]; simp

theorem frm_crc (a : Nat) : crc32c ((frm a).take 268) = leAt (frm a) 268 4 :=
  crc_self _ _ (by simp only [List.length_append, List.length_replicate, leBytes, List.length_cons, List.length_nil])

theorem check_zero : checkOf 0 = 0 := by
  have h : ∀ (l : List Nat) (p : Nat), (l.foldl
      (fun (s : Nat × Nat) i => (nextPos s.1, if (0 : BitVec 2048).getLsbD i then s.2 ^^^ s.1 else s.2)) (p, 0)).2 = 0 := by
    intro l
    induction l with
    | nil => intro p; rfl
    | cons i t ih => intro p; simpa using ih (nextPos p)
  unfold checkOf
  rw [h]
  rfl

theorem frm_taken (a : Nat) (r : List Byte) (ha : a = panelAddr 101 71 19) (hf : recFormed r = true) (ht : recType r = 2)
    (had : recAddress r = a) (hc : crc32c (r.take 268) = leAt r 268 4) (hd : leAt ((recBody r).take 260) 0 256 = 0)
    (hk : leAt ((recBody r).take 260) 256 4 = 0) :
    ∃ m f, takeRecord {} true (fun _ => false) (ld 1) r = .ok (m, some (a, f)) ∧ m.ended = false ∧ m.header.kind = 1 := by
  have h1 : addrValid a = true := by subst ha; decide
  have h2 : addrSpace a = 0 := by subst ha; decide
  have h3 : a % 256 = 19 := by subst ha; decide
  have h4 : addrHard a = false := by subst ha; decide
  have h5 : ∀ taps g d, takeHard taps g a d = .ok g := by
    intro taps g d; unfold takeHard addrSetup addrProgram addrTiming; simp [h2]
  have h6 : checkOf 0#2048 = 0#12 := check_zero
  refine ⟨{ ld 1 with taken := r.length, frames := 1, seen := [a], inGroup := 1, sent := r },
    { data := 0, check := 0, crc := BitVec.ofNat 32 (crc32c (r.take 8 ++ (recBody r).take 260)) }, ?_, rfl, rfl⟩
  simp [takeRecord, hf, ht, takeFrame, had, hc, hd, hk, h6, h1, h2, h3, h4, h5, ld, panelReserved, Except.map]

theorem witness_ImageRecords :
    ((porting .run none).portOn = true ∧ (porting .run none).loading = none ∧ (porting .run none).portBytes (samples hdrFull) = hdrFull ∧
      (porting .run none).portBytes (samples hdrPart) = hdrPart ∧
      (porting .run none).portTakes (parseHeader (hdr 1 0x0F 0 146880 552 0)).targetId = false ∧
      (porting .run none).portTakes (parseHeader hdrFull).targetId = true ∧
      headerRefusal {} (porting .run none) hdrFull = 0 ∧ (parseHeader hdrFull).kind = 1 ∧
      headerRefusal {} (porting .run none) hdrPart = 0 ∧ (parseHeader hdrPart).kind = 2 ∧
      headerRefusal {} (porting .folded none) hdrFull ≠ 0) ∧
    (recType (frm 0) = 2 ∧ recType roll = 3 ∧ recType hash = 4 ∧ recType sig = 5 ∧ recType (fin 0) = 0xF) ∧
    (∀ k, k = 1 ∨ k = 2 → (porting .fitting (some (ld k))).loading = some (ld k) ∧
      (porting .fitting (some (ld k))).passesBy (.port (samples sig)) = none ∧
      (porting .fitting (some (ld k))).recordSource (.port (samples sig)) = some (ld k).source ∧
      (porting .fitting (some (ld k))).recordBytes (.port (samples sig)) false = some sig ∧
      (∃ e, takeRecord {} true (fun _ => false) (ld k) roll = .error e) ∧ (∃ e, takeRecord {} true (fun _ => false) (ld k) hash = .error e) ∧
      (∃ m, takeRecord {} true (fun _ => false) (ld k) sig = .ok (m, none) ∧ m.ended = false)) ∧
    (({ porting .run none with config := { forwarding := true } } : Dev).passesBy (.port (samples sig)) = some sig) ∧
    (∃ m f, takeRecord {} true (fun _ => false) (ld 1) (frm (panelAddr 101 71 19)) = .ok (m, some (panelAddr 101 71 19, f)) ∧
      m.ended = false ∧ addrSpace (panelAddr 101 71 19) = 0 ∧ m.header.kind = 1) ∧
    (∃ m, takeRecord {} true (fun _ => false) { ld 2 with signed := true } (fin 0) = .ok (m, none) ∧ m.ended = true ∧ m.header.kind = 2) ∧
    (∃ m n, n = 146880 ∧ takeRecord {} true (fun _ => false) (fullLoad n) (fin n) = .ok (m, none) ∧ m.ended = true ∧ m.header.kind = 1 ∧
      orderOk (porting .fitting none).config.orderInEffect = true) := by
  rw [refusal_of _ _ _ hdrFull_ok, refusal_of _ _ _ hdrPart_ok, refusal_of _ _ _ hdrFull_ok]
  refine ⟨by decide +kernel, by decide +kernel, ?_, by decide +kernel, ?_, ?_, ?_⟩
  · rintro k (rfl | rfl) <;>
      exact ⟨by decide +kernel, by decide +kernel, by decide +kernel, by decide +kernel,
        ⟨_, (ld_records _ roll (by decide +kernel)).1 (by decide +kernel)⟩,
        ⟨_, (ld_records _ hash (by decide +kernel)).2.1 (by decide +kernel)⟩,
        ⟨_, (ld_records _ sig (by decide +kernel)).2.2 (by decide +kernel) (by decide +kernel), rfl⟩⟩
  · obtain ⟨m, f, h, he, hk⟩ := frm_taken (panelAddr 101 71 19) (frm (panelAddr 101 71 19)) rfl (by decide +kernel) (by decide +kernel)
      (by decide +kernel) (frm_crc _) (by decide +kernel) (by decide +kernel)
    exact ⟨m, f, h, he, by decide, hk⟩
  · exact ⟨_, load_ends _ _ _ _ rfl (by decide +kernel) (by decide +kernel) rfl (by decide +kernel) (by decide +kernel) (by simp [framesComplete, ld, patchCount]),
      rfl, rfl⟩
  · exact ⟨_, _, rfl, load_ends _ _ _ _ rfl (by decide +kernel) (by decide +kernel) rfl (by decide +kernel) (by decide +kernel)
      (fullLoad_complete _ _ rfl), rfl, rfl, by decide⟩

theorem witness_StreamsAndTimeouts :
    Accepted objStreamData actStreamData (wb [1, 2, 3]) running ∧
    (Accepted objStreamCommand actStreamCommand ⟨.can, 1, 1, [], 0⟩ running ∧ running.loading = none) ∧
    (Accepted objStreamCommand actStreamCommand ⟨.can, 1, 1, [], 0⟩ (porting .run (some { ld 2 with source := .pcie })) ∧
      (porting .run (some { ld 2 with source := .pcie })).loading = some { ld 2 with source := .pcie }) ∧
    (∀ k, k = 1 ∨ k = 2 → (porting .run (some (ld k))).thimble = true ∧ (porting .run (some (ld k))).loading = some (ld k) ∧
      (ld k).source = .port ∧ (ld k).header.kind = k) ∧
    ((porting .fitting (some { ld 1 with held := some 0x0110 })).core.state = .fitting ∧
      (porting .fitting (some { ld 1 with held := some 0x0110 })).config.load = some { ld 1 with held := some 0x0110 }) ∧
    Accepted objLoadRequest actLoadRequest (wr 1 9) recovering ∧
    Accepted objStartOrder actStartOrder (wr 1 0x1B) running := by
  unfold Accepted
  refine ⟨by decide +kernel, by decide +kernel, by decide +kernel, ?_, by decide +kernel, by decide +kernel, by decide +kernel⟩
  rintro k (rfl | rfl) <;> decide +kernel

/-- A staged partial image of patch 53, its commit latched or not. -/
def stagedImage (committing : Bool) : StagedImage :=
  { header := { kind := 2, patchMask := 2 ^ 53, imageId := 7 }, source := .port, valid := true, committing := committing }

/-- A device that holds it. -/
def stagedDev (committing : Bool) : Dev :=
  { running with config := { orderInEffect := 0xE4, staged := some (stagedImage committing) } }

theorem flipped_syndrome (m : BitVec 12) (c : BitVec 32) : Frame.syndrome { data := 0, check := m, crc := c } = m.toNat := by
  have h : checkOf 0#2048 = 0#12 := check_zero
  simp [Frame.syndrome, h]

theorem blank_sound (a : Nat) : ((blankFrame a).crc == frameCrc a (blankFrame a).data (blankFrame a).check) = true :=
  beq_self_eq_true _

theorem blank_settled (a : Nat) : (blankFrame a).settled a = some (blankFrame a) := by
  have h : (blankFrame a).syndrome = 0 := flipped_syndrome 0 _
  simp only [Frame.settled, Frame.corrected, h, Option.filter, blank_sound, if_true]

theorem flipped_settled (a : Nat) : ((blankFrame a).upset 0 0x800 0).settled a = some (blankFrame a) := by
  have e : (blankFrame a).upset 0 0x800 0 = { blankFrame a with check := 0x800 } := by
    simp [Frame.upset, blankFrame]
  have h : ({ blankFrame a with check := 0x800 } : Frame).syndrome = 2048 := flipped_syndrome 0x800 _
  have c : ({ blankFrame a with check := 0x800 } : Frame).corrected = some (blankFrame a) := by
    have k : (0x800 : BitVec 12) ^^^ BitVec.ofNat 12 2048 = 0 := by decide
    simp only [Frame.corrected, h, k]; rfl
  simp only [Frame.settled, e, c, Option.filter, blank_sound, if_true]

theorem lost_settled (a : Nat) : ((blankFrame a).upset 0 0xFFF 0).settled a = none := by
  have e : (blankFrame a).upset 0 0xFFF 0 = { blankFrame a with check := 0xFFF } := by
    simp [Frame.upset, blankFrame]
  have h : ({ blankFrame a with check := 0xFFF } : Frame).syndrome = 4095 := flipped_syndrome 0xFFF _
  have c : ({ blankFrame a with check := 0xFFF } : Frame).corrected = none := by
    simp only [Frame.corrected, h]; rfl
  simp only [Frame.settled, e, c, Option.filter]

theorem lost_checked : checkStaged [(5, 0, 0xFFF, 0)] [(5, blankFrame 5)] = .error 5 := by
  have e : (([(5, 0, 0xFFF, 0)] : List FrameUpset).filter (fun u => u.1.toNat = 5)).foldl
      (fun g u => g.upset u.2.1 u.2.2.1 u.2.2.2) (blankFrame 5) = (blankFrame 5).upset 0 0xFFF 0 := rfl
  simp only [checkStaged, e, lost_settled]

/-- A device whose scrub has reached a position of patch 53. -/
def scrubbing (p : Nat) : Dev := { running with config := { scrubPos := [(53, p)] } }

theorem witness_CommitsScrubRecovery :
    ((stagedDev true).config.staged = some (stagedImage true) ∧ (stagedImage true).committing = true ∧
      checkStaged [] (stagedDev true).config.shadow = .ok [] ∧ checkStaged [] (stagedDev true).config.staging = .ok [] ∧
      checkStaged [(5, 0, 0xFFF, 0)] [(5, blankFrame 5)] = .error 5 ∧ (checkStaged [] []).isOk = true) ∧
    (Accepted objPartialDiscard actPartialDiscard ⟨.can, 1, 1, [], 0⟩ running ∧ running.config.staged = none) ∧
    Accepted objPartialDiscard actPartialDiscard ⟨.can, 1, 1, [], 0⟩ (stagedDev false) ∧
    (∀ p, p = 0 ∨ p = 2718 → (scrubbing p).patchHeld 53 = false ∧ (scrubbing p).config.passDone.getLsbD 53 = false ∧
      tabGet (fun _ => 0) (scrubbing p).config.scrubPos 53 = p ∧
      (scrubbing p).frame (panelAddr (scrubSite 53 p).1 (scrubSite 53 p).2 (p % 20)) =
        blankFrame (panelAddr (scrubSite 53 p).1 (scrubSite 53 p).2 (p % 20))) ∧
    (∀ a, (blankFrame a).settled a = some (blankFrame a) ∧ ((blankFrame a).upset 0 0x800 0).settled a = some (blankFrame a) ∧
      ((blankFrame a).upset 0 0xFFF 0).settled a = none) ∧
    (({ running with config := { recoveryFor := BitVec.ofNat 54 (2 ^ 53) } } : Dev).config.recoveryFor.getLsbD 53 = true ∧
      running.core.state ≠ .safe ∧ running.config.recoveryFor.getLsbD 53 = false) ∧
    ({ running with config := { copying := BitVec.ofNat 54 (2 ^ 53) } } : Dev).config.copying ≠ 0 := by
  unfold Accepted
  refine ⟨⟨rfl, rfl, rfl, rfl, ?_, rfl⟩, by decide +kernel, by decide +kernel, ?_,
    fun a => ⟨blank_settled a, flipped_settled a, lost_settled a⟩, by decide +kernel, by decide +kernel⟩
  · exact lost_checked
  · rintro p (rfl | rfl) <;> exact ⟨by decide +kernel, by decide +kernel, by decide +kernel, rfl⟩

/-- An empty, unsigned image as a stream: a header, a signature and an END record. -/
def emptyImage : List Byte := hdrNone ++ (sig ++ fin 0)

/-- Slot 9 open with bytes in it, checked or not; an operation under way on it. -/
def slotDev (l : List Byte) (len : Nat) (checked : Bool) (busy : Option (Nat × Nat)) : Dev :=
  { running with
    nv := { slots := [(9, { state := 1, data := l, checked := checked, header := { streamLength := len } })] }
    sec := { openSlot := some 9, slotBusy := busy } }

theorem emptyImage_verified (d : Dev) (h : securityFault {} d hdrNone = 0) : verifyStream {} d (fun _ => true) emptyImage = 0 := by
  have h1 : emptyImage.take 256 = hdrNone := by
    unfold emptyImage; exact List.take_left' (by decide +kernel)
  have h2 : emptyImage.drop 256 = sig ++ fin 0 := by
    unfold emptyImage; exact List.drop_left' (by decide +kernel)
  have h3 : emptyImage.length = 550 + 1 + 1 := by decide +kernel
  have r1 : nextRecord (sig ++ fin 0) = some sig := by decide +kernel
  have r2 : (sig ++ fin 0).drop sig.length = fin 0 := List.drop_left' rfl
  have r3 : nextRecord (fin 0) = some (fin 0) := by decide +kernel
  have k1 : (parseHeader hdrNone).signer = 0xFF := by decide +kernel
  have k2 : (parseHeader hdrNone).kind = 2 := by decide +kernel
  have k3 : (parseHeader hdrNone).panelFrames = 0 := by decide +kernel
  have k4 : (parseHeader hdrNone).hardFrames = 0 := by decide +kernel
  have k5 : (parseHeader hdrNone).patchMask = 0 := by decide +kernel
  obtain ⟨n, h3⟩ : ∃ n, emptyImage.length = n + 1 + 1 := ⟨550, h3⟩
  simp only [verifyStream, h1, h2, h3, hdrNone_ok, h]
  generalize hx : startLoad {} d .recovery hdrNone = x
  have x1 : x.header = parseHeader hdrNone := by rw [← hx]; rfl
  have x2 : x.inGroup = 0 ∧ x.rolled = false ∧ x.signed = false ∧ x.frames = 0 ∧ x.seen = [] := by
    rw [← hx]; exact ⟨rfl, rfl, rfl, rfl, rfl⟩
  have e1 := load_signed false (fun _ => true) x sig (by decide +kernel) (by decide +kernel) (by decide +kernel) (by rw [x1, k1])
    x2.1 x2.2.1 x2.2.2.1
  have e2 := load_ends false (fun _ => true) { x with taken := x.taken + sig.length, signed := true } (fin 0) rfl (by decide +kernel)
    (by decide +kernel) (by simp [x1, k3, k4, x2]) (by simp only [x2]; decide +kernel) (by decide +kernel)
    (by simp [framesComplete, x1, x2, k2, k5, patchCount])
  simp only [verifyRecords, r1, r2, r3, e1, e2]
  simp

theorem witness_WardrobeSlots :
    Accepted objSlotCommand actSlotCommand (slotWr .can 1 9) running ∧
    (Accepted objSlotCommand actSlotCommand (slotWr .can 2 9) (slotDev [] 0 false none) ∧
      (slotDev [] 0 false none).sec.openSlot = some 9 ∧ (slotDev [] 0 false none).sec.slotBusy = none) ∧
    Accepted objSlotCommand actSlotCommand (slotWr .can 3 9) running ∧
    Accepted objSlotCommand actSlotCommand (slotWr .can 4 9) (slotDev [] 0 false none) ∧
    (Accepted objSlotCommand actSlotCommand (slotWr .can 4 9) (slotDev [] 0 false (some (9, 2))) ∧
      Accepted objSlotData (actSlotData {}) (wb [0]) (slotDev [] 0 false (some (9, 2))) ∧
      (slotDev [] 0 false (some (9, 2))).sec.slotBusy.isSome = true ∧ (slotDev [] 0 false (some (9, 2))).sec.openSlot = some 9 ∧
      ((slotDev [] 1 false (some (9, 2))).slot 9).data.length + [(0 : Byte)].length ≤
        ((slotDev [] 1 false (some (9, 2))).slot 9).header.streamLength ∧
      ((slotDev [] 0 false (some (9, 2))).slot 9).header.streamLength <
        ((slotDev [] 0 false (some (9, 2))).slot 9).data.length + [(0 : Byte)].length) ∧
    (Accepted objSlotData (actSlotData {}) (wb [0]) (slotDev (List.replicate 254 0) 0 false none) ∧
      (List.replicate 254 (0 : Byte) ++ [0]).length < 256) ∧
    (Accepted objSlotData (actSlotData {}) (wb [0]) (slotDev hdrPart 552 true none) ∧ 256 ≤ (hdrPart ++ [(0 : Byte)]).length ∧
      (hdrPart ++ [(0 : Byte)]).length ≤ (parseHeader ((hdrPart ++ [(0 : Byte)]).take 256)).streamLength ∧
      (hdrPart ++ [(0 : Byte)]).length ≤ 45088768) ∧
    ((parseHeader ((List.replicate 256 (0 : Byte) ++ [0]).take 256)).streamLength < (List.replicate 256 (0 : Byte) ++ [0]).length) ∧
    ((slotDev emptyImage 552 true (some (9, 2))).sec.slotBusy = some (9, 2) ∧
      ((slotDev emptyImage 552 true (some (9, 2))).slot 9).data.length = 552 ∧
      ((slotDev emptyImage 552 true (some (9, 2))).slot 9).header.streamLength = 552 ∧
      verifyStream {} ((slotDev emptyImage 552 true (some (9, 2))).touchUnits (slotUnit 9) (unitsOf 552)) (fun _ => true) emptyImage = 0) ∧
    (verifyStream {} (slotDev [] 0 true none) (fun _ => false) (List.replicate 256 0) ≠ 0) ∧
    (slotDev [] 0 false (some (9, 3))).sec.slotBusy = some (9, 3) ∧
    Accepted objLogSelect (actLogSelect false) (wr 1 15) running := by
  refine ⟨by unfold Accepted; decide +kernel, by unfold Accepted; decide +kernel, by unfold Accepted; decide +kernel,
    by unfold Accepted; decide +kernel, by unfold Accepted; decide +kernel, by unfold Accepted; decide +kernel,
    by unfold Accepted; decide +kernel, by decide +kernel,
    ⟨by decide +kernel, by decide +kernel, by decide +kernel, emptyImage_verified _ (by decide +kernel)⟩, by decide +kernel,
    by decide +kernel, by unfold Accepted; decide +kernel⟩

/-- A device in a life cycle with OWNER over CAN FD. -/
def lcDev (lc : Nat) (st : DevState := .run) : Dev :=
  { dev st with regs := [(0x220001, word lc)], sec := { sessions := [(0, { role := some 2 })] } }

/-- A KEY_PROGRAM body for a slot. -/
def keyBody (slot : Nat) : List Byte := leBytes 4 slot ++ List.replicate 172 0

theorem witness_KeysAndVersions :
    (∀ slot : Nat, slot = 3 ∨ slot = 0x13 → Config.onCurve (((keyBody slot).drop 4).take 132) = true →
      (unwrapKey { variant := 2 } (keyBody slot)).isSome = true →
      Accepted objKeyProgram (actKeyProgram { variant := 2 }) (wb (keyBody slot)) (lcDev 2) ∧ leAt (keyBody slot) 0 1 = slot) ∧
    Accepted objKeyRevoke actKeyRevoke (wr 1 3) (lcDev 4) ∧ Accepted objKeyRevoke actKeyRevoke (wr 1 0x13) (lcDev 2) ∧
    (Config.onCurve ((leBytes 4 3 ++ List.replicate 132 0).drop 4) = true →
      Accepted objOwnerKeyProgram (actOwnerKeyProgram {}) (wb (leBytes 4 3 ++ List.replicate 132 0)) (lcDev 2)) ∧
    Accepted objOwnerKeyRevoke (actOwnerKeyRevoke { ownersProgrammed := 9 }) (wr 1 3) (lcDev 3) ∧
    Accepted objVersionRaise (actVersionRaise {}) (wr 1 64) (lcDev 4) := by
  refine ⟨?_, by unfold Accepted; decide +kernel, by unfold Accepted; decide +kernel, ?_, by unfold Accepted; decide +kernel,
    by unfold Accepted; decide +kernel⟩
  · rintro slot (rfl | rfl) hc hu
    · refine ⟨⟨by decide +kernel, ?_⟩, by decide +kernel⟩
      have h : (actKeyProgram { variant := 2 }).allow (lcDev 2) (wb (keyBody 3)) = 0 := by
        have e : (unwrapKey { variant := 2 } (keyBody 3)).isNone = false := by
          cases hx : unwrapKey { variant := 2 } (keyBody 3) <;> simp_all
        show (if keySlotTaken { variant := 2 } (lcDev 2) (leAt (keyBody 3) 0 1) ||
          !keyProgramPermitted { variant := 2 } (lcDev 2).lc (leAt (keyBody 3) 0 1) ||
          !Config.onCurve (((keyBody 3).drop 4).take 132) || (unwrapKey { variant := 2 } (keyBody 3)).isNone then 0x0230 else 0) = 0
        rw [hc, e]; decide +kernel
      unfold writeCheck; rw [h]; decide +kernel
    · refine ⟨⟨by decide +kernel, ?_⟩, by decide +kernel⟩
      have h : (actKeyProgram { variant := 2 }).allow (lcDev 2) (wb (keyBody 0x13)) = 0 := by
        have e : (unwrapKey { variant := 2 } (keyBody 0x13)).isNone = false := by
          cases hx : unwrapKey { variant := 2 } (keyBody 0x13) <;> simp_all
        show (if keySlotTaken { variant := 2 } (lcDev 2) (leAt (keyBody 0x13) 0 1) ||
          !keyProgramPermitted { variant := 2 } (lcDev 2).lc (leAt (keyBody 0x13) 0 1) ||
          !Config.onCurve (((keyBody 0x13).drop 4).take 132) || (unwrapKey { variant := 2 } (keyBody 0x13)).isNone then 0x0230
          else 0) = 0
        rw [hc, e]; decide +kernel
      unfold writeCheck; rw [h]; decide +kernel
  · intro hc
    refine ⟨by decide +kernel, ?_⟩
    have h : (actOwnerKeyProgram {}).allow (lcDev 2) (wb (leBytes 4 3 ++ List.replicate 132 0)) = 0 := by
      show (if ({} : Fuses).ownersProgrammed.getLsbD (leAt (leBytes 4 3 ++ List.replicate 132 0) 0 1) ||
        !Config.onCurve ((leBytes 4 3 ++ List.replicate 132 0).drop 4) || !((lcDev 2).lc = 1 || (lcDev 2).lc = 2) then 0x0231
        else 0) = 0
      rw [hc]; decide +kernel
    unfold writeCheck; rw [h]; decide +kernel

/-- A RESPONSE body that names a key. -/
def response (key : Nat) : List Byte := leBytes 4 key ++ List.replicate 268 0

/-- A session over CAN FD with its challenge pending. -/
def asking : Dev :=
  { lcDev 4 with sec := { sessions := [(0, { pending := true, asked := 2, challenge := List.replicate 32 0 })] } }

theorem witness_SessionsAndAttestation :
    Accepted objSessionRequest (actSessionRequest 0) (wr 1 2) (lcDev 4) ∧
    (∀ k, k = 3 ∨ k = 0xFF → Accepted objResponse (actSessionResponse { ownersProgrammed := 8 } 0) (wb (response k)) asking) ∧
    responseOk { ownersProgrammed := 8 } asking 0 (response 0xFF) = false ∧
    (signatureOk (tabGet (fun _ => []) ({} : Fuses).ownerDigests 3) (sessionMessage { ownersProgrammed := 8 } asking 0) (response 3) = true →
      responseOk { ownersProgrammed := 8 } asking 0 (response 3) = true) ∧
    Accepted objSessionEnd (actSessionEnd 0) (wr 1 1) (lcDev 4) ∧
    ((lcDev 4).thimble = true ∧ ((lcDev 4).session 0).role = some 2) ∧
    Accepted objAttestRequest (actAttestRequest {}) (wb (List.replicate 32 7)) running ∧
    ({ running with sec := { attest := some [1, 2] } } : Dev).sec.attest = some [1, 2] := by
  refine ⟨by unfold Accepted; decide +kernel, ?_, by decide +kernel, ?_, by unfold Accepted; decide +kernel, by decide +kernel,
    by unfold Accepted; decide +kernel, rfl⟩
  · rintro k (rfl | rfl) <;> unfold Accepted <;> decide +kernel
  · intro h
    have e : responseDigest { ownersProgrammed := 8 } asking 2 (leAt (response 3) 0 1) =
      some (tabGet (fun _ => []) ({} : Fuses).ownerDigests 3) := by decide +kernel
    have ha : (asking.session 0).asked = 2 := by decide
    have hp : (asking.session 0).pending = true := by decide
    have hr : roleOffered asking.lc 2 = true := by decide +kernel
    simp only [responseOk, ha, e, hp, hr, h, Bool.and_self]

theorem witness_LifeCycleAndTamper :
    Accepted objLcRequest (actLcRequest { lifecycle := 4 }) (wr 4 0x06000000) (lcDev 4 .unconfigured) ∧
    (({ lifecycle := 4, lcBegin := some 6 } : Fuses).lcBegin = some 6 ∧ (lcDev 4 .unconfigured).thimble = true ∧
      (lcDev 4 .unconfigured).core.state = .unconfigured) ∧
    (({ variant := 2 } : Fuses).variantS = true ∧ ({} : Fuses).variantS = false ∧
      bit (word ({ running with nv := { tamperConfig := 0x82 } } : Dev).nv.tamperConfig) 1 = true ∧
      ({ running with nv := { tamperConfig := 0x82 } } : Dev).canTrip = true ∧ running.env.vbat = true ∧
      bit (word 0x82) 7 = true ∧ bit (word 0x02) 7 = false ∧ (dev .boot).thimble = false) ∧
    Accepted objTamperConfig (actTamperConfig { variant := 2 }) (wr 1 0x83) (lcDev 4) ∧
    (({ lifecycle := 4, lcBegin := some 6 } : Fuses).lcBegin = some 6 ∧ ({ lifecycle := 2, lcBegin := some 3 } : Fuses).lcBegin = some 3) ∧
    ({ dev .off with env := { rails := 0 } } : Dev).vaux = false := by
  unfold Accepted; decide +kernel

/-- Firmware slot A running; slot B as given; the open slot and a trial as given. -/
def fwDev (b : FwSlot) (opened : Option Bool) (trial : Bool) : Dev :=
  { running with nv := { fwA := { state := 1, security := 64 }, fwB := b, trialStarted := trial }, sec := { fwOpen := opened } }

theorem witness_FirmwareCommands :
    Accepted objFwCommand (actFwCommand {}) (fwWr .can 1) (fwDev {} none false) ∧
    Accepted objFwCommand (actFwCommand {}) (fwWr .can 2) (fwDev { state := 3 } (some true) false) ∧
    Accepted objFwCommand (actFwCommand {}) (fwWr .can 3) (fwDev { state := 1 } none false) ∧
    Accepted objFwCommand (actFwCommand {}) (fwWr .can 4) (fwDev {} none true) ∧
    Accepted objFwCommand (actFwCommand { fwMin := 63 }) (fwWr .can 5) (fwDev {} none false) ∧
    Accepted objFwCommand (actFwCommand {}) (fwWr .can 6) (fwDev { state := 3 } (some true) false) ∧
    (Accepted objFwData actFwData (wb [1]) (fwDev { state := 3 } (some true) false) ∧
      (fwDev { state := 3 } (some true) false).sec.fwOpen = some true ∧ (fwDev { state := 3 } (some true) false).sec.fwBusy = false) ∧
    ({ fwDev { state := 3 } (some true) false with sec := { fwOpen := some true, fwBusy := true } } : Dev).sec.fwBusy = true := by
  unfold Accepted; decide +kernel

/-- A descriptor of so many beats to the device-side address given. -/
def descr (fromHost : Bool) (beats device : Nat) : Descr :=
  { raw := BitVec.ofNat 256 (0x1000 + beats * 64 * 2 ^ 64 + device * 2 ^ 96 + fromHost.toNat * 2 ^ 158 + 2 ^ 159 + 2 ^ 248) }

/-- Channel 15: its endpoint, ring of 4 at 0x1000, HEAD and TAIL, its state. -/
def spool (cfg head tail : Nat) (x : SpoolSt) : Dev :=
  (((((({ running with spool := [(15, x)] }.wrN 0x340F 6 cfg).wrN 0x340F 5 4).wrN 0x340F 4 0x1000).wrN 0x340F 8 head).wrN 0x340F 9
    tail).wrN 0x4DFF 3 0x80000000)

/-- A channel with a descriptor of two beats in progress, so many issued and done. -/
def moving (fromHost : Bool) (issued done : Nat) : SpoolSt :=
  { state := .running, cur := some (descr fromHost 2 0), issued := issued, done := done, buf := [[1]] }

/-- What arbitration sees of it. -/
def granting (fromHost : Bool) : Dev :=
  forEach 16 (fun c e => (e.pace c).markerEnd c) (spool ((if fromHost then 2 else 4) * 2 ^ 29) 3 0 (moving fromHost 0 0))

theorem witness_SpoolChannels :
    Accepted objSpoolCommand (actSpoolCommand 15) ⟨.can, 4, word (0x01000000 + 3), [], 0⟩ (spool (4 * 2 ^ 29) 0 0 {}) ∧
    (Accepted objSpoolTail (actSpoolReg 15 9) (wr 2 3) (spool (4 * 2 ^ 29) 0 0 { state := .running }) ∧
      Accepted objSpoolTail (actSpoolReg 15 9) { wr 4 3 with path := .window } (spool (4 * 2 ^ 29) 0 0 { state := .running }) ∧
      bits (wr 4 3).value 31 16 = 0) ∧
    (running.dictionary = true ∧ (wr 2 3).len ≠ 4) ∧
    (((spool (4 * 2 ^ 29) 3 0 { state := .running }).chan 15).cur = none ∧
      (spool (4 * 2 ^ 29) 3 0 { state := .running }).spHead 15 ≠ (spool (4 * 2 ^ 29) 3 0 { state := .running }).spTail 15 ∧
      Descr.own (descr false 2 0) = true ∧ (spool (4 * 2 ^ 29) 3 0 { state := .running }).descrInvalid 15 (descr false 2 0) = false) ∧
    ((granting false).arbitrate false = some 15 ∧ ((granting false).chan 15).cur = some (descr false 2 0) ∧
      endKind ((granting false).spCfg 15) = 4 ∧ (granting true).arbitrate true = some 15) ∧
    ((spool (2 * 2 ^ 29) 3 0 (moving true 2 0)).chan 15 = moving true 2 0 ∧ (moving true 2 0).done + 1 < (moving true 2 0).issued ∧
      (descr true 2 0).fromHost = true ∧ endKind ((spool (2 * 2 ^ 29) 3 0 (moving true 2 0)).spCfg 15) = 2 ∧
      (spool (2 * 2 ^ 29) 3 0 (moving true 2 0)).lockedBlock (descr true 2 0) = false ∧
      (spool (2 * 2 ^ 29) 3 0 (moving true 2 0)).liningAccess ((descr true 2 0).device / 1024) ≠ 1) ∧
    (∀ n, n = 0 ∨ n = 1 → (spool (4 * 2 ^ 29) 3 0 (moving false 2 n)).chan 15 = moving false 2 n ∧ (descr false 2 0).fromHost = false ∧
      (moving false 2 n).done < (moving false 2 n).issued ∧ (moving false 2 n).issued = (descr false 2 0).beats ∧
      endKind ((spool (4 * 2 ^ 29) 3 0 (moving false 2 n)).spCfg 15) = 4) ∧
    (Accepted objSpoolCommand (actSpoolCommand 15) ⟨.can, 4, word (0x02000000 + 3), [], 0⟩ (spool (4 * 2 ^ 29) 3 0 { state := .running }) ∧
      (spool (4 * 2 ^ 29) 3 0 { state := .running }).wasWritten 15 3 = false ∧
      Accepted objSpoolCommand (actSpoolCommand 15) ⟨.can, 4, word (0x02000000 + 3), [], 0⟩
        (spool (4 * 2 ^ 29) 3 0 { state := .running, cur := some (descr false 2 0), issued := 1 })) ∧
    (Accepted objSpoolCommand (actSpoolCommand 15) ⟨.can, 4, word (0x02000000 + 2), [], 0⟩
        (spool (4 * 2 ^ 29) 3 0 { state := .running, written := 1 }) ∧
      (spool (4 * 2 ^ 29) 3 0 { state := .running, written := 1 }).wasWritten 15 2 = true) := by
  unfold Accepted
  refine ⟨by decide +kernel, by decide +kernel, by decide +kernel, by decide +kernel, by decide +kernel, by decide +kernel, ?_,
    by decide +kernel, by decide +kernel⟩
  rintro n (rfl | rfl) <;> decide +kernel

theorem witness_FinalBeatFailureShowsError :
    ∀ n, n = 1 ∨ n = 2 → ∀ x, x = { moving false n (n - 1) with cur := some (descr false n 0), moved := 64 * (n - 1) } →
      (spool (4 * 2 ^ 29) 3 0 x).chan 15 = x ∧ x.state = .running ∧ x.issued = (descr false n 0).beats ∧
      x.done + 1 = (descr false n 0).beats ∧ (descr false n 0).length % 64 = 0 ∧ x.moved = 64 * x.done ∧ x.gap = none := by
  rintro n (rfl | rfl) x rfl <;> decide +kernel

/-- Counter n with a configuration and a level last seen; pin 63 presented as given. -/
def counting (n cfg : Nat) (seen : Bool) (pin : Bool := false) : Dev :=
  { running.wrN (tallyIdx n) 3 cfg with
    tally := { levels := [(n, seen)] }, banks := [(3, { shown := BitVec.ofNat 16 (pin.toNat * 2 ^ 15) })] }

theorem witness_TallyCounts :
    (∀ n, n = 0 ∨ n = 1023 → ∀ (e : Nat × Bool) (pin : Bool),
      e = (9 * 65536 + 8, false) ∨ e = (9 * 65536 + 7, false) ∨ e = (2 ^ 28 + 5 * 65536 + 2, true) ∨
        e = (7 * 65536 + 63 * 16, false) ∨ e = (2 ^ 28 + 7 * 65536 + 63 * 16 + 1, true) →
      (counting n e.1 e.2 pin).thimble = true ∧ (counting n e.1 e.2 pin).chained n = false ∧
      (counting n e.1 e.2 pin).chained (n + 1) = false ∧ bits ((counting n e.1 e.2 pin).tallyCfg n) 23 16 ≠ 0 ∧
      (bits ((counting n e.1 e.2 pin).tallyCfg n) 23 16 = 7 →
        pin = ((counting n e.1 e.2 pin).bank (bits ((counting n e.1 e.2 pin).tallyCfg n) 15 4 / 16)).shown.getLsbD
          (bits ((counting n e.1 e.2 pin).tallyCfg n) 15 4 % 16)) ∧
      ((bits ((counting n e.1 e.2 pin).tallyCfg n) 29 28 = 0 ∧ levelSource ((counting n e.1 e.2 pin).tallyCfg n) = false) ∨
        (bits ((counting n e.1 e.2 pin).tallyCfg n) 29 28 = 0 ∧ levelSource ((counting n e.1 e.2 pin).tallyCfg n) = true) ∨
        (bits ((counting n e.1 e.2 pin).tallyCfg n) 29 28 = 1 ∧ levelSource ((counting n e.1 e.2 pin).tallyCfg n) = true))) ∧
    (running.dictionary = true ∧
      objTallyConfig.early ((actTallyConfig 1023).gate running (wr 4 (2 ^ 28 + 65536))) (running.roleOf .can)
        (wr 4 (2 ^ 28 + 65536)) = 0 ∧
      objTallyConfig.rangeOk (wr 4 (2 ^ 28 + 65536)) = true ∧ sourceExists (objTallyConfig.valueOf (wr 4 (2 ^ 28 + 65536))) = true ∧
      bits (objTallyConfig.valueOf (wr 4 (2 ^ 28 + 65536))) 25 24 = 0 ∧
      bits (objTallyConfig.valueOf (wr 4 (2 ^ 28 + 65536))) 29 28 = 1 ∧
      levelSource (objTallyConfig.valueOf (wr 4 (2 ^ 28 + 65536))) = false ∧
      bits (objTallyConfig.valueOf (wr 4 (2 ^ 28 + 65536))) 23 16 ≠ 0) := by
  refine ⟨?_, by decide +kernel⟩
  rintro n (rfl | rfl) e pin (rfl | rfl | rfl | rfl | rfl) <;> revert pin <;> decide +kernel

theorem witness_TallyClearsAndConfig :
    Accepted objTallyClear (actTallyClear 1023) (wr 1 1) running ∧
    Accepted objTallyClearRange actTallyClearRange (wr 4 (1023 * 65536)) running ∧
    Accepted objTallyClearRange actTallyClearRange (wr 4 (1023 * 65536 + 1023)) running ∧
    (Accepted objTallyConfig (actTallyConfig 1023) (wr 4 (2 ^ 30 + 9 * 65536 + 8)) (counting 1023 (9 * 65536 + 8) true) ∧
      Accepted objTallyConfig (actTallyConfig 1023) (wr 4 (9 * 65536 + 8 + 2 ^ 26)) (counting 1023 (9 * 65536 + 8) true)) := by
  unfold Accepted; decide +kernel

/-- Dumps of counter 0 in the mode given, each microsecond, with one record in the buffer. -/
def dumping (mode : Nat) (held : Nat) : Dev :=
  { (running.wrN 0x3501 3 (mode * 2 ^ 30)).wrN 0x3501 4 1 with tally := { buffer := [List.replicate held 0] } }

theorem dump_length (held : Nat) : ((dumping 1 held).dumpRecord 0 1).length = 128 := by
  have e : (dumping 1 held).dumpRecord 0 1 = (dumping 1 0).dumpRecord 0 1 := rfl
  rw [e]; decide +kernel

theorem dump_fill (held : Nat) : (dumping 1 held).dumpFill = held := by
  simp only [dumping, Dev.dumpFill, List.foldl, List.length_replicate, Nat.zero_add]

theorem witness_DumpRecordsWholeOrNotAtAll :
    ((dumping 1 0).thimble = true ∧ (dumping 1 0).tally.lastDump ≠ some 0 ∧
      (dumping 1 0).dumpFill + ((dumping 1 0).dumpRecord 0 1).length ≤ 32768) ∧
    ((dumping 1 32641).thimble = true ∧ (dumping 1 32641).tally.lastDump ≠ some 0 ∧
      32768 < (dumping 1 32641).dumpFill + ((dumping 1 32641).dumpRecord 0 1).length ∧ (dumping 1 32641).tally.sent53 = false) ∧
    Accepted objDumpRequest actDumpRequest (wr 1 1) (dumping 1 0) ∧
    ((dumping 1 0).dumpMode = 1 ∧ (dumping 1 0).core.time % ((dumping 1 0).rdN 0x3501 4 * 1000) = 0 ∧ (dumping 2 0).dumpMode ≠ 1) := by
  rw [dump_fill, dump_fill, dump_length, dump_length]
  unfold Accepted; decide +kernel

theorem witness_Swatches :
    (Accepted objSwatchRequest actSwatchRequest ⟨.can, 1, word 1, [], 0⟩ running ∧ bit (running.rd 0x3600 4) 6 = false ∧
      running.swatch.det = none ∧ running.swatch.busy = none ∧ bit (running.rd 0x3600 4) 7 = false) ∧
    ({ running with swatch := { busy := some {} } } : Dev).swatch.busy ≠ none ∧
    ({ running with swatch := { det := some { triggers := 2, details := [], detect := 0, latch := 100, cascade := 0, late := false } } }
      : Dev).swatch.det.isSome = true ∧
    (Accepted objSwatchRequest actSwatchRequest ⟨.can, 1, word 2, [], 0⟩ (ring 2 0 true) ∧ (ring 2 0 true).isMaster = false) ∧
    (Accepted objSwatchRequest actSwatchRequest ⟨.can, 1, word 2, [], 0⟩ (ring 3 15 true) ∧ (ring 3 15 true).isMaster = true ∧
      (ring 3 15 true).swatch.det = none ∧ (ring 3 15 true).swatch.busy = none ∧ bit ((ring 3 15 true).rd 0x3600 4) 7 = false) := by
  unfold Accepted; decide +kernel

/-- Patch 53 with every band at a vacant position and of a kind; a patch register. -/
def shifted (v kind : Nat) : Dev :=
  { running with nv := { shiftMaps := [(53, BitVec.ofNat 64 ((kind * 32 + v) * 0x0101010101010101))] } }

/-- A fault or move at physical site (column, 71). -/
def darnAt (column kind : Nat) : RepairSt := { patch := 53, row := 71, column := column, source := 0x0812, kind := kind, started := 0 }

/-- A French seam 63 between logical sites (100, 71) and (0, 0), its status and its safety bit. -/
def frenchDev (status safety : Nat) : Dev :=
  (running.wrN 0x39BF 3 (100 * 2 ^ 56 + 71 * 2 ^ 48 + safety)).wrN 0x39BF 1 status

theorem witness_RepairsAndFrenchSeams :
    Accepted objRepairRequest actRepairRequest ⟨.can, 4, word (0x01000000 + 100 * 256 + 71), [], 0⟩ running ∧
    Accepted objRepairRequest actRepairRequest ⟨.can, 4, word (0x02000000 + 101 * 256 + 71), [], 0⟩ (shifted 16 1) ∧
    (∀ kind, kind = 1 ∨ kind = 2 ∨ kind = 3 →
      ({ running with darn := { queue := [darnAt 100 kind] } } : Dev).repairsRun = true ∧
      ({ running with darn := { queue := [darnAt 100 kind] } } : Dev).nextFault = some (darnAt 100 kind) ∧
      ({ running with darn := { queue := [darnAt 100 kind] } } : Dev).isolated 53 = false ∧
      ({ running with darn := { queue := [darnAt 100 kind] } } : Dev).vacant 53 7 ≠ 100 % 17 ∧
      ({ running with darn := { queue := [darnAt 100 kind] } } : Dev).rowKind 53 7 ≠ 1) ∧
    (({ shifted 0 1 with darn := { queue := [darnAt 101 1] } } : Dev).nextFault = some (darnAt 101 1) ∧
      ({ shifted 0 1 with darn := { queue := [darnAt 101 1] } } : Dev).isolated 53 = false ∧
      ({ shifted 0 1 with darn := { queue := [darnAt 101 1] } } : Dev).vacant 53 7 ≠ 101 % 17 ∧
      ({ shifted 0 1 with darn := { queue := [darnAt 101 1] } } : Dev).rowKind 53 7 = 1 ∧ (53 : Nat) < 54) ∧
    (∀ kind, kind = 1 ∨ kind = 2 ∨ kind = 3 →
      ({ running with darn := { repairs := [darnAt 100 kind] } } : Dev).repairsRun = true ∧
      ({ running with darn := { repairs := [darnAt 100 kind] } } : Dev).darn.repairs.find? (fun x => x.patch == 53) =
        some (darnAt 100 kind) ∧ running.core.steps = none ∧ running.config.recoveryFor.getLsbD 53 = false) ∧
    ({ running with config := { recoveryFor := BitVec.ofNat 54 (2 ^ 53) } } : Dev).config.recoveryFor.getLsbD 53 = true ∧
    ((frenchDev 0 1).fabricLive = true ∧ (frenchDev 0 1).frenchBound 63 = true ∧ bit ((frenchDev 0 1).rd 0x39BF 1) 14 = false ∧
      bit ((frenchDev 0 1).rd 0x39BF 1) 12 = false ∧ ((frenchDev 0 1).frenchSites 63).1 ≠ ((frenchDev 0 1).frenchSites 63).2 ∧
      (frenchDev 0 1).core.state = .run) ∧
    (∀ safety, safety = 0 ∨ safety = 1 → (frenchDev 4096 safety).fabricLive = true ∧ (frenchDev 4096 safety).frenchBound 63 = true ∧
      bit ((frenchDev 4096 safety).rd 0x39BF 1) 14 = false ∧ bit ((frenchDev 4096 safety).rd 0x39BF 1) 12 = true ∧
      bit ((frenchDev 4096 safety).frenchBinding 63) 0 = (safety == 1)) := by
  unfold Accepted
  refine ⟨by decide +kernel, by decide +kernel, ?_, by decide +kernel, ?_, by decide +kernel, by decide +kernel, ?_⟩
  · rintro kind (rfl | rfl | rfl) <;> decide +kernel
  · rintro kind (rfl | rfl | rfl) <;> decide +kernel
  · rintro safety (rfl | rfl) <;> decide +kernel

/-- Rolling self-test on, one site at a time, patch 53 isolated or not. -/
def testingDev (isolated : Bool) : Dev :=
  (running.wrN 0x3800 3 (2 ^ 31 + 65536 + 1)).wrN 0x3900 8 (if isolated then 2 ^ 53 else 0)

/-- Physical site (101, 71) under test. -/
def underTest (slice purpose : Nat) (fail : Option Nat) : Dev :=
  { running with darn := { testing := [(7343, { slice := slice, purpose := purpose, fail := fail })], waiting := [darnAt 100 1] } }

theorem witness_SelfTest :
    (siteNo 101 71 = 7343 ∧ sitePatch 101 71 = 53) ∧
    (∀ i : Bool, (testingDev i).bistRuns = true ∧ (testingDev i).testDue = true ∧ (testingDev i).darn.sweep = [] ∧
      (testingDev i).darn.testing = [] ∧ ((testingDev i).skipCode 101 71 = 0 ↔ i = false) ∧
      (testingDev i).otherVacated 101 71 = false) ∧
    (∀ p, p = 0 ∨ p = 1 ∨ p = 2 → ∀ k, k = 14 ∨ k = 15 → ∀ f, f = none ∨ f = some 14 →
      (underTest k p f).darn.testing.find? (fun t => t.1 == 7343) = some (7343, { slice := k, purpose := p, fail := f }) ∧
      (underTest k p f).darn.waiting.find? (fun y => y.patch == 53) = some (darnAt 100 1) ∧
      (underTest k p f).core.steps = none ∧ (underTest k p f).thimble = true) ∧
    Accepted objBistRequest actBistRequest ⟨.can, 1, word 1, [], 0⟩ (dev .unconfigured) ∧
    (({ dev .unconfigured with darn := { array := true } } : Dev).darn.array = true ∧
      ({ dev .unconfigured with darn := { array := true } } : Dev).core.state = .unconfigured) := by
  unfold Accepted
  refine ⟨by decide +kernel, by decide +kernel, ?_, by decide +kernel, by decide +kernel⟩
  rintro p (rfl | rfl | rfl) k (rfl | rfl) f (rfl | rfl) <;> decide +kernel

/-- A signature of a slice agrees with the golden one or differs from it. -/
theorem witness_SelfTestSignatures (ok : Bool) : ∃ sig, ok = (sig == running.golden 7343 15 4) := by
  cases ok
  · exact ⟨running.golden 7343 15 4 + 1, by simp⟩
  · exact ⟨_, (beq_self_eq_true _).symm⟩

/-- Block 1535 with both ports bound to the fabric and an access code, word 1023 with bits in error. -/
def blockDev (access : Nat) (e : BitVec 80) : Dev :=
  (running.setBlock 1535 { errs := [(1023, e)] }).wrN 0x4DFF 3 (2 ^ 30 + 2 ^ 28 + access * 2 ^ 24 + access * 2 ^ 22)

theorem witness_BlockPorts :
    (∀ b : Bool, ∀ access, access = 0 ∨ access = 1 ∨ access = 2 → (blockDev access 0).portOpen 1535 b = true ∧
      portAccess ((blockDev access 0).rd 0x4DFF 3) b = access ∧ (blockDev access 0).core.writes = true) ∧
    (∀ e : BitVec 80, e = 0 ∨ e = 2 ^ 79 ∨ e = 2 ^ 79 + 1 ∨ e = 2 ^ 79 + 3 → (maskBits e).length ≤ 3 ∧
      ((blockDev 0 e).block 1535).err 1023 ^^^ 0 = e ∧ ((blockDev 0 e).block 1535).writeback.contains 1023 = false) ∧
    ((maskBits (2 ^ 79)).length = 1 ∧ (maskBits (2 ^ 79 + 1)).length = 2 ∧ (maskBits (2 ^ 79 + 3)).length = 3) ∧
    ((running.setBlock 1535 { writeback := [1023] }).block 1535).writeback = [1023] := by
  refine ⟨?_, ?_, by decide +kernel, by decide +kernel⟩
  · rintro b access (rfl | rfl | rfl) <;> revert b <;> decide +kernel
  · rintro e (rfl | rfl | rfl | rfl) <;> decide +kernel

/-- The patrol at a word, on. -/
def patrolling (p : Nat) : Dev := { running.wrN 0x3700 5 1 with patrol := p }

theorem witness_BlockMaintenance :
    (∀ p, p = 0 ∨ p = 1536 * 1024 - 1 → (patrolling p).thimble = true ∧ (patrolling p).scrub = none ∧ (patrolling p).rdN 0x3700 5 ≠ 0 ∧
      (maskBits (((patrolling p).block ((patrolling p).patrol / 1024)).err ((patrolling p).patrol % 1024) ^^^ 3)).length ≤ 2) ∧
    Accepted objScrubRequest actScrubRequest (wr 4 (2 ^ 31 + 1535 * 2048 + 1535)) running ∧
    ({ running with scrub := some { first := 0, last := 0, correct := true, accepted := 0, commitWait := false } } : Dev).scrub.isSome = true ∧
    running.scrubMeets 0 0 = false ∧
    (Accepted objBlockRepair (actBlockRepair 1535) (wr 4 (2 ^ 30 + 255)) running ∧
      Accepted objBlockRepair (actBlockRepair 1535) (wr 4 (2 ^ 31 + 319)) running) ∧
    (∀ older, older = [] ∨ older = [(254, 319)] → ∀ d : Dev,
      d = (running.setBlock 1535 { hard := (255, 319) :: older, hardDue := [(255, 319), (3, 3)] }).wrN 0x3700 4 1 →
      d.thimble = true ∧ (d.block 1535).hardDue = (255, 319) :: [(3, 3)] ∧ d.rdN 0x3700 4 ≠ 0 ∧ (d.block 1535).noAuto = false ∧
      (d.block 1535).repair = none ∧
      (d.block 1535).hard.any (fun e => e.2 == 319 && !(e.1 == 255)) = !older.isEmpty ∧
      noSpare (d.rd 0x4DFF 8) (!older.isEmpty) = false) ∧
    (∀ column : Bool, ((running.setBlock 1535 { repair := some (column, 255) }).block 1535).repair = some (column, 255)) ∧
    (Accepted objBlockFlipInject (actFlipInject 1535) (wr 4 (2 ^ 31 + 1023)) (lcDev 1) ∧
      (maskBits (((lcDev 1).block 1535).err 1023)).length ≤ 2) := by
  unfold Accepted
  refine ⟨?_, by decide +kernel, by decide +kernel, by decide +kernel, by decide +kernel, ?_, by decide +kernel, by decide +kernel⟩
  · rintro p (rfl | rfl) <;> decide +kernel
  · rintro older (rfl | rfl) d rfl <;> decide +kernel

/-! ### Commands that are not well formed are refused -/

/-- A write whose value does not fit its length. -/
def wideWr : Wr := { path := .can, len := 1, value := 256 }

/-- Writes that break one clause of Wr.wf each: too long, too wide, a value and bytes at once, beyond its slot. -/
theorem smoke_writes :
    ({ path := .can, len := 9 } : Wr).wf = false ∧ wideWr.wf = false ∧ ({ path := .can, len := 1, bytes := [0] } : Wr).wf = false ∧
    ({ path := .window, len := 1, off := 8 } : Wr).wf = false ∧
    (wr 8 (2 ^ 64 - 1)).wf = true ∧ (wb [0]).wf = true := by decide +kernel

/-- Every command that carries a write refuses one that is not well formed. -/
theorem smoke_write_commands :
    ([.stateAck wideWr, .hostNotch wideWr, .objectWrite 0 0 wideWr, .basteAck wideWr, .watchAck 0 wideWr, .bobbinAck 0 wideWr,
      .hemAck 0 wideWr, .programWrite 0 wideWr, .programPatchWrite 0 wideWr, .failLatencyWrite 0 wideWr, .shuttleAck 0 wideWr,
      .sampleAck 0 wideWr, .calAck wideWr, .timingTableWrite 0 wideWr, .rawConfigWrite 0 wideWr, .pinFunctionWrite 0 0 wideWr,
      .bankClockWrite 0 wideWr, .bankOutWrite 0 wideWr, .cascadeRecover wideWr, .cascadeAck wideWr, .streamData wideWr,
      .loadRequest wideWr, .startOrderWrite wideWr, .cfgAck wideWr, .partialAck wideWr, .cfgScrubAck wideWr, .slotData wideWr,
      .wardrobeAck wideWr, .keyProgram wideWr, .keyRevoke wideWr, .ownerKeyProgram wideWr, .ownerKeyRevoke wideWr,
      .versionRaise wideWr, .sessionRequest 0 wideWr, .sessionResponse 0 wideWr, .sessionEnd 0 wideWr, .lcRequest wideWr,
      .attestRequest wideWr, .attestAck wideWr, .tamperAck wideWr, .tamperConfigWrite wideWr, .fwData wideWr, .fwAck wideWr,
      .logSelect ⟨wideWr, false⟩, .notifyAck wideWr, .trefFrequencyWrite 0 wideWr, .groupTrefWrite wideWr, .spoolDoorbell 0 none wideWr,
      .spoolDoorbell 0 (some 65536) (wr 2 0), .spoolAck 0 wideWr, .tallyClear 0 wideWr, .tallyClearRange wideWr,
      .tallyConfigWrite 0 wideWr, .tallyAck 0 wideWr, .dumpRequest wideWr, .dumpAck wideWr, .swatchAck wideWr, .repairAck wideWr,
      .frenchAck 0 wideWr, .bistAck wideWr, .scrubRequest wideWr, .scrubAck wideWr, .blockRepair 0 (some wideWr),
      .flipInject 0 wideWr, .blockAck 0 wideWr, .proofRequest wideWr, .safetyAck wideWr, .thermalAck wideWr,
      .wearHeadroomWrite wideWr, .wearAck wideWr] : List Instr).all (fun i => !i.wf) = true := by decide +kernel

/-- Cells, records and transport messages that are not well formed, and commands that carry one. -/
theorem smoke_messages :
    ([.cellForward true { type := 0, source := 16, dest := 0, body := 0 }, .cellForward true { type := 0, source := 0, dest := 17, body := 0 }, .headerRecord (.port []), .headerRecord (.recovery []),
      .frameRecord (.port []) [], .keyRoll (.port []), .groupHash (.port []), .signatureRecord (.port []), .endRecord (.port []) [],
      .usdoRequest (.write 0 0 []), .usdoRequest (.write 0 0 (List.replicate 9 0)), .usdoRequest (.start 0 0 0),
      .usdoRequest (.segment (List.replicate 65 0) false), .usdoRequest (.next 0),
      .rpdoReceive 0 (List.replicate 65 0), .userObjectAccess .can 0 0 true 0 0, .userObjectAccess .can 0 0 true 1 256] :
      List Instr).all (fun i => !i.wf) = true := by decide +kernel

/-- Lists longer than what they name, scans of unequal length, times beyond 64 bits. -/
theorem smoke_lists :
    ([.watchWindowEnd (List.replicate 513 (0, 0, 0)), .runStart 0 (2 ^ 64) 0, .reservedOpcodeFault 0 (2 ^ 64) 0 none, .holdEnd 0 0,
      .calComplete [],
      .timingExchange true 1 0 0 0 ⟨0, true⟩, .timingExchange true 0 1 0 0 ⟨0, true⟩, .rawRxLock 0 [true] 2,
      .slotVerifyComplete ⟨false, List.replicate 513 0⟩, .cascadeNotchApply (List.replicate 13 ⟨0, 0, 0, 0⟩),
      .frameRecord .pcie (List.replicate 513 0), .endRecord .pcie (List.replicate 513 (0, 0)),
      .partialCommitComplete [] (List.replicate 513 (0, 0)), .sensorUpdate (List.replicate 15 0) (List.replicate 8 0),
      .sensorUpdate (List.replicate 16 0) (List.replicate 7 0), .scrubComplete [(1536, 0, 0)], .scrubComplete [(0, 1024, 0)],
      .gaugeMeasure [], .widenCommandReceive 0 0 0 (2 ^ 64)] : List Instr).all (fun i => !i.wf) = true := by decide +kernel

theorem wf_mailbox (l : List Byte) : (Instr.mailboxWrite 0 0 false l 0).wf = decide (l.length ≤ 131072) := rfl
theorem wf_swatch (l : List PanelView) : (Instr.swatchLatch l).wf = decide (l.length ≤ 7344) := rfl
theorem wf_array (f : List (Fin 7344 × Fin 16)) (m : List (Fin 7344)) :
    (Instr.bistArrayComplete f m).wf = (decide (f.length ≤ 7344) && decide (m.length ≤ 7344)) := rfl

theorem smoke_long (l : List Byte) (v : List PanelView) (f : List (Fin 7344 × Fin 16)) (m : List (Fin 7344)) (hl : l.length = 131073)
    (hv : v.length = 7345) (hf : f.length = 7345 ∨ m.length = 7345) :
    (Instr.mailboxWrite 0 0 false l 0).wf = false ∧ (Instr.swatchLatch v).wf = false ∧ (Instr.bistArrayComplete f m).wf = false := by
  rw [wf_mailbox, wf_swatch, wf_array, hl, hv]
  rcases hf with h | h <;> rw [h] <;> simp

/-! ### Single steps against the examples of the spec -/

/-- The device after a command. -/
def after (i : Instr) (d : Dev) : Dev :=
  match exec i (of d) with
  | .next t => t.dev
  | _ => d

/-- 05_block_memory.md: PATCH(2,5) holds blocks 920 to 947, which are objects 0x4B98 to 0x4BB3. -/
theorem test_block_places :
    blockPatch 919 ≠ 32 ∧ blockPatch 920 = 32 ∧ blockPatch 947 = 32 ∧ blockPatch 948 ≠ 32 ∧ 0x4800 + 920 = 0x4B98 ∧
      0x4800 + 947 = 0x4BB3 := by decide

/-- Block 572 with its bucket at L, armed or not, SEQ and threshold 10, and two bits of word 0 in error. -/
def bucketDev (level : Nat) (armed : Bool) : Dev :=
  (((blockDev 0 0).setBlock 572 { errs := [(0, 3)] }).wrN 0x3700 2 10).wrN 0x4A3C 7 level
    |>.wrN 0x4A3C 1 (armed.toNat * 2 ^ 14) |>.wrN 0x4A3C 3 (2 ^ 30)

/-- "A bucket over two minutes", 14 s: a double-bit correction takes L from 8 to 12, crosses 10, disarms and moves SEQ to 1. -/
theorem test_bucket_crosses :
    (after (.blockRead 572 false 0 0 0 false 0) (bucketDev 8 true)).rdN 0x4A3C 7 = 12 ∧
    bit ((after (.blockRead 572 false 0 0 0 false 0) (bucketDev 8 true)).rd 0x4A3C 1) 14 = false ∧
    bits ((after (.blockRead 572 false 0 0 0 false 0) (bucketDev 8 true)).rd 0x4A3C 1) 31 16 = 1 := by decide +kernel

/-- The same example, 90 s: a leak takes L from 6 to 5, and the bucket arms again; at 80 s, from 7 to 6, it does not. -/
theorem test_bucket_leaks :
    (after .leakInstant (bucketDev 6 false)).rdN 0x4A3C 7 = 5 ∧ bit ((after .leakInstant (bucketDev 6 false)).rd 0x4A3C 1) 14 = true ∧
    (after .leakInstant (bucketDev 7 false)).rdN 0x4A3C 7 = 6 ∧
    bit ((after .leakInstant (bucketDev 7 false)).rd 0x4A3C 1) 14 = false := by decide +kernel

/-- "Testing the checker of block 920", steps 1 and 2: stored bits 15 and 0 of word 0x123 are flipped. -/
theorem test_flip_inject :
    ((after (.flipInject 920 (wr 4 0x123)) ((lcDev 1).wrN 0x4B98 0x0A 0x8001)).block 920).err 0x123 = 0x8001 ∧
    ((after (.flipInject 920 (wr 4 0x80000123)) ((lcDev 1).wrN 0x4B98 0x0A 0x8001)).block 920).err 0x123 =
      2 ^ 79 + 0x8001 := by decide +kernel

/-- Block 920 with word 0x123 injected. -/
def injectedDev (e : BitVec 80) : Dev :=
  (running.setBlock 920 { errs := [(0x123, e)], injected := some 0x123 }).wrN 0x4B98 3 (2 ^ 30)

/-- Steps 3 and 4: the read is CORRECTED; CLASS 0b10, INJECTED 1, WORD 0x123, BIT1 15, BIT2 0. -/
theorem test_injected_corrected :
    (after (.blockRead 920 false 0x123 0 0 false 0) (injectedDev 0x8001)).out.head? = some (.token 3 1840 (0x20 * 2 ^ 64)) ∧
    (after (.blockRead 920 false 0x123 0 0 false 0) (injectedDev 0x8001)).rdN 0x4B98 0x0C =
      2 * 2 ^ 30 + 2 ^ 29 + 0x123 * 2 ^ 18 + 15 * 2 ^ 11 := by decide +kernel

/-- Steps 5 and 6: with stored bit 79 as well the read is UNCORRECTABLE and the word is poisoned. -/
theorem test_injected_uncorrectable :
    wordPoison (((after (.blockRead 920 false 0x123 0 0 false 0) (injectedDev (2 ^ 79 + 0x8001))).block 920).word 0x123) = true ∧
    ((after (.blockRead 920 false 0x123 0 0 false 0) (injectedDev (2 ^ 79 + 0x8001))).block 920).err 0x123 = 0 := by
  decide +kernel

/-- Bobbin 82 (0x4452): W = 16, R = 256, DROP, packets; 4 writes in the read word at hand, 2 read words of the packet before it. -/
def packetDev : Dev :=
  (running.wrN 0x4452 3 (2 * 2 ^ 28 + 2 ^ 24 + 2 ^ 22 + 82)).setBobbin 82 {
    words := [{ data := 0, tag := 0 }, { data := 0, tag := 0 }], partCount := 4, pktWords := 2, pktStored := true }

/-- "One packet, then a truncated one": write 36 with BYTES = 1 closes read word 2 with EOP 1 and VALID 9, its byte in [71:64];
the notice is NOTICE[14:0] = 3, TRUNCATED 0. -/
theorem test_packet_end :
    ((after (.bobbinWrite 82 0xABCD 9) packetDev).bobbin 82).words.getLast? = some { data := 0xCD * 2 ^ 64, tag := 0x49 } ∧
    (after (.bobbinWrite 82 0xABCD 9) packetDev).out.head? = some (.token 1 82 3) := by decide +kernel

/-- The full bobbin of the second packet with its closed run of 5 dropped writes. -/
def gapDev : Dev :=
  (running.wrN 0x4452 3 (2 * 2 ^ 28 + 2 ^ 24 + 2 ^ 22 + 82)).setBobbin 82 {
    words := List.replicate 128 { data := 0, tag := 0 }, run := some { count := 5, packets := 1, truncated := true, words := 2
                                                                       closed := true } }

/-- The reader takes one word; the gap marker follows at once with COUNT 5, PACKETS 1, TRUNCATED 1; the notice is 2, TRUNCATED 1. -/
theorem test_gap_marker :
    ((after (.bobbinRead 82 false) gapDev).bobbin 82).words.getLast? =
      some { data := BitVec.ofNat 256 (2 ^ 32 + 2 ^ 31 + 5), tag := 0x80 } ∧
    (.token 1 82 (32768 + 2)) ∈ (after (.bobbinRead 82 false) gapDev).out := by decide +kernel

/-- "Choosing a period for four edges": SBC at 1,000 steps takes edges 0, 250, 500 and 750; at 999 it does not. -/
theorem test_four_edges :
    recordCode { period := 1000, eOn := some 0, eData := some 250, eRet := some 500, eOff := some 750, format := 3 } = 0 ∧
    recordCode { period := 999, eOn := some 0, eData := some 250, eRet := some 500, eOff := some 750, format := 3 } ≠ 0 := by
  decide +kernel

/-- Channel 0 of "One channel through six periods" in period 4: set 5, D1CH, driving LOW with v = HIGH. -/
def sixPeriods (k : Nat) (symbols : BitVec 64) (drive : Drive) (v : Bool) : Dev :=
  { running with needles := [(0, { period := k, drive := drive, v := v, stream := [.slice 0 40000000 {
      period := 8000, format := 1, eOn := some 400, eData := some 1000, eRet := some 4000, eOff := some 6000
      strobe := some 6400, strobeEnd := some 7200, tx := -48, rx := 20 } symbols false true] })] }

/-- Period 4: HIGH at 10,008.238 ns, LOW at 10,008.988 ns; level 2 and then level 1 in the window make the result 0xB. -/
theorem test_d1ch_window :
    (after (.d1ch 0 [2, 1]) (sixPeriods 4 0x90000 .low true)).out = [.lane 0 40035952 0, .lane 0 40032952 3] ∧
    ((after (.d1ch 0 [2, 1]) (sixPeriods 4 0x90000 .low true)).needle 0).results = 0xB0000 := by decide +kernel

/-- Period 0: not driving, D1 goes HIGH at 10,000.088 ns and LOW at 10,000.988 ns; period 5: DZ is OFF at 10,011.488 ns. -/
theorem test_d1_dz :
    (after (.d1 0 []) (sixPeriods 0 1 .off false)).out = [.lane 0 40003952 0, .lane 0 40000352 3] ∧
    (after (.dz 0 []) (sixPeriods 5 0x200000 .low true)).out = [.lane 0 40045952 1] := by decide +kernel

/-- A largest LOOP_DELAY of 93,600 steps gives FAIL_ROUND_TRIP 48. -/
theorem test_fail_round_trip : (running.roundTripOf [93000, 93600, 0]).1 = 48 := by decide +kernel

/-- "A seam fault in PATCH(2,5)": the repair of P(40,44), rows 4 and 5 one band. -/
def seamFault : Dev :=
  { running.wrN 0x3930 3 0x76443210 with
    darn := { repairs := [{ patch := 32, row := 44, column := 40, source := 0x0810, kind := 1, started := 0 }] } }

/-- Rows 4 and 5 read 0x26, so SHIFT_MAP reads 0x1010_2626_1010_1010; the event's instance is 0x282C. -/
theorem test_seam_fault :
    (after (.repairRelease 32 ⟨0, false⟩) seamFault).shiftMap 32 = 0x1010262610101010 ∧
    (after (.repairRelease 32 ⟨0, false⟩) seamFault).nv.log.any (fun e => e.reason == 0x0822 && e.inst == 0x282C) = true := by decide +kernel

/-- Channel 5 of "A final-beat error and the restart": descriptor 3 with its last beat outstanding. -/
def finalBeat : Dev :=
  { (((((running.wrN 0x3405 6 0x260000C8).wrN 0x3405 5 64).wrN 0x3405 4 0x840000000).wrN 0x3405 8 3).wrN 0x3405 9 5) with
    spool := [(5, { state := .running, issued := 64, done := 63, moved := 4032, cur := some {
      raw := BitVec.ofNat 256 (0x880000000 + 4096 * 2 ^ 64 + 0xC0000000 * 2 ^ 128 + 2 ^ 248) } })] }

/-- Steps 3 to 7: the error address, SPOOL_ERROR_INFO, the writebacks in their order, HEAD 4, HALTED, SPOOL_REASON 0x0610. -/
theorem test_final_beat :
    (after (.busError 5 2 2) finalBeat).rd 0x3405 0x0A = 0x880000FC0 ∧ (after (.busError 5 2 2) finalBeat).rd 0x3405 0x0B = 0x2A000003 ∧
    (after (.busError 5 2 2) finalBeat).rd 0x3405 0x0C = 0x0610 ∧ (after (.busError 5 2 2) finalBeat).spHead 5 = 4 ∧
    ((after (.busError 5 2 2) finalBeat).chan 5).state = .halted ∧
    (after (.busError 5 2 2) finalBeat).out.filter (fun o => o != .msix 17 && !(o matches .can _ _)) = [.msix 5, .hostWrite 0x84000007F [0],
      .hostWrite 0x840000074 (leBytes 4 4032 ++ leBytes 4 0x22000000 ++ leBytes 3 0)] := by decide +kernel


/-- The examples of R554: channels 53 and 17, and the name AU35 of R552. -/
theorem test_lane_balls :
    [LaneBall.txP, .txN, .outerGround, .rxP, .rxN, .innerGround].map (fun p => (laneBall 53 p).name) =
      ["BB29", "BA29", "AY29", "AW29", "AV29", "AU29"] ∧
    [LaneBall.txP, .txN, .outerGround, .rxP, .rxN, .innerGround].map (fun p => (laneBall 17 p).name) =
      ["A28", "B28", "C28", "D28", "E28", "F28"] ∧
    (laneBall 53 .txP).region = .outer ∧ (signalBalls.map (fun g => g.2)).sum = 582 := by decide +kernel

/-- R414: a window write that does not start its slot is refused with 0x0B04; one that does is taken. -/
theorem test_window_offset :
    objSpoolTail.lengthOk { path := .window, len := 2, value := 0, off := 2 } = false ∧
    objSpoolTail.lengthOk { path := .window, len := 2, value := 0 } = true := by decide +kernel

/-- R448: a commit that leaves the block of a descriptor in progress without a lining-bound port halts the channel: KIND ENDPOINT, cause 7,
0x0622, error address 0. -/
theorem test_block_unbound :
    let d : Dev := { (running.wrN 0x3402 6 0x40000000).wrN 0x3402 5 4 with
      spool := [(2, { state := .running, cur := some { raw := BitVec.ofNat 256 (64 * 2 ^ 64 + 2 ^ 248) } })] }
    ((d.spoolCommit (fun _ => true)).chan 2).state = .halted ∧ (d.spoolCommit (fun _ => true)).rd 0x3402 0x0C = 0x0622 ∧
    (d.spoolCommit (fun _ => true)).rd 0x3402 0x0B = 0x47000000 ∧ ((d.spoolCommit (fun _ => false)).chan 2).state = .running := by
  decide +kernel

/-- R433: a gap marker behind the full beat that reaches LENGTH is left for the next descriptor, which it ends with nothing moved. -/
theorem test_marker_at_length :
    let d : Dev := { (running.wrN 0x3402 6 0x20400000).wrN 0x4400 3 (2 ^ 20 + 2 ^ 24) with
      bobbins := [(0, { words := List.replicate 8 { data := 7, tag := 0 } ++ [{ data := 3, tag := 128 }] })]
      spool := [(2, { state := .running, cur := some { raw := BitVec.ofNat 256 (64 * 2 ^ 64 + 2 ^ 248) } })] }
    ((d.grantBeat 2).chan 2).issued = 1 ∧ ((d.grantBeat 2).chan 2).gap = none ∧ ((d.grantBeat 2).bobbin 0).words.length = 1 := by
  decide +kernel
end Sys2Proof.Tests
end

section
/-! SUPPORT. Rules and frames shared by proofs about whole operations: loops over numbered parts, accepted writes, what a log entry leaves
behind, and the part of the state (the vault) that reports, ended work, permits and the entry to SAFE never touch. -/

namespace Sys2Proof.Machine

/-! ### Loops over numbered parts -/

theorem forEach_succ (n : Nat) (f : Nat → Dev → Dev) (d : Dev) : forEach (n + 1) f d = f n (forEach n f d) := by
  simp [forEach, List.range_succ]

/-- A view of the device that every round keeps is kept by the loop. -/
theorem forEach_keeps {α : Type} (view : Dev → α) {f : Nat → Dev → Dev} (h : ∀ i e, view (f i e) = view e) (n : Nat) (d : Dev) :
    view (forEach n f d) = view d := by
  induction n with
  | zero => rfl
  | succ n ih => rw [forEach_succ, h, ih]

/-- What round k brings about for k, and no round undoes, holds for every k below n after the loop. -/
theorem forEach_reaches {P : Nat → Dev → Prop} {f : Nat → Dev → Dev} (brings : ∀ k e, P k (f k e))
    (keeps : ∀ i k e, P k e → P k (f i e)) {n k : Nat} (h : k < n) (d : Dev) : P k (forEach n f d) := by
  induction n with
  | zero => exact absurd h (Nat.not_lt_zero k)
  | succ n ih =>
    rw [forEach_succ]
    rcases Nat.lt_succ_iff_lt_or_eq.1 h with hk | rfl
    · exact keeps n k _ (ih hk)
    · exact brings k _

/-! ### Accepted writes (R397) -/

/-- A write that passes the ordered checks passes the last one, the object's own. -/
theorem allow_of_writeCheck {o : Desc} {a : Act} {w : Wr} {d : Dev} (h : writeCheck o a w d = 0) : a.allow d w = 0 := by
  unfold writeCheck at h
  dsimp only at h
  split at h
  · contradiction
  · split at h
    · exact absurd h (by decide)
    · split at h
      · contradiction
      · split at h
        · exact absurd h (by decide)
        · exact h

/-- An accepted write that blows fuses: the object's effect, with the fuses as it blows them. -/
theorem fuseWrite_accepted {o : Desc} {a : Act} {w : Wr} {s : State} (blow : Fuses → Dev → Wr → Fuses) (i j : Nat)
    (h : Accepted o a w s.dev) :
    fuseWrite o a blow i j w s = { s with fuses := blow s.fuses s.dev w, dev := a.apply s.dev w } := by
  obtain ⟨hd, hc⟩ := h
  simp [fuseWrite, hd, runWrite, hc]

/-! ### Notifications leave the wardrobe and the battery store (R402) -/

theorem Dev.msix_nv (d : Dev) (v : Nat) : (d.msix v).nv = d.nv := by
  unfold Dev.msix; split <;> rfl

theorem Dev.ringEntry_nv (d : Dev) (reason inst vector : Nat) : (d.ringEntry reason inst vector).nv = d.nv := by
  unfold Dev.ringEntry
  dsimp only
  rw [Dev.msix_nv]
  split <;> rfl

theorem Dev.emcy_nv (d : Dev) (code reason inst : Nat) : (d.emcy code reason inst).nv = d.nv := by
  unfold Dev.emcy
  split
  · rfl
  · dsimp only
    split
    · split <;> rfl
    · rfl

theorem Dev.emcy_core (d : Dev) (code reason inst : Nat) : (d.emcy code reason inst).core = d.core :=
  (d.emcy_reported code reason inst).core

theorem Dev.notifyRing_nv (d : Dev) (reason inst : Nat) : (d.notifyRing reason inst).nv = d.nv := by
  unfold Dev.notifyRing
  dsimp only
  have ring : (if bit (d.rd 0x2040 (reason / 256)) 14 then
      (d.lastEvent reason inst).ringEntry reason inst (bits (d.rd 0x2040 (reason / 256)) 5 0)
      else d.lastEvent reason inst).nv = d.nv := by
    split
    · exact Dev.ringEntry_nv _ _ _ _
    · rfl
  split
  · exact (Dev.emcy_nv _ _ _ _).trans ring
  · exact ring

theorem Dev.fabricNotify_nv (d : Dev) (reason inst : Nat) : (d.fabricNotify reason inst).nv = d.nv := by
  unfold Dev.fabricNotify
  dsimp only
  split <;> rfl

theorem Dev.notify_nv (d : Dev) (reason inst : Nat) : (d.notify reason inst).nv = d.nv := by
  unfold Dev.notify
  split
  · rfl
  · dsimp only
    split
    · split
      · rw [Dev.notifyRing_nv, Dev.setHemWin_nv, Dev.fabricNotify_nv, Dev.notifyRing_nv]
      · rw [Dev.fabricNotify_nv, Dev.notifyRing_nv]
    · exact d.notifyRing_nv reason inst

/-! ### The entry that a log entry leaves (R521) -/

theorem Dev.level_log (d : Dev) (u : Nat) : (d.level u).nv.log = d.nv.log := by
  unfold Dev.level
  split
  · dsimp only
    split <;> rfl
  · rfl

theorem Dev.touchRaw_log (d : Dev) (u n : Nat) : (d.touchRaw u n).nv.log = d.nv.log := by
  unfold Dev.touchRaw
  dsimp only
  split <;> exact Dev.level_log _ _

/-- The log as an entry leaves it: the newest first, at most 65,536 of them. -/
theorem Dev.enterLog_log (d : Dev) (time reason inst detail : Nat) :
    ∃ e : LogEntry, e.reason = reason ∧ e.inst = inst ∧ e.time = time ∧
      (d.enterLog time reason inst detail).nv.log = (e :: d.nv.log).take 65536 :=
  ⟨_, rfl, rfl, rfl, Dev.touchRaw_log _ _ _⟩

/-- The entry is in the log even where it is followed at once by the entry of WEAR_PEAK. -/
theorem Dev.logAt_mem (d : Dev) (time reason inst detail : Nat) :
    ∃ e ∈ (d.logAt time reason inst detail).nv.log, e.reason = reason ∧ e.inst = inst ∧ e.time = time := by
  obtain ⟨e, hr, hi, ht, hl⟩ := d.enterLog_log time reason inst detail
  refine ⟨e, ?_, hr, hi, ht⟩
  unfold Dev.logAt Dev.peakCheck
  split
  · rw [Dev.notify_nv]
    obtain ⟨e', -, -, -, hl'⟩ := Dev.enterLog_log
      { d.enterLog time reason inst detail with
        nv := { (d.enterLog time reason inst detail).nv with wearPeakSeen := (d.enterLog time reason inst detail).wearLevel } }
      (d.enterLog time reason inst detail).core.time 0x0262 0x2130 0
    rw [hl', hl]
    simp
  · rw [hl]
    simp

/-- While the Thimble runs an event that is logged stands in the log with its time. -/
theorem Dev.log_mem {d : Dev} (h : d.thimble = true) (reason inst detail : Nat) :
    ∃ e ∈ (d.log reason inst detail).nv.log, e.reason = reason ∧ e.inst = inst ∧ e.time = d.core.time := by
  unfold Dev.log
  rw [if_pos h]
  exact d.logAt_mem _ _ _ _

/-! ### What reports, ended work and permits never touch -/

/-- The device's surroundings, its security state, and the wardrobe and battery store but for the log and the access counts. -/
structure Vault where
  env : Env
  sec : SecSt
  nv : Nv

/-- The vault of the device. -/
def Dev.vault (d : Dev) : Vault where
  env := d.env
  sec := d.sec
  nv := { d.nv with
    log := [], logCount := 0, unitCount := [], unitMap := [], reserve := [], exchanged := 0, wearPeakSeen := 0 }

/-- Reports leave the vault. -/
theorem Reported.vault {d e : Dev} (h : Reported d e) : e.vault = d.vault := by
  unfold Dev.vault
  rw [h.env, h.sec, ← h.nv]

/-- VAUX is seen in the vault. -/
theorem Dev.vaux_of_vault {d e : Dev} (h : e.vault = d.vault) : e.vaux = d.vaux :=
  congrArg (fun v => v.env.rails.getLsbD 5) h

/-- Whether the Thimble runs is seen in the vault and the state. -/
theorem Dev.thimble_of_vault {d e : Dev} (h : e.vault = d.vault) (hs : e.core.state = d.core.state) :
    e.thimble = d.thimble := by
  unfold Dev.thimble
  rw [Dev.vaux_of_vault h, hs]

theorem Dev.session_of_vault {d e : Dev} (h : e.vault = d.vault) (t : Nat) : e.session t = d.session t :=
  congrArg (fun v : Vault => tabGet (fun _ => ({} : Session)) v.sec.sessions t) h

theorem Dev.slot_of_vault_nv {d e : Dev} (h : e.vault.nv = d.vault.nv) (n : Nat) : e.slot n = d.slot n :=
  (congrArg (fun v : Nv => tabGet (fun _ => ({} : Slot)) v.slots n) h :)

@[simp] theorem Dev.wr_vault (d : Dev) (i j : Nat) (v : Word) : (d.wr i j v).vault = d.vault := rfl
@[simp] theorem Dev.wrN_vault (d : Dev) (i j n : Nat) : (d.wrN i j n).vault = d.vault := rfl
@[simp] theorem Dev.setFlag_vault (d : Dev) (i j k : Nat) (b : Bool) : (d.setFlag i j k b).vault = d.vault := rfl
@[simp] theorem Dev.count_vault (d : Dev) (i j width n : Nat) : (d.count i j width n).vault = d.vault := rfl
@[simp] theorem Dev.complete_vault (d : Dev) (i j u : Nat) (busy : Option Nat) : (d.complete i j u busy).vault = d.vault := rfl
@[simp] theorem Dev.emit_vault (d : Dev) (o : Output) : (d.emit o).vault = d.vault := rfl
@[simp] theorem Dev.setHalf_vault (d : Dev) (k : Nat) (x : HalfSt) : (d.setHalf k x).vault = d.vault := rfl
@[simp] theorem Dev.setHemWin_vault (d : Dev) (k : Nat) (x : HemWin) : (d.setHemWin k x).vault = d.vault := rfl
@[simp] theorem Dev.setShuttle_vault (d : Dev) (k : Nat) (x : ShuttleSt) : (d.setShuttle k x).vault = d.vault := rfl
@[simp] theorem Dev.setNeedle_vault (d : Dev) (k : Nat) (x : NeedleSt) : (d.setNeedle k x).vault = d.vault := rfl
@[simp] theorem Dev.setBank_vault (d : Dev) (k : Nat) (x : BankSt) : (d.setBank k x).vault = d.vault := rfl
@[simp] theorem Dev.setBall_vault (d : Dev) (k : Nat) (x : SafeBall) : (d.setBall k x).vault = d.vault := rfl
@[simp] theorem Dev.setChan_vault (d : Dev) (k : Nat) (x : SpoolSt) : (d.setChan k x).vault = d.vault := rfl
@[simp] theorem Dev.free_vault (d : Dev) : d.free.2.vault = d.vault := rfl
@[simp] theorem Dev.withDarn_vault (d : Dev) (x : DarnSt) : ({ d with darn := x } : Dev).vault = d.vault := rfl
@[simp] theorem Dev.withCal_vault (d : Dev) (x : CalSt) : ({ d with cal := x } : Dev).vault = d.vault := rfl
@[simp] theorem Dev.withCore_vault (d : Dev) (x : CoreSt) : ({ d with core := x } : Dev).vault = d.vault := rfl
@[simp] theorem Dev.withConfig_vault (d : Dev) (x : ConfigSt) : ({ d with config := x } : Dev).vault = d.vault := rfl
@[simp] theorem Dev.withCoreTr_vault (d : Dev) (x : CoreSt) (y : TransportSt) :
    ({ d with core := x, tr := y } : Dev).vault = d.vault := rfl
@[simp] theorem Dev.withCoreConfigTr_vault (d : Dev) (x : CoreSt) (y : ConfigSt) (z : TransportSt) :
    ({ d with core := x, config := y, tr := z } : Dev).vault = d.vault := rfl
@[simp] theorem Dev.withConfigCore_vault (d : Dev) (x : ConfigSt) (y : CoreSt) :
    ({ d with config := x, core := y } : Dev).vault = d.vault := rfl
@[simp] theorem Dev.log_vault (d : Dev) (reason inst detail : Nat) : (d.log reason inst detail).vault = d.vault :=
  (d.log_reported reason inst detail).vault
@[simp] theorem Dev.notify_vault (d : Dev) (reason inst : Nat) : (d.notify reason inst).vault = d.vault :=
  (d.notify_reported reason inst).vault
@[simp] theorem Dev.emcy_vault (d : Dev) (code reason inst : Nat) : (d.emcy code reason inst).vault = d.vault :=
  (d.emcy_reported code reason inst).vault

/-! ### Permits (R507) -/

/-- The device but for what permits move: registers, the safety state and the SAFE balls. -/
def Dev.besidePermits (d : Dev) : Dev := { d with regs := [], safety := {}, safeBalls := [] }

@[simp] theorem Dev.count_besidePermits (d : Dev) (i j width n : Nat) :
    (d.count i j width n).besidePermits = d.besidePermits := rfl
@[simp] theorem Dev.withSafety_besidePermits (d : Dev) (x : SafetySt) :
    ({ d with safety := x } : Dev).besidePermits = d.besidePermits := rfl
@[simp] theorem Dev.setBall_besidePermits (d : Dev) (k : Nat) (x : SafeBall) :
    (d.setBall k x).besidePermits = d.besidePermits := rfl

@[simp] theorem Dev.dropBalls_besidePermits (d : Dev) (f : Nat) : (d.dropBalls f).besidePermits = d.besidePermits := by
  simp [Dev.dropBalls]

theorem Dev.withdraw_besidePermits (d : Dev) (f : Nat) : (d.withdraw f).besidePermits = d.besidePermits := by
  unfold Dev.withdraw
  split
  · dsimp only
    split <;> simp
  · rfl

theorem Dev.updatePermits_besidePermits (d : Dev) : d.updatePermits.besidePermits = d.besidePermits := by
  unfold Dev.updatePermits
  refine forEach_keeps Dev.besidePermits (fun f e => ?_) 4 d
  split
  · exact e.withdraw_besidePermits f
  · split
    · rfl
    · exact e.withdraw_besidePermits f

@[simp] theorem Dev.updatePermits_core (d : Dev) : d.updatePermits.core = d.core :=
  (congrArg Dev.core d.updatePermits_besidePermits :)

@[simp] theorem Dev.updatePermits_nv (d : Dev) : d.updatePermits.nv = d.nv :=
  (congrArg Dev.nv d.updatePermits_besidePermits :)

@[simp] theorem Dev.updatePermits_vault (d : Dev) : d.updatePermits.vault = d.vault :=
  (congrArg Dev.vault d.updatePermits_besidePermits :)

/-- Withdrawals count in register 5 of the functions, from 0x3A10 on. -/
theorem Dev.withdraw_rd (d : Dev) (f : Nat) {i j : Nat} (hi : i < 0x3A10) (hj : j < 256) :
    (d.withdraw f).rd i j = d.rd i j := by
  have key : objKey (0x3A10 + f) 5 ≠ objKey i j := by unfold objKey; omega
  unfold Dev.withdraw
  split
  · dsimp only
    split
    · exact Dev.rd_wr_other _ _ key
    · rfl
  · rfl

/-- Permits leave the registers below those of the safety functions. -/
theorem Dev.updatePermits_rd (d : Dev) {i j : Nat} (hi : i < 0x3A10) (hj : j < 256) : d.updatePermits.rd i j = d.rd i j := by
  unfold Dev.updatePermits
  refine forEach_keeps (fun e => e.rd i j) (fun f e => ?_) 4 d
  split
  · exact e.withdraw_rd f hi hj
  · split
    · rfl
    · exact e.withdraw_rd f hi hj

/-! ### Work that ends (R199, R245, R447, R499) -/

@[simp] theorem Dev.cutNeedles_vault (d : Dev) (g : Nat) : (d.cutNeedles g).vault = d.vault := by
  unfold Dev.cutNeedles
  refine forEach_keeps Dev.vault (fun i e => ?_) 8 d
  rfl

theorem Dev.pushed_vault (d : Dev) (h : Nat) (r : HalfSt × Bool) : (d.pushed h r).vault = d.vault := by
  unfold Dev.pushed
  dsimp only
  split
  · rfl
  · split
    · rfl
    · exact Dev.notify_vault _ _ _

theorem Dev.closeEntry_vault (d : Dev) (c : Nat) : (d.closeEntry c).vault = d.vault := by
  unfold Dev.closeEntry
  dsimp only
  split
  · rfl
  · exact Dev.pushed_vault _ _ _

theorem Dev.cutRun_vault (d : Dev) (g reason : Nat) (closes : Bool) : (d.cutRun g reason closes).vault = d.vault := by
  unfold Dev.cutRun
  dsimp only
  split
  · rfl
  · rfl
  · split
    · rw [forEach_keeps Dev.vault (fun i e => e.closeEntry_vault (8 * g + i))]
      simp
    · simp

theorem Dev.endRuns_vault (d : Dev) : d.endRuns.vault = d.vault := by
  unfold Dev.endRuns
  exact forEach_keeps Dev.vault (fun g e => e.cutRun_vault g 0x0B22 true) 12 d

theorem Dev.emitLevels_vault {α : Type} (level : α → Output) (l : List α) (d : Dev) :
    (l.foldl (fun e p => e.emit (level p)) d).vault = d.vault := by
  induction l generalizing d with
  | nil => rfl
  | cons p l ih => exact ih _

theorem Dev.calLevels_vault (d : Dev) (q : CalReq) (whole : Bool) : (d.calLevels q whole).vault = d.vault := by
  unfold Dev.calLevels
  split
  · rfl
  · dsimp only
    rw [forEach_keeps Dev.vault]
    · exact d.free_vault
    · intro c e
      split
      · exact Dev.emitLevels_vault _ _ e
      · rfl

theorem Dev.calEnd_vault (d : Dev) (q : CalReq) (whole : Bool) : (d.calEnd q whole).vault = d.vault := by
  unfold Dev.calEnd
  dsimp only
  rw [forEach_keeps Dev.vault]
  · rw [Dev.withCal_vault, Dev.calLevels_vault]
  · intro c e
    split <;> rfl

theorem Dev.calAbort_vault (d : Dev) : d.calAbort.vault = d.vault := by
  unfold Dev.calAbort
  split
  · rfl
  · next q _ =>
    rw [Dev.complete_vault, forEach_keeps Dev.vault]
    · exact d.calEnd_vault q false
    · intro g e
      split
      · exact e.log_vault _ _ _
      · rfl

theorem Dev.writeback_vault (d : Dev) (c status : Nat) : (d.writeback c status).vault = d.vault := by
  unfold Dev.writeback
  dsimp only
  split <;> simp

theorem Dev.spoolEvent_vault (d : Dev) (c result reason info : Nat) (addr : Word) :
    (d.spoolEvent c result reason info addr).vault = d.vault := by
  simp [Dev.spoolEvent]

theorem Dev.abortEnd_vault (d : Dev) (c result : Nat) : (d.abortEnd c result).vault = d.vault := by
  have written (p : Prop) [Decidable p] (status : Nat) :
      (if p then d else (d.writeback c status).emit (.msix c)).vault = d.vault := by
    split
    · rfl
    · rw [Dev.emit_vault, Dev.writeback_vault]
  unfold Dev.abortEnd
  dsimp only
  rw [Dev.spoolEvent_vault, Dev.free_vault]
  split
  · rw [Dev.log_vault, Dev.setChan_vault, written]
  · rw [Dev.setChan_vault, written]

theorem Dev.spoolStop_vault (d : Dev) : d.spoolStop.vault = d.vault := by
  unfold Dev.spoolStop
  refine forEach_keeps Dev.vault (fun c e => ?_) 16 d
  split
  · exact e.abortEnd_vault c 4
  · rfl

theorem Dev.endWork_vault (d : Dev) : d.endWork.vault = d.vault := by
  unfold Dev.endWork Dev.endTests
  rw [Dev.withDarn_vault, Dev.spoolStop_vault, Dev.calAbort_vault, Dev.endRuns_vault]

theorem Dev.markStopped_vault (d : Dev) (p : Nat → Bool) : (d.markStopped p).vault = d.vault := by
  unfold Dev.markStopped
  refine forEach_keeps Dev.vault (fun h e => ?_) 216 d
  split <;> rfl

theorem Dev.followGroup_vault (d : Dev) (g : Nat) : (d.followGroup g).vault = d.vault := by
  unfold Dev.followGroup
  refine forEach_keeps Dev.vault (fun b e => ?_) 4 d
  dsimp only
  split
  · exact Dev.markStopped_vault _ _
  · rfl

theorem Dev.dropOutputs_vault (d : Dev) : d.dropOutputs.vault = d.vault := by
  unfold Dev.dropOutputs
  dsimp only
  rw [forEach_keeps Dev.vault (fun g e => e.followGroup_vault g), Dev.withCoreTr_vault, Dev.markStopped_vault]

/-! ### A change of state (R30, R557) -/

/-- The device at the moment a state change is logged: the new state, its reason and its time in place. -/
def Dev.shifted (d : Dev) (new : DevState) (reason : Nat) : Dev :=
  ((({ d with core := { d.core with state := new } } : Dev).complete 0x2000 1 15 none).wrN 0x2000 3 reason).wrN 0x2000 4 d.core.time

theorem Dev.changeState_eq (d : Dev) (new : DevState) (reason inst : Nat) :
    d.changeState new reason inst = (d.shifted new reason).log reason inst (d.core.state.code * 256 + new.code) := rfl

theorem Dev.shifted_vault (d : Dev) (new : DevState) (reason : Nat) : (d.shifted new reason).vault = d.vault := by
  simp [Dev.shifted]

theorem Dev.changeState_vault (d : Dev) (new : DevState) (reason inst : Nat) :
    (d.changeState new reason inst).vault = d.vault := by
  rw [Dev.changeState_eq, Dev.log_vault, Dev.shifted_vault]

theorem Dev.changeState_state (d : Dev) (new : DevState) (reason inst : Nat) :
    (d.changeState new reason inst).core.state = new := by
  rw [Dev.changeState_eq, (Dev.log_reported _ _ _ _).core]
  rfl

theorem Dev.changeState_reason (d : Dev) (new : DevState) (reason inst : Nat) :
    (d.changeState new reason inst).rd 0x2000 3 = word reason := by
  rw [Dev.changeState_eq, (Dev.log_reported _ _ _ _).regs 0x2000 3 (by decide) (by decide)]
  exact (Dev.rd_wr_other _ _ (by decide)).trans (Dev.rd_wr_same _ _ _ _)

/-! ### Entry to SAFE (R30, R36, R511) -/

/-- A full load in progress ends with the entry to SAFE, and CONFIG_STATUS shows none. -/
def Dev.dropFullLoad (d : Dev) : Dev :=
  match d.config.load with
  | some l =>
    if l.header.kind = 1 then
      let d := { d with config := { d.config with load := none, slotLoad := none } }
      let d := (d.setFlag 0x2100 1 15 false).setFlag 0x2100 1 13 false
      d.wr 0x2100 1 (setBits (d.rd 0x2100 1) 7 0 0)
    else d
  | none => d

theorem Dev.dropFullLoad_vault (d : Dev) : d.dropFullLoad.vault = d.vault := by
  unfold Dev.dropFullLoad
  split
  · split
    · simp
    · rfl
  · rfl

/-- The device as it stands ready for its change into SAFE. -/
def Dev.readyForSafe (d : Dev) (reason : Nat) : Dev :=
  let d := d.endWork.dropOutputs.dropFullLoad.setFlag 0x2100 1 12 false
  let d := { d with core := { d.core with foldPending := false, gatesOpen := false, steps := none }
                    config := { d.config with cfgDone := false }
                    tr := { d.tr with tap := { d.tr.tap with driving := false } } }
  if dangerous reason then d.count 0x3A00 5 32 1 else d

theorem Dev.readyForSafe_vault (d : Dev) (reason : Nat) : (d.readyForSafe reason).vault = d.vault := by
  have ended : (d.endWork.dropOutputs.dropFullLoad.setFlag 0x2100 1 12 false).vault = d.vault := by
    rw [Dev.setFlag_vault, Dev.dropFullLoad_vault, Dev.dropOutputs_vault, Dev.endWork_vault]
  unfold Dev.readyForSafe
  dsimp only
  split
  · rw [Dev.count_vault, Dev.withCoreConfigTr_vault, ended]
  · rw [Dev.withCoreConfigTr_vault, ended]

/-- In a state that a trip can leave, entry to SAFE is the change of state and what follows from it: STATE_STATUS and the thermal
status, the permits and the EMCY. -/
theorem Dev.enterSafe_of_canTrip {d : Dev} (h : d.canTrip = true) (reason inst : Nat) :
    d.enterSafe reason inst =
      (((((d.readyForSafe reason).changeState .safe reason inst).wrN 0x2000 5
        (((d.readyForSafe reason).changeState .safe reason inst).seqOf 0x2000 1)).setFlag
        0x2030 1 13 (reason == 0x0902)).updatePermits).emcy (0xFF00 + reason / 256) reason inst := by
  unfold Dev.canTrip at h
  unfold Dev.enterSafe
  split
  · rfl
  · rfl
  · rfl
  · rfl
  · simp_all

/-- In every other state it changes nothing. -/
theorem Dev.enterSafe_of_not_canTrip {d : Dev} (h : d.canTrip = false) (reason inst : Nat) : d.enterSafe reason inst = d := by
  unfold Dev.canTrip at h
  unfold Dev.enterSafe
  split
  · simp_all
  · simp_all
  · simp_all
  · simp_all
  · rfl

theorem Dev.enterSafe_vault (d : Dev) (reason inst : Nat) : (d.enterSafe reason inst).vault = d.vault := by
  cases h : d.canTrip
  · rw [Dev.enterSafe_of_not_canTrip h]
  · rw [Dev.enterSafe_of_canTrip h, Dev.emcy_vault, Dev.updatePermits_vault, Dev.setFlag_vault, Dev.wrN_vault,
      Dev.changeState_vault, Dev.readyForSafe_vault]

theorem Dev.enterSafe_state {d : Dev} (h : d.canTrip = true) (reason inst : Nat) :
    (d.enterSafe reason inst).core.state = .safe := by
  rw [Dev.enterSafe_of_canTrip h, Dev.emcy_core, Dev.updatePermits_core]
  exact Dev.changeState_state _ _ _ _

theorem Dev.enterSafe_reason {d : Dev} (h : d.canTrip = true) (reason inst : Nat) :
    (d.enterSafe reason inst).rd 0x2000 3 = word reason := by
  rw [Dev.enterSafe_of_canTrip h, (Dev.emcy_reported _ _ _ _).regs 0x2000 3 (by decide) (by decide),
    Dev.updatePermits_rd _ (by decide) (by decide), Dev.setFlag_eq, Dev.rd_wr_other _ _ (by decide), Dev.wrN,
    Dev.rd_wr_other _ _ (by decide), Dev.changeState_reason]

/-- With VAUX up the entry to SAFE stands in the log as an event of its cause (R402). -/
theorem Dev.enterSafe_mem {d : Dev} (h : d.canTrip = true) (hv : d.vaux = true) (reason inst : Nat) :
    ∃ e ∈ (d.enterSafe reason inst).nv.log, e.reason = reason ∧ e.inst = inst := by
  have up : ((d.readyForSafe reason).shifted .safe reason).vaux = true :=
    (Dev.vaux_of_vault ((Dev.shifted_vault _ _ _).trans (d.readyForSafe_vault reason))).trans hv
  have runs : ((d.readyForSafe reason).shifted .safe reason).thimble = true := by
    unfold Dev.thimble
    rw [up]
    rfl
  obtain ⟨e, he, hr, hi, -⟩ := Dev.log_mem runs reason inst ((d.readyForSafe reason).core.state.code * 256 + DevState.safe.code)
  rw [Dev.enterSafe_of_canTrip h, Dev.emcy_nv, Dev.updatePermits_nv]
  exact ⟨e, he, hr, hi⟩

/-! ### Sessions that end without an entry in the log (R372) -/

/-- The device but for its security state. -/
def Dev.besideSec (d : Dev) : Dev := { d with sec := {} }

theorem Dev.endSession_silent (d : Dev) (t : Nat) :
    (d.endSession t false = d ∧ (d.session t).role = none) ∨
      d.endSession t false = d.setSession t { d.session t with role := none } := by
  unfold Dev.endSession
  dsimp only
  split
  · next h => exact .inl ⟨rfl, h⟩
  · exact .inr rfl

theorem Dev.endSession_besideSec (d : Dev) (t : Nat) : (d.endSession t false).besideSec = d.besideSec := by
  rcases d.endSession_silent t with ⟨h, -⟩ | h
  · rw [h]
  · rw [h]
    rfl

theorem Dev.endSessions_besideSec (d : Dev) : d.endSessions.besideSec = d.besideSec := by
  unfold Dev.endSessions
  exact forEach_keeps Dev.besideSec (fun t e => e.endSession_besideSec t) 3 d

@[simp] theorem Dev.endSessions_core (d : Dev) : d.endSessions.core = d.core :=
  (congrArg Dev.core d.endSessions_besideSec :)

@[simp] theorem Dev.endSessions_env (d : Dev) : d.endSessions.env = d.env :=
  (congrArg Dev.env d.endSessions_besideSec :)

@[simp] theorem Dev.endSessions_nv (d : Dev) : d.endSessions.nv = d.nv :=
  (congrArg Dev.nv d.endSessions_besideSec :)

@[simp] theorem Dev.endSessions_rd (d : Dev) (i j : Nat) : d.endSessions.rd i j = d.rd i j :=
  (congrArg (fun e : Dev => e.rd i j) d.endSessions_besideSec :)

@[simp] theorem Dev.endSessions_thimble (d : Dev) : d.endSessions.thimble = d.thimble :=
  (congrArg Dev.thimble d.endSessions_besideSec :)

theorem Dev.endSession_role_same (d : Dev) (t : Nat) : ((d.endSession t false).session t).role = none := by
  rcases d.endSession_silent t with ⟨h, hr⟩ | h
  · rw [h, hr]
  · rw [h, Dev.session_setSession_same]

theorem Dev.endSession_role_kept (d : Dev) (t p : Nat) (hp : (d.session p).role = none) :
    ((d.endSession t false).session p).role = none := by
  rcases d.endSession_silent t with ⟨h, -⟩ | h
  · rw [h, hp]
  · rw [h]
    by_cases ht : t = p
    · subst ht
      rw [Dev.session_setSession_same]
    · rw [Dev.session_setSession_other _ _ _ _ ht, hp]

/-- Every session has ended. -/
theorem Dev.endSessions_role (d : Dev) {p : Nat} (hp : p < 3) : (d.endSessions.session p).role = none := by
  unfold Dev.endSessions
  exact forEach_reaches (P := fun p e => (e.session p).role = none) (fun t e => e.endSession_role_same t)
    (fun t p e => e.endSession_role_kept t p) hp d

/-! ### Loads given up (R336, R342) -/

theorem Dev.discardPartial_core (d : Dev) : d.discardPartial.core = d.core := by
  unfold Dev.discardPartial
  split
  · split
    · rfl
    · dsimp only
      rw [(Dev.log_reported _ _ _ _).core]
      rfl
  · rfl

theorem Dev.discardPartial_vault (d : Dev) : d.discardPartial.vault = d.vault := by
  unfold Dev.discardPartial
  split
  · split
    · rfl
    · simp
  · rfl

theorem Dev.skipRest_core (d : Dev) (src : LoadSource) (n : Nat) : (d.skipRest src n).core = d.core := by
  cases src <;> rfl

theorem Dev.skipRest_vault (d : Dev) (src : LoadSource) (n : Nat) : (d.skipRest src n).vault = d.vault := by
  cases src <;> rfl

theorem Dev.holdLoad_vault (d : Dev) (l : LoadSt) (code : Nat) (addr : Option Nat) :
    (d.holdLoad l code addr).vault = d.vault := by
  simp [Dev.holdLoad]

theorem Dev.dropPartial_core (d : Dev) (code : Nat) (addr : Option Nat) : (d.dropPartial code addr).core = d.core := by
  unfold Dev.dropPartial
  dsimp only
  split
  · rw [(Dev.log_reported _ _ _ _).core]
    rfl
  · rfl

theorem Dev.dropPartial_vault (d : Dev) (code : Nat) (addr : Option Nat) : (d.dropPartial code addr).vault = d.vault := by
  unfold Dev.dropPartial
  dsimp only
  split <;> simp

/-- A load that fails without an entry of its own in the log leaves the state and the vault. -/
theorem Dev.failLoad_tableless (d : Dev) (l : LoadSt) (code : Nat) :
    (d.failLoad l { code := code }).core.state = d.core.state ∧ (d.failLoad l { code := code }).vault = d.vault := by
  unfold Dev.failLoad
  dsimp only
  rw [Dev.skipRest_core, Dev.skipRest_vault]
  split
  · exact ⟨rfl, d.holdLoad_vault _ _ _⟩
  · exact ⟨by rw [Dev.dropPartial_core], d.dropPartial_vault _ _⟩

end Sys2Proof.Machine
end

section
/-! SUPPORT. What a tamper event, a transition of the life cycle, TAMPER_CONFIG and the loss of the battery store do (R375 to R383). -/

namespace Sys2Proof.Machine

/-! ### Tamper (R382, R383) -/

/-- Staged images and loads that need a battery key given up: the device on its way to the entry of a tamper event. -/
def Dev.dropTampered (d : Dev) : Dev :=
  let d := if d.config.staged.any (fun i => batterySlot i.header.keySlot) then d.discardPartial else d
  match d.loading with
  | some l => if batterySlot l.header.keySlot then d.failLoad l { code := 0x0240 } else d
  | none => d

theorem Dev.dropTampered_keeps (d : Dev) : d.dropTampered.core.state = d.core.state ∧ d.dropTampered.vault = d.vault := by
  have staged (p : Prop) [Decidable p] : (if p then d.discardPartial else d).core.state = d.core.state ∧
      (if p then d.discardPartial else d).vault = d.vault := by
    split
    · exact ⟨by rw [Dev.discardPartial_core], d.discardPartial_vault⟩
    · exact ⟨rfl, rfl⟩
  unfold Dev.dropTampered
  dsimp only
  split
  · next l _ =>
    split
    · rw [(Dev.failLoad_tableless _ l 0x0240).1, (Dev.failLoad_tableless _ l 0x0240).2]
      exact staged _
    · exact staged _
  · exact staged _

/-- The device with a powered tamper event logged: sessions ended, and what needs a battery key given up. -/
def Dev.tamperLogged (d : Dev) : Dev := d.endSessions.dropTampered.log 0x0240 0x2230 0

theorem Dev.tamperLogged_state (d : Dev) : d.tamperLogged.core.state = d.core.state := by
  unfold Dev.tamperLogged
  rw [(Dev.log_reported _ _ _ _).core, d.endSessions.dropTampered_keeps.1, Dev.endSessions_core]

theorem Dev.tamperLogged_vault (d : Dev) : d.tamperLogged.vault = d.endSessions.vault := by
  unfold Dev.tamperLogged
  rw [Dev.log_vault, d.endSessions.dropTampered_keeps.2]

theorem Dev.tamperLogged_canTrip (d : Dev) : d.tamperLogged.canTrip = d.canTrip := by
  unfold Dev.canTrip
  rw [Dev.tamperLogged_state]

theorem Dev.tamperLogged_mem {d : Dev} (h : d.thimble = true) :
    ∃ e ∈ d.tamperLogged.nv.log, e.reason = 0x0240 ∧ e.inst = 0x2230 := by
  have runs : d.endSessions.dropTampered.thimble = true := by
    obtain ⟨hs, hv⟩ := d.endSessions.dropTampered_keeps
    rw [Dev.thimble_of_vault hv hs, Dev.endSessions_thimble, h]
  obtain ⟨e, he, hr, hi, -⟩ := Dev.log_mem runs 0x0240 0x2230 0
  exact ⟨e, he, hr, hi⟩

/-- The vault of a device whose sessions have ended holds the same wardrobe and battery store. -/
theorem Dev.endSessions_vault_nv (d : Dev) : d.endSessions.vault.nv = d.vault.nv := by
  unfold Dev.vault
  rw [Dev.endSessions_nv]

/-- SAFE_ON_TAMPER decides what a powered tamper event leads to. -/
theorem Dev.tamperPowered_eq (d : Dev) :
    d.tamperPowered =
      if bit (word d.nv.tamperConfig) 7 then d.tamperLogged.enterSafe 0x0240 0x2230 else d.tamperLogged := by
  have config : d.tamperLogged.nv.tamperConfig = d.nv.tamperConfig :=
    (congrArg Nv.tamperConfig ((congrArg Vault.nv d.tamperLogged_vault).trans d.endSessions_vault_nv) :)
  rw [← config]
  rfl

theorem Dev.tamperPowered_vault (d : Dev) : d.tamperPowered.vault = d.endSessions.vault := by
  rw [Dev.tamperPowered_eq, ← Dev.tamperLogged_vault]
  split
  · exact Dev.enterSafe_vault _ _ _
  · rfl

theorem Dev.tamperPowered_role (d : Dev) {p : Nat} (hp : p < 3) : (d.tamperPowered.session p).role = none := by
  rw [Dev.session_of_vault d.tamperPowered_vault, d.endSessions_role hp]

theorem Dev.tamperPowered_state {d : Dev} (h : bit (word d.nv.tamperConfig) 7 = false) :
    d.tamperPowered.core.state = d.core.state := by
  rw [Dev.tamperPowered_eq, h]
  exact d.tamperLogged_state

theorem Dev.tamperPowered_safe {d : Dev} (h : bit (word d.nv.tamperConfig) 7 = true) (ht : d.canTrip = true) :
    d.tamperPowered.core.state = .safe ∧ d.tamperPowered.rdN 0x2000 3 = 0x0240 := by
  rw [← d.tamperLogged_canTrip] at ht
  rw [Dev.tamperPowered_eq, if_pos h]
  refine ⟨Dev.enterSafe_state ht _ _, ?_⟩
  rw [Dev.rdN, Dev.enterSafe_reason ht, toNat_word (by decide)]

/-- The event stays in the log: where the device enters SAFE, as the entry of that change of state. -/
theorem Dev.tamperPowered_mem {d : Dev} (h : d.thimble = true) :
    ∃ e ∈ d.tamperPowered.nv.log, e.reason = 0x0240 ∧ e.inst = 0x2230 := by
  rw [Dev.tamperPowered_eq]
  split
  · cases ht : d.tamperLogged.canTrip
    · rw [Dev.enterSafe_of_not_canTrip ht]
      exact Dev.tamperLogged_mem h
    · have up : d.tamperLogged.vaux = true := by
        have runs : d.tamperLogged.thimble = true := by
          rw [← h, ← d.endSessions_thimble]
          exact Dev.thimble_of_vault d.tamperLogged_vault (by rw [Dev.tamperLogged_state, Dev.endSessions_core])
        unfold Dev.thimble at runs
        exact (Bool.and_eq_true_iff.1 runs).1
      exact Dev.enterSafe_mem ht up _ _
  · exact Dev.tamperLogged_mem h

/-- The battery store and the tamper monitor after an event at input n: keys zeroised, the event counted and marked; without the
Thimble its entry waits. -/
def Nv.tamperMarked (v : Nv) (n : Nat) (thimble : Bool) : Nv :=
  { v with
    batteryKeys := [], tamperCount := (v.tamperCount + 1) % 2 ^ 32
    tamperMask := if v.tampered then v.tamperMask ||| 2 ^ n else 2 ^ n, tampered := true, tamperUnacked := true
    tamperSeq := nextSeq v.tamperSeq, tamperLate := if thimble then v.tamperLate else v.tamperLate ++ [n] }

theorem Nv.tamperMarked_mask (v : Nv) (n : Nat) (thimble : Bool) : (v.tamperMarked n thimble).tamperMask.testBit n = true := by
  unfold Nv.tamperMarked
  dsimp only
  split <;> simp

/-- The device with an event at input n marked. -/
def Dev.tamperMarked (d : Dev) (n : Nat) : Dev := { d with nv := d.nv.tamperMarked n d.thimble }

/-- What a tamper event at input n leaves. -/
def Dev.tampered (d : Dev) (n : Nat) : Dev :=
  if d.thimble then (d.tamperMarked n).tamperPowered else d.tamperMarked n

theorem Dev.tampered_vault_nv (d : Dev) (n : Nat) : (d.tampered n).vault.nv = (d.tamperMarked n).vault.nv := by
  unfold Dev.tampered
  split
  · rw [Dev.tamperPowered_vault, Dev.endSessions_vault_nv]
  · rfl

theorem Dev.tampered_mask (d : Dev) (n : Nat) : (d.tampered n).nv.tamperMask.testBit n = true :=
  (congrArg (fun v : Nv => v.tamperMask.testBit n) (d.tampered_vault_nv n)).trans (d.nv.tamperMarked_mask n d.thimble)

/-! Without the Thimble the event only marks; its entry in the log waits (R382). -/

section
variable {d : Dev} (h : d.thimble = false) (n : Nat)
include h

theorem Dev.tampered_of_stopped : d.tampered n = d.tamperMarked n := by
  unfold Dev.tampered
  rw [h]
  rfl

theorem Dev.tampered_core : (d.tampered n).core = d.core := by
  rw [Dev.tampered_of_stopped h]
  rfl

theorem Dev.tampered_late : (d.tampered n).nv.tamperLate = d.nv.tamperLate ++ [n] := by
  rw [Dev.tampered_of_stopped h]
  simp [Dev.tamperMarked, Nv.tamperMarked, h]

end

/-! With it, the event ends sessions, is logged, and may lead to SAFE (R382). -/

section
variable {d : Dev} (h : d.thimble = true) {n : Nat}
include h

theorem Dev.tampered_of_running : d.tampered n = (d.tamperMarked n).tamperPowered := if_pos h

theorem Dev.tampered_role {p : Nat} (hp : p < 3) : ((d.tampered n).session p).role = none := by
  rw [Dev.tampered_of_running h]
  exact Dev.tamperPowered_role _ hp

theorem Dev.tampered_mem : ∃ e ∈ (d.tampered n).nv.log, e.reason = 0x0240 ∧ e.inst = 0x2230 := by
  rw [Dev.tampered_of_running h]
  exact Dev.tamperPowered_mem h

theorem Dev.tampered_state (hc : bit (word d.nv.tamperConfig) 7 = false) : (d.tampered n).core.state = d.core.state := by
  rw [Dev.tampered_of_running h]
  exact Dev.tamperPowered_state hc

theorem Dev.tampered_safe (hc : bit (word d.nv.tamperConfig) 7 = true) (ht : d.canTrip = true) :
    (d.tampered n).core.state = .safe ∧ (d.tampered n).rdN 0x2000 3 = 0x0240 := by
  rw [Dev.tampered_of_running h]
  exact Dev.tamperPowered_safe hc ht

end

/-- A tamper input that is not enabled does nothing (R383), nor does any on an A variant (R3). -/
theorem execTamperEvent_disabled {n : Fin 2} {s : State}
    (h : s.fuses.variantS = false ∨ bit (word s.dev.nv.tamperConfig) n.val = false) : execTamperEvent n s = .next s := by
  unfold execTamperEvent
  rcases h with h | h
  · rw [h]
    rfl
  · split
    · rfl
    · rw [onDev_next, h]
      rfl

/-- An enabled one acts in every state that VBAT or VAUX supplies (R382). -/
theorem execTamperEvent_enabled {n : Fin 2} {s : State} (hs : s.fuses.variantS = true)
    (hn : bit (word s.dev.nv.tamperConfig) n.val = true) (hp : s.dev.env.vbat = true ∨ s.dev.vaux = true) :
    execTamperEvent n s = .next { s with dev := s.dev.tampered n.val } := by
  have supplied : (s.dev.env.vbat || s.dev.vaux) = true := Bool.or_eq_true_iff.2 hp
  unfold execTamperEvent
  rw [hs, onDev_next, hn, supplied]
  rfl

/-! ### Life cycle (R376, R377) -/

/-- A transition is asked for in UNCONFIGURED, with the low bits of the device's number. -/
theorem actLcRequest_allowed {f : Fuses} {w : Wr} {d : Dev} (h : (actLcRequest f).allow d w = 0) :
    d.core.state = .unconfigured ∧ bits (objLcRequest.valueOf w) 23 0 = f.uid % 2 ^ 24 := by
  unfold actLcRequest at h
  dsimp only at h
  split at h
  · exact absurd h (by decide)
  · split at h
    · exact absurd h (by decide)
    · split at h
      · exact absurd h (by decide)
      · split at h
        · exact absurd h (by decide)
        · split at h
          · exact absurd h (by decide)
          · simp_all

/-- An accepted LC_REQUEST blows the begin fuse of its target and shows LC_STATE bit 7 (R376). -/
theorem execLcRequest_accepted {w : Wr} {s : State} (h : Accepted objLcRequest (actLcRequest s.fuses) w s.dev) :
    execLcRequest w s = .next { s with
      fuses := { s.fuses with lcBegin := some (bits (objLcRequest.valueOf w) 31 24) }
      dev := (s.dev.wrN 0x2200 3 0).setFlag 0x2200 1 7 true } :=
  congrArg Host.Outcome.next (fuseWrite_accepted blowLcBegin 0x2200 2 h)

/-- The registers of an accepted LC_REQUEST: LC_REASON and LC_STATE alone move. -/
theorem lcRequest_regs (d : Dev) :
    RegsKept (regsOf 0x2200 [1, 3]) d ((d.wrN 0x2200 3 0).setFlag 0x2200 1 7 true) ∧
      bit (((d.wrN 0x2200 3 0).setFlag 0x2200 1 7 true).rd 0x2200 1) 7 = true ∧
      ((d.wrN 0x2200 3 0).setFlag 0x2200 1 7 true).rd 0x2200 3 = word 0 := by
  refine ⟨?_, ?_, ?_⟩
  · refine (d.wr_regsKept 0x2200 3 (word 0) (by decide)).trans (Dev.wr_regsKept _ 0x2200 1 _ (by decide)) ?_ ?_ <;>
      simp +contextual [regsOf]
  · rw [Dev.setFlag_eq, Dev.rd_wr_same, bit_setBit_same _ _ (by decide)]
  · rw [Dev.setFlag_eq, Dev.rd_wr_other _ _ (by decide)]
    exact Dev.rd_wr_same _ _ _ _

/-- The device but for the image slots. -/
def Dev.besideSlots (d : Dev) : Dev := { d with nv := { d.nv with slots := [] } }

theorem Dev.markSlots_besideSlots (d : Dev) (p : Header → Bool) (state : Nat) :
    (d.markSlots p state).besideSlots = d.besideSlots := by
  unfold Dev.markSlots
  refine forEach_keeps Dev.besideSlots (fun n e => ?_) 10 d
  dsimp only
  split <;> rfl

/-- The image slots emptied. -/
def Dev.emptySlots (d : Dev) : Dev := forEach 10 (fun n e => e.emptySlot n) d

theorem Dev.emptySlots_besideSlots (d : Dev) : d.emptySlots.besideSlots = d.besideSlots := by
  unfold Dev.emptySlots
  refine forEach_keeps Dev.besideSlots (fun n e => ?_) 10 d
  rfl

theorem Dev.emptySlots_slot (d : Dev) {k : Nat} (hk : k < 10) : (d.emptySlots.slot k).state = 0 ∧ (d.emptySlots.slot k).data = [] := by
  unfold Dev.emptySlots
  refine forEach_reaches (P := fun k e => (e.slot k).state = 0 ∧ (e.slot k).data = []) (fun k e => ?_) (fun i k e h => ?_) hk d
  · unfold Dev.emptySlot
    rw [Dev.slot_setSlot_same]
    exact ⟨rfl, rfl⟩
  · unfold Dev.emptySlot
    by_cases hi : i = k
    · subst hi
      rw [Dev.slot_setSlot_same]
      exact ⟨rfl, rfl⟩
    · rw [Dev.slot_setSlot_other _ _ _ _ hi]
      exact h

/-- The device with what RETURNED and SCRAPPED destroy of its keys and its recovery copy gone. -/
def Dev.keysGone (d : Dev) : Dev := { d with nv := { d.nv with batteryKeys := [], integratorKeys := [], recovery := [] } }

theorem Dev.lcEffects_of_end {n : Nat} (d : Dev) (hn : n = 5 ∨ n = 6) :
    d.lcEffects n = d.keysGone.emptySlots.wrN 0x2120 6 0 := by
  rcases hn with rfl | rfl <;> rfl

/-- Short of RETURNED and SCRAPPED only image slots change. -/
theorem Dev.lcEffects_besideSlots {n : Nat} (d : Dev) (hn : ¬ (n = 5 ∨ n = 6)) : (d.lcEffects n).besideSlots = d.besideSlots := by
  unfold Dev.lcEffects
  split
  · exact d.markSlots_besideSlots _ _
  · split
    · simp_all
    · rfl

theorem Dev.lcEffects_core (d : Dev) (n : Nat) : (d.lcEffects n).core = d.core := by
  by_cases hn : n = 5 ∨ n = 6
  · rw [d.lcEffects_of_end hn]
    exact (congrArg Dev.core d.keysGone.emptySlots_besideSlots :)
  · exact (congrArg Dev.core (d.lcEffects_besideSlots hn) :)

theorem Dev.lcEffects_env (d : Dev) (n : Nat) : (d.lcEffects n).env = d.env := by
  by_cases hn : n = 5 ∨ n = 6
  · rw [d.lcEffects_of_end hn]
    exact (congrArg Dev.env d.keysGone.emptySlots_besideSlots :)
  · exact (congrArg Dev.env (d.lcEffects_besideSlots hn) :)

/-- The device after a transition to n but for its entry in the log. -/
def Dev.lcShown (d : Dev) (n : Nat) : Dev := ((d.lcEffects n).wrN 0x2200 1 n).endSessions

/-- The device after a transition to n. -/
def Dev.lcCompleted (d : Dev) (n : Nat) : Dev := (d.lcShown n).log 0x0224 0 0

/-- A transition that has begun completes wherever the Thimble runs (R376; DEDUCED, entry 41). -/
theorem execLcTransitionComplete_begun {n : Nat} {s : State} (hn : s.fuses.lcBegin = some n) (ht : s.dev.thimble = true) :
    execLcTransitionComplete s = .next { s with fuses := lcFuses s.fuses n, dev := s.dev.lcCompleted n } := by
  unfold execLcTransitionComplete
  rw [hn, ht]
  rfl

theorem Dev.lcShown_core (d : Dev) (n : Nat) : (d.lcShown n).core = d.core := by
  unfold Dev.lcShown
  rw [Dev.endSessions_core]
  exact d.lcEffects_core n

theorem Dev.lcShown_thimble (d : Dev) (n : Nat) : (d.lcShown n).thimble = d.thimble := by
  have env : (d.lcShown n).env = d.env := by
    unfold Dev.lcShown
    rw [Dev.endSessions_env]
    exact d.lcEffects_env n
  unfold Dev.thimble Dev.vaux
  rw [Dev.lcShown_core, env]

theorem Dev.lcCompleted_core (d : Dev) (n : Nat) : (d.lcCompleted n).core = d.core :=
  (Dev.log_reported _ _ _ _).core.trans (d.lcShown_core n)

theorem Dev.lcCompleted_rd (d : Dev) (n : Nat) : (d.lcCompleted n).rd 0x2200 1 = word n := by
  unfold Dev.lcCompleted Dev.lcShown
  rw [(Dev.log_reported _ _ _ _).regs 0x2200 1 (by decide) (by decide), Dev.endSessions_rd]
  exact Dev.rd_wr_same _ _ _ _

theorem Dev.lcCompleted_role (d : Dev) (n : Nat) {p : Nat} (hp : p < 3) : ((d.lcCompleted n).session p).role = none := by
  unfold Dev.lcCompleted Dev.lcShown
  rw [Dev.session_of_vault (Dev.log_vault _ _ _ _), Dev.endSessions_role _ hp]

theorem Dev.lcCompleted_mem {d : Dev} (h : d.thimble = true) (n : Nat) :
    ∃ e ∈ (d.lcCompleted n).nv.log, e.reason = 0x0224 ∧ e.time = d.core.time := by
  obtain ⟨e, he, hr, -, ht⟩ := Dev.log_mem ((d.lcShown_thimble n).trans h) 0x0224 0 0
  rw [Dev.lcShown_core] at ht
  exact ⟨e, he, hr, ht⟩

theorem Dev.lcCompleted_vault_nv (d : Dev) (n : Nat) : (d.lcCompleted n).vault.nv = (d.lcEffects n).vault.nv := by
  unfold Dev.lcCompleted Dev.lcShown
  rw [Dev.log_vault, Dev.endSessions_vault_nv]
  rfl

/-- RETURNED and SCRAPPED destroy the keys of the battery store, the integrator keys and the recovery copy (R377). -/
theorem Dev.lcCompleted_keys {n : Nat} (d : Dev) (hn : n = 5 ∨ n = 6) :
    (d.lcCompleted n).nv.batteryKeys = [] ∧ (d.lcCompleted n).nv.integratorKeys = [] ∧ (d.lcCompleted n).nv.recovery = [] := by
  have kept := d.keysGone.emptySlots_besideSlots
  have effects := d.lcCompleted_vault_nv n
  rw [d.lcEffects_of_end hn] at effects
  refine ⟨(congrArg Nv.batteryKeys effects).trans ?_, (congrArg Nv.integratorKeys effects).trans ?_,
    (congrArg Nv.recovery effects).trans ?_⟩
  · exact (congrArg (fun e : Dev => e.nv.batteryKeys) kept :)
  · exact (congrArg (fun e : Dev => e.nv.integratorKeys) kept :)
  · exact (congrArg (fun e : Dev => e.nv.recovery) kept :)

/-- They empty every image slot. -/
theorem Dev.lcCompleted_slot {n k : Nat} (d : Dev) (hn : n = 5 ∨ n = 6) (hk : k < 10) :
    ((d.lcCompleted n).slot k).state = 0 ∧ ((d.lcCompleted n).slot k).data = [] := by
  have effects : (d.lcCompleted n).slot k = (d.lcEffects n).slot k := Dev.slot_of_vault_nv (d.lcCompleted_vault_nv n) k
  rw [effects, d.lcEffects_of_end hn]
  exact d.keysGone.emptySlots_slot hk

/-- Every other transition leaves the battery store. -/
theorem Dev.lcCompleted_batteryKeys {n : Nat} (d : Dev) (hn : n ≤ 4) :
    (d.lcCompleted n).nv.batteryKeys = d.nv.batteryKeys := by
  have kept := d.lcEffects_besideSlots (n := n) (by omega)
  exact (congrArg Nv.batteryKeys (d.lcCompleted_vault_nv n)).trans (congrArg (fun e : Dev => e.nv.batteryKeys) kept :)

theorem lcFuses_of_le {n : Nat} (f : Fuses) (hn : n ≤ 4) : lcFuses f n = { f with lifecycle := n, lcBegin := none } := by
  have h5 : n ≠ 5 := by omega
  have h6 : n ≠ 6 := by omega
  simp [lcFuses, h5, h6]

theorem lcFuses_of_end {n : Nat} (f : Fuses) (hn : n = 5 ∨ n = 6) :
    (lcFuses f n).keysRevoked = 0xF ∧ (lcFuses f n).keyValues = [] ∧ (lcFuses f n).ownersRevoked = 0xF := by
  simp [lcFuses, hn]

/-! ### TAMPER_CONFIG (R383) -/

/-- A write of TAMPER_CONFIG is permitted on S variants only, and in SECURED disables no input (R383). -/
theorem actTamperConfig_allowed {f : Fuses} {w : Wr} {d : Dev} (h : (actTamperConfig f).allow d w = 0) :
    f.variantS = true ∧ (d.lc = 4 → ∀ n, n < 2 → d.nv.tamperConfig.testBit n = true →
      (objTamperConfig.num w).testBit n = true) := by
  unfold actTamperConfig at h
  dsimp only at h
  split at h
  · exact absurd h (by decide)
  · next hv =>
    split at h
    · exact absurd h (by decide)
    · next off =>
      refine ⟨by simpa using hv, fun hl n hn hb => ?_⟩
      simp only [hl, List.any_eq_true, List.mem_range, decide_true, Bool.true_and, not_exists, not_and] at off
      simpa [hb] using off n hn

/-- An accepted write of TAMPER_CONFIG is kept in the battery store (R383). -/
theorem execTamperConfigWrite_accepted {w : Wr} {s : State} (h : Accepted objTamperConfig (actTamperConfig s.fuses) w s.dev) :
    execTamperConfigWrite w s = .next { s with
      dev := { s.dev with nv := { s.dev.nv with tamperConfig := objTamperConfig.num w } } } := by
  unfold execTamperConfigWrite
  rw [onDev_next, rowWrite_accepted 0x2230 3 h]
  rfl

/-! ### Loss of the battery store (R3, R383) -/

theorem execBatteryStoreLoss_variantA {s : State} (h : s.fuses.variantS = false) : execBatteryStoreLoss s = .next s := by
  unfold execBatteryStoreLoss
  rw [h]
  rfl

theorem execBatteryStoreLoss_variantS {s : State} (h : s.fuses.variantS = true) (hv : s.dev.vaux = false) :
    execBatteryStoreLoss s = .next { s with
      dev := { s.dev with
        env := { s.dev.env with vbat := false }, nv := { s.dev.nv with batteryKeys := [], vbatLate := true } } } := by
  unfold execBatteryStoreLoss
  rw [h, onDev_next, hv]
  rfl

end Sys2Proof.Machine
end

section
/-! The statement about the life cycle, tamper and the battery store. -/

namespace Sys2Proof.Machine

/-- Settles O49: a clause for each command, from what the command is on the states the clause speaks of. -/
theorem lifeCycleAndTamper : Obligations.LifeCycleAndTamper := by
  unfold Obligations.LifeCycleAndTamper
  refine ⟨fun w s h => ?_, fun n s hn ht => ?_, fun n s => ⟨fun h => execTamperEvent_disabled h, fun hs hn hp => ?_⟩,
    fun w s h => ?_, fun s => ⟨fun hs => ?_, fun hs hv => ?_⟩⟩
  · obtain ⟨hstate, huid⟩ := actLcRequest_allowed (allow_of_writeCheck h.2)
    obtain ⟨hregs, hbit, hreason⟩ := lcRequest_regs s.dev
    exact ⟨_, execLcRequest_accepted h, rfl, rfl, rfl, hregs, hbit, hreason, hstate, huid⟩
  · refine ⟨_, execLcTransitionComplete_begun hn ht, rfl, rfl, rfl, s.dev.lcCompleted_core n, s.dev.lcCompleted_rd n,
      fun p hp => s.dev.lcCompleted_role n hp, Dev.lcCompleted_mem ht n, ?_, fun hend => ?_, fun hle => ?_⟩
    · rintro rfl
      rfl
    · obtain ⟨hkeys, hvalues, howners⟩ := lcFuses_of_end s.fuses hend
      obtain ⟨hbattery, hintegrator, hrecovery⟩ := s.dev.lcCompleted_keys hend
      exact ⟨hkeys, hvalues, howners, hbattery, hintegrator, hrecovery, fun k hk => s.dev.lcCompleted_slot hend hk⟩
    · exact ⟨lcFuses_of_le s.fuses hle, s.dev.lcCompleted_batteryKeys hle⟩
  · have kept := s.dev.tampered_vault_nv n.val
    refine ⟨_, execTamperEvent_enabled hs hn hp, ⟨rfl, rfl⟩, congrArg Nv.batteryKeys kept, congrArg Nv.tampered kept,
      congrArg Nv.tamperUnacked kept, congrArg Nv.tamperCount kept, congrArg Nv.tamperSeq kept, s.dev.tampered_mask n.val,
      fun ht => ⟨Dev.tampered_core ht _, Dev.tampered_late ht _⟩, fun ht => ?_⟩
    exact ⟨fun p hp => Dev.tampered_role ht hp, Dev.tampered_mem ht, Dev.tampered_state ht, Dev.tampered_safe ht⟩
  · obtain ⟨hvariant, hsecured⟩ := actTamperConfig_allowed (allow_of_writeCheck h.2)
    exact ⟨_, execTamperConfigWrite_accepted h, ⟨rfl, rfl⟩, rfl, hvariant, hsecured⟩
  · exact execBatteryStoreLoss_variantA hs
  · exact ⟨_, execBatteryStoreLoss_variantS hs hv, ⟨rfl, rfl⟩, rfl⟩

end Sys2Proof.Machine
end

section
/-! SUPPORT. No command faults and none touches the queue (R29, R397). -/

namespace Sys2Proof.Machine

/-- An outcome is a next state that differs from s in the fuses and the device at most. -/
def KeepsQueue (s : State) (o : Host.Outcome State Fault Refusal) : Prop :=
  ∃ f d, o = .next { s with fuses := f, dev := d }

theorem onDev_keepsQueue (f : Dev → Dev) (s : State) : KeepsQueue s (onDev f s) := ⟨_, _, rfl⟩

theorem fuseWrite_keepsQueue (o : Desc) (a : Act) (blow : Fuses → Dev → Wr → Fuses) (i j : Nat) (w : Wr) (s : State) :
    KeepsQueue s (.next (fuseWrite o a blow i j w s)) := by
  unfold fuseWrite
  split
  · exact ⟨_, _, rfl⟩
  · exact ⟨_, _, rfl⟩

/-- A write through the whole dictionary changes the fuses and the device at most. -/
theorem State.writeObj_fst (s : State) (i j : Nat) (w : Wr) :
    ∃ f d, (s.writeObj i j w).1 = { s with fuses := f, dev := d } := by
  unfold State.writeObj
  split
  · exact ⟨_, _, rfl⟩
  · dsimp only
    split
    · exact ⟨_, _, rfl⟩
    · exact ⟨_, _, rfl⟩

theorem writeObj_keepsQueue (e : Dev) (g : State × WriteEnd → Dev) (s : State) (i j : Nat) (w : Wr) :
    KeepsQueue s (.next { (State.writeObj { s with dev := e } i j w).1 with
      dev := g (State.writeObj { s with dev := e } i j w) }) := by
  obtain ⟨f, d, h⟩ := State.writeObj_fst { s with dev := e } i j w
  rw [h]
  exact ⟨_, _, rfl⟩

theorem usdoWrite_keepsQueue (e : Dev) (s : State) (i j : Nat) (l : List Byte) :
    KeepsQueue s (.next (State.usdoWrite { s with dev := e } i j l)) := by
  unfold State.usdoWrite
  split
  · split
    · exact ⟨_, _, rfl⟩
    · exact ⟨_, _, rfl⟩
  · exact writeObj_keepsQueue e (fun r => r.1.dev.usdoWritten i r.2) s i j _

theorem State.rpdoEntry_eq (s : State) (v : Word) (l : List Byte) :
    ∃ f d, s.rpdoEntry v l = { s with fuses := f, dev := d } := by
  obtain ⟨f, d, h⟩ := s.writeObj_fst (bits v 31 16) (bits v 15 8) (bytesWrite .can (bits v 31 16) (bits v 15 8) l)
  unfold State.rpdoEntry
  dsimp only
  rw [h]
  split
  · exact ⟨_, _, rfl⟩
  · exact ⟨_, _, rfl⟩

theorem State.rpdoEntries_eq (map : List Word) (l : List Byte) (s : State) :
    ∃ f d, s.rpdoEntries map l = { s with fuses := f, dev := d } := by
  induction map generalizing l s with
  | nil => exact ⟨_, _, rfl⟩
  | cons v map ih =>
    obtain ⟨f, d, h⟩ := s.rpdoEntry_eq v (l.take (mapBytes v))
    obtain ⟨f', d', h'⟩ := ih (l.drop (mapBytes v)) { s with fuses := f, dev := d }
    exact ⟨f', d', by rw [State.rpdoEntries, h, h']⟩

theorem execJtagObjectWrite_keepsQueue (idx : BitVec 16) (sub : BitVec 8) (value : BitVec 64) (s : State) :
    KeepsQueue s (execJtagObjectWrite idx sub value s) := by
  unfold execJtagObjectWrite
  dsimp only
  split
  · exact ⟨_, _, rfl⟩
  · split
    · exact ⟨_, _, rfl⟩
    · split
      · exact ⟨_, _, rfl⟩
      · split
        · exact ⟨_, _, rfl⟩
        · exact writeObj_keepsQueue _ (fun r => r.1.dev.tapDone r.2.code 0) s _ _ _

theorem execMailboxWrite_keepsQueue (idx : BitVec 16) (sub : BitVec 8) (irq : Bool) (data : List Byte) (length : BitVec 24)
    (s : State) : KeepsQueue s (execMailboxWrite idx sub irq data length s) := by
  unfold execMailboxWrite
  dsimp only
  split
  · exact ⟨_, _, rfl⟩
  · split
    · exact ⟨_, _, rfl⟩
    · split
      · exact ⟨_, _, rfl⟩
      · split
        · exact ⟨_, _, rfl⟩
        · exact writeObj_keepsQueue _ (fun r => r.1.dev.mailboxDone r.2.code (if r.2.code = 0 then _ else 0)) s _ _ _

theorem execObjectWrite_keepsQueue (idx : BitVec 16) (sub : BitVec 8) (w : Wr) (s : State) :
    KeepsQueue s (execObjectWrite idx sub w s) := by
  unfold execObjectWrite
  dsimp only
  split
  · exact ⟨_, _, rfl⟩
  · split
    · split
      · exact ⟨_, _, rfl⟩
      · split
        · exact ⟨_, _, rfl⟩
        · exact ⟨_, _, rfl⟩
    · exact writeObj_keepsQueue s.dev (fun r => r.1.dev) s _ _ _

theorem execFabricWrite_keepsQueue (s : State) : KeepsQueue s (execFabricWrite s) := by
  unfold execFabricWrite
  split
  · exact ⟨_, _, rfl⟩
  · split
    · exact ⟨_, _, rfl⟩
    · dsimp only
      split
      · exact ⟨_, _, rfl⟩
      · exact writeObj_keepsQueue _ (fun r => r.1.dev.portAnswer _ r.2.code _ _) s _ _ _

theorem execUsdoRequest_keepsQueue (m : UsdoMsg) (s : State) : KeepsQueue s (execUsdoRequest m s) := by
  unfold execUsdoRequest
  dsimp only
  split
  · exact ⟨_, _, rfl⟩
  · cases m with
    | read idx sub => exact ⟨_, _, rfl⟩
    | write idx sub data => exact usdoWrite_keepsQueue _ s _ _ _
    | start idx sub total =>
      dsimp only
      split
      · exact ⟨_, _, rfl⟩
      · exact ⟨_, _, rfl⟩
    | segment data last =>
      dsimp only
      split
      · split
        · exact ⟨_, _, rfl⟩
        · split
          · exact ⟨_, _, rfl⟩
          · split
            · exact usdoWrite_keepsQueue _ s _ _ _
            · exact ⟨_, _, rfl⟩
      · exact ⟨_, _, rfl⟩
    | next n =>
      dsimp only
      split
      · exact ⟨_, _, rfl⟩
      · exact ⟨_, _, rfl⟩

theorem execRpdoReceive_keepsQueue (n : Fin 16) (data : List Byte) (s : State) : KeepsQueue s (execRpdoReceive n data s) := by
  unfold execRpdoReceive
  dsimp only
  split
  · exact ⟨_, _, rfl⟩
  · obtain ⟨f, d, h⟩ := State.rpdoEntries_eq (s.dev.mapOf (0x1600 + n.val)) data s
    exact ⟨f, d, congrArg Host.Outcome.next h⟩

theorem execLcTransitionComplete_keepsQueue (s : State) : KeepsQueue s (execLcTransitionComplete s) := by
  unfold execLcTransitionComplete
  split
  · exact ⟨_, _, rfl⟩
  · split
    · exact ⟨_, _, rfl⟩
    · exact ⟨_, _, rfl⟩

theorem execTamperEvent_keepsQueue (n : Fin 2) (s : State) : KeepsQueue s (execTamperEvent n s) := by
  unfold execTamperEvent
  split
  · exact ⟨_, _, rfl⟩
  · exact onDev_keepsQueue _ s

theorem execBatteryStoreLoss_keepsQueue (s : State) : KeepsQueue s (execBatteryStoreLoss s) := by
  unfold execBatteryStoreLoss
  split
  · exact ⟨_, _, rfl⟩
  · exact onDev_keepsQueue _ s

/-- Every command answers a next state with the queue as it was: but for the writes that may blow fuses and two events of S variants,
each is a change of the device alone. -/
theorem exec_keepsQueue (c : Instr) (s : State) : KeepsQueue s (exec c s) := by
  cases c with
  | keyProgram w => exact fuseWrite_keepsQueue _ _ _ _ _ _ s
  | keyRevoke w => exact fuseWrite_keepsQueue _ _ _ _ _ _ s
  | ownerKeyProgram w => exact fuseWrite_keepsQueue _ _ _ _ _ _ s
  | ownerKeyRevoke w => exact fuseWrite_keepsQueue _ _ _ _ _ _ s
  | versionRaise w => exact fuseWrite_keepsQueue _ _ _ _ _ _ s
  | lcRequest w => exact fuseWrite_keepsQueue _ _ _ _ _ _ s
  | fwOpen path => exact fuseWrite_keepsQueue _ _ _ _ _ _ s
  | fwVerify r => exact fuseWrite_keepsQueue _ _ _ _ _ _ s
  | fwActivate path => exact fuseWrite_keepsQueue _ _ _ _ _ _ s
  | fwConfirm path => exact fuseWrite_keepsQueue _ _ _ _ _ _ s
  | fwRaiseVersion path => exact fuseWrite_keepsQueue _ _ _ _ _ _ s
  | fwAbandon path => exact fuseWrite_keepsQueue _ _ _ _ _ _ s
  | lcTransitionComplete => exact execLcTransitionComplete_keepsQueue s
  | tamperEvent n => exact execTamperEvent_keepsQueue n s
  | batteryStoreLoss => exact execBatteryStoreLoss_keepsQueue s
  | jtagObjectWrite idx sub value => exact execJtagObjectWrite_keepsQueue idx sub value s
  | mailboxWrite idx sub irq data length => exact execMailboxWrite_keepsQueue idx sub irq data length s
  | objectWrite idx sub w => exact execObjectWrite_keepsQueue idx sub w s
  | fabricWrite => exact execFabricWrite_keepsQueue s
  | usdoRequest m => exact execUsdoRequest_keepsQueue m s
  | rpdoReceive n data => exact execRpdoReceive_keepsQueue n data s
  | _ => exact ⟨s.fuses, _, rfl⟩

end Sys2Proof.Machine
end

section
/-! The statement about the queue. -/

namespace Sys2Proof.Machine

/-- Settles O2: on an empty queue only time goes on; a command that is taken leaves the queue behind it as it is. -/
theorem everyStepConsumesOneCommand : Obligations.EveryStepConsumesOneCommand := by
  unfold Obligations.EveryStepConsumesOneCommand
  intro s
  unfold step
  split
  · next h => exact ⟨_, rfl, by rw [h]; rfl⟩
  · next c rest h =>
    obtain ⟨f, d, hc⟩ := exec_keepsQueue c { s with pending := rest }
    exact ⟨_, hc, by rw [h]; rfl⟩

end Sys2Proof.Machine
end

section
/-! SUPPORT. Refused writes (R397, R427): what the transport record shows of one, the reason codes fit it, and the rows that are the write
of one object. -/

namespace Sys2Proof.Machine

/-! ### The transport record (R427) -/

theorem recordSub_lt (t : Transport) : recordSub t < 256 := by cases t <;> decide

/-- A refusal counts, and shows its code with the object that was written. -/
theorem Dev.recordRefusal_shows (d : Dev) (t : Transport) {i j c : Nat} (hi : i < 65536) (hj : j < 256) (hc : c < 65536) :
    bits ((d.recordRefusal t i j c).rd 0x2050 (recordSub t)) 63 48 =
        (bits (d.rd 0x2050 (recordSub t)) 63 48 + 1) % 65536 ∧
      bits ((d.recordRefusal t i j c).rd 0x2050 (recordSub t)) 47 32 = c ∧
      bits ((d.recordRefusal t i j c).rd 0x2050 (recordSub t)) 31 16 = i ∧
      bits ((d.recordRefusal t i j c).rd 0x2050 (recordSub t)) 15 8 = j := by
  unfold Dev.recordRefusal Dev.wrN
  rw [Dev.rd_wr_same]
  generalize (bits (d.rd 0x2050 (recordSub t)) 63 48 + 1) % 65536 = n, Nat.mod_lt (bits (d.rd 0x2050 (recordSub t)) 63 48 + 1)
    (show 65536 > 0 by decide) = hn
  unfold bits
  rw [toNat_word (by omega)]
  simp only [Nat.shiftRight_eq_div_pow]
  omega

theorem Dev.recordRefusal_regsKept (d : Dev) (t : Transport) (i j c : Nat) :
    RegsKept (regsOf 0x2050 [recordSub t]) d (d.recordRefusal t i j c) :=
  d.wr_regsKept _ _ _ (recordSub_lt t)

/-! ### Reason codes have 16 bits -/

/-- Every code with which an object refuses a write of its own accord fits the transport record. -/
def Act.CodesFit (a : Act) : Prop := ∀ d w, a.check d w < 65536 ∧ a.allow d w < 65536

theorem code_none : 0 < 65536 := by decide

theorem code_ite {p : Prop} [Decidable p] {m n : Nat} (hm : m < 65536) (hn : n < 65536) : (if p then m else n) < 65536 := by
  split
  · exact hm
  · exact hn

theorem Desc.early_lt (o : Desc) (gate role : Nat) (w : Wr) : o.early gate role w < 65536 :=
  code_ite (by decide) (code_ite (by decide) (code_ite (by decide) (code_ite (by decide) (code_ite (by decide) code_none))))

theorem writeCheck_lt {a : Act} (h : a.CodesFit) (o : Desc) (w : Wr) (d : Dev) : writeCheck o a w d < 65536 :=
  code_ite (o.early_lt _ _ w) (code_ite (by decide) (code_ite (h d w).1 (code_ite (by decide) (h d w).2)))

theorem Act.codesFit_apply (f : Dev → Wr → Dev) : Act.CodesFit { apply := f } := fun _ _ => ⟨code_none, code_none⟩

theorem actStateRequest_codesFit : actStateRequest.CodesFit := fun _ _ =>
  ⟨code_none, code_ite code_none (code_ite (code_ite (by decide) (code_ite (by decide) code_none))
    (code_ite (code_ite (by decide) code_none) (code_ite code_none (by decide))))⟩

theorem actHostNotch_codesFit : actHostNotch.CodesFit := fun _ _ =>
  ⟨code_none, code_ite (by decide) (code_ite (by decide) code_none)⟩

theorem basteFormat_lt (v : Word) : basteFormat v < 65536 := code_ite (by decide) code_none

theorem actBaste_codesFit (e : Dev → Nat → Nat → Bool) (latch : BasteReq → Dev → Dev) : (actBaste e latch).CodesFit := fun _ _ =>
  ⟨code_ite (basteFormat_lt _) (code_ite (by decide) (code_ite (by decide) code_none)), code_ite (by decide) code_none⟩

theorem actHemCommand_codesFit (hem : Nat) : (actHemCommand hem).CodesFit := fun _ _ => by
  refine ⟨code_none, code_ite (by decide) ?_⟩
  split
  · exact code_ite code_none (by decide)
  · exact code_none

theorem checkRecord_lt (limit : Nat) (d : Dev) (w : Wr) : checkRecord limit d w < 65536 := code_ite (by decide) code_none

theorem actProgram_codesFit (g : Nat) (w : Wr) : (actProgram g w).CodesFit := fun d v =>
  ⟨checkRecord_lt _ d v, code_ite (by decide) (code_ite code_none (by decide))⟩

theorem actProgramPatch_codesFit (g : Nat) (w : Wr) : (actProgramPatch g w).CodesFit := fun d v =>
  ⟨checkRecord_lt _ d v, code_none⟩

theorem actFailLatency_codesFit (g : Nat) : (actFailLatency g).CodesFit := fun _ _ =>
  ⟨code_ite (by decide) code_none, code_none⟩

theorem recordCode_lt (t : ChanTiming) : recordCode t < 65536 :=
  code_ite (by decide) (code_ite (code_ite code_none (by decide)) (code_ite code_none (by decide)))

theorem setFault_lt {g : Nat} {l : List Byte} {k : Nat} {p : Nat × Nat} (h : setFault g l k = some p) : p.1 < 65536 := by
  unfold setFault at h
  split at h
  · cases h
    exact show 0x0511 < 65536 by decide
  · obtain ⟨i, -, rfl⟩ := Option.map_eq_some_iff.1 h
    exact recordCode_lt _

theorem tableFault_lt {g : Nat} {l : List Byte} {p : Nat × Nat} (h : tableFault g l = some p) : p.1 < 65536 := by
  unfold tableFault at h
  split at h
  · cases h
    decide
  · split at h
    · cases h
      exact show 0x0B05 < 65536 by decide
    · obtain ⟨k, -, hk⟩ := List.exists_of_findSome?_eq_some h
      exact setFault_lt hk

theorem actTimingTable_codesFit (g : Nat) (w : Wr) : (actTimingTable g w).CodesFit := fun _ _ => by
  refine ⟨?_, code_none⟩
  unfold actTimingTable
  dsimp only
  split
  · exact tableFault_lt ‹_›
  · exact code_none

theorem actRawConfig_codesFit (c : Nat) : (actRawConfig c).CodesFit := fun _ _ =>
  ⟨code_ite (by decide) (code_ite (by decide) code_none), code_none⟩

theorem actPinFunction_codesFit (b n : Nat) : (actPinFunction b n).CodesFit := fun _ _ =>
  ⟨code_ite (by decide) code_none, code_none⟩

theorem actBankClock_codesFit (b : Nat) : (actBankClock b).CodesFit := fun _ _ => ⟨code_ite (by decide) code_none, code_none⟩

theorem actBankOut_codesFit (b : Nat) : (actBankOut b).CodesFit := fun _ _ => ⟨code_none, code_ite code_none (by decide)⟩

theorem actCascadeRequest_codesFit : actCascadeRequest.CodesFit := fun _ _ => ⟨code_none, code_ite (by decide) code_none⟩

theorem actRecoverRequest_codesFit : actRecoverRequest.CodesFit := fun _ _ =>
  ⟨code_ite (by decide) code_none, code_ite (by decide) code_none⟩

theorem actLoadRequest_codesFit : actLoadRequest.CodesFit := fun _ _ =>
  ⟨code_none, code_ite code_none (code_ite (by decide) (code_ite (by decide) (by decide)))⟩

theorem actPartialDiscard_codesFit : actPartialDiscard.CodesFit := fun _ _ => ⟨code_none, code_ite (by decide) code_none⟩

theorem actStartOrder_codesFit : actStartOrder.CodesFit := fun _ _ => ⟨code_ite code_none (by decide), code_none⟩

theorem actSlotCommand_codesFit : actSlotCommand.CodesFit := fun _ _ =>
  ⟨code_ite (by decide) code_none, code_ite (by decide) code_none⟩

theorem actKeyProgram_codesFit (f : Fuses) : (actKeyProgram f).CodesFit := fun _ _ =>
  ⟨code_ite (by decide) code_none, code_ite (by decide) code_none⟩

theorem actKeyRevoke_codesFit : actKeyRevoke.CodesFit := fun _ _ =>
  ⟨code_ite code_none (by decide), code_ite (by decide) code_none⟩

theorem actOwnerKeyProgram_codesFit (f : Fuses) : (actOwnerKeyProgram f).CodesFit := fun _ _ =>
  ⟨code_ite (by decide) code_none, code_ite (by decide) code_none⟩

theorem actOwnerKeyRevoke_codesFit (f : Fuses) : (actOwnerKeyRevoke f).CodesFit := fun _ _ =>
  ⟨code_ite code_none (by decide), code_ite (by decide) code_none⟩

theorem actVersionRaise_codesFit (f : Fuses) : (actVersionRaise f).CodesFit := fun _ _ =>
  ⟨code_none, code_ite (by decide) (code_ite (by decide) code_none)⟩

theorem wrongTransport_lt (t : Nat) (w : Wr) : wrongTransport t w < 65536 := code_ite code_none (by decide)

theorem actSessionRequest_codesFit (t : Nat) : (actSessionRequest t).CodesFit := fun _ _ =>
  ⟨code_ite (by decide) (wrongTransport_lt t _), code_ite (by decide) (code_ite (by decide) code_none)⟩

theorem actSessionResponse_codesFit (f : Fuses) (t : Nat) : (actSessionResponse f t).CodesFit := fun _ _ =>
  ⟨code_ite (by decide) (code_ite code_none (by decide)), code_none⟩

theorem actSessionEnd_codesFit (t : Nat) : (actSessionEnd t).CodesFit := fun _ _ => ⟨wrongTransport_lt t _, code_none⟩

theorem actLcRequest_codesFit (f : Fuses) : (actLcRequest f).CodesFit := fun _ _ => by
  refine ⟨code_none, ?_⟩
  unfold actLcRequest
  dsimp only
  split
  · decide
  · exact code_ite (by decide) (code_ite (by decide) (code_ite (by decide) (code_ite (by decide) code_none)))

theorem actAttestRequest_codesFit (f : Fuses) : (actAttestRequest f).CodesFit := fun _ _ =>
  ⟨code_none, code_ite (by decide) code_none⟩

theorem actTamperConfig_codesFit (f : Fuses) : (actTamperConfig f).CodesFit := fun _ _ =>
  ⟨code_none, code_ite (by decide) (code_ite (by decide) code_none)⟩

theorem actFwCommand_codesFit (f : Fuses) : (actFwCommand f).CodesFit := fun _ _ =>
  ⟨code_ite (by decide) code_none, code_ite (by decide) (code_ite (by decide) code_none)⟩

theorem actTrefFrequency_codesFit (n : Nat) : (actTrefFrequency n).CodesFit := fun _ _ =>
  ⟨code_none, code_ite code_none (by decide)⟩

theorem actGroupTref_codesFit : actGroupTref.CodesFit := fun _ _ => ⟨code_none, code_ite (by decide) code_none⟩

theorem actSpoolCommand_codesFit (c : Nat) : (actSpoolCommand c).CodesFit := fun _ _ =>
  ⟨code_ite code_none (by decide), code_ite (code_ite (by decide) code_none)
    (code_ite (by decide) (code_ite code_none (by decide)))⟩

theorem actTallyClearRange_codesFit : actTallyClearRange.CodesFit := fun _ _ => ⟨code_ite (by decide) code_none, code_none⟩

theorem actTallyConfig_codesFit (n : Nat) : (actTallyConfig n).CodesFit := fun _ _ =>
  ⟨code_ite (by decide) (code_ite (by decide) code_none), code_none⟩

theorem actDumpRequest_codesFit : actDumpRequest.CodesFit := fun _ _ => ⟨code_none, code_ite (by decide) code_none⟩

theorem actSwatchRequest_codesFit : actSwatchRequest.CodesFit := fun _ _ => ⟨code_none, code_ite (by decide) code_none⟩

theorem actRepairRequest_codesFit : actRepairRequest.CodesFit := fun _ _ =>
  ⟨code_ite (by decide) (code_ite (by decide) (code_ite (by decide) (code_ite (by decide) code_none))),
    code_ite (by decide) (code_ite (by decide) (code_ite (by decide) code_none))⟩

theorem actBistRequest_codesFit : actBistRequest.CodesFit := fun _ _ =>
  ⟨code_none, code_ite (by decide) (code_ite (by decide) code_none)⟩

theorem actScrubRequest_codesFit : actScrubRequest.CodesFit := fun _ _ =>
  ⟨code_ite (by decide) code_none, code_ite (by decide) (code_ite (by decide) code_none)⟩

theorem actFlipInject_codesFit (m : Nat) : (actFlipInject m).CodesFit := fun _ _ =>
  ⟨code_none, code_ite (by decide) (code_ite (by decide) code_none)⟩

theorem actProofRequest_codesFit : actProofRequest.CodesFit := fun _ _ => ⟨code_none, code_ite (by decide) code_none⟩

/-! ### Rows that are the write of one object -/

/-- A write that may blow fuses leaves, refused, what every refused write leaves, and the fuses as they were. -/
theorem fuseWrite_refused {o : Desc} {a : Act} {w : Wr} {s : State} (blow : Fuses → Dev → Wr → Fuses) (i j : Nat)
    (h : s.dev.dictionary = true) (hc : writeCheck o a w s.dev ≠ 0) :
    fuseWrite o a blow i j w s = { s with dev := rowWrite o a i j w s.dev } := by
  simp [fuseWrite, rowWrite, h, runWrite, hc]

theorem fuseWrite_unreached (o : Desc) (a : Act) (blow : Fuses → Dev → Wr → Fuses) (i j : Nat) (w : Wr) {s : State}
    (h : s.dev.dictionary = false) : fuseWrite o a blow i j w s = s := by
  simp [fuseWrite, h]

/-- Two rules of an object that refuse the same writes and leave the same behind. -/
structure Act.RefusesAs (a b : Act) : Prop where
  gate : a.gate = b.gate
  check : a.check = b.check
  allow : a.allow = b.allow
  refuse : a.refuse = b.refuse

theorem Act.RefusesAs.rfl' (a : Act) : a.RefusesAs a := ⟨rfl, rfl, rfl, rfl⟩

theorem Act.RefusesAs.writeCheck {a b : Act} (h : a.RefusesAs b) (o : Desc) (w : Wr) (d : Dev) :
    writeCheck o a w d = writeCheck o b w d := by
  unfold Sys2Proof.Machine.writeCheck
  rw [h.gate, h.check, h.allow]

/-- What a row of one write does where the dictionary is not reached, and where the write is refused. -/
structure RunsAs (c : Instr) (r : WriteRow) (s : State) : Prop where
  unreached : s.dev.dictionary = false → exec c s = .next s
  refused : s.dev.dictionary = true → writeCheck r.desc r.act r.write s.dev ≠ 0 →
    exec c s = .next { s with dev := rowWrite r.desc r.act r.index r.sub r.write s.dev }

theorem runsAs_onDev {c : Instr} {r : WriteRow} {s : State}
    (h : exec c s = onDev (rowWrite r.desc r.act r.index r.sub r.write) s) : RunsAs c r s where
  unreached := fun hd => by rw [h, onDev_next, rowWrite_unreached _ _ _ _ _ hd]
  refused := fun _ _ => h

theorem runsAs_fuseWrite {c : Instr} {r : WriteRow} {s : State} (a : Act) (blow : Fuses → Dev → Wr → Fuses)
    (ha : a.RefusesAs r.act) (h : exec c s = .next (fuseWrite r.desc a blow r.index r.sub r.write s)) : RunsAs c r s where
  unreached := fun hd => by rw [h, fuseWrite_unreached _ _ _ _ _ _ hd]
  refused := fun hd hc => by
    rw [← ha.writeCheck] at hc
    rw [h, fuseWrite_refused _ _ _ hd hc, rowWrite_refused _ _ hd hc]
    rw [ha.writeCheck] at hc ⊢
    rw [rowWrite_refused _ _ hd hc, ha.refuse]

/-- Every row of one write runs as that write, some with fuses to blow. -/
theorem runsAs_of_writeRow {c : Instr} {s : State} {r : WriteRow} (h : writeRow s.fuses c = some r) : RunsAs c r s := by
  cases c <;> cases h
  case keyProgram.refl w => exact runsAs_fuseWrite _ _ (.rfl' _) rfl
  case keyRevoke.refl w => exact runsAs_fuseWrite _ _ (.rfl' _) rfl
  case ownerKeyProgram.refl w => exact runsAs_fuseWrite _ _ (.rfl' _) rfl
  case ownerKeyRevoke.refl w => exact runsAs_fuseWrite _ _ (.rfl' _) rfl
  case versionRaise.refl w => exact runsAs_fuseWrite _ _ (.rfl' _) rfl
  case lcRequest.refl w => exact runsAs_fuseWrite _ _ (.rfl' _) rfl
  case fwOpen.refl path => exact runsAs_fuseWrite _ _ (.rfl' _) rfl
  case fwVerify.refl x => exact runsAs_fuseWrite (actFwCommand s.fuses x.fails) blowFw ⟨rfl, rfl, rfl, rfl⟩ rfl
  case fwActivate.refl path => exact runsAs_fuseWrite _ _ (.rfl' _) rfl
  case fwConfirm.refl path => exact runsAs_fuseWrite _ _ (.rfl' _) rfl
  case fwRaiseVersion.refl path => exact runsAs_fuseWrite _ _ (.rfl' _) rfl
  case fwAbandon.refl path => exact runsAs_fuseWrite _ _ (.rfl' _) rfl
  all_goals exact runsAs_onDev rfl

/-- Where a row of one write stands, by 16 bits of index and 8 of subindex (R391). -/
theorem writeRow_place {f : Fuses} {c : Instr} {r : WriteRow} (h : writeRow f c = some r) : r.index < 65536 ∧ r.sub < 256 := by
  cases c <;> cases h
  all_goals
    dsimp only [shIdx, sampleIdx, pinIdx, bankIdx, tallyIdx, sessionIdx]
    omega

/-- The codes with which the rows of one write are refused. -/
theorem writeRow_codesFit {f : Fuses} {c : Instr} {r : WriteRow} (h : writeRow f c = some r) : r.act.CodesFit := by
  cases c <;> cases h
  case resetRequest.refl | foldRequest.refl | wakeRequest.refl | clearRequest.refl => exact actStateRequest_codesFit
  case hostNotch.refl => exact actHostNotch_codesFit
  case panelCapture.refl => exact actBaste_codesFit (fun _ _ t => captureExists t) (latchPanel _)
  case pendingValueRead.refl => exact actBaste_codesFit basteExists (latchBaste _)
  case hemFlush.refl => exact actHemCommand_codesFit _
  case programWrite.refl => exact actProgram_codesFit _ _
  case programPatchWrite.refl => exact actProgramPatch_codesFit _ _
  case failLatencyWrite.refl => exact actFailLatency_codesFit _
  case timingTableWrite.refl => exact actTimingTable_codesFit _ _
  case rawConfigWrite.refl => exact actRawConfig_codesFit _
  case pinFunctionWrite.refl => exact actPinFunction_codesFit _ _
  case bankClockWrite.refl => exact actBankClock_codesFit _
  case bankOutWrite.refl => exact actBankOut_codesFit _
  case leave.refl | cascadeNotchRequest.refl | cascadeSwatch.refl => exact actCascadeRequest_codesFit
  case cascadeRecover.refl => exact actRecoverRequest_codesFit
  case loadRequest.refl => exact actLoadRequest_codesFit
  case partialDiscard.refl => exact actPartialDiscard_codesFit
  case startOrderWrite.refl => exact actStartOrder_codesFit
  case slotOpen.refl | slotClose.refl | slotErase.refl | slotAbandon.refl => exact actSlotCommand_codesFit
  case keyProgram.refl => exact actKeyProgram_codesFit _
  case keyRevoke.refl => exact actKeyRevoke_codesFit
  case ownerKeyProgram.refl => exact actOwnerKeyProgram_codesFit _
  case ownerKeyRevoke.refl => exact actOwnerKeyRevoke_codesFit _
  case versionRaise.refl => exact actVersionRaise_codesFit _
  case sessionRequest.refl => exact actSessionRequest_codesFit _
  case sessionResponse.refl => exact actSessionResponse_codesFit _ _
  case sessionEnd.refl => exact actSessionEnd_codesFit _
  case lcRequest.refl => exact actLcRequest_codesFit _
  case attestRequest.refl => exact actAttestRequest_codesFit _
  case tamperConfigWrite.refl => exact actTamperConfig_codesFit _
  case fwOpen.refl | fwVerify.refl | fwActivate.refl | fwConfirm.refl | fwRaiseVersion.refl | fwAbandon.refl =>
    exact actFwCommand_codesFit _
  case trefFrequencyWrite.refl => exact actTrefFrequency_codesFit _
  case groupTrefWrite.refl => exact actGroupTref_codesFit
  case spoolStart.refl | spoolAbort.refl => exact actSpoolCommand_codesFit _
  case tallyClearRange.refl => exact actTallyClearRange_codesFit
  case tallyConfigWrite.refl => exact actTallyConfig_codesFit _
  case dumpRequest.refl => exact actDumpRequest_codesFit
  case swatchRequestLocal.refl | swatchRequestCascade.refl => exact actSwatchRequest_codesFit
  case retire.refl | repairReturn.refl => exact actRepairRequest_codesFit
  case bistArray.refl => exact actBistRequest_codesFit
  case scrubRequest.refl => exact actScrubRequest_codesFit
  case flipInject.refl => exact actFlipInject_codesFit _
  case proofRequest.refl => exact actProofRequest_codesFit
  all_goals exact fun _ _ => ⟨code_none, code_none⟩

end Sys2Proof.Machine
end

section
/-! The statement about refused commands. -/

namespace Sys2Proof.Machine

/-- Settles O5: a row of one write runs as that write; its refusal leaves the record, which the code and the place fit. -/
theorem refusedCommandLeavesOnlyItsRecord : Obligations.RefusedCommandLeavesOnlyItsRecord := by
  unfold Obligations.RefusedCommandLeavesOnlyItsRecord
  intro c s r hr
  have runs := runsAs_of_writeRow hr
  refine ⟨runs.unreached, ?_⟩
  rintro hd code rfl hc
  obtain ⟨hindex, hsub⟩ := writeRow_place hr
  obtain ⟨hcount, hcode, hi, hj⟩ := Dev.recordRefusal_shows
    (if lateCode (writeCheck r.desc r.act r.write s.dev) then r.act.refuse (writeCheck r.desc r.act r.write s.dev) s.dev
      else s.dev) r.write.path hindex hsub (writeCheck_lt (writeRow_codesFit hr) r.desc r.write s.dev)
  have ran := runs.refused hd hc
  rw [rowWrite_refused _ _ hd hc] at ran
  exact ⟨_, _, ran, ⟨rfl, rfl⟩, rfl, Dev.recordRefusal_regsOnly _ _ _ _ _ _, Dev.recordRefusal_regsKept _ _ _ _ _, hcount,
    fun _ => ⟨hcode, hi, hj⟩⟩

end Sys2Proof.Machine
end

section
/-! SUPPORT. Which requests for a state the ordered checks refuse (R31, R397). -/

namespace Sys2Proof.Machine

/-- The write of one value of STATE_REQUEST. -/
def stateWr (path : Transport) (v : Nat) : Wr := { path := path, len := 1, value := word v }

/-- Each path carries the four values of STATE_REQUEST. -/
theorem stateWr_carried (path : Transport) {v : Nat} (h1 : 1 ≤ v) (h4 : v ≤ 4) :
    objStateRequest.typeCarried (stateWr path v) = true ∧ objStateRequest.lengthOk (stateWr path v) = true ∧
      objStateRequest.codesOk (stateWr path v) = true ∧ objStateRequest.rangeOk (stateWr path v) = true ∧
      objStateRequest.num (stateWr path v) = v := by
  interval_cases v <;> cases path <;> decide

/-- With the role that the request needs, the state alone decides on it. -/
theorem stateRequest_check (path : Transport) {v : Nat} (h1 : 1 ≤ v) (h4 : v ≤ 4) {d : Dev}
    (hr : actStateRequest.gate d (stateWr path v) ≤ d.roleOf path) :
    writeCheck objStateRequest actStateRequest (stateWr path v) d = actStateRequest.allow d (stateWr path v) := by
  obtain ⟨htype, hlen, hcodes, hrange, -⟩ := stateWr_carried path h1 h4
  have early : objStateRequest.early (actStateRequest.gate d (stateWr path v)) (d.roleOf path) (stateWr path v) = 0 := by
    unfold Desc.early
    rw [htype, hlen, hcodes]
    simp [objStateRequest, Nat.not_lt.2 hr]
  unfold writeCheck
  rw [show (stateWr path v).path = path from rfl, early, hrange]
  rfl

/-- FOLD outside RUN, and in RUN with a shuttle that is not HALTED (R31). -/
theorem foldRequest_refused (path : Transport) {d : Dev} :
    (d.core.state ≠ .run → actStateRequest.allow d (stateWr path 2) = 0x0B20) ∧
      (d.core.state = .run → (∃ g, g < 12 ∧ (d.shuttle g).state ≠ .halted) → actStateRequest.allow d (stateWr path 2) = 0x0B23) := by
  have num := (stateWr_carried path (v := 2) (by decide) (by decide)).2.2.2.2
  unfold actStateRequest
  dsimp only
  rw [num]
  refine ⟨fun h => by simp [h], ?_⟩
  rintro h ⟨g, hg, hs⟩
  have halted : d.allHalted = false := by
    simp only [Dev.allHalted, List.all_eq_false, List.mem_range]
    exact ⟨g, hg, by simpa using hs⟩
  simp [h, halted]

/-- WAKE outside FOLDED (R31). -/
theorem wakeRequest_refused (path : Transport) {d : Dev} (h : d.core.state ≠ .folded) :
    actStateRequest.allow d (stateWr path 3) = 0x0B20 := by
  have num := (stateWr_carried path (v := 3) (by decide) (by decide)).2.2.2.2
  unfold actStateRequest
  dsimp only
  rw [num]
  simp [h]

/-- CLEAR outside FITTING, RUN and FOLDED (R31). -/
theorem clearRequest_refused (path : Transport) {d : Dev} (hfit : d.core.state ≠ .fitting) (hrun : d.core.state ≠ .run)
    (hfold : d.core.state ≠ .folded) : actStateRequest.allow d (stateWr path 4) = 0x0B20 := by
  have num := (stateWr_carried path (v := 4) (by decide) (by decide)).2.2.2.2
  unfold actStateRequest
  dsimp only
  rw [num]
  simp [hfit, hrun, hfold]

/-- What a refused request for a state leaves, whatever it asks for: its record alone. -/
theorem stateRequest_refusal {path : Transport} {c : Instr} {code v : Nat} {s : State} (hd : s.dev.dictionary = true)
    (hrow : writeRow s.fuses c = some ⟨objStateRequest, actStateRequest, 0x2001, 0, stateWr path v⟩)
    (hcheck : writeCheck objStateRequest actStateRequest (stateWr path v) s.dev = code) (hcode : code = 0x0B20 ∨ code = 0x0B23) :
    ∃ t, exec c s = .next t ∧ Kept s t ∧ t.dev.core = s.dev.core ∧ { t.dev with regs := s.dev.regs } = s.dev ∧
      RegsKept (regsOf 0x2050 [recordSub path]) s.dev t.dev ∧
      bits (t.dev.rd 0x2050 (recordSub path)) 47 32 = code ∧ bits (t.dev.rd 0x2050 (recordSub path)) 31 16 = 0x2001 ∧
      bits (t.dev.rd 0x2050 (recordSub path)) 15 8 = 0 := by
  have hne : writeCheck objStateRequest actStateRequest (stateWr path v) s.dev ≠ 0 := by omega
  have ran := (runsAs_of_writeRow hrow).refused hd hne
  have left : (if lateCode code then actStateRequest.refuse code s.dev else s.dev) = s.dev := by
    split <;> rfl
  rw [rowWrite_refused _ _ hd hne, hcheck, left] at ran
  obtain ⟨-, hshown, hi, hj⟩ :=
    s.dev.recordRefusal_shows path (i := 0x2001) (j := 0) (c := code) (by decide) (by decide) (by omega)
  exact ⟨_, ran, ⟨rfl, rfl⟩, Dev.wr_core _ _ _ _, Dev.recordRefusal_regsOnly _ _ _ _ _ _, Dev.recordRefusal_regsKept _ _ _ _ _, hshown, hi, hj⟩

end Sys2Proof.Machine
end

section
/-! The statement about requests that the state does not allow. -/

namespace Sys2Proof.Machine

/-- Settles O39: each of the three requests passes the checks before the state's own, and that one refuses it. -/
theorem disallowedStateRequestsRefused : Obligations.DisallowedStateRequestsRefused := by
  unfold Obligations.DisallowedStateRequestsRefused
  intro path c code s hd h
  have gate {v : Nat} (h1 : 1 ≤ v) (h4 : v ≤ 4) := (stateWr_carried path h1 h4).2.2.2.2
  rcases h with ⟨rfl, hrole, h⟩ | ⟨rfl, hrole, hstate, rfl⟩ | ⟨rfl, hrole, hfit, hrun, hfold, rfl⟩
  · have check := stateRequest_check path (v := 2) (by decide) (by decide) (d := s.dev)
      (by simpa [actStateRequest, gate (v := 2) (by decide) (by decide)] using hrole)
    rcases h with ⟨hstate, rfl⟩ | ⟨hstate, hrunning, rfl⟩
    · exact stateRequest_refusal (v := 2) hd rfl (check.trans ((foldRequest_refused path).1 hstate)) (.inl rfl)
    · exact stateRequest_refusal (v := 2) hd rfl (check.trans ((foldRequest_refused path).2 hstate hrunning)) (.inr rfl)
  · have check := stateRequest_check path (v := 3) (by decide) (by decide) (d := s.dev)
      (by simpa [actStateRequest, gate (v := 3) (by decide) (by decide)] using hrole)
    exact stateRequest_refusal (v := 3) hd rfl (check.trans (wakeRequest_refused path hstate)) (.inl rfl)
  · have check := stateRequest_check path (v := 4) (by decide) (by decide) (d := s.dev)
      (by simpa [actStateRequest, gate (v := 4) (by decide) (by decide)] using hrole)
    exact stateRequest_refusal (v := 4) hd rfl (check.trans (clearRequest_refused path hfit hrun hfold)) (.inl rfl)

end Sys2Proof.Machine
end

section
/-! SUPPORT. OBJECT_WRITE of an object without a rule of its own (R22 to R27, R397), and staged writes (R25). -/

namespace Sys2Proof.Machine

/-- An object without a hook has the plain rule. -/
theorem actOf_plain (f : Fuses) {o : Desc} (h : o.hook = .plain) (i j : Nat) (w : Wr) : actOf f o i j w = plainAct o i j := by
  unfold actOf actDevice actArray
  rw [h]
  exact ite_self _

/-- An accepted write through the whole dictionary of an object without a hook is its effect. -/
theorem execObjectWrite_accepted {idx : BitVec 16} {sub : BitVec 8} {w : Wr} {s : State} {o : Desc}
    (ho : findDesc idx.toNat sub.toNat = some o) (hook : o.hook = .plain) (user : userIndex idx.toNat = false)
    (h : Accepted o (plainAct o idx.toNat sub.toNat) w s.dev) :
    execObjectWrite idx sub w s = .next { s with dev := (plainAct o idx.toNat sub.toNat).apply s.dev w } := by
  obtain ⟨hd, hc⟩ := h
  simp [execObjectWrite, State.writeObj, hd, user, ho, actOf_plain s.fuses hook, runWrite, hc, hook, blowFor]

theorem plainAct_rw {o : Desc} (h : o.acc = .rw) (i j : Nat) : plainAct o i j = heldAct o i j (fun _ _ => 0) := by
  unfold plainAct
  rw [h]
  rfl

theorem plainAct_rwn {o : Desc} {i j : Nat} (h : o.acc = .rwn) (hscope : o.scope ≠ .cascade)
    (hstarve : ¬(0x3100 ≤ i ∧ i ≤ 0x310B ∧ j = 0x20)) (hskew : ¬(0x3980 ≤ i ∧ i ≤ 0x39BF)) :
    plainAct o i j = stagedAct o i j (fun _ _ => 0) := by
  simp only [plainAct, h, BEq.rfl, if_true, beq_iff_eq, hscope, if_false, Bool.and_eq_true, decide_eq_true_eq, and_assoc,
    hstarve, hskew]

/-- A write staged is the one pending for its object (R25). -/
theorem Dev.pendingOf_stage_same (d : Dev) (i j : Nat) (v : Val) (x : Scope) :
    (d.stage i j v x).pendingOf i j =
      some { index := i, sub := j, val := v, scope := x, due := (d.scopeSeq x + 1) % 2 ^ 32 } := by
  have gone : (d.staged.filter (fun x => !(x.index == i && x.sub == j))).find? (fun x => x.index == i && x.sub == j) = none := by
    simp only [List.find?_eq_none, List.mem_filter]
    rintro y ⟨-, hy⟩
    simpa [imp_iff_not_or] using hy
  unfold Dev.pendingOf Dev.stage
  rw [List.find?_append, gone]
  simp

/-- Every other object's pending write stays. -/
theorem Dev.pendingOf_stage_other (d : Dev) {i j i' j' : Nat} (v : Val) (x : Scope) (h : ¬(i' = i ∧ j' = j)) :
    (d.stage i j v x).pendingOf i' j' = d.pendingOf i' j' := by
  have kept : (fun y : Staged => decide ((!(y.index == i && y.sub == j)) = true ∧ (y.index == i' && y.sub == j') = true)) =
      fun y => y.index == i' && y.sub == j' := by
    funext y
    rw [Bool.eq_iff_iff, decide_eq_true_iff, and_iff_right_iff_imp]
    intro hy
    simp only [Bool.and_eq_true, beq_iff_eq] at hy
    simpa [hy, imp_iff_not_or] using h
  unfold Dev.pendingOf Dev.stage
  rw [List.find?_append, List.find?_filter, kept]
  have new : [({ index := i, sub := j, val := v, scope := x, due := (d.scopeSeq x + 1) % 2 ^ 32 } : Staged)].find?
      (fun y => y.index == i' && y.sub == j') = none := by
    simp only [List.find?_singleton, Bool.and_eq_true, beq_iff_eq, ite_eq_right_iff]
    exact fun e => absurd ⟨e.1.symm, e.2.symm⟩ h
  rw [new, Option.or_none]

end Sys2Proof.Machine
end

section
/-! The statement about writes of plain objects. -/

namespace Sys2Proof.Machine

/-- Settles O8: the plain rule holds an RW value, and stages an RWN value where writes do not take effect at acceptance. -/
theorem objectWriteHoldsOrStages : Obligations.ObjectWriteHoldsOrStages := by
  unfold Obligations.ObjectWriteHoldsOrStages
  intro idx sub w s o ho hook hscope user hstarve hskew h
  have ran := execObjectWrite_accepted ho hook user h
  refine ⟨fun hacc => ?_, fun hacc now => ?_⟩
  · rw [plainAct_rw hacc] at ran
    exact ⟨_, ran, ⟨rfl, rfl⟩, rfl, s.dev.wr_regsKept _ _ _ sub.isLt, s.dev.rd_wr_same _ _ _⟩
  · rw [plainAct_rwn hacc hscope hstarve hskew] at ran
    have staged : (stagedAct o idx.toNat sub.toNat (fun _ _ => 0)).apply s.dev w =
        s.dev.stage idx.toNat sub.toNat (o.valOf w) (scopeOf o.scope idx.toNat) := by
      simp [stagedAct, Dev.stageOrApply, now]
    rw [staged] at ran
    exact ⟨_, ran, ⟨rfl, rfl⟩, rfl, s.dev.pendingOf_stage_same _ _ _ _, fun i j hij => s.dev.pendingOf_stage_other _ _ hij⟩

end Sys2Proof.Machine
end

section
/-! The statement about the state after reset. -/

namespace Sys2Proof.Machine

/-- Two registers of the state after reset differ from their defaults. -/
theorem State.reset_rd (i j : Nat) :
    State.reset.dev.rd i j =
      if objKey i j = 0x200001 then 0x18000 else if objKey i j = 0x200003 then 0x0B70 else regDefault (objKey i j) := by
  simp [Dev.rd, State.reset, tabGet, eq_comm]

/-- Settles O4: what the two registers hold is the change into RESET, and the last rail of a device that was OFF leaves that state. -/
theorem resetStateHoldsResetValues : Obligations.ResetStateHoldsResetValues := by
  unfold Obligations.ResetStateHoldsResetValues
  refine ⟨rfl, rfl, rfl, rfl, rfl, rfl, fun i j hj h => ?_, rfl, rfl, fun _ => rfl, rfl, ?_, fun r => ?_⟩
  · have status : objKey i j ≠ 0x200001 := fun e => by
      obtain ⟨hi, hj⟩ := objKey_inj (i' := 0x2000) (j' := 1) hj (by decide) e
      exact h ⟨hi, .inl hj⟩
    have reason : objKey i j ≠ 0x200003 := fun e => by
      obtain ⟨hi, hj⟩ := objKey_inj (i' := 0x2000) (j' := 3) hj (by decide) e
      exact h ⟨hi, .inr hj⟩
    rw [State.reset_rd, if_neg status, if_neg reason]
  · rintro n ⟨⟩
  · fin_cases r <;> rfl

end Sys2Proof.Machine
end

section
/-! SUPPORT. Supplies and resets: what an entry to RESET and the loss of the supplies leave. -/

namespace Sys2Proof.Machine

/-! ### What a reset rebuilds (R30, R537) -/

theorem Dev.rebuilt_nv (d : Dev) : d.rebuilt.nv = d.nv := rfl
theorem Dev.rebuilt_env (d : Dev) : d.rebuilt.env = d.env := rfl
theorem Dev.rebuilt_safety (d : Dev) : d.rebuilt.safety = {} := rfl
theorem Dev.rebuilt_staged (d : Dev) : d.rebuilt.staged = [] := rfl

/-- What the entry to RESET leaves, for a device that was not there (R30): the state with its deferred note, the wardrobe, the outside, no
permit, no staged write, the reason shown. -/
structure EnteredReset (d : Dev) (reason : Nat) (hold : Bool) (e : Dev) : Prop where
  state : e.core.state = .reset
  hold : e.core.holdRunning = hold
  deferred : e.core.deferred = [(reason, d.core.state.code, 1)]
  nv : e.nv = d.nv
  env : e.env = d.env
  permits : e.safety.permits = 0
  staged : e.staged = []
  shown : e.rdN 0x2000 3 = reason

theorem Dev.enterReset_enters (d : Dev) {reason : Nat} (hold : Bool) (h : d.core.state ≠ .reset) (hr : reason < 2 ^ 64) :
    EnteredReset d reason hold (d.enterReset reason hold) := by
  unfold Dev.enterReset
  rw [if_neg h]
  exact ⟨rfl, rfl, rfl, rfl, rfl, rfl, rfl, Dev.rdN_wrN_same _ _ _ _ hr⟩

theorem Dev.enterReset_inReset {d : Dev} (reason : Nat) (hold : Bool) (h : d.core.state = .reset) :
    d.enterReset reason hold = { d with core := { d.core with holdRunning := hold } } := if_pos h

theorem Dev.powerOn_core (d : Dev) : d.powerOn.core = d.core := rfl
theorem Dev.powerOn_nv (d : Dev) : d.powerOn.nv = d.nv := rfl
theorem Dev.powerOn_rails (d : Dev) : d.powerOn.env.rails = d.env.rails := rfl

/-! ### Rails (R535) -/

/-- Bit k of the mask of rail r. -/
theorem getLsbD_rail {r k : Nat} (hr : r < 6) : (BitVec.ofNat 6 (2 ^ r)).getLsbD k = decide (r = k) := by
  rw [BitVec.getLsbD_ofNat, Nat.testBit_two_pow]
  by_cases h : r = k
  · subst h; simp [hr]
  · simp [h]

theorem getLsbD_cleared_same {n k : Nat} (w : BitVec n) {m : BitVec n} (h : m.getLsbD k = true) :
    (w &&& ~~~ m).getLsbD k = false := by
  rw [BitVec.getLsbD_and, BitVec.getLsbD_not, h]; simp

theorem getLsbD_cleared_other {n k : Nat} (w : BitVec n) {m : BitVec n} (h : m.getLsbD k = false) :
    (w &&& ~~~ m).getLsbD k = w.getLsbD k := by
  rw [BitVec.getLsbD_and, BitVec.getLsbD_not, h]
  by_cases hk : k < n
  · simp [hk]
  · simp [BitVec.getLsbD_of_ge w k (by omega)]

theorem getLsbD_set_same {n k : Nat} (w : BitVec n) {m : BitVec n} (h : m.getLsbD k = true) : (w ||| m).getLsbD k = true := by
  rw [BitVec.getLsbD_or, h, Bool.or_true]

theorem getLsbD_set_other {n k : Nat} (w : BitVec n) {m : BitVec n} (h : m.getLsbD k = false) :
    (w ||| m).getLsbD k = w.getLsbD k := by
  rw [BitVec.getLsbD_or, h, Bool.or_false]

theorem rails_rise_ne {rails : BitVec 6} {r : Fin 6} (h : rails.getLsbD r.val = false) :
    rails ||| BitVec.ofNat 6 (2 ^ r.val) ≠ rails := by
  intro he
  have hb := congrArg (fun b : BitVec 6 => b.getLsbD r.val) he
  rw [BitVec.getLsbD_or, getLsbD_rail r.isLt, h] at hb
  simp at hb

/-- The device with rail r up. -/
def Dev.railUp (d : Dev) (r : Fin 6) : Dev :=
  { d with env := { d.env with rails := d.env.rails ||| BitVec.ofNat 6 (2 ^ r.val) } }

/-- A rising rail of a device that is OFF, and an armed one of a powered device outside RESET, enter RESET from a device that differs from
the one at hand in registers and counts alone. -/
theorem powerOnReset_enters {r : Fin 6} {s : State} (hd : s.dev.env.rails.getLsbD r.val = false)
    (h : s.dev.core.state = .off ∨ (s.dev.core.state ≠ .off ∧ s.dev.core.state ≠ .reset ∧ s.dev.env.armed.getLsbD r.val = true)) :
    ∃ (e : Dev) (t : State), exec (.powerOnReset r) s = .next t ∧ Kept s t ∧ e.core = s.dev.core ∧ e.nv = s.dev.nv ∧
      e.env.rails = s.dev.env.rails ||| BitVec.ofNat 6 (2 ^ r.val) ∧
      EnteredReset e 0x0B70 (t.dev.allRails && s.dev.env.resetN) t.dev := by
  have arm : ∃ e : Dev, e.core = s.dev.core ∧ e.nv = s.dev.nv ∧
      e.env.rails = s.dev.env.rails ||| BitVec.ofNat 6 (2 ^ r.val) ∧
      execPowerOnReset r s = .next { s with dev := e.enterReset 0x0B70 ((s.dev.railUp r).allRails && s.dev.env.resetN) } := by
    unfold execPowerOnReset
    rw [onDev_next]
    dsimp only
    rw [if_neg (rails_rise_ne hd)]
    rcases h with h | ⟨h, hr, ha⟩
    · rw [if_pos h]
      exact ⟨(s.dev.railUp r).powerOn, rfl, rfl, rfl, rfl⟩
    · rw [if_neg h, ha, if_neg (by simp)]
      split
      · exact ⟨s.dev.railUp r, rfl, rfl, rfl, rfl⟩
      · refine ⟨(s.dev.railUp r).powerOn, rfl, rfl, rfl, ?_⟩
        rw [Dev.powerOn_core, if_neg hr]
        rfl
  obtain ⟨e, hc, hn, hr, hx⟩ := arm
  have out : e.core.state ≠ .reset := by
    rw [hc]
    rcases h with h | h
    · rw [h]; decide
    · exact h.2.1
  have he := e.enterReset_enters ((s.dev.railUp r).allRails && s.dev.env.resetN) out (reason := 0x0B70) (by decide)
  have rails : ∀ {f : Dev}, f.env = e.env → f.allRails = (s.dev.railUp r).allRails := fun hf => by
    unfold Dev.allRails
    rw [hf, hr]
    rfl
  refine ⟨e, _, hx, ⟨rfl, rfl⟩, hc, hn, hr, ?_⟩
  dsimp only
  rw [rails he.env]
  exact he

/-! ### VAUX falls (R34, R276) -/

theorem Dev.dropBalls_undriven_same (d : Dev) {f k : Nat} (h : k = 2 * f ∨ k = 2 * f + 1) :
    ((d.dropBalls f).ball k).driven = false := by
  unfold Dev.dropBalls
  dsimp only
  by_cases hk : k = 2 * f + 1
  · subst hk; rw [Dev.ball_setBall_same]
  · rw [Dev.ball_setBall_other _ _ _ _ (Ne.symm hk)]
    obtain rfl := h.resolve_right hk
    rw [Dev.ball_setBall_same]

theorem Dev.dropBalls_keeps_undriven (d : Dev) (f : Nat) {k : Nat} (h : (d.ball k).driven = false) :
    ((d.dropBalls f).ball k).driven = false := by
  by_cases hk : k = 2 * f ∨ k = 2 * f + 1
  · exact d.dropBalls_undriven_same hk
  · unfold Dev.dropBalls
    dsimp only
    rw [Dev.ball_setBall_other _ _ _ _ (by omega), Dev.ball_setBall_other _ _ _ _ (by omega)]
    exact h

theorem Dev.withdraw_keeps_undriven (d : Dev) (f : Nat) {k : Nat} (h : (d.ball k).driven = false) :
    ((d.withdraw f).ball k).driven = false := by
  unfold Dev.withdraw
  split
  · dsimp only
    split
    all_goals exact Dev.dropBalls_keeps_undriven _ f h
  · exact h

theorem Dev.dropBalls_permits (d : Dev) (f : Nat) : (d.dropBalls f).safety = d.safety := rfl

/-- After a withdrawal function f has no permit, and every other function has one where it had one. -/
theorem Dev.withdraw_permits (d : Dev) (f k : Nat) :
    (d.withdraw f).safety.permits.getLsbD k = (d.safety.permits.getLsbD k && !decide (f = k)) := by
  have mask : (d.safety.permits &&& ~~~ BitVec.ofNat 4 (2 ^ f)).getLsbD k =
      (d.safety.permits.getLsbD k && !decide (f = k)) := by
    rw [BitVec.getLsbD_and, BitVec.getLsbD_not, BitVec.getLsbD_ofNat, Nat.testBit_two_pow]
    by_cases h : k < 4
    · simp [h]
    · simp [h, BitVec.getLsbD_of_ge d.safety.permits k (by omega)]
  unfold Dev.withdraw
  split
  · dsimp only
    split
    all_goals exact mask
  · next hp =>
    by_cases h : f = k
    · subst h; simpa using hp
    · simp [h]

/-- The device with VAUX down and nothing else done. -/
def Dev.vauxDown (d : Dev) : Dev :=
  { d with
    env := { d.env with rails := d.env.rails &&& ~~~ BitVec.ofNat 6 32, armed := d.env.armed ||| BitVec.ofNat 6 32 }
    safety := { d.safety with refreshed := false } }

/-- The withdrawal of every permit: none is left, no ball is driven, and nothing beside registers, safety state and balls moves. -/
theorem Dev.withdrawAll (d : Dev) :
    (forEach 4 (fun f e => (e.withdraw f).dropBalls f) d).safety.permits = 0 ∧
    (∀ k, k < 8 → ((forEach 4 (fun f e => (e.withdraw f).dropBalls f) d).ball k).driven = false) ∧
    (forEach 4 (fun f e => (e.withdraw f).dropBalls f) d).besidePermits = d.besidePermits := by
  refine ⟨?_, fun k hk => ?_, ?_⟩
  · refine BitVec.eq_of_getLsbD_eq fun k hk => ?_
    rw [show (0 : BitVec 4).getLsbD k = false from BitVec.getLsbD_zero]
    refine forEach_reaches (P := fun f e => k = f → e.safety.permits.getLsbD k = false) (n := 4) (fun f e h => ?_)
      (fun f g e h hg => ?_) hk d rfl
    · rw [Dev.dropBalls_permits, Dev.withdraw_permits]
      simp [h]
    · rw [Dev.dropBalls_permits, Dev.withdraw_permits, h hg, Bool.false_and]
  · refine forEach_reaches (P := fun f e => k / 2 = f → (e.ball k).driven = false) (fun f e h => ?_) (fun f g e h hg => ?_)
      (show k / 2 < 4 by omega) d rfl
    · exact Dev.dropBalls_undriven_same _ (by omega)
    · exact Dev.dropBalls_keeps_undriven _ _ (Dev.withdraw_keeps_undriven _ _ (h hg))
  · exact forEach_keeps Dev.besidePermits (fun f e => by rw [Dev.dropBalls_besidePermits, Dev.withdraw_besidePermits]) 4 d

end Sys2Proof.Machine
end

section
/-! THEOREM. Supplies and RESET_N. -/

namespace Sys2Proof.Machine

/-- Settles O9: every way into RESET goes through one entry (EnteredReset), a falling rail touches one bit of two masks, and the loss of
VAUX withdraws the permits function by function. -/
theorem suppliesAndResetPin : Obligations.SuppliesAndResetPin := by
  unfold Obligations.SuppliesAndResetPin
  refine ⟨fun r s hd => ⟨fun hoff => ?_, fun hoff hrst harm => ?_⟩, fun s => ?_, fun r s => ?_, fun s => ?_, fun s hon => ?_,
    fun s hrst => ?_⟩
  case refine_1 =>
    obtain ⟨e, t, hx, hk, hc, hn, hr, he⟩ := powerOnReset_enters hd (.inl hoff)
    exact ⟨t, hx, hk, he.state, he.hold, he.env ▸ hr, he.nv.trans hn, he.shown, he.permits⟩
  case refine_2 =>
    obtain ⟨e, t, hx, hk, hc, hn, hr, he⟩ := powerOnReset_enters hd (.inr ⟨hoff, hrst, harm⟩)
    exact ⟨t, hx, hk, he.state, he.hold, hc ▸ he.deferred, he.env ▸ hr, he.nv.trans hn⟩
  case refine_3 => exact ⟨_, rfl, ⟨rfl, rfl⟩, rfl, rfl, rfl, rfl, rfl⟩
  case refine_4 =>
    have own : (BitVec.ofNat 6 (2 ^ r.val)).getLsbD r.val = true := by rw [getLsbD_rail (by omega)]; simp
    have other {k : Nat} (hk : k ≠ r.val) : (BitVec.ofNat 6 (2 ^ r.val)).getLsbD k = false := by
      rw [getLsbD_rail (by omega)]; simpa using Ne.symm hk
    refine ⟨_, rfl, ⟨rfl, rfl⟩, rfl, ?_, ?_, fun k hk => ⟨?_, ?_⟩⟩
    · exact getLsbD_cleared_same _ own
    · exact getLsbD_set_same _ own
    · exact getLsbD_cleared_other _ (other hk)
    · exact getLsbD_set_other _ (other hk)
  case refine_5 =>
    obtain ⟨hp, hb, hk⟩ := Dev.withdrawAll s.dev.vauxDown
    refine ⟨_, rfl, ⟨rfl, rfl⟩, ?_, ?_, hp, hb, ?_⟩
    · exact (congrArg (fun e : Dev => e.core.state) hk :)
    · exact (congrArg (fun e : Dev => e.vaux) hk :).trans (getLsbD_cleared_same _ (by decide))
    · exact (congrArg Dev.nv hk :)
  case refine_6 =>
    show ∃ t, execResetNAssert s = _ ∧ _
    unfold execResetNAssert
    rw [onDev_next]
    dsimp only
    rw [if_neg hon]
    by_cases hrst : s.dev.core.state = .reset
    · rw [Dev.enterReset_inReset (d := { s.dev with env := { s.dev.env with resetN := false } }) _ _ hrst]
      exact ⟨_, rfl, ⟨rfl, rfl⟩, hrst, rfl, rfl, rfl⟩
    · have he := Dev.enterReset_enters { s.dev with env := { s.dev.env with resetN := false } } false hrst (reason := 0x0B71) (by decide)
      exact ⟨_, rfl, ⟨rfl, rfl⟩, he.state, he.hold, congrArg Env.resetN he.env, he.nv⟩
  case refine_7 =>
    show ∃ t, execResetNRelease s = _ ∧ _
    unfold execResetNRelease
    rw [onDev_next]
    dsimp only
    rw [if_pos hrst]
    exact ⟨_, rfl, ⟨rfl, rfl⟩, rfl, rfl, rfl⟩

end Sys2Proof.Machine
end

section
/-! SUPPORT. What carrying entries, placing markers and reporting leave: one relation (Flowed) between the device before and after, kept by
every operation that only fills hems, feeds needles and reports. -/

namespace Sys2Proof.Machine

/-- A change of the device alone. -/
theorem kept_withDev (s : State) (d : Dev) : Kept s { s with dev := d } := ⟨rfl, rfl⟩

/-! ### Flow -/

/-- The device but for what flows: registers, outputs, hems, needle streams, banks, the wardrobe and the ring. -/
def Dev.still (d : Dev) : Dev :=
  { d with
    regs := [], out := [], halves := [], hemWin := [], needles := [], banks := [], nv := {}
    tr := { d.tr with ring := [], pendingVec := 0, emcyLast := none } }

/-- Entries, markers and reports came between d and e: what is still is the same, and of the registers only those of reports may have
moved. -/
structure Flowed (d e : Dev) : Prop where
  still : e.still = d.still
  regs : RegsKept reportReg d e

theorem Flowed.refl (d : Dev) : Flowed d d := ⟨rfl, RegsKept.refl _ d⟩

theorem Flowed.trans {d e f : Dev} (h : Flowed d e) (k : Flowed e f) : Flowed d f :=
  ⟨k.still.trans h.still, h.regs.trans k.regs (fun _ _ => id) (fun _ _ => id)⟩

/-- A step that leaves the registers as they are, and what is still. -/
theorem Flowed.of_regs {d e : Dev} (h : e.still = d.still) (hr : e.regs = d.regs) : Flowed d e :=
  ⟨h, fun i j _ _ => by unfold Dev.rd; rw [hr]⟩

section
variable {d e : Dev} (h : Flowed d e)
include h

theorem Flowed.strs : e.strs = d.strs := (congrArg Dev.strs h.still :)
theorem Flowed.staged : e.staged = d.staged := (congrArg Dev.staged h.still :)
theorem Flowed.core : e.core = d.core := (congrArg Dev.core h.still :)
theorem Flowed.env : e.env = d.env := (congrArg Dev.env h.still :)
theorem Flowed.panels : e.panels = d.panels := (congrArg Dev.panels h.still :)
theorem Flowed.seams : e.seams = d.seams := (congrArg Dev.seams h.still :)
theorem Flowed.bobbins : e.bobbins = d.bobbins := (congrArg Dev.bobbins h.still :)
theorem Flowed.blocks : e.blocks = d.blocks := (congrArg Dev.blocks h.still :)
theorem Flowed.shuttles : e.shuttles = d.shuttles := (congrArg Dev.shuttles h.still :)
theorem Flowed.programs : e.programs = d.programs := (congrArg Dev.programs h.still :)
theorem Flowed.cal : e.cal = d.cal := (congrArg Dev.cal h.still :)
theorem Flowed.cascade : e.cascade = d.cascade := (congrArg Dev.cascade h.still :)
theorem Flowed.config : e.config = d.config := (congrArg Dev.config h.still :)
theorem Flowed.sec : e.sec = d.sec := (congrArg Dev.sec h.still :)
theorem Flowed.safety : e.safety = d.safety := (congrArg Dev.safety h.still :)
theorem Flowed.plls : e.tr.plls = d.tr.plls := (congrArg (fun x : Dev => x.tr.plls) h.still :)
theorem Flowed.nmt : e.tr.nmt = d.tr.nmt := (congrArg (fun x : Dev => x.tr.nmt) h.still :)

theorem Flowed.shuttle (g : Nat) : e.shuttle g = d.shuttle g := by
  unfold Dev.shuttle; rw [h.shuttles]

theorem Flowed.vaux : e.vaux = d.vaux := by
  unfold Dev.vaux; rw [h.env]

theorem Flowed.groupRuns (g : Nat) : e.groupRuns g = d.groupRuns g := by
  unfold Dev.groupRuns; rw [h.vaux, h.plls, h.core]

theorem Flowed.rd {i j : Nat} (hj : j < 256) (hr : reportReg i j = false) : e.rd i j = d.rd i j := h.regs i j hj hr

theorem Flowed.rdN {i j : Nat} (hj : j < 256) (hr : reportReg i j = false) : e.rdN i j = d.rdN i j := by
  unfold Dev.rdN; rw [h.rd hj hr]

end

theorem Reported.flowed {d e : Dev} (h : Reported d e) : Flowed d e := by
  refine ⟨?_, h.regs⟩
  have hn := congrArg (fun t : TransportSt => ({ t with ring := [], pendingVec := 0, emcyLast := none } : TransportSt)) h.tr
  unfold Dev.still
  rw [h.core, h.env, h.strs, h.staged, h.freeCtr, h.panels, h.seams, h.wiring, h.baste, h.watch, h.window, h.bobbins, h.blocks,
    h.scrub, h.patrol, h.shuttles, h.programs, h.progErrs, h.cal, h.safeBalls, h.cascade, h.config, h.sec, h.spool, h.rr, h.tally,
    h.swatch, h.darn, h.safety]
  exact congrArg (fun t : TransportSt => ({ d.still with tr := t } : Dev)) hn

theorem forEach_flowed {f : Nat → Dev → Dev} (h : ∀ i e, Flowed e (f i e)) (n : Nat) (d : Dev) : Flowed d (forEach n f d) := by
  induction n with
  | zero => exact Flowed.refl d
  | succ n ih =>
    rw [forEach_succ]
    exact ih.trans (h n _)

theorem Dev.setHalf_flowed (d : Dev) (k : Nat) (x : HalfSt) : Flowed d (d.setHalf k x) := .of_regs rfl rfl
theorem Dev.putHalf_flowed (d : Dev) (k : Nat) (x : HalfSt) : Flowed d (d.putHalf k x) := .of_regs rfl rfl
theorem Dev.setHemWin_flowed (d : Dev) (k : Nat) (x : HemWin) : Flowed d (d.setHemWin k x) := .of_regs rfl rfl
theorem Dev.setNeedle_flowed (d : Dev) (k : Nat) (x : NeedleSt) : Flowed d (d.setNeedle k x) := .of_regs rfl rfl
theorem Dev.setBank_flowed (d : Dev) (k : Nat) (x : BankSt) : Flowed d (d.setBank k x) := .of_regs rfl rfl
theorem Dev.emit_flowed (d : Dev) (o : Output) : Flowed d (d.emit o) := .of_regs rfl rfl

theorem Dev.notify_flowed (d : Dev) (reason inst : Nat) : Flowed d (d.notify reason inst) := (d.notify_reported reason inst).flowed
theorem Dev.log_flowed (d : Dev) (reason inst detail : Nat) : Flowed d (d.log reason inst detail) :=
  (d.log_reported reason inst detail).flowed
theorem Dev.logNotify_flowed (d : Dev) (reason inst detail : Nat) : Flowed d (d.logNotify reason inst detail) :=
  (d.logNotify_reported reason inst detail).flowed

/-! ### Cells (R290) -/

theorem Dev.sendCell_flowed (d : Dev) (east : Bool) (c : Cell) : Flowed d (d.sendCell east c) := by
  unfold Dev.sendCell
  split
  · exact d.emit_flowed _
  · exact .refl d

theorem Dev.broadcast_flowed (d : Dev) (kind body : Nat) : Flowed d (d.broadcast kind body) :=
  (d.sendCell_flowed true _).trans (Dev.sendCell_flowed _ false _)

/-! ### Entries and markers (R20, R140 to R144) -/

theorem Dev.pushed_flowed (d : Dev) (h : Nat) (r : HalfSt × Bool) : Flowed d (d.pushed h r) := by
  unfold Dev.pushed
  dsimp only
  split
  · exact d.putHalf_flowed h r.1
  · have marked := (d.putHalf_flowed h r.1).trans
      (Dev.setHemWin_flowed _ (hemOf h) { (d.putHalf h r.1).hemWinOf (hemOf h) with dropped := true, sent331 := true })
    split
    · exact marked
    · exact marked.trans (Dev.notify_flowed _ _ _)

theorem Dev.status_flowed (d : Dev) (g event time slice hems : Nat) : Flowed d (d.status g event time slice hems) :=
  d.pushed_flowed _ _

theorem Dev.closeEntry_flowed (d : Dev) (c : Nat) : Flowed d (d.closeEntry c) := by
  unfold Dev.closeEntry
  dsimp only
  split
  · exact .refl d
  · exact d.pushed_flowed _ _

theorem Dev.drain_flowed (d : Dev) (c : Nat) (l : List NItem) : Flowed d (d.drain c l) := by
  induction l generalizing d with
  | nil => exact d.setNeedle_flowed _ _
  | cons x l ih =>
    cases x with
    | notch body => exact ((d.closeEntry_flowed c).trans (Dev.pushed_flowed _ _ _)).trans (ih _)
    | close => exact (d.closeEntry_flowed c).trans (ih _)
    | slice => exact d.setNeedle_flowed _ _

theorem Dev.feed_flowed (d : Dev) (c : Nat) (i : NItem) : Flowed d (d.feed c i) := d.drain_flowed c _

theorem Dev.placeMarkers_flowed (d : Dev) (m : Marker) (g : Nat) : Flowed d (d.placeMarkers m g) := by
  unfold Dev.placeMarkers
  dsimp only
  split
  · exact .refl d
  · split
    · exact (forEach_flowed (fun i e => e.feed_flowed _ _) 8 d).trans (Dev.pushed_flowed _ _ _)
    · exact d.pushed_flowed _ _

/-! ### Islands that stop and run (R101, R153, R262) -/

theorem Dev.markStopped_flowed (d : Dev) (p : Nat → Bool) : Flowed d (d.markStopped p) := by
  unfold Dev.markStopped
  refine forEach_flowed (fun hem e => ?_) 216 d
  split
  · exact e.setHemWin_flowed _ _
  · exact .refl e

theorem Dev.markRan_flowed (d : Dev) (p : Nat → Bool) : Flowed d (d.markRan p) := by
  unfold Dev.markRan
  refine forEach_flowed (fun hem e => ?_) 216 d
  dsimp only
  split
  · exact e.setHemWin_flowed _ _
  · exact .refl e

theorem Dev.followGroup_flowed (d : Dev) (g : Nat) : Flowed d (d.followGroup g) := by
  unfold Dev.followGroup
  refine forEach_flowed (fun b e => ?_) 4 d
  dsimp only
  split
  · exact (e.setBank_flowed _ _).trans (Dev.markStopped_flowed _ _)
  · exact .refl e

theorem Dev.notchPulse_flowed (d : Dev) (t : Nat) : Flowed d (d.notchPulse t) := by
  unfold Dev.notchPulse
  exact forEach_flowed (fun b e => e.setBank_flowed _ _) 4 d

theorem Dev.cutNeedles_flowed (d : Dev) (g : Nat) : Flowed d (d.cutNeedles g) := by
  unfold Dev.cutNeedles
  exact forEach_flowed (fun i e => e.setNeedle_flowed _ _) 8 d

end Sys2Proof.Machine
end

section
/-! SUPPORT. The requests for a state (R30, R31): what leaving RUN, clearing the array and the first start-up steps leave. -/

namespace Sys2Proof.Machine

/-! ### Outputs dropped, a calibration aborted, tests ended (R36, R245, R499) -/

/-- The device with its outputs dropped and its group PLLs unlocked. -/
def Dev.outputsOff (d : Dev) : Dev := { d with core := { d.core with outputs := false }, tr := { d.tr with plls := 0 } }

theorem Flowed.outputsOff {d e : Dev} (h : Flowed d e) : Flowed d.outputsOff e.outputsOff :=
  ⟨congrArg Dev.outputsOff h.still, h.regs⟩

theorem Dev.dropOutputs_flowed (d : Dev) : Flowed d.outputsOff d.dropOutputs :=
  (d.markStopped_flowed (fun n => n < 108)).outputsOff.trans (forEach_flowed (fun g e => e.followGroup_flowed g) 12 _)

theorem Dev.calEnd_staged (d : Dev) (q : CalReq) (whole : Bool) : (d.calEnd q whole).staged = d.staged := by
  have levels : (d.calLevels q whole).staged = d.staged := by
    unfold Dev.calLevels
    split
    · rfl
    · dsimp only
      refine (forEach_keeps Dev.staged (fun c e => ?_) 96 _).trans rfl
      split
      · have emits {α : Type} (o : α → Output) (l : List α) (e : Dev) :
            (l.foldl (fun e p => e.emit (o p)) e).staged = e.staged := by
          induction l generalizing e with
          | nil => rfl
          | cons p l ih => exact ih _
        exact emits _ _ e
      · rfl
  unfold Dev.calEnd
  dsimp only
  refine (forEach_keeps Dev.staged (fun c e => ?_) 96 _).trans levels
  split <;> rfl

theorem Dev.calAbort_staged (d : Dev) : d.calAbort.staged = d.staged := by
  unfold Dev.calAbort
  split
  · rfl
  · next q _ =>
    refine (forEach_keeps Dev.staged (fun g e => ?_) 12 _).trans (d.calEnd_staged q false)
    split
    · exact (e.log_flowed _ _ _).staged
    · rfl

theorem Dev.endPatchTests_staged (d : Dev) (q : Nat) : (d.endPatchTests q).staged = d.staged := by
  have bands (l : List Nat) (e : Dev) :
      (l.foldl (fun e r => if e.rowKind q r = 2 then e.setBand q r 16 0 else e) e).staged = e.staged := by
    induction l generalizing e with
    | nil => rfl
    | cons r l ih =>
      rw [List.foldl_cons, ih]
      split <;> rfl
  exact bands _ _

theorem Dev.shifted_core (d : Dev) (new : DevState) (reason : Nat) : (d.shifted new reason).core = { d.core with state := new } := rfl
theorem Dev.shifted_config (d : Dev) (new : DevState) (reason : Nat) : (d.shifted new reason).config = d.config := rfl
theorem Dev.shifted_tr (d : Dev) (new : DevState) (reason : Nat) : (d.shifted new reason).tr = d.tr := rfl
theorem Dev.shifted_staged (d : Dev) (new : DevState) (reason : Nat) : (d.shifted new reason).staged = d.staged := rfl

theorem Dev.changeState_flowed (d : Dev) (new : DevState) (reason inst : Nat) :
    Flowed (d.shifted new reason) (d.changeState new reason inst) :=
  Dev.log_flowed _ _ _ _

/-! ### The array cleared (R35) -/

/-- What a cleared array is told by. -/
def Dev.array (d : Dev) : List Staged × List (Nat × PanelSt) × List (Nat × SeamSt) × List (Nat × Frame) × Bool × Bool :=
  (d.staged, d.panels, d.seams, d.config.active, d.core.gsrHeld, d.core.outputs)

/-- The array is cleared and no output is on: no staged write, of a site at most its tension offset, no seam, no frame. -/
structure ArrayClear (d : Dev) : Prop where
  staged : d.staged = []
  panels : ∀ site, { d.panel site with tension := 0 } = ({} : PanelSt)
  seams : d.seams = []
  active : d.config.active = []
  held : d.core.gsrHeld = true
  outputs : d.core.outputs = false

theorem ArrayClear.of_array {d e : Dev} (h : ArrayClear d) (k : e.array = d.array) : ArrayClear e := by
  simp only [Dev.array, Prod.mk.injEq] at k
  obtain ⟨staged, panels, seams, active, held, outputs⟩ := k
  refine ⟨staged.trans h.staged, fun site => ?_, seams.trans h.seams, active.trans h.active, held.trans h.held,
    outputs.trans h.outputs⟩
  have same : e.panel site = d.panel site := by unfold Dev.panel; rw [panels]
  rw [same, h.panels]

theorem Flowed.array {d e : Dev} (h : Flowed d e) : e.array = d.array := (congrArg Dev.array h.still :)

theorem Dev.updatePermits_array (d : Dev) : d.updatePermits.array = d.array := (congrArg Dev.array d.updatePermits_besidePermits :)

theorem Dev.updatePermits_staged (d : Dev) : d.updatePermits.staged = d.staged := (congrArg Dev.staged d.updatePermits_besidePermits :)
theorem Dev.updatePermits_config (d : Dev) : d.updatePermits.config = d.config := (congrArg Dev.config d.updatePermits_besidePermits :)
theorem Dev.updatePermits_tr (d : Dev) : d.updatePermits.tr = d.tr := (congrArg Dev.tr d.updatePermits_besidePermits :)

theorem Dev.bootUp_array (d : Dev) : d.bootUp.array = d.array := by
  unfold Dev.bootUp
  dsimp only
  split <;> rfl

/-- Of every site only the adopted tension offset is left. -/
theorem Dev.tensionsOnly_panel (d : Dev) (site : Nat) : { d.tensionsOnly.panel site with tension := 0 } = ({} : PanelSt) := by
  unfold Dev.panel Dev.tensionsOnly
  dsimp only
  induction d.panels with
  | nil => rfl
  | cons p l ih =>
    rw [List.map_cons, List.filter_cons]
    split
    · unfold tabGet
      split
      · rfl
      · exact ih
    · exact ih

/-- What the clearing of blocks, bobbins, hems, slots and pins leaves: core and staged writes. -/
def Dev.plan (d : Dev) : CoreSt × List Staged := (d.core, d.staged)

theorem Dev.clearBlocks_plan (d : Dev) (p : Nat → Bool) : (d.clearBlocks p).plan = d.plan := by
  have each (l : List (Nat × BlockSt)) (e : Dev) :
      (l.foldl (fun e k => if p (blockPatch k.1) then e.setBlock k.1 (e.block k.1).cleared else e) e).plan = e.plan := by
    induction l generalizing e with
    | nil => rfl
    | cons k l ih =>
      rw [List.foldl_cons, ih]
      split <;> rfl
  exact each _ _

theorem Dev.emptyHems_plan (d : Dev) : d.emptyHems.plan = d.plan := by
  have each (l : List Nat) (e : Dev) : (l.foldl (fun e h => e.setHalf h (e.half h).emptied) e).plan = e.plan := by
    induction l generalizing e with
    | nil => rfl
    | cons h l ih =>
      rw [List.foldl_cons, ih]
      simp [Dev.plan]
  unfold Dev.emptyHems
  exact (forEach_keeps Dev.plan (fun b e => by simp [Dev.plan, Dev.dropHead]) 4 _).trans (each _ _)

theorem Dev.clearSlots_plan (d : Dev) : d.clearSlots.plan = d.plan := by
  unfold Dev.clearSlots
  exact (forEach_keeps Dev.plan (fun s e => by simp [Dev.plan, Dev.wrN]) 4 _).trans rfl

theorem Dev.freshPins_plan (d : Dev) : d.freshPins.plan = d.plan := by
  unfold Dev.freshPins
  exact forEach_keeps Dev.plan (fun b e => by simp [Dev.plan, Dev.wrN]) 4 _

theorem Dev.clearArray_clears {d : Dev} (hs : d.staged = []) (ho : d.core.outputs = false) : ArrayClear d.clearArray := by
  have inner : ((d.clearBlocks (fun _ => true)).emptyBobbins 54).emptyHems.clearSlots.freshPins.plan = d.plan := by
    rw [Dev.freshPins_plan, Dev.clearSlots_plan, Dev.emptyHems_plan]
    exact d.clearBlocks_plan _
  generalize hb : ((d.clearBlocks (fun _ => true)).emptyBobbins 54).emptyHems.clearSlots.freshPins = b at inner
  simp only [Dev.plan, Prod.mk.injEq] at inner
  obtain ⟨core, staged⟩ := inner
  unfold Dev.clearArray
  dsimp only
  rw [hb]
  exact ⟨staged.trans hs, Dev.tensionsOnly_panel _, rfl, rfl, rfl, (congrArg CoreSt.outputs core).trans ho⟩

/-! ### Entry to UNCONFIGURED (R35, R36, R408) -/

/-- What an entry to UNCONFIGURED leaves. -/
structure Unconfigured (reason : Nat) (d : Dev) : Prop where
  state : d.core.state = .unconfigured
  clear : ArrayClear d
  shown : d.rdN 0x2000 3 = reason
  nmt : d.tr.nmt = 0x7F
  bootUp : d.canOn = true → d.out.head? = some (.can (0x700 + d.nodeId) [0])

theorem Dev.bootUp_rd (d : Dev) (i j : Nat) : d.bootUp.rd i j = d.rd i j := by
  unfold Dev.bootUp
  dsimp only
  split <;> rfl

theorem Dev.bootUp_core (d : Dev) : d.bootUp.core = d.core := by
  unfold Dev.bootUp
  dsimp only
  split <;> rfl

/-- The boot-up message is the last thing that an enabled CAN interface has sent. -/
theorem Dev.bootUp_says (d : Dev) :
    d.bootUp.tr.nmt = 0x7F ∧ (d.bootUp.canOn = true → d.bootUp.out.head? = some (.can (0x700 + d.bootUp.nodeId) [0])) := by
  unfold Dev.bootUp
  dsimp only
  split
  · exact ⟨rfl, fun _ => rfl⟩
  · next h => exact ⟨rfl, fun k => absurd k h⟩

theorem Dev.enterUnconfigured_enters (d : Dev) {reason : Nat} (hr : reason < 2 ^ 64) :
    Unconfigured reason (d.enterUnconfigured reason) := by
  have off : d.endWork.dropOutputs.discardPartial.discardStaged.core.outputs = false := by
    show d.endWork.dropOutputs.discardPartial.core.outputs = false
    rw [Dev.discardPartial_core, (Dev.dropOutputs_flowed _).core]
    rfl
  have cleared := Dev.clearArray_clears (d := d.endWork.dropOutputs.discardPartial.discardStaged) rfl off
  unfold Dev.enterUnconfigured
  dsimp only
  generalize d.endWork.dropOutputs.discardPartial.discardStaged.clearArray = c at cleared
  obtain ⟨nmt, sent⟩ := (c.changeState .unconfigured reason).updatePermits.bootUp_says
  refine ⟨?_, cleared.of_array ?_, ?_, nmt, sent⟩
  · rw [Dev.bootUp_core, Dev.updatePermits_core, Dev.changeState_state]
  · rw [Dev.bootUp_array, Dev.updatePermits_array, (c.changeState_flowed _ _ _).array]
    rfl
  · unfold Dev.rdN
    rw [Dev.bootUp_rd, Dev.updatePermits_rd _ (by decide) (by decide), Dev.changeState_reason, toNat_word hr]

/-! ### The acknowledgement of SAFE (R30) -/

/-- What the acknowledgement of SAFE leaves of the entry to UNCONFIGURED. -/
def Dev.settledView (d : Dev) : DevState × (List Staged × List (Nat × PanelSt) × List (Nat × SeamSt) × List (Nat × Frame) × Bool × Bool) ×
    List (Nat × BitVec 64) × Nat × Word :=
  (d.core.state, d.array, d.programs, d.tr.nmt, d.rd 0x2000 3)

theorem Flowed.settledView {d e : Dev} (h : Flowed d e) : e.settledView = d.settledView := by
  unfold Dev.settledView
  rw [h.array, h.core, h.programs, h.nmt, h.rd (by decide) (by decide)]

/-- A register from 0x2001 on is not the reason of the last state change. -/
theorem Dev.wr_settledView (d : Dev) {i : Nat} (j : Nat) (v : Word) (h : 0x2001 ≤ i) : (d.wr i j v).settledView = d.settledView := by
  unfold Dev.settledView
  rw [Dev.rd_wr_other _ _ (by unfold objKey; omega)]
  rfl

theorem Dev.tables_settledView (d : Dev) (i j : Nat) (l : List Byte) (g : Nat) (x : ShuttleSt) :
    ((d.setBytes i j l).setShuttle g x).settledView = d.settledView := by
  simp [Dev.settledView, Dev.array, Dev.rd]

theorem Dev.recompute_settledView (d : Dev) (g : Nat) : (d.recompute g).settledView = d.settledView := by
  have far : 0x2001 ≤ shIdx g := by unfold shIdx; omega
  have rises (e : Dev) (m : Nat) :
      (if e.rdN (shIdx g) 9 < m then (e.wrN (shIdx g) 9 m).log 0x0413 g 0 else e).settledView = e.settledView := by
    split
    · exact (Dev.log_flowed _ _ _ _).settledView.trans (e.wr_settledView _ _ far)
    · rfl
  unfold Dev.recompute
  dsimp only
  rw [rises]
  split
  · exact d.wr_settledView _ _ far
  · exact d.wr_settledView _ _ far

theorem Dev.slips_settledView (d : Dev) (c n : Nat) : (d.slips c n).settledView = d.settledView := by
  unfold Dev.slips
  dsimp only
  split
  · rfl
  · have counted : (d.count (0x3200 + c) 0x0A 32 n).settledView = d.settledView := d.wr_settledView _ _ (by omega)
    split
    · exact counted
    · exact ((Dev.setNeedle_flowed _ _ _).trans (Dev.notify_flowed _ _ _)).settledView.trans counted

theorem Dev.needleOff_settledView (d : Dev) (c : Nat) : (d.needleOff c).settledView = d.settledView := by
  unfold Dev.needleOff
  dsimp only
  rw [(Dev.setNeedle_flowed _ _ _).settledView]
  split
  · exact (Dev.slips_settledView _ _ _).trans ((Dev.emit_flowed _ _).trans (Dev.setNeedle_flowed _ _ _)).settledView
  · rfl

theorem Dev.groupsOff_settledView (d : Dev) (groups : Nat) : (d.groupsOff groups).settledView = d.settledView := by
  unfold Dev.groupsOff
  refine forEach_keeps Dev.settledView (fun c e => ?_) 96 d
  split
  · exact e.needleOff_settledView c
  · rfl

theorem Dev.withPrograms_settledView (d : Dev) (p : List (Nat × BitVec 64)) (q : List (Nat × BitVec 79)) :
    { d with programs := p, progErrs := q }.settledView = (d.core.state, d.array, p, d.tr.nmt, d.rd 0x2000 3) := rfl

/-- The acknowledgement of SAFE is the entry to UNCONFIGURED with its programs emptied, and what does not touch either. -/
theorem Dev.acknowledgeSafe_settledView (d : Dev) :
    d.acknowledgeSafe.settledView =
      ((d.enterUnconfigured 0x0B7A).core.state, (d.enterUnconfigured 0x0B7A).array, [], (d.enterUnconfigured 0x0B7A).tr.nmt,
        (d.enterUnconfigured 0x0B7A).rd 0x2000 3) := by
  rw [← Dev.withPrograms_settledView _ [] []]
  unfold Dev.acknowledgeSafe
  dsimp only
  rw [(Dev.emcy_reported _ _ _ _).flowed.settledView,
    forEach_keeps Dev.settledView (f := fun f e => e.wrN (0x3A10 + f) 4 0) (fun f e => e.wr_settledView _ _ (by omega)),
    Dev.groupsOff_settledView]
  refine forEach_keeps Dev.settledView (fun g e => ?_) 12 _
  rw [Dev.recompute_settledView, Dev.tables_settledView]

/-! ### The steps of a wake (R333, R334) -/

/-- Of an order that names each step once, a wake keeps PLL_LOCK and RELEASE_OUTPUTS. -/
theorem wakeSteps {v : Nat} (h : orderOk v = true) :
    (orderSteps v).filter (fun c => c = 0 || c = 1) = [0, 1] ∨ (orderSteps v).filter (fun c => c = 0 || c = 1) = [1, 0] := by
  have all : ∀ a b c e : Fin 4, [0, 1, 2, 3].all (fun k => [a.val, b.val, c.val, e.val].contains k) = true →
      [a.val, b.val, c.val, e.val].filter (fun c => c = 0 || c = 1) = [0, 1] ∨
        [a.val, b.val, c.val, e.val].filter (fun c => c = 0 || c = 1) = [1, 0] := by decide
  exact all ⟨v % 4, by omega⟩ ⟨v / 4 % 4, by omega⟩ ⟨v / 16 % 4, by omega⟩ ⟨v / 64 % 4, by omega⟩ h

theorem Dev.showLanes_flowed (d : Dev) (g : Nat) : Flowed d (d.showLanes g) := by
  unfold Dev.showLanes
  refine forEach_flowed (fun i e => ?_) 8 d
  dsimp only
  split
  · exact (e.emit_flowed _).trans (Dev.setNeedle_flowed _ _ _)
  · exact .refl e

theorem Dev.releaseOutputs_core (d : Dev) : d.releaseOutputs.core = { d.core with outputs := true } := by
  unfold Dev.releaseOutputs
  exact (forEach_flowed (fun g e => e.showLanes_flowed g) 12 _).core

/-- The steps of a wake run up to PLL_LOCK, which waits. -/
theorem Dev.beginSteps_wake {d : Dev} (hs : d.core.state = .folded) (ho : orderOk d.config.orderInEffect = true) :
    (d.beginSteps true).core.state = .folded ∧ ∃ l, (d.beginSteps true).core.steps = some (0 :: l) := by
  unfold Dev.beginSteps Dev.proceedSteps
  dsimp only
  rw [if_pos rfl]
  rcases wakeSteps ho with h | h
  · rw [h]
    exact ⟨hs, [1], rfl⟩
  · rw [h]
    have step : (({ d with core := { d.core with steps := some [0] } } : Dev).runStep 1).core =
        { d.core with steps := some [0], outputs := true } := by
      unfold Dev.runStep Dev.stepDone
      dsimp only
      rw [if_pos rfl, Dev.releaseOutputs_core, if_neg (by simp [hs]), Dev.releaseOutputs_core]
    have second : Dev.advanceSteps 5 ({ d with core := { d.core with steps := some [1, 0] } } : Dev) =
        Dev.advanceSteps 4 (({ d with core := { d.core with steps := some [0] } } : Dev).runStep 1) := by
      rw [Dev.advanceSteps.eq_def]
      simp [hs]
    have waits : Dev.advanceSteps 4 (({ d with core := { d.core with steps := some [0] } } : Dev).runStep 1) =
        ({ d with core := { d.core with steps := some [0] } } : Dev).runStep 1 := by
      rw [Dev.advanceSteps.eq_def]
      simp [step]
    rw [second, waits, step]
    exact ⟨hs, [], rfl⟩

end Sys2Proof.Machine
end

section
/-! The statement about the requests that change the device state. -/

namespace Sys2Proof.Machine

theorem num_stateRequest (path : Transport) {v : Nat} (h1 : 1 ≤ v) (h4 : v ≤ 4) :
    objStateRequest.num ⟨path, 1, word v, [], 0⟩ = v :=
  (stateWr_carried path h1 h4).2.2.2.2

/-- The effect of each value of STATE_REQUEST. -/
theorem stateRequest_apply (path : Transport) (d : Dev) :
    actStateRequest.apply d ⟨path, 1, word 1, [], 0⟩ = d.enterReset 0x0B72 d.env.resetN ∧
    actStateRequest.apply d ⟨path, 1, word 2, [], 0⟩ = { d with core := { d.core with foldPending := true } } ∧
    actStateRequest.apply d ⟨path, 1, word 3, [], 0⟩ = (if d.core.steps.isSome then d else d.beginSteps true) ∧
    actStateRequest.apply d ⟨path, 1, word 4, [], 0⟩ = d.enterUnconfigured 0x0B79 := by
  unfold actStateRequest
  dsimp only
  rw [num_stateRequest path (v := 1) (by decide) (by decide), num_stateRequest path (v := 2) (by decide) (by decide),
    num_stateRequest path (v := 3) (by decide) (by decide), num_stateRequest path (v := 4) (by decide) (by decide)]
  exact ⟨rfl, rfl, rfl, rfl⟩

/-- FOLD is accepted in RUN with every shuttle HALTED, WAKE in FOLDED. -/
theorem foldRequest_state {path : Transport} {d : Dev} (h : actStateRequest.allow d ⟨path, 1, word 2, [], 0⟩ = 0) :
    d.core.state = .run ∧ d.allHalted = true := by
  unfold actStateRequest at h
  dsimp only at h
  rw [num_stateRequest path (v := 2) (by decide) (by decide)] at h
  by_cases hr : d.core.state = .run
  · exact ⟨hr, by_contra fun hh => by simp [hr, hh] at h⟩
  · simp [hr] at h

theorem wakeRequest_state {path : Transport} {d : Dev} (h : actStateRequest.allow d ⟨path, 1, word 3, [], 0⟩ = 0) :
    d.core.state = .folded := by
  unfold actStateRequest at h
  dsimp only at h
  rw [num_stateRequest path (v := 3) (by decide) (by decide)] at h
  by_contra hf
  simp [hf] at h

/-- The dictionary stands while the Thimble runs, and never in RESET. -/
theorem Dev.not_reset_of_dictionary {d : Dev} (h : d.dictionary = true) : d.core.state ≠ .reset := by
  intro hr
  simp [Dev.dictionary, Dev.thimble, hr] at h

/-- What the quiescent fabric's change to FOLDED leaves (R30). -/
theorem foldQuiesce_folds {s : State} (hr : s.dev.core.state = .run) (hf : s.dev.core.foldPending = true)
    (hh : s.dev.allHalted = true) :
    ∃ t, exec .foldQuiesce s = .next t ∧ Kept s t ∧ t.dev.core.state = .folded ∧ t.dev.core.foldPending = false ∧
      t.dev.core.outputs = false ∧ t.dev.core.gatesOpen = false ∧ t.dev.config.cfgDone = false ∧ t.dev.tr.plls = 0 ∧
      t.dev.staged = s.dev.staged := by
  have tests : (forEach 54 (fun q e => e.endPatchTests q) s.dev.calAbort).staged = s.dev.staged :=
    (forEach_keeps Dev.staged (fun q e => e.endPatchTests_staged q) 54 _).trans s.dev.calAbort_staged
  show ∃ t, execFoldQuiesce s = .next t ∧ _
  unfold execFoldQuiesce
  rw [onDev_next]
  dsimp only
  rw [if_neg (by simp [hr, hf, hh])]
  generalize forEach 54 (fun q e => e.endPatchTests q) s.dev.calAbort = b at tests
  have drop := b.dropOutputs_flowed.trans (Dev.markStopped_flowed _ (fun n => 112 ≤ n && n < 116))
  generalize b.dropOutputs.markStopped (fun n => 112 ≤ n && n < 116) = c at drop
  generalize hm : ({ c with
    core := { c.core with foldPending := false, gatesOpen := false }, config := { c.config with cfgDone := false } } : Dev) = m
  have shifted := (m.setFlag 0x2100 1 12 false).changeState_flowed .folded 0x0B77 0
  refine ⟨_, rfl, kept_withDev s _, ?_⟩
  dsimp only
  rw [Dev.updatePermits_core, Dev.updatePermits_config, Dev.updatePermits_tr, Dev.updatePermits_staged, shifted.core, shifted.config,
    shifted.plls, shifted.staged, Dev.shifted_core, Dev.shifted_config, Dev.shifted_tr, Dev.shifted_staged, Dev.setFlag_eq,
    Dev.wr_core, Dev.wr_config, Dev.wr_tr, Dev.wr_staged, ← hm]
  have outputs : c.core.outputs = false := congrArg CoreSt.outputs drop.core
  have plls : c.tr.plls = 0 := drop.plls
  have staged : c.staged = s.dev.staged := drop.staged.trans tests
  exact ⟨rfl, rfl, outputs, rfl, rfl, plls, staged⟩

/-- Settles O11: each request is the effect of its value; what it reaches is said by the entries to RESET, UNCONFIGURED and FOLDED and by
the first steps of a wake. -/
theorem stateRequests : Obligations.StateRequests := by
  unfold Obligations.StateRequests
  refine ⟨fun path s h => ?_, fun path s h => ?_, fun s hr hf hh => foldQuiesce_folds hr hf hh, fun path s h hs ho => ?_,
    fun path s h => ?_, fun w s h hs hq => ?_⟩
  · obtain ⟨reset, -, -, -⟩ := stateRequest_apply path s.dev
    have he := s.dev.enterReset_enters s.dev.env.resetN (Dev.not_reset_of_dictionary h.1) (reason := 0x0B72) (by decide)
    have ran : exec (.resetRequest path) s = .next { s with dev := s.dev.enterReset 0x0B72 s.dev.env.resetN } := by
      rw [← reset, ← rowWrite_accepted 0x2001 0 h]
      rfl
    exact ⟨_, ran, kept_withDev s _, he.state, he.hold, he.shown, he.nv, he.staged⟩
  · obtain ⟨-, fold, -, -⟩ := stateRequest_apply path s.dev
    obtain ⟨hr, hh⟩ := foldRequest_state (allow_of_writeCheck h.2)
    have ran : exec (.foldRequest path) s =
        .next { s with dev := { s.dev with core := { s.dev.core with foldPending := true } } } := by
      rw [← fold, ← rowWrite_accepted 0x2001 0 h]
      rfl
    exact ⟨_, ran, kept_withDev s _, hr, hh, rfl⟩
  · obtain ⟨-, -, wake, -⟩ := stateRequest_apply path s.dev
    have hf := wakeRequest_state (allow_of_writeCheck h.2)
    have ran : exec (.wakeRequest path) s = .next { s with dev := s.dev.beginSteps true } := by
      rw [hs, Option.isSome_none, if_neg (by decide)] at wake
      rw [← wake, ← rowWrite_accepted 0x2001 0 h]
      rfl
    obtain ⟨folded, l, hl⟩ := Dev.beginSteps_wake hf ho
    exact ⟨_, ran, kept_withDev s _, folded, l, hl⟩
  · obtain ⟨-, -, -, clear⟩ := stateRequest_apply path s.dev
    have ran : exec (.clearRequest path) s = .next { s with dev := s.dev.enterUnconfigured 0x0B79 } := by
      rw [← clear, ← rowWrite_accepted 0x2001 0 h]
      rfl
    have he := s.dev.enterUnconfigured_enters (reason := 0x0B79) (by decide)
    exact ⟨_, ran, kept_withDev s _, he.state, he.clear.staged, he.clear.panels, he.clear.seams, he.clear.active, he.clear.held,
      he.clear.outputs, he.shown, he.nmt, he.bootUp⟩
  · have ran : exec (.stateAck w) s = .next { s with dev := s.dev.acknowledgeSafe } := by
      have apply : actStateAck.apply s.dev w = s.dev.acknowledgeSafe := by
        unfold actStateAck
        dsimp only
        rw [if_pos hs, if_pos hq]
      rw [← apply, ← rowWrite_accepted 0x2000 2 h]
      rfl
    have he := s.dev.enterUnconfigured_enters (reason := 0x0B7A) (by decide)
    have settled := s.dev.acknowledgeSafe_settledView
    simp only [Dev.settledView, Prod.mk.injEq] at settled
    obtain ⟨state, array, programs, nmt, shown⟩ := settled
    have clear := he.clear.of_array array
    refine ⟨_, ran, kept_withDev s _, ?_⟩
    dsimp only
    exact ⟨state.trans he.state, clear.staged, clear.panels, clear.active, programs, clear.outputs,
      (congrArg BitVec.toNat shown).trans he.shown, nmt.trans he.nmt⟩

end Sys2Proof.Machine
end

section
/-! SUPPORT. Notches (R18 to R23): how the sequence numbers move on, and what a notch leaves beside them and the staged writes. -/

namespace Sys2Proof.Machine

/-! ### What follows the changes of a notch -/

/-- What neither markers nor commits, dumps and cascade notches move. -/
def Dev.notchView (d : Dev) : List Staged × CoreSt × SafetySt × SecSt × List (Nat × BlockSt) × List (Nat × BobbinSt) ×
    List (Nat × BitVec 64) × List (Nat × PanelSt) × List (Nat × ShuttleSt) :=
  (d.staged, d.core, d.safety, d.sec, d.blocks, d.bobbins, d.programs, d.panels, d.shuttles)

/-- The registers that a commit latched, a dump or a report may move. -/
def notchReg (i j : Nat) : Bool := reportReg i j || regsOf 0x2110 [1] i j || regsOf 0x3501 [1, 6] i j

/-- Markers, a latched commit, a dump and cascade notches came between d and e. -/
structure Notched (d e : Dev) : Prop where
  view : e.notchView = d.notchView
  regs : RegsKept notchReg d e

theorem Notched.refl (d : Dev) : Notched d d := ⟨rfl, RegsKept.refl _ d⟩

theorem Notched.trans {d e f : Dev} (h : Notched d e) (k : Notched e f) : Notched d f :=
  ⟨k.view.trans h.view, h.regs.trans k.regs (fun _ _ => id) (fun _ _ => id)⟩

theorem Flowed.notched {d e : Dev} (h : Flowed d e) : Notched d e :=
  ⟨(congrArg Dev.notchView h.still :), fun i j hj hr => h.regs i j hj (by
    unfold notchReg at hr
    simp only [Bool.or_eq_false_iff] at hr
    exact hr.1.1)⟩

/-- A change beside the registers and what a notch leaves. -/
theorem Notched.of_regs {d e : Dev} (hv : e.notchView = d.notchView) (hr : e.regs = d.regs) : Notched d e :=
  ⟨hv, fun i j _ _ => by unfold Dev.rd; rw [hr]⟩

theorem Dev.wr_notched (d : Dev) {i j : Nat} (v : Word) (hj : j < 256) (h : notchReg i j = true) : Notched d (d.wr i j v) := by
  refine ⟨by simp [Dev.notchView], fun i' j' hj' hr => d.rd_wr_other v fun e => ?_⟩
  obtain ⟨rfl, rfl⟩ := objKey_inj hj hj' e
  rw [h] at hr
  contradiction

section
variable {d e : Dev} (h : Notched d e)
include h

theorem Notched.staged : e.staged = d.staged := congrArg (fun v => v.1) h.view
theorem Notched.core : e.core = d.core := congrArg (fun v => v.2.1) h.view
theorem Notched.safety : e.safety = d.safety := congrArg (fun v => v.2.2.1) h.view
theorem Notched.sec : e.sec = d.sec := congrArg (fun v => v.2.2.2.1) h.view
theorem Notched.blocks : e.blocks = d.blocks := congrArg (fun v => v.2.2.2.2.1) h.view
theorem Notched.bobbins : e.bobbins = d.bobbins := congrArg (fun v => v.2.2.2.2.2.1) h.view
theorem Notched.programs : e.programs = d.programs := congrArg (fun v => v.2.2.2.2.2.2.1) h.view
theorem Notched.panels : e.panels = d.panels := congrArg (fun v => v.2.2.2.2.2.2.2.1) h.view

theorem Notched.rd {i j : Nat} (hj : j < 256) (hr : notchReg i j = false) : e.rd i j = d.rd i j := h.regs i j hj hr

theorem Notched.rdN {i j : Nat} (hj : j < 256) (hr : notchReg i j = false) : e.rdN i j = d.rdN i j := by
  unfold Dev.rdN; rw [h.rd hj hr]

end

theorem forEach_notched {f : Nat → Dev → Dev} (h : ∀ i e, Notched e (f i e)) (n : Nat) (d : Dev) : Notched d (forEach n f d) := by
  induction n with
  | zero => exact Notched.refl d
  | succ n ih =>
    rw [forEach_succ]
    exact ih.trans (h n _)

theorem Dev.withConfig_notched (d : Dev) (c : ConfigSt) : Notched d { d with config := c } := .of_regs rfl rfl
theorem Dev.withCascade_notched (d : Dev) (c : CascadeSt) : Notched d { d with cascade := c } := .of_regs rfl rfl
theorem Dev.withTally_notched (d : Dev) (t : TallySt) : Notched d { d with tally := t } := .of_regs rfl rfl
theorem Dev.setBytes_notched (d : Dev) (i j : Nat) (l : List Byte) : Notched d (d.setBytes i j l) := .of_regs rfl rfl

theorem Dev.latchCommit_notched (d : Dev) : Notched d d.latchCommit := by
  have flag (e : Dev) (k : Nat) (b : Bool) : Notched e (e.setFlag 0x2110 1 k b) := e.wr_notched _ (by decide) (by decide)
  unfold Dev.latchCommit
  split
  · dsimp only
    split
    · exact .refl d
    · split
      · split
        · exact .refl d
        · exact (flag d 12 true).trans (Dev.log_flowed _ _ _ _).notched
      · exact (((d.withConfig_notched _).trans (flag _ 13 false)).trans (flag _ 12 false)).trans (flag _ 10 true)
  · exact .refl d

theorem Dev.latchDump_notched (d : Dev) (time trigger : Nat) : Notched d (d.latchDump time trigger) := by
  unfold Dev.latchDump
  dsimp only
  split
  · exact (d.withTally_notched _).trans (Dev.setBytes_notched _ _ _ _)
  · have record (t : TallySt) (l : List Byte) : Notched d ((({ d with tally := t } : Dev).setBytes 0x3502 0 l).complete 0x3501 1 15 none) :=
      ((d.withTally_notched _).trans (Dev.setBytes_notched _ _ _ _)).trans (Dev.wr_notched _ _ (by decide) (by decide))
    split
    · exact record _ _
    · have counted (e : Dev) : Notched e (e.count 0x3501 6 32 1) := e.wr_notched _ (by decide) (by decide)
      split
      · exact (record _ _).trans (counted _)
      · exact (((record _ _).trans (counted _)).trans (Dev.withTally_notched _ _)).trans (Dev.notify_flowed _ _ _).notched

theorem Dev.issueNotch_notched (d : Dev) (t : Nat) : Notched d (d.issueNotch t) :=
  (d.broadcast_flowed _ _).notched.trans (Dev.withCascade_notched _ _)

theorem Dev.sourceNotch_notched (d : Dev) (g t : Nat) : Notched d (d.sourceNotch g t) := by
  unfold Dev.sourceNotch
  split
  · exact .refl d
  · split
    · exact d.issueNotch_notched _
    · exact (d.sendCell_flowed _ _).notched

/-! ### Sequence numbers -/

/-- The numbers of the scopes of a notch move on (R18). -/
def Dev.countNotch (d : Dev) (m : Marker) : Dev :=
  let d := forEach 12 (fun g e => if m.groups.testBit g then e.count (shIdx g) 8 32 1 else e) d
  if m.device then d.count 0x2004 1 32 1 else d

/-- What a device notch does beside numbers and staged writes: pulses, a commit, a dump. -/
def Dev.deviceNotch (d : Dev) (m : Marker) : Dev :=
  if m.device then
    let d := (d.notchPulse m.time).latchCommit
    if d.thimble && d.dumpMode = 2 then d.latchDump m.time 2 else d
  else d

theorem Dev.notchEffect_eq (d : Dev) (m : Marker) (scopes : List Scope) :
    d.notchEffect m scopes = ((d.countNotch m).applyDue m scopes).deviceNotch m := rfl

theorem Dev.deviceNotch_notched (d : Dev) (m : Marker) : Notched d (d.deviceNotch m) := by
  have pulsed := (d.notchPulse_flowed m.time).notched.trans (Dev.latchCommit_notched _)
  unfold Dev.deviceNotch
  split
  · dsimp only
    split
    · exact pulsed.trans (Dev.latchDump_notched _ _ _)
    · exact pulsed
  · exact .refl d

theorem Dev.rdN_count_same (d : Dev) (i j n : Nat) : (d.count i j 32 n).rdN i j = (d.rdN i j + n) % 2 ^ 32 :=
  d.rdN_wrN_same i j _ (Nat.lt_trans (Nat.mod_lt _ (by decide)) (by decide))

theorem Dev.rdN_count_other (d : Dev) {i j i' j' : Nat} (width n : Nat) (h : objKey i j ≠ objKey i' j') :
    (d.count i j width n).rdN i' j' = d.rdN i' j' := d.rdN_wrN_other _ h

/-- Sequence numbers alone move: nothing beside the registers, and of those only .08 of 0x3100 to 0x310B and 0x2004.01. -/
theorem Dev.countNotch_regsOnly (d : Dev) (m : Marker) : { d.countNotch m with regs := [] } = { d with regs := [] } := by
  have groups : ∀ n, { forEach n (fun g e => if m.groups.testBit g then e.count (shIdx g) 8 32 1 else e) d with regs := [] } =
      { d with regs := [] } := fun n => by
    refine forEach_keeps (fun e : Dev => ({ e with regs := [] } : Dev)) (fun g e => ?_) n d
    split
    · exact Dev.count_regsOnly _ _ _ _ _ _
    · rfl
  unfold Dev.countNotch
  dsimp only
  split
  · exact (Dev.count_regsOnly _ _ _ _ _ _).trans (groups 12)
  · exact groups 12

/-- After n rounds the numbers of the groups below n that the notch names have moved on by one. -/
theorem countGroups_rdN (d : Dev) (m n g : Nat) :
    (forEach n (fun g e => if m.testBit g then e.count (shIdx g) 8 32 1 else e) d).rdN (0x3100 + g) 8 =
      if g < n ∧ m.testBit g = true then (d.rdN (0x3100 + g) 8 + 1) % 2 ^ 32 else d.rdN (0x3100 + g) 8 := by
  induction n with
  | zero => simp [forEach]
  | succ n ih =>
    rw [forEach_succ]
    by_cases hb : m.testBit n = true
    · rw [if_pos hb]
      by_cases hg : g = n
      · subst hg
        rw [show shIdx g = 0x3100 + g from rfl, Dev.rdN_count_same, ih, if_neg (by omega), if_pos ⟨Nat.lt_succ_self g, hb⟩]
      · rw [Dev.rdN_count_other _ _ _ (by unfold objKey shIdx; omega), ih]
        simp only [show (g < n + 1) = (g < n) by simp; omega]
    · rw [if_neg hb, ih]
      by_cases hg : g = n
      · subst hg
        simp [hb]
      · simp only [show (g < n + 1) = (g < n) by simp; omega]

theorem countGroups_rd_other (d : Dev) (m n : Nat) {i j : Nat} (h : ∀ g, objKey (shIdx g) 8 ≠ objKey i j) :
    (forEach n (fun g e => if m.testBit g then e.count (shIdx g) 8 32 1 else e) d).rd i j = d.rd i j := by
  refine forEach_keeps (fun e => e.rd i j) (fun g e => ?_) n d
  split
  · exact Dev.rd_wr_other _ _ (h g)
  · rfl

theorem Dev.countNotch_group (d : Dev) (m : Marker) {g : Nat} (hg : g < 12) :
    (d.countNotch m).rdN (0x3100 + g) 8 =
      if m.groups.testBit g = true then (d.rdN (0x3100 + g) 8 + 1) % 2 ^ 32 else d.rdN (0x3100 + g) 8 := by
  have groups := countGroups_rdN d m.groups 12 g
  simp only [hg, true_and] at groups
  unfold Dev.countNotch
  dsimp only
  split
  · rw [Dev.rdN_count_other _ _ _ (by unfold objKey; omega), groups]
  · exact groups

theorem Dev.countNotch_device (d : Dev) (m : Marker) :
    (d.countNotch m).rdN 0x2004 1 = if m.device = true then (d.rdN 0x2004 1 + 1) % 2 ^ 32 else d.rdN 0x2004 1 := by
  have groups : (forEach 12 (fun g e => if m.groups.testBit g then e.count (shIdx g) 8 32 1 else e) d).rdN 0x2004 1 = d.rdN 0x2004 1 :=
    congrArg BitVec.toNat (countGroups_rd_other d m.groups 12 (fun g => by unfold objKey shIdx; omega))
  unfold Dev.countNotch
  dsimp only
  split
  · rw [Dev.rdN_count_same, groups]
  · exact groups

theorem Dev.countNotch_rd (d : Dev) (m : Marker) {i j : Nat} (h : ∀ g, objKey (shIdx g) 8 ≠ objKey i j)
    (hd : objKey 0x2004 1 ≠ objKey i j) : (d.countNotch m).rd i j = d.rd i j := by
  have groups := countGroups_rd_other d m.groups 12 h
  unfold Dev.countNotch
  dsimp only
  split
  · exact (Dev.rd_wr_other _ _ hd).trans groups
  · exact groups

theorem Dev.countNotch_staged (d : Dev) (m : Marker) : (d.countNotch m).staged = d.staged :=
  (congrArg Dev.staged (d.countNotch_regsOnly m) :)
theorem Dev.countNotch_core (d : Dev) (m : Marker) : (d.countNotch m).core = d.core :=
  (congrArg Dev.core (d.countNotch_regsOnly m) :)
theorem Dev.countNotch_cal (d : Dev) (m : Marker) : (d.countNotch m).cal = d.cal :=
  (congrArg Dev.cal (d.countNotch_regsOnly m) :)
theorem Dev.countNotch_notchView (d : Dev) (m : Marker) : (d.countNotch m).notchView = d.notchView :=
  (congrArg Dev.notchView (d.countNotch_regsOnly m) :)

/-! ### Changes due (R23, R27) -/

/-- Where no calibration result is staged and no latency is borne on, the changes due at a notch are the staged writes of its scopes. -/
theorem Dev.applyDue_writes {d e : Dev} {m : Marker} {scopes : List Scope} (hf : d.frozen = false)
    (he : d.applyScopes scopes m.time = e) (hd : d.cal.staged = []) (hc : e.cal.staged = []) (hl : d.latencyGroups scopes = []) :
    Notched e (d.applyDue m scopes) := by
  have cals : Notched e (e.applyCals m.groups) := by
    unfold Dev.applyCals
    rw [hc]
    exact .of_regs rfl rfl
  unfold Dev.applyDue
  rw [hf, if_neg (by decide), he, hd, hl]
  exact cals

/-- With nothing staged the changes due are none. -/
theorem Dev.applyDue_idle {d : Dev} (m : Marker) (scopes : List Scope) (hs : d.staged = []) (hc : d.cal.staged = []) :
    Notched d (d.applyDue m scopes) := by
  by_cases hf : d.frozen = true
  · unfold Dev.applyDue
    rw [if_pos hf]
    exact .refl d
  · have taken : d.applyScopes scopes m.time = { d with staged := [] } := by
      unfold Dev.applyScopes
      rw [hs]
      rfl
    have same : Notched d { d with staged := [] } := .of_regs (by simp [Dev.notchView, hs]) rfl
    exact same.trans (Dev.applyDue_writes (by simpa using hf) taken hc hc (by simp [Dev.latencyGroups, hs]))

/-- A notch with nothing staged moves its numbers on, and places its markers. -/
theorem Dev.notchEffect_idle {d : Dev} (m : Marker) (scopes : List Scope) (hs : d.staged = []) (hc : d.cal.staged = []) :
    Notched (d.countNotch m) (d.notchEffect m scopes) := by
  rw [Dev.notchEffect_eq]
  refine Notched.trans ?_ (Dev.deviceNotch_notched _ m)
  exact Dev.applyDue_idle m scopes ((d.countNotch_staged m).trans hs) ((congrArg CalSt.staged (d.countNotch_cal m)).trans hc)

/-! ### A staged write of a plain object (R23) -/

/-- A staged HEM_CONFIG is due at a notch of its scope. -/
theorem Dev.due_hemConfig (d : Dev) (scopes : List Scope) {x : Staged} (h : 0x3000 ≤ x.index) :
    d.due scopes x = scopes.any (fun s => decide (s = x.scope)) := by
  have out : ¬ x.index < 0x244C := by omega
  unfold Dev.due
  simp [out]

/-- A HEM_CONFIG takes effect as its register's value. -/
theorem Dev.applyValue_hemConfig (d : Dev) {i : Nat} (v : Word) (t : Nat) (h : 0x3000 ≤ i) (h' : i < 0x30D8) :
    d.applyValue i 0x0A (.word v) t = d.wr i 0x0A v := by
  unfold Dev.applyValue
  dsimp only
  rw [if_neg (by omega), if_neg (by omega), if_neg (by omega), if_neg (by omega), if_neg (by omega), if_neg (by omega),
    if_neg (by omega)]

theorem latencyGroup_hemConfig {i : Nat} (h : 0x3000 ≤ i) (h' : i < 0x30D8) : latencyGroup i 0x0A = none := by
  unfold latencyGroup
  rw [if_neg (by omega), if_neg (by omega), if_neg (by omega)]

/-- A single staged HEM_CONFIG at a notch: with its scope among the notch's it takes effect, else it goes on waiting. -/
theorem Dev.applyDue_hemConfig {d : Dev} {m : Marker} {scopes : List Scope} {x : Staged} {v : Word} (hf : d.frozen = false)
    (hs : d.staged = [x]) (hc : d.cal.staged = []) (hv : x.val = .word v) (hi : 0x3000 ≤ x.index) (hi' : x.index < 0x30D8)
    (hj : x.sub = 0x0A) :
    Notched (if scopes.any (fun s => decide (s = x.scope)) then ({ d with staged := [] } : Dev).wr x.index 0x0A v else d)
      (d.applyDue m scopes) := by
  have due := d.due_hemConfig scopes hi
  have latency : d.latencyGroups scopes = [] := by
    unfold Dev.latencyGroups
    rw [hs, List.filter_singleton]
    cases d.due scopes x
    · rfl
    · simp [hj, latencyGroup_hemConfig hi hi']
  split
  · next h =>
    refine Dev.applyDue_writes hf ?_ hc (by exact hc) latency
    unfold Dev.applyScopes
    rw [hs, List.filter_singleton, List.filter_singleton, due, h]
    simp only [cond_true, cond_false, Bool.not_true, List.foldl_cons, List.foldl_nil]
    rw [hv, hj, Dev.applyValue_hemConfig _ _ _ hi hi']
  · next h =>
    have taken : d.applyScopes scopes m.time = { d with staged := [x] } := by
      unfold Dev.applyScopes
      rw [hs, List.filter_singleton, List.filter_singleton, due, Bool.eq_false_iff.2 h]
      rfl
    have same : Notched d { d with staged := [x] } := .of_regs (by simp [Dev.notchView, hs]) rfl
    exact same.trans (Dev.applyDue_writes hf taken hc hc latency)

end Sys2Proof.Machine
end

section
/-! The statement about host notches. -/

namespace Sys2Proof.Machine

/-- The notch that a HOST_NOTCH issues (R21). -/
def hostMarker (d : Dev) (w : Wr) : Marker :=
  { time := d.core.time, groups := objHostNotch.num w % 2 ^ 12, device := (objHostNotch.num w).testBit 15, cascade := false,
    host := true, source := 0xF }

/-- Markers and what a cascade makes of a notch are all that follows its effect. -/
theorem hostNotch_notched (d : Dev) (w : Wr) :
    Notched (d.notchEffect (hostMarker d w) (hostMarker d w).scopes) (actHostNotch.apply d w) := by
  have marked : Notched (d.notchEffect (hostMarker d w) (hostMarker d w).scopes) (d.notch (hostMarker d w)) := by
    refine forEach_notched (fun g e => ?_) 12 _
    split
    · exact (e.placeMarkers_flowed _ g).notched
    · exact .refl e
  show Notched _ (forEach 12 (fun g e => if (objHostNotch.num w).testBit g then e.sourceNotch g e.core.time else e)
    (d.notch (hostMarker d w)))
  refine marked.trans (forEach_notched (fun g e => ?_) 12 _)
  split
  · exact e.sourceNotch_notched g _
  · exact .refl e

/-- A write of an object that SAFE refuses is not accepted there. -/
theorem state_ne_safe_of_writeCheck {o : Desc} {a : Act} {w : Wr} {d : Dev} (h : writeCheck o a w d = 0) (ho : o.safe = true) :
    d.core.state ≠ .safe := by
  intro hs
  unfold writeCheck at h
  dsimp only at h
  rw [ho, hs] at h
  split at h
  · contradiction
  · split at h
    · exact absurd h (by decide)
    · split at h
      · contradiction
      · simp at h

/-- A host notch is accepted where changes take effect (R27). -/
theorem frozen_of_hostNotch {d : Dev} {w : Wr} (h : Accepted objHostNotch actHostNotch w d) : d.frozen = false := by
  have safe := state_ne_safe_of_writeCheck h.2 rfl
  have folded : d.core.state ≠ .folded := by
    intro hf
    have allow := allow_of_writeCheck h.2
    simp [actHostNotch, hf] at allow
  simp [Dev.frozen, safe, folded]

/-- The scopes of a notch, one by one. -/
theorem Marker.scopes_any (m : Marker) (y : Scope) :
    m.scopes.any (fun s => decide (s = y)) = true ↔
      (y = .device ∧ m.device = true) ∨ ∃ g, g < 12 ∧ y = .group g ∧ m.groups.testBit g = true := by
  unfold Marker.scopes
  rw [List.any_append, Bool.or_eq_true, or_comm]
  refine or_congr ?_ ?_
  · cases m.device <;> simp [eq_comm]
  · simp only [List.any_map, List.any_eq_true, List.mem_filter, List.mem_range, Function.comp, decide_eq_true_eq]
    exact ⟨fun ⟨g, ⟨hg, hb⟩, he⟩ => ⟨g, hg, he.symm, hb⟩, fun ⟨g, hg, he, hb⟩ => ⟨g, ⟨hg, hb⟩, he.symm⟩⟩

theorem hostMarker_groups (d : Dev) (w : Wr) {g : Nat} (hg : g < 12) :
    (hostMarker d w).groups.testBit g = (objHostNotch.num w).testBit g := by
  show (objHostNotch.num w % 2 ^ 12).testBit g = _
  rw [Nat.testBit_mod_two_pow, decide_eq_true hg, Bool.true_and]

theorem hostMarker_scopes_any (d : Dev) (w : Wr) (y : Scope) :
    (hostMarker d w).scopes.any (fun s => decide (s = y)) = true ↔
      (y = .device ∧ (objHostNotch.num w).testBit 15 = true) ∨
        ∃ g, g < 12 ∧ y = .group g ∧ (objHostNotch.num w).testBit g = true := by
  rw [Marker.scopes_any]
  refine or_congr Iff.rfl (exists_congr fun g => and_congr_right fun hg => ?_)
  rw [hostMarker_groups d w hg]

theorem notchReg_config (i : Nat) : notchReg i 0x0A = false := by simp [notchReg, reportReg, regsOf]
theorem notchReg_number (i : Nat) : notchReg i 8 = false := by simp [notchReg, reportReg, regsOf]

/-- Settles O12: a notch is its numbers, the changes due, and what leaves both alone; a HEM_CONFIG is due exactly with its scope. -/
theorem hostNotchTakesEffect : Obligations.HostNotchTakesEffect := by
  unfold Obligations.HostNotchTakesEffect
  intro w s h hc
  have ran : exec (.hostNotch w) s = .next { s with dev := actHostNotch.apply s.dev w } := by
    rw [← rowWrite_accepted 0x2004 3 h]
    rfl
  have follows := hostNotch_notched s.dev w
  refine ⟨fun hs => ?_, fun x v hs hv hi hi' hj => ?_⟩
  · have idle := (Dev.notchEffect_idle (hostMarker s.dev w) (hostMarker s.dev w).scopes hs hc).trans follows
    have counted := s.dev.countNotch_notchView (hostMarker s.dev w)
    have all : Notched s.dev { actHostNotch.apply s.dev w with regs := s.dev.regs } := .of_regs (idle.view.trans counted) rfl
    refine ⟨_, ran, kept_withDev s _, all.staged.trans hs, fun g hg => ?_, ?_, all.core, all.safety, all.sec, all.blocks,
      all.bobbins, all.programs, all.panels⟩
    · dsimp only
      rw [idle.rdN (by decide) (notchReg_number _), Dev.countNotch_group _ _ hg, hostMarker_groups _ _ hg]
    · dsimp only
      rw [idle.rdN (by decide) (by decide), Dev.countNotch_device]
      rfl
  · generalize hm : hostMarker s.dev w = m at follows
    have due := Dev.applyDue_hemConfig (d := s.dev.countNotch m) (m := m) (scopes := m.scopes) (x := x) (v := v)
      (by unfold Dev.frozen; rw [Dev.countNotch_core]; exact frozen_of_hostNotch h) ((Dev.countNotch_staged _ _).trans hs)
      ((congrArg CalSt.staged (Dev.countNotch_cal _ _)).trans hc) hv hi hi' hj
    rw [Dev.notchEffect_eq] at follows
    have after := (due.trans (Dev.deviceNotch_notched _ m)).trans follows
    refine ⟨_, ran, kept_withDev s _, ?_⟩
    dsimp only
    rw [← hostMarker_scopes_any s.dev w, hm]
    refine ⟨fun hd => ?_, fun hd => ?_⟩
    · rw [if_pos hd] at after
      exact ⟨(after.rd (by decide) (notchReg_config _)).trans (Dev.rd_wr_same _ _ _ _), after.staged⟩
    · rw [if_neg hd] at after
      refine ⟨?_, after.staged.trans ((Dev.countNotch_staged _ _).trans hs)⟩
      rw [after.rd (by decide) (notchReg_config _)]
      exact s.dev.countNotch_rd m (fun g => by unfold objKey; omega) (by unfold objKey; omega)

end Sys2Proof.Machine
end

section
/-! SUPPORT. Flag tokens and the clocks of the groups (R201, R204, R309, R333): what a flag token, a clock loss and a lock leave. -/

namespace Sys2Proof.Machine

/-! ### Flags (R204) -/

/-- A flag token replaces exactly the flags of its mask. -/
theorem Dev.putFlags_flags (d : Dev) (g mask value : Nat) :
    ((d.putFlags g mask value).shuttle g).flags =
      ((d.shuttle g).flags &&& ~~~ BitVec.ofNat 16 mask) ||| (BitVec.ofNat 16 value &&& BitVec.ofNat 16 mask) := by
  unfold Dev.putFlags
  dsimp only
  rw [Dev.shuttle_setShuttle_same]

theorem Dev.putFlags_rest (d : Dev) (g mask value : Nat) :
    { (d.putFlags g mask value).shuttle g with flags := (d.shuttle g).flags } = d.shuttle g := by
  unfold Dev.putFlags
  dsimp only
  rw [Dev.shuttle_setShuttle_same]

theorem Dev.putFlags_other (d : Dev) {g k : Nat} (mask value : Nat) (h : k ≠ g) :
    (d.putFlags g mask value).shuttle k = d.shuttle k :=
  Dev.shuttle_setShuttle_other _ _ _ _ (Ne.symm h)

/-- Bit i of flags under a mask. -/
theorem getLsbD_merge (old m v : BitVec 16) {i : Nat} (hi : i < 16) :
    ((old &&& ~~~ m) ||| (v &&& m)).getLsbD i = if m.getLsbD i then v.getLsbD i else old.getLsbD i := by
  rw [BitVec.getLsbD_or, BitVec.getLsbD_and, BitVec.getLsbD_and, BitVec.getLsbD_not]
  cases h : m.getLsbD i <;> simp [hi]

/-- The mask and the value of a flag token are bits 31 to 16 and 15 to 0 of its body. -/
theorem getLsbD_tokenMask (b : BitVec 256) {i : Nat} (hi : i < 16) :
    (BitVec.ofNat 16 (b.toNat / 2 ^ 16 % 2 ^ 16)).getLsbD i = b.getLsbD (16 + i) := by
  rw [BitVec.getLsbD_ofNat, Nat.testBit_mod_two_pow, Nat.testBit_div_two_pow, decide_eq_true hi, Bool.true_and, Bool.true_and,
    Nat.add_comm]
  rfl

theorem getLsbD_tokenValue (b : BitVec 256) {i : Nat} (hi : i < 16) :
    (BitVec.ofNat 16 (b.toNat % 2 ^ 16)).getLsbD i = b.getLsbD i := by
  rw [BitVec.getLsbD_ofNat, Nat.testBit_mod_two_pow, decide_eq_true hi, Bool.true_and, Bool.true_and]
  rfl

/-! ### A clock that stops (R201) -/

/-- What the loss of group g's clock does to its run: the shuttle is HALTED, no other moves, the core stays, and a run under way is
summed up with its time and reason. -/
structure RunCut (d : Dev) (g reason : Nat) (e : Dev) : Prop where
  halted : (e.shuttle g).state = .halted
  others : ∀ k, k ≠ g → e.shuttle k = d.shuttle k
  core : e.core = d.core
  summary : (d.shuttle g).state = .running ∨ (d.shuttle g).state = .holding →
    e.rd (shIdx g) 0x16 = word reason ∧ e.rd (shIdx g) 0x13 = word d.core.time

theorem RunCut.flowed {d e f : Dev} {g reason : Nat} (h : RunCut d g reason e) (k : Flowed e f) (hg : g < 12) :
    RunCut d g reason f := by
  have far (j : Nat) : reportReg (shIdx g) j = false := by
    have : 0x3000 ≤ shIdx g := by unfold shIdx; omega
    have h1 : shIdx g ≠ 0x2310 := by omega
    have h2 : shIdx g ≠ 0x2003 := by omega
    have h3 : shIdx g ≠ 0x2130 := by omega
    have h4 : shIdx g ≠ 0x2041 := by omega
    have h5 : shIdx g ≠ 0x2040 := by omega
    simp [reportReg, h1, h2, h3, h4, h5]
  exact ⟨by rw [k.shuttle, h.halted], fun n hn => by rw [k.shuttle, h.others n hn], k.core.trans h.core, fun hr => by
    rw [k.rd (by decide) (far _), k.rd (by decide) (far _)]
    exact h.summary hr⟩

/-- A summary written: pin time, slices, program counter and reason. -/
def Dev.sumUp (d : Dev) (g time slices pc reason : Nat) : Dev :=
  ((((d.wrN (shIdx g) 0x13 time).wrN (shIdx g) 0x14 slices).wrN (shIdx g) 0x15 pc).wrN (shIdx g) 0x16 reason).complete (shIdx g) 1 15 none

theorem Dev.sumUp_shows (d : Dev) (g time slices pc reason : Nat) :
    (d.sumUp g time slices pc reason).rd (shIdx g) 0x16 = word reason ∧
      (d.sumUp g time slices pc reason).rd (shIdx g) 0x13 = word time := by
  have apart {i j : Nat} (h : i ≠ j) : objKey (shIdx g) i ≠ objKey (shIdx g) j := by unfold objKey; omega
  unfold Dev.sumUp Dev.wrN
  constructor
  · rw [Dev.complete_other _ _ _ (apart (by decide)), Dev.rd_wr_same]
  · rw [Dev.complete_other _ _ _ (apart (by decide)), Dev.rd_wr_other _ _ (apart (by decide)), Dev.rd_wr_other _ _ (apart (by decide)),
      Dev.rd_wr_other _ _ (apart (by decide)), Dev.rd_wr_same]

theorem Dev.sumUp_shuttles (d : Dev) (g time slices pc reason : Nat) : (d.sumUp g time slices pc reason).shuttles = d.shuttles := by
  simp [Dev.sumUp, Dev.wrN, Dev.complete]

theorem Dev.sumUp_core (d : Dev) (g time slices pc reason : Nat) : (d.sumUp g time slices pc reason).core = d.core := by
  simp [Dev.sumUp, Dev.wrN, Dev.complete]

theorem Dev.updatePermits_shuttle (d : Dev) (k : Nat) : d.updatePermits.shuttle k = d.shuttle k :=
  (congrArg (fun e : Dev => e.shuttle k) d.updatePermits_besidePermits :)

theorem Dev.cutRun_cuts (d : Dev) {g : Nat} (reason : Nat) (hg : g < 12) : RunCut d g reason (d.cutRun g reason false) := by
  have set (x : ShuttleSt) (e : Dev) : (∀ k, k ≠ g → (e.setShuttle g x).shuttle k = e.shuttle k) := fun k hk =>
    Dev.shuttle_setShuttle_other _ _ _ _ (Ne.symm hk)
  have live (x : ShuttleSt) (hx : x.state = .halted) (slices pc : Nat) :
      RunCut d g reason ((((d.cutNeedles g).setShuttle g x).sumUp g ((d.cutNeedles g).setShuttle g x).core.time slices pc
        reason).updatePermits) := by
    have core : ((d.cutNeedles g).setShuttle g x).core = d.core := by rw [Dev.setShuttle_core, (d.cutNeedles_flowed g).core]
    generalize ht : ((d.cutNeedles g).setShuttle g x).core.time = time
    obtain ⟨shown, timed⟩ := ((d.cutNeedles g).setShuttle g x).sumUp_shows g time slices pc reason
    have low : shIdx g < 0x3A10 := by unfold shIdx; omega
    have same (k : Nat) : (((d.cutNeedles g).setShuttle g x).sumUp g time slices pc reason).updatePermits.shuttle k =
        ((d.cutNeedles g).setShuttle g x).shuttle k := by
      rw [Dev.updatePermits_shuttle]
      unfold Dev.shuttle
      rw [Dev.sumUp_shuttles]
    refine ⟨?_, fun k hk => ?_, ?_, fun _ => ?_⟩
    · rw [same, Dev.shuttle_setShuttle_same, hx]
    · rw [same, set _ _ k hk, (d.cutNeedles_flowed g).shuttle]
    · rw [Dev.updatePermits_core, Dev.sumUp_core, core]
    · rw [Dev.updatePermits_rd _ low (by decide), Dev.updatePermits_rd _ low (by decide), shown, timed, ← ht, core]
      exact ⟨rfl, rfl⟩
  unfold Dev.cutRun
  dsimp only
  split
  · next h => exact ⟨h, fun _ _ => rfl, rfl, fun hr => by rw [h] at hr; simp at hr⟩
  · next h =>
    exact ⟨by rw [Dev.shuttle_setShuttle_same], set _ _, rfl, fun hr => by rw [h] at hr; simp at hr⟩
  · rw [if_neg (by decide)]
    refine live _ ?_ _ _
    rfl

/-- The loss of a group's clock: the run is cut, and the group no longer counts as locked (R201). -/
theorem Dev.clockLost_loses (d : Dev) {g : Nat} (hg : g < 12) :
    RunCut d g 0x0406 (d.clockLost g) ∧ (d.clockLost g).tr.plls.getLsbD g = false := by
  have cut := d.cutRun_cuts 0x0406 hg
  unfold Dev.clockLost
  dsimp only
  generalize d.cutRun g 0x0406 false = c at cut
  have unlocked : (c.tr.plls &&& ~~~ BitVec.ofNat 12 (2 ^ g)).getLsbD g = false :=
    getLsbD_cleared_same _ (by rw [BitVec.getLsbD_ofNat, Nat.testBit_two_pow]; simp [hg])
  have off : RunCut d g 0x0406 { c with tr := { c.tr with plls := c.tr.plls &&& ~~~ BitVec.ofNat 12 (2 ^ g) } } :=
    ⟨cut.halted, cut.others, cut.core, cut.summary⟩
  generalize ho : ({ c with tr := { c.tr with plls := c.tr.plls &&& ~~~ BitVec.ofNat 12 (2 ^ g) } } : Dev) = o at off
  have plls : o.tr.plls.getLsbD g = false := by rw [← ho]; exact unlocked
  have stopped := o.markStopped_flowed (fun n => n = 96 + g || (n < 96 && n / 8 = g))
  generalize o.markStopped (fun n => n = 96 + g || (n < 96 && n / 8 = g)) = e at stopped
  have kept := off.flowed stopped hg
  have marked (u : Bool) (l : Option Nat) : RunCut d g 0x0406 (e.setShuttle g { e.shuttle g with unlocked := u, lost := l }) :=
    ⟨by rw [Dev.shuttle_setShuttle_same]; exact kept.halted,
      fun k hk => by rw [Dev.shuttle_setShuttle_other _ _ _ _ (Ne.symm hk)]; exact kept.others k hk, kept.core, kept.summary⟩
  have follows (u : Bool) (l : Option Nat) : RunCut d g 0x0406 ((e.setShuttle g { e.shuttle g with unlocked := u, lost := l }).followGroup g) ∧
      ((e.setShuttle g { e.shuttle g with unlocked := u, lost := l }).followGroup g).tr.plls.getLsbD g = false :=
    ⟨(marked u l).flowed (Dev.followGroup_flowed _ g) hg, by rw [(Dev.followGroup_flowed _ g).plls, Dev.setShuttle_tr, stopped.plls, plls]⟩
  split
  · exact follows _ _
  · exact ⟨(follows _ _).1.flowed (Dev.logNotify_flowed _ _ _ _) hg, by
      rw [(Dev.logNotify_flowed _ _ _ _).plls]; exact (follows _ _).2⟩

/-! ### A PLL that locks (R15, R37) -/

/-- What a lock of group g leaves: the core, the supplies, the configuration and the shuttles of the other groups as they were, and its
PLL counted as locked. -/
structure Locked (d : Dev) (g : Nat) (e : Dev) : Prop where
  core : e.core = d.core
  env : e.env = d.env
  config : e.config = d.config
  plls : e.tr.plls = d.tr.plls ||| BitVec.ofNat 12 (2 ^ g)
  others : ∀ k, k ≠ g → e.shuttle k = d.shuttle k

theorem Locked.flowed {d e f : Dev} {g : Nat} (h : Locked d g e) (k : Flowed e f) : Locked d g f :=
  ⟨k.core.trans h.core, k.env.trans h.env, k.config.trans h.config, k.plls.trans h.plls, fun n hn => by rw [k.shuttle, h.others n hn]⟩

theorem Locked.setShuttle {d e : Dev} {g : Nat} (h : Locked d g e) (x : ShuttleSt) : Locked d g (e.setShuttle g x) :=
  ⟨h.core, h.env, h.config, h.plls, fun k hk => by rw [Dev.shuttle_setShuttle_other _ _ _ _ (Ne.symm hk), h.others k hk]⟩

theorem Locked.wr {d e : Dev} {g : Nat} (h : Locked d g e) (i j : Nat) (v : Word) : Locked d g (e.wr i j v) :=
  ⟨h.core, h.env, h.config, h.plls, h.others⟩

theorem Locked.calStale {d e : Dev} {g : Nat} (h : Locked d g e) : Locked d g (e.calStale g) := by
  unfold Dev.calStale
  split
  · exact h
  · exact (h.wr _ _ _).flowed (Dev.notify_flowed _ _ _)

theorem Locked.afterLoss {d e : Dev} {g : Nat} (h : Locked d g e) : Locked d g (e.afterLoss g) := by
  have told : ∀ o : Option Nat, Locked d g (match o with
      | none => e
      | some t => forEach 8 (fun i e => e.closeEntry (8 * g + i)) (e.status g 8 t (e.shuttle g).slices 0)) := by
    intro o
    cases o with
    | none => exact h
    | some t => exact (h.flowed (e.status_flowed _ _ _ _ _)).flowed (forEach_flowed (fun i e => e.closeEntry_flowed _) 8 _)
  unfold Dev.afterLoss
  dsimp only
  split
  · exact ((told _).setShuttle _).calStale
  · exact (told _).setShuttle _

theorem or_mask_self {b : BitVec 12} {g : Nat} (h : b.getLsbD g = true) : b ||| BitVec.ofNat 12 (2 ^ g) = b := by
  refine BitVec.eq_of_getLsbD_eq fun k hk => ?_
  rw [BitVec.getLsbD_or, BitVec.getLsbD_ofNat, Nat.testBit_two_pow]
  by_cases hk' : g = k
  · subst hk'; simp [h]
  · simp [hk']

theorem Dev.lockPll_locks (d : Dev) (g : Nat) : Locked d g (d.lockPll g) := by
  unfold Dev.lockPll
  split
  · next h => exact ⟨rfl, rfl, rfl, (or_mask_self h).symm, fun _ _ => rfl⟩
  · have on : Locked d g { d with tr := { d.tr with plls := d.tr.plls ||| BitVec.ofNat 12 (2 ^ g) } } :=
      ⟨rfl, rfl, rfl, rfl, fun _ _ => rfl⟩
    exact (((on.flowed (Dev.markRan_flowed _ _)).afterLoss).flowed (Dev.showLanes_flowed _ g)).flowed (Dev.followGroup_flowed _ g)

/-- At the end of PLL_LOCK the groups named have locked, and what the rest of the start-up goes by is as it was. -/
theorem lockAll (locked : BitVec 12) (d : Dev) : ∀ n, n ≤ 12 →
    (forEach n (fun g e => if locked.getLsbD g then e.lockPll g else e.log 0x0150 g 0) d).core = d.core ∧
    (forEach n (fun g e => if locked.getLsbD g then e.lockPll g else e.log 0x0150 g 0) d).config = d.config ∧
    ∀ k, (forEach n (fun g e => if locked.getLsbD g then e.lockPll g else e.log 0x0150 g 0) d).tr.plls.getLsbD k =
      (d.tr.plls.getLsbD k || (decide (k < n) && locked.getLsbD k)) := by
  intro n
  induction n with
  | zero => exact fun _ => ⟨rfl, rfl, fun k => by simp [forEach]⟩
  | succ n ih =>
    intro hn
    obtain ⟨core, config, plls⟩ := ih (by omega)
    rw [forEach_succ]
    generalize forEach n (fun g e => if locked.getLsbD g then e.lockPll g else e.log 0x0150 g 0) d = e at core config plls
    split
    · next h =>
      have on := e.lockPll_locks n
      refine ⟨on.core.trans core, on.config.trans config, fun k => ?_⟩
      rw [on.plls, BitVec.getLsbD_or, plls, BitVec.getLsbD_ofNat, Nat.testBit_two_pow]
      by_cases hk : n = k
      · subst hk; simp [h, show n < 12 by omega]
      · have : (k < n + 1) = (k < n) := by simp; omega
        simp [hk, this]
    · next h =>
      have same := e.log_flowed 0x0150 n 0
      refine ⟨same.core.trans core, same.config.trans config, fun k => ?_⟩
      rw [same.plls, plls]
      by_cases hk : n = k
      · subst hk; simp [h]
      · have : (k < n + 1) = (k < n) := by simp; omega
        simp [this]

end Sys2Proof.Machine
end

section
/-! SUPPORT. The start-up steps after PLL_LOCK leave the locks as they are (R333, R334). -/

namespace Sys2Proof.Machine

/-! ### Tokens and swatches of the fabric -/

theorem Dev.count_tr (d : Dev) (i j width n : Nat) : (d.count i j width n).tr = d.tr := rfl
theorem Dev.setFlag_tr (d : Dev) (i j k : Nat) (b : Bool) : (d.setFlag i j k b).tr = d.tr := rfl

theorem Dev.swatchMissed_plls (d : Dev) : d.swatchMissed.tr.plls = d.tr.plls := by
  have told (e : Dev) :
      (if e.swatch.sent61 then e else ({ e with swatch := { e.swatch with sent61 := true } }).notify 0x0B61 0).tr.plls = e.tr.plls := by
    split
    · rfl
    · exact (Dev.notify_flowed _ _ _).plls
  exact (told (d.count 0x3600 6 32 1)).trans (congrArg TransportSt.plls (d.count_tr _ _ _ _))

theorem Dev.swatchDetect_plls (d : Dev) (triggers : Nat) (details : List (Nat × Nat)) (latch cascade : Nat) (late : Bool) :
    (d.swatchDetect triggers details latch cascade late).tr.plls = d.tr.plls := by
  unfold Dev.swatchDetect
  split
  · rfl
  · split
    · dsimp only
      split
      · rfl
      · exact d.swatchMissed_plls
    · split
      · exact d.swatchMissed_plls
      · split
        · rw [(Dev.notify_flowed _ _ _).plls, Dev.count_tr]
        · rw [Dev.setFlag_tr]

theorem Dev.cascadeSwatch_plls (d : Dev) (n t : Nat) : (d.cascadeSwatch n t).tr.plls = d.tr.plls := by
  unfold Dev.cascadeSwatch
  dsimp only
  rw [Dev.swatchDetect_plls]
  split
  · exact (d.log_flowed _ _ _).plls
  · rfl

theorem Dev.routeSwatch_plls (d : Dev) (k detail : Nat) : (d.routeSwatch k detail).tr.plls = d.tr.plls := by
  unfold Dev.routeSwatch
  dsimp only
  split
  · exact (Dev.cascadeSwatch_plls _ _ _).trans (Dev.broadcast_flowed _ _ _).plls
  · exact (Dev.sendCell_flowed _ _ _).plls

theorem Dev.swatchTrigger_plls (d : Dev) (k detail : Nat) : (d.swatchTrigger k detail).tr.plls = d.tr.plls := by
  unfold Dev.swatchTrigger
  split
  · rfl
  · split
    · split
      · exact d.routeSwatch_plls k detail
      · rw [(Dev.log_flowed _ _ _ _).plls, Dev.swatchDetect_plls]
    · exact d.swatchDetect_plls _ _ _ _ _

theorem Dev.watchTokens_plls (d : Dev) (column row b : Nat) : (d.watchTokens column row b).tr.plls = d.tr.plls := by
  have token (w : Nat) (e : Dev) : (e.watchToken w).tr.plls = e.tr.plls := by
    unfold Dev.watchToken
    dsimp only
    split
    · rw [Dev.swatchTrigger_plls]
      rfl
    · rfl
  unfold Dev.watchTokens
  refine forEach_keeps (fun e => e.tr.plls) (fun w e => ?_) 512 d
  split
  · exact token w e
  · rfl

theorem Dev.emitBundle_plls (d : Dev) (column row b : Nat) : (d.emitBundle column row b).tr.plls = d.tr.plls := by
  have settle (e : Dev) : (e.settleBundle column row b).tr.plls = e.tr.plls := by
    unfold Dev.settleBundle
    dsimp only
    split <;> rfl
  obtain ⟨x, o, shape⟩ : ∃ x o, d.emitBundle column row b =
      (((d.setPanel (siteNo column row) x).emit o).watchTokens column row b).settleBundle column row b := ⟨_, _, rfl⟩
  rw [shape, settle, Dev.watchTokens_plls, Dev.emit_tr, Dev.setPanel_tr]

/-! ### Bobbins that take what waited (R120) -/

theorem Dev.levelUp_plls (d : Dev) (h : Nat) (cfg : Word) : (d.levelUp h cfg).tr.plls = d.tr.plls := by
  unfold Dev.levelUp
  dsimp only
  split
  · split
    · exact (Dev.notify_flowed _ _ _).plls
    · exact (Dev.notify_flowed _ _ _).plls
  · rfl

theorem Dev.closePacket_plls (d : Dev) (h : Nat) (cfg : Word) (truncated : Bool) (n : Nat) :
    (d.closePacket h cfg truncated n).tr.plls = d.tr.plls := by
  unfold Dev.closePacket
  dsimp only
  split
  · rfl
  · split <;> rfl

theorem Dev.gapMarkerDue_plls (d : Dev) (h : Nat) : (d.gapMarkerDue h).tr.plls = d.tr.plls := by
  have saturated (p : Prop) [Decidable p] (e : Dev) : (if p then e.setFlag (0x4400 + h) 1 13 true else e).tr.plls = e.tr.plls := by
    split <;> rfl
  have closed (p : Prop) [Decidable p] (e : Dev) (cfg : Word) (n : Nat) :
      (if p then e.closePacket h cfg true n else e).tr.plls = e.tr.plls := by
    split
    · exact e.closePacket_plls _ _ _ _
    · rfl
  unfold Dev.gapMarkerDue
  dsimp only
  split
  · split
    · rw [Dev.levelUp_plls, closed, saturated]
      rfl
    · rfl
  · rfl

theorem Dev.bobbinDrop_plls (d : Dev) (h : Nat) (cfg : Word) (eop : Bool) : (d.bobbinDrop h cfg eop).tr.plls = d.tr.plls := by
  have told (p : Prop) [Decidable p] (e : Dev) : (if p then e else e.notify 0x0310 h).tr.plls = e.tr.plls := by
    split
    · rfl
    · exact (e.notify_flowed _ _).plls
  unfold Dev.bobbinDrop
  dsimp only
  rw [Dev.gapMarkerDue_plls, told]
  rfl

theorem Dev.bobbinStore_plls (d : Dev) (h : Nat) (cfg : Word) (data : BitVec 64) (eop : Bool) (bytes : Nat) :
    (d.bobbinStore h cfg data eop bytes).tr.plls = d.tr.plls := by
  unfold Dev.bobbinStore
  dsimp only
  split
  · rw [Dev.levelUp_plls]
    split
    · rw [Dev.closePacket_plls]
      rfl
    · rfl
  · rfl

theorem Dev.bobbinRetry_plls (d : Dev) (h : Nat) : (d.bobbinRetry h).tr.plls = d.tr.plls := by
  have write (e : Dev) (data : BitVec 64) (ctrl : BitVec 4) : (e.bobbinWrite h data ctrl).tr.plls = e.tr.plls := by
    unfold Dev.bobbinWrite
    dsimp only
    split
    · rw [Dev.bobbinDrop_plls, Dev.gapMarkerDue_plls]
    · split
      · split
        · exact e.gapMarkerDue_plls h
        · rw [Dev.bobbinDrop_plls, Dev.gapMarkerDue_plls]
      · rw [Dev.bobbinStore_plls, Dev.gapMarkerDue_plls]
  unfold Dev.bobbinRetry
  dsimp only
  split
  · split
    · rw [write]
      rfl
    · rfl
  · rfl

/-! ### The steps -/

theorem foldl_keeps {α β : Type} (view : Dev → β) {f : Dev → α → Dev} (h : ∀ e x, view (f e x) = view e) (l : List α) (d : Dev) :
    view (l.foldl f d) = view d := by
  induction l generalizing d with
  | nil => rfl
  | cons x l ih => rw [List.foldl_cons, ih, h]

theorem Dev.groupsOff_plls (d : Dev) (groups : Nat) : (d.groupsOff groups).tr.plls = d.tr.plls := by
  have slips (e : Dev) (c n : Nat) : (e.slips c n).tr.plls = e.tr.plls := by
    unfold Dev.slips
    dsimp only
    split
    · rfl
    · split
      · rfl
      · exact (Dev.notify_flowed _ _ _).plls
  have off (c : Nat) (e : Dev) : (e.needleOff c).tr.plls = e.tr.plls := by
    unfold Dev.needleOff
    dsimp only
    rw [(Dev.setNeedle_flowed _ _ _).plls]
    split
    · exact slips _ _ _
    · rfl
  unfold Dev.groupsOff
  refine forEach_keeps (fun e => e.tr.plls) (fun c e => ?_) 96 d
  split
  · exact off c e
  · rfl

theorem Dev.emptyHems_plls (d : Dev) : d.emptyHems.tr.plls = d.tr.plls := by
  unfold Dev.emptyHems
  exact (forEach_flowed (fun b e => e.setBank_flowed b _) 4 _).plls.trans
    (foldl_keeps (fun e => e.tr.plls) (fun e h => (e.setHalf_flowed h _).plls) _ d)

theorem Dev.releaseGsr_plls (d : Dev) : d.releaseGsr.tr.plls = d.tr.plls := by
  have full (e : Dev) (site : Nat) : (e.emitFull site).tr.plls = e.tr.plls := by
    unfold Dev.emitFull
    refine forEach_keeps (fun e => e.tr.plls) (fun b e => ?_) 16 e
    split
    · exact e.emitBundle_plls _ _ _
    · rfl
  have french (n : Nat) (e : Dev) : (e.initFrench n).tr.plls = e.tr.plls := by
    unfold Dev.initFrench
    dsimp only
    split <;> rfl
  unfold Dev.releaseGsr
  dsimp only
  rw [foldl_keeps (fun e => e.tr.plls) full, forEach_keeps (fun e => e.tr.plls) french,
    foldl_keeps (fun e => e.tr.plls) (fun (e : Dev) site => (rfl : (e.initPanel site).tr.plls = e.tr.plls)),
    forEach_keeps (fun e => e.tr.plls) (fun g (e : Dev) => by simp), Dev.groupsOff_plls]
  exact Dev.emptyHems_plls _

theorem Dev.runStep_plls (d : Dev) (c : Nat) : (d.runStep c).tr.plls = d.tr.plls := by
  have outputs : d.releaseOutputs.tr.plls = d.tr.plls := by
    unfold Dev.releaseOutputs
    exact (forEach_flowed (fun g e => e.showLanes_flowed g) 12 _).plls
  have writes : d.enableWrites.tr.plls = d.tr.plls := by
    unfold Dev.enableWrites
    exact foldl_keeps (fun e => e.tr.plls) (fun e (b : Nat × BobbinSt) => e.bobbinRetry_plls b.1) _ _
  have done (e : Dev) : (e.stepDone c).tr.plls = e.tr.plls := by
    unfold Dev.stepDone
    split <;> rfl
  unfold Dev.runStep
  dsimp only
  rw [done]
  split
  · exact outputs
  · split
    · exact d.releaseGsr_plls
    · exact writes

/-! ### The change to RUN -/

/-- A completed wake is in RUN with the locks as they were. -/
theorem Dev.wakeComplete_run (d : Dev) :
    d.wakeComplete.core.state = .run ∧ d.wakeComplete.core.steps = d.core.steps ∧ d.wakeComplete.tr.plls = d.tr.plls := by
  have bank (b : Nat) (e : Dev) : Flowed e (e.resumeBank b) := by
    unfold Dev.resumeBank
    exact (e.setBank_flowed b _).trans (Dev.markRan_flowed _ _)
  have banks (e : Dev) : Flowed e (forEach 4 (fun b e => e.resumeBank b) e) := forEach_flowed bank 4 e
  unfold Dev.wakeComplete
  dsimp only
  rw [Dev.updatePermits_core, Dev.updatePermits_tr, (banks _).core, (banks _).plls, (Dev.changeState_flowed _ _ _ _).core,
    (Dev.changeState_flowed _ _ _ _).plls, Dev.shifted_core, Dev.shifted_tr, Dev.setFlag_eq, Dev.wr_core, Dev.wr_tr]
  exact ⟨rfl, rfl, rfl⟩

/-- Every hem's window starts afresh. -/
def Dev.freshHemWins (d : Dev) : Dev :=
  forEach 216 (fun hem e =>
    e.setHemWin hem { e.hemWinOf hem with startOff := !e.islandOn (hemIsland hem), stopped := false }) d

theorem Dev.freshHemWins_flowed (d : Dev) : Flowed d d.freshHemWins := forEach_flowed (fun hem e => e.setHemWin_flowed hem _) 216 d

theorem Dev.beginWindows_eq (d : Dev) :
    d.beginWindows = { Dev.freshHemWins { d with watch := [] } with window := (Dev.freshHemWins { d with watch := [] }).rdN 0x3B00 2 } :=
  rfl

/-- The change to RUN begins a watch window; core and locks stay. -/
theorem Dev.beginWindows_core (d : Dev) : d.beginWindows.core = d.core ∧ d.beginWindows.tr.plls = d.tr.plls := by
  rw [Dev.beginWindows_eq]
  dsimp only
  exact ⟨(Dev.freshHemWins_flowed { d with watch := [] }).core, (Dev.freshHemWins_flowed { d with watch := [] }).plls⟩

/-- A fitting with a load completes in RUN with the locks as they were; without one nothing happens. -/
theorem Dev.fittingComplete_run (d : Dev) :
    (d.config.load.isSome = true → d.fittingComplete.core.state = .run) ∧ d.fittingComplete.core.steps = d.core.steps ∧
      d.fittingComplete.tr.plls = d.tr.plls := by
  have run (e : Dev) (hc : e.core = d.core) (ht : e.tr = d.tr) :
      (e.changeState .run 0x0B76).updatePermits.beginWindows.core.state = .run ∧
      (e.changeState .run 0x0B76).updatePermits.beginWindows.core.steps = d.core.steps ∧
      (e.changeState .run 0x0B76).updatePermits.beginWindows.tr.plls = d.tr.plls := by
    obtain ⟨core, plls⟩ := (e.changeState .run 0x0B76).updatePermits.beginWindows_core
    rw [core, plls, Dev.updatePermits_core, Dev.updatePermits_tr, (e.changeState_flowed _ _ _).core, (e.changeState_flowed _ _ _).plls,
      Dev.shifted_core, Dev.shifted_tr, hc, ht]
    exact ⟨rfl, rfl, rfl⟩
  unfold Dev.fittingComplete
  split
  · next h => exact ⟨fun hl => by simp [h] at hl, rfl, rfl⟩
  · dsimp only
    refine ⟨fun _ => (run _ ?_ ?_).1, (run _ ?_ ?_).2⟩
    all_goals simp [Dev.wrN, Dev.complete]

theorem Dev.advanceSteps_plls (n : Nat) (d : Dev) : (Dev.advanceSteps n d).tr.plls = d.tr.plls := by
  induction n generalizing d with
  | zero => rfl
  | succ n ih =>
    unfold Dev.advanceSteps
    split
    · rfl
    · dsimp only
      split
      · exact (Dev.wakeComplete_run _).2.2
      · exact (Dev.fittingComplete_run _).2.2
    · split
      · rfl
      · rw [ih, Dev.runStep_plls]

/-- The start-up steps over. -/
def Dev.noSteps (d : Dev) : Dev := { d with core := { d.core with steps := none } }

theorem Dev.proceedSteps_done {d : Dev} (hs : d.core.steps = some []) :
    d.proceedSteps = if d.core.state == .folded then d.noSteps.wakeComplete else d.noSteps.fittingComplete := by
  unfold Dev.proceedSteps Dev.advanceSteps
  rw [hs]
  rfl

/-- With no step left a wake, and a fitting with a load, are over: the device is in RUN. -/
theorem Dev.proceedSteps_run {d : Dev} (hs : d.core.steps = some [])
    (h : d.core.state = .folded ∨ (d.core.state = .fitting ∧ d.config.load.isSome = true)) :
    d.proceedSteps.core.state = .run ∧ d.proceedSteps.core.steps = none := by
  rw [Dev.proceedSteps_done hs]
  rcases h with h | ⟨h, hl⟩
  · obtain ⟨state, steps, -⟩ := d.noSteps.wakeComplete_run
    rw [if_pos (by rw [h]; rfl)]
    exact ⟨state, steps⟩
  · obtain ⟨state, steps, -⟩ := d.noSteps.fittingComplete_run
    rw [if_neg (by rw [h]; decide)]
    exact ⟨state hl, steps⟩

end Sys2Proof.Machine
end

section
/-! The statement about flags and the clocks of the groups. -/

namespace Sys2Proof.Machine

/-- The flag token at the head of group g's general hem taken, and its flags put (R204). -/
def Dev.flagTaken (d : Dev) (g : Nat) (e : HEntry) : Dev :=
  (d.putHalf (192 + 2 * g) (d.half (192 + 2 * g)).pop).putFlags g (e.data.toNat / 2 ^ 16 % 2 ^ 16) (e.data.toNat % 2 ^ 16)

theorem Dev.flagTaken_queue (d : Dev) (g : Nat) (e : HEntry) :
    ((d.flagTaken g e).half (192 + 2 * g)).q = (d.half (192 + 2 * g)).q.tail := by
  unfold Dev.flagTaken Dev.putFlags Dev.putHalf
  show (((d.setHalf _ _)).half (192 + 2 * g)).q = _
  rw [Dev.half_setHalf_same]
  rfl

/-- The groups of a mask have locked, the others are noted; the rest of the start-up steps is at hand (R334). -/
def Dev.lockStep (d : Dev) (locked : BitVec 12) (rest : List Nat) : Dev :=
  let d := forEach 12 (fun g e => if locked.getLsbD g then e.lockPll g else e.log 0x0150 g 0) d
  ({ d with core := { d.core with steps := some rest } } : Dev).stepDone 0

theorem Dev.lockStep_locks (d : Dev) (locked : BitVec 12) (rest : List Nat) :
    (d.lockStep locked rest).core = { d.core with steps := some rest } ∧ (d.lockStep locked rest).config = d.config ∧
      (d.lockStep locked rest).tr.plls = d.tr.plls ||| locked := by
  obtain ⟨core, config, plls⟩ := lockAll locked d 12 (Nat.le_refl 12)
  have done (e : Dev) (c : Nat) : (e.stepDone c).core = e.core ∧ (e.stepDone c).config = e.config ∧ (e.stepDone c).tr = e.tr := by
    unfold Dev.stepDone
    split
    · exact ⟨rfl, rfl, rfl⟩
    · exact ⟨rfl, rfl, rfl⟩
  unfold Dev.lockStep
  dsimp only
  obtain ⟨dc, dg, dt⟩ := done _ 0
  rw [dc, dg, dt, core, config]
  refine ⟨rfl, rfl, BitVec.eq_of_getLsbD_eq fun k hk => ?_⟩
  rw [plls, BitVec.getLsbD_or, decide_eq_true hk, Bool.true_and]

/-- Settles O22: flags merge under their mask; a lost clock cuts the run (RunCut), a lock adds one bit (Locked), and the steps after
PLL_LOCK leave the locks alone. -/
theorem flagsAndClocks : Obligations.FlagsAndClocks := by
  unfold Obligations.FlagsAndClocks
  refine ⟨fun g e s he hr hb ht hw => ?_, fun g m v s hw => ?_, fun g s hp => ?_, fun g s hs hv hn => ?_, fun locked rest s hs => ?_⟩
  · have narrow : (s.dev.putHalf (192 + 2 * g.val) (s.dev.half (192 + 2 * g.val)).pop).widened g.val = false := by
      show s.dev.widened g.val = false
      simp [Dev.widened, hw]
    have ran : exec (.flagTokenRead g) s = .next { s with dev := s.dev.flagTaken g.val e } := by
      show execFlagTokenRead g s = _
      unfold execFlagTokenRead
      rw [onDev_next]
      dsimp only
      rw [he]
      dsimp only
      rw [hr, if_neg (by decide), if_neg (by simp [hb, ht]), narrow]
      rfl
    refine ⟨_, ran, kept_withDev s _, rfl, s.dev.flagTaken_queue g.val e, fun i hi => ?_, Dev.putFlags_rest _ _ _ _, fun k hk => Dev.putFlags_other _ _ _ hk⟩
    dsimp only
    rw [Dev.flagTaken, Dev.putFlags_flags, getLsbD_merge _ _ _ hi, getLsbD_tokenMask _ hi, getLsbD_tokenValue _ hi]
    rfl
  · have ran : exec (.widenFlagApply g (some (m, v))) s = .next { s with dev := s.dev.putFlags g.val m.toNat v.toNat } := by
      show execWidenFlagApply g (some (m, v)) s = _
      unfold execWidenFlagApply
      rw [onDev_next]
      dsimp only
      rw [if_neg (by simp [Dev.widened, hw])]
    refine ⟨_, ran, kept_withDev s _, rfl, ?_, Dev.putFlags_rest _ _ _ _, fun k hk => Dev.putFlags_other _ _ _ hk⟩
    rw [Dev.putFlags_flags, BitVec.ofNat_toNat, BitVec.ofNat_toNat, BitVec.setWidth_eq, BitVec.setWidth_eq]
  · have ran : exec (.groupClockLost g) s = .next { s with dev := s.dev.clockLost g.val } := by
      show execGroupClockLost g s = _
      unfold execGroupClockLost
      rw [onDev_next]
      rw [if_pos hp]
    obtain ⟨cut, off⟩ := s.dev.clockLost_loses g.isLt
    have stopped : (s.dev.clockLost g.val).groupRuns g.val = false := by
      unfold Dev.groupRuns
      rw [off, Bool.and_false, Bool.false_and]
    refine ⟨_, ran, kept_withDev s _, stopped, cut.halted, fun hr => ?_, cut.core, cut.others⟩
    obtain ⟨shown, timed⟩ := cut.summary hr
    exact ⟨(congrArg BitVec.toNat shown).trans (toNat_word (by decide)), (congrArg BitVec.toNat timed).trans (BitVec.toNat_ofNat _ _)⟩
  · have ran : exec (.groupPllRelock g) s = .next { s with dev := s.dev.lockPll g.val } := by
      show execGroupPllRelock g s = _
      unfold execGroupPllRelock
      rw [onDev_next]
      dsimp only
      rw [hn, if_neg (by simp [hs])]
    have on := s.dev.lockPll_locks g.val
    refine ⟨_, ran, kept_withDev s _, ?_, on.core, on.others⟩
    dsimp only
    have bit : (s.dev.tr.plls ||| BitVec.ofNat 12 (2 ^ g.val)).getLsbD g.val = true := by
      rw [BitVec.getLsbD_or, BitVec.getLsbD_ofNat, Nat.testBit_two_pow]
      simp
    have supplied : (s.dev.lockPll g.val).vaux = true := by
      unfold Dev.vaux at hv ⊢
      rw [on.env, hv]
    unfold Dev.groupRuns
    rw [supplied, on.plls, on.core, bit, hs]
    rfl
  · have ran : exec (.startupPllLock locked) s = .next { s with dev := (s.dev.lockStep locked rest).proceedSteps } := by
      show execStartupPllLock locked s = _
      unfold execStartupPllLock
      rw [onDev_next]
      dsimp only
      rw [hs]
      rfl
    obtain ⟨core, config, plls⟩ := s.dev.lockStep_locks locked rest
    refine ⟨_, ran, kept_withDev s _, (Dev.advanceSteps_plls 5 _).trans plls, fun hrest hstate => ?_⟩
    subst hrest
    exact Dev.proceedSteps_run (congrArg CoreSt.steps core)
      (hstate.imp (fun h => (congrArg CoreSt.state core).trans h)
        (fun h => ⟨(congrArg CoreSt.state core).trans h.1, (congrArg (fun c : ConfigSt => c.load.isSome) config).trans h.2⟩))

end Sys2Proof.Machine
end

section
/-! SUPPORT. Threads of the cascade and the commands of a widened set (R305 to R309): what a token, a credit, a reseal and the end of a run
leave. -/

namespace Sys2Proof.Machine

/-- Reports move no register from 0x2400 on. -/
theorem reportReg_high {i : Nat} (h : 0x2400 ≤ i) (j : Nat) : reportReg i j = false := by
  have h1 : i ≠ 0x2310 := by omega
  have h2 : i ≠ 0x2003 := by omega
  have h3 : i ≠ 0x2130 := by omega
  have h4 : i ≠ 0x2041 := by omega
  have h5 : i ≠ 0x2040 := by omega
  simp [reportReg, h1, h2, h3, h4, h5]

/-! ### Halves -/

theorem Dev.putHalf_q (d : Dev) (h : Nat) (x : HalfSt) : ((d.putHalf h x).half h).q = x.q := by
  unfold Dev.putHalf
  rw [Dev.half_setHalf_same]

theorem Dev.putHalf_other (d : Dev) {h k : Nat} (x : HalfSt) (hk : k ≠ h) : (d.putHalf h x).half k = d.half k :=
  Dev.half_setHalf_other _ _ _ _ (Ne.symm hk)

/-! ### Threads -/

theorem Flowed.thread {d e : Dev} (h : Flowed d e) (i : Nat) : e.thread i = d.thread i := by
  unfold Dev.thread; rw [h.cascade]

theorem Dev.putThread_same (d : Dev) (i : Nat) (x : ThreadSt) : (d.putThread i x).thread i = x := d.thread_setThread_same i x

theorem Dev.putThread_other (d : Dev) {i k : Nat} (x : ThreadSt) (h : k ≠ i) : (d.putThread i x).thread k = d.thread k :=
  d.thread_setThread_other i x k (Ne.symm h)

/-- THREAD_STATUS alone shows a thread's credits. -/
theorem Dev.putThread_regs (d : Dev) (i : Nat) (x : ThreadSt) : RegsKept (regsOf (0x2410 + i) [1]) d (d.putThread i x) := by
  intro i' j' hj' hr
  exact (Dev.wr_regsKept (d.setThread i x) (0x2410 + i) 1 _ (by decide) i' j' hj' hr).trans (Dev.setThread_rd _ _ _ _ _)

theorem Dev.putThread_rd_other (d : Dev) (i : Nat) (x : ThreadSt) {j : Nat} (hj : j < 256) (h : j ≠ 1) :
    (d.putThread i x).rd (0x2410 + i) j = d.rd (0x2410 + i) j :=
  d.putThread_regs i x _ _ hj (by simp [regsOf, h])

theorem Dev.putThread_shows (d : Dev) (i : Nat) {x : ThreadSt} (h : x.credits < 256) :
    bits ((d.putThread i x).rd (0x2410 + i) 1) 7 0 = x.credits := by
  unfold Dev.putThread
  dsimp only
  rw [Dev.rd_wr_same, bits_setBit_other _ _ (.inl (by decide)), bits_setBits_same _ _ (by decide)]
  exact Nat.mod_eq_of_lt h

theorem Dev.putThread_core (d : Dev) (i : Nat) (x : ThreadSt) : (d.putThread i x).core = d.core := rfl
theorem Dev.putThread_half (d : Dev) (i : Nat) (x : ThreadSt) (h : Nat) : (d.putThread i x).half h = d.half h := rfl
theorem Dev.count_thread (d : Dev) (i j width n k : Nat) : (d.count i j width n).thread k = d.thread k := rfl
theorem Dev.count_half (d : Dev) (i j width n k : Nat) : (d.count i j width n).half k = d.half k := rfl
theorem Dev.count_core (d : Dev) (i j width n : Nat) : (d.count i j width n).core = d.core := rfl

/-! ### Cells that leave -/

theorem Dev.sendCell_half (d : Dev) (east : Bool) (c : Cell) (h : Nat) : (d.sendCell east c).half h = d.half h := by
  unfold Dev.sendCell
  split <;> rfl

/-- A cell leaves alike from devices with the same links and outputs. -/
theorem Dev.sendCell_out {d e : Dev} (ho : e.out = d.out) (hw : ∀ east, e.link east = d.link east) (east : Bool) (c : Cell) :
    (e.sendCell east c).out = (d.sendCell east c).out := by
  have port : e.cellPort east = d.cellPort east := by
    unfold Dev.cellPort
    simp only [hw]
  unfold Dev.sendCell
  rw [port]
  split
  · exact congrArg (List.cons _) ho
  · exact ho

theorem Dev.putThread_link (d : Dev) (i : Nat) (x : ThreadSt) (east : Bool) : (d.putThread i x).link east = d.link east := rfl
theorem Dev.putHalf_link (d : Dev) (h : Nat) (x : HalfSt) (east : Bool) : (d.putHalf h x).link east = d.link east := rfl
theorem Dev.count_link (d : Dev) (i j width n : Nat) (east : Bool) : (d.count i j width n).link east = d.link east := rfl

/-! ### A run that ends (R199, R309) -/

/-- The end of group g's run: HALTED with its reason shown, the other shuttles and their summaries as they were. -/
structure RunEnded (d : Dev) (g reason : Nat) (e : Dev) : Prop where
  halted : (e.shuttle g).state = .halted
  shown : e.rd (shIdx g) 0x16 = word reason
  others : ∀ k, k ≠ g → e.shuttle k = d.shuttle k
  kept : ∀ k, k < 12 → k ≠ g → e.rd (shIdx k) 0x16 = d.rd (shIdx k) 0x16

theorem RunEnded.flowed {d e f : Dev} {g reason : Nat} (h : RunEnded d g reason e) (k : Flowed e f) : RunEnded d g reason f := by
  have far (n : Nat) : f.rd (shIdx n) 0x16 = e.rd (shIdx n) 0x16 :=
    k.rd (by decide) (reportReg_high (by unfold shIdx; omega) _)
  exact ⟨by rw [k.shuttle, h.halted], (far g).trans h.shown, fun n hn => by rw [k.shuttle, h.others n hn],
    fun n hn hg => (far n).trans (h.kept n hn hg)⟩

theorem RunEnded.updatePermits {d e : Dev} {g reason : Nat} (h : RunEnded d g reason e) (hg : g < 12) :
    RunEnded d g reason e.updatePermits := by
  have far {n : Nat} (hn : n < 12) : e.updatePermits.rd (shIdx n) 0x16 = e.rd (shIdx n) 0x16 :=
    e.updatePermits_rd (by unfold shIdx; omega) (by decide)
  exact ⟨by rw [Dev.updatePermits_shuttle, h.halted], (far hg).trans h.shown,
    fun n hn => by rw [Dev.updatePermits_shuttle, h.others n hn], fun n hn hk => (far hn).trans (h.kept n hn hk)⟩

theorem Dev.sumUp_ends (d : Dev) (g : Nat) {x : ShuttleSt} (hx : x.state = .halted) (time slices pc reason : Nat) :
    RunEnded d g reason ((d.setShuttle g x).sumUp g time slices pc reason) := by
  have apart {k : Nat} (hk : k ≠ g) (j : Nat) (hj : j < 256) : objKey (shIdx g) j ≠ objKey (shIdx k) 0x16 := by
    unfold objKey shIdx; omega
  have same (k : Nat) : ((d.setShuttle g x).sumUp g time slices pc reason).shuttle k = (d.setShuttle g x).shuttle k := by
    unfold Dev.shuttle
    rw [Dev.sumUp_shuttles]
  refine ⟨?_, ((d.setShuttle g x).sumUp_shows g time slices pc reason).1, fun k hk => ?_, fun k hk hg => ?_⟩
  · rw [same, Dev.shuttle_setShuttle_same, hx]
  · rw [same, Dev.shuttle_setShuttle_other _ _ _ _ (Ne.symm hk)]
  · unfold Dev.sumUp Dev.wrN
    rw [Dev.complete_other _ _ _ (apart hg 1 (by decide)), Dev.rd_wr_other _ _ (apart hg 0x16 (by decide)),
      Dev.rd_wr_other _ _ (apart hg 0x15 (by decide)), Dev.rd_wr_other _ _ (apart hg 0x14 (by decide)),
      Dev.rd_wr_other _ _ (apart hg 0x13 (by decide)), Dev.setShuttle_rd]

theorem Dev.runEnd_ends (d : Dev) {g : Nat} (time pc reason event slices hems : Nat) (hg : g < 12) :
    RunEnded d g reason (d.runEnd g time pc reason event slices hems) := by
  have tail {e : Dev} (h : RunEnded d g reason e) :
      RunEnded d g reason (forEach 8 (fun i e => e.feed (8 * g + i) .close) e).updatePermits :=
    (h.flowed (forEach_flowed (fun i e => e.feed_flowed _ _) 8 e)).updatePermits hg
  have told (p : Prop) [Decidable p] {e : Dev} (h : RunEnded d g reason e) :
      RunEnded d g reason (if p then e else e.status g event time slices hems) := by
    split
    · exact h
    · exact h.flowed (e.status_flowed _ _ _ _ _)
  have ended := tail (told (event = 0) (d.sumUp_ends g (x := { d.shuttle g with
    state := .halted, stopReq := .none, floorFault := false, curSubst := false }) rfl time (slices % 2 ^ 48) pc reason))
  unfold Dev.runEnd
  dsimp only
  split
  · exact ended
  · exact ended.flowed (Dev.logNotify_flowed _ _ _ _)

/-- One group's part of a late fail vector: a running one ends with 0x0A42. -/
def Dev.endLate (d : Dev) (k : Nat) : Dev :=
  let x := d.shuttle k
  if x.state == .running then d.runEnd k (x.pin / 4000) x.lastPc 0x0A42 8 x.slices 0 else d

/-- Group g ended with 0x0A42. -/
def Dev.endedLate (d : Dev) (g : Nat) : Prop := (d.shuttle g).state = .halted ∧ d.rd (shIdx g) 0x16 = word 0x0A42

theorem Dev.endLate_same {d : Dev} {g : Nat} (hg : g < 12) (h : (d.shuttle g).state = .running) : (d.endLate g).endedLate g := by
  unfold Dev.endLate
  dsimp only
  rw [if_pos (by rw [h]; rfl)]
  have ended := d.runEnd_ends ((d.shuttle g).pin / 4000) (d.shuttle g).lastPc 0x0A42 8 (d.shuttle g).slices 0 hg
  exact ⟨ended.halted, ended.shown⟩

theorem Dev.endLate_other (d : Dev) {g k : Nat} (hk : k < 12) (hg : g ≠ k) :
    (d.endLate k).shuttle g = d.shuttle g ∧ (g < 12 → (d.endLate k).rd (shIdx g) 0x16 = d.rd (shIdx g) 0x16) := by
  unfold Dev.endLate
  dsimp only
  split
  · have ended := d.runEnd_ends ((d.shuttle k).pin / 4000) (d.shuttle k).lastPc 0x0A42 8 (d.shuttle k).slices 0 hk
    exact ⟨ended.others g hg, fun h => ended.kept g h hg⟩
  · exact ⟨rfl, fun _ => rfl⟩

/-- Once ended a group stays so. -/
theorem Dev.endLate_endedLate {d : Dev} {g k : Nat} (hg : g < 12) (hk : k < 12) (h : d.endedLate g) : (d.endLate k).endedLate g := by
  by_cases hkg : g = k
  · subst hkg
    have same : d.endLate g = d := by
      unfold Dev.endLate
      dsimp only
      rw [if_neg (by rw [h.1]; decide)]
    rwa [same]
  · obtain ⟨shuttle, shown⟩ := d.endLate_other hk hkg
    exact ⟨by rw [shuttle, h.1], (shown hg).trans h.2⟩

theorem endLates_endedLate {g : Nat} (hg : g < 12) (l : List Nat) (hl : ∀ k ∈ l, k < 12) {d : Dev} (h : d.endedLate g) :
    (l.foldl Dev.endLate d).endedLate g := by
  induction l generalizing d with
  | nil => exact h
  | cons n l ih =>
    exact ih (fun k hk => hl k (List.mem_cons_of_mem n hk)) (Dev.endLate_endedLate hg (hl n List.mem_cons_self) h)

/-- A running group of the list ends. -/
theorem endLates_reached {g : Nat} (l : List Nat) (hl : ∀ k ∈ l, k < 12) (hg : g ∈ l) {d : Dev} (h : (d.shuttle g).state = .running) :
    (l.foldl Dev.endLate d).endedLate g := by
  induction l generalizing d with
  | nil => exact absurd hg List.not_mem_nil
  | cons n l ih =>
    have tail : ∀ k ∈ l, k < 12 := fun k hk => hl k (List.mem_cons_of_mem n hk)
    rw [List.foldl_cons]
    by_cases hn : g = n
    · subst hn
      exact endLates_endedLate (hl g List.mem_cons_self) l tail (Dev.endLate_same (hl g List.mem_cons_self) h)
    · refine ih tail ((List.mem_cons.1 hg).resolve_left hn) ?_
      rw [(d.endLate_other (hl n List.mem_cons_self) hn).1, h]

/-- What is not in the list stays. -/
theorem endLates_others {k : Nat} (l : List Nat) (hl : ∀ n ∈ l, n < 12) (hk : k ∉ l) (d : Dev) :
    (l.foldl Dev.endLate d).shuttle k = d.shuttle k := by
  induction l generalizing d with
  | nil => rfl
  | cons n l ih =>
    rw [List.foldl_cons, ih (fun m hm => hl m (List.mem_cons_of_mem n hm)) (fun h => hk (List.mem_cons_of_mem n h))]
    exact (d.endLate_other (hl n List.mem_cons_self) (fun h => hk (h ▸ List.mem_cons_self))).1

theorem Dev.lateVector_eq (d : Dev) (g : Nat) : d.lateVector g = (d.localSet g).foldl Dev.endLate d := rfl

/-- A group of a widened set that other members share is in its own set, with groups of this device alone. -/
theorem Dev.localSet_of_remote {d : Dev} {g : Nat} (hg : g < 12) (h : d.remoteMembers g = true) :
    g ∈ d.localSet g ∧ ∀ k ∈ d.localSet g, k < 12 := by
  have wide : d.widened g = true := by
    unfold Dev.remoteMembers at h
    exact (Bool.and_eq_true _ _ ▸ h).1
  unfold Dev.localSet
  rw [if_pos wide]
  refine ⟨by simp [hg], fun k hk => ?_⟩
  exact List.mem_range.1 (List.mem_filter.1 hk).1

end Sys2Proof.Machine
end

section
/-! The statement about threads, widened sets and TREF_0: its parts, and the whole. -/

namespace Sys2Proof.Machine

/-! ### Tokens (R305, R306) -/

/-- The token of thread i leaves its transmit hem for a credit (R306). -/
def Dev.tokenSent (d : Dev) (west : Bool) (i : Nat) : Dev :=
  ((d.putHalf (sendHalf west) (d.half (sendHalf west)).pop).putThread i { d.thread i with credits := (d.thread i).credits - 1 }).count
    (0x2410 + i) 3 32 1

theorem threadTokenSend_parts (west : Bool) {e : HEntry} {i : Nat} {s : State}
    (hon : s.dev.islandOn (if west then 111 else 109) = true) (he : (s.dev.half (sendHalf west)).head = some e)
    (hi : i = e.tag.toNat % 16 + (if west then 16 else 0)) :
    (e.bad ≠ 0 → exec (.threadTokenSend west) s =
      .next { s with dev := s.dev.putHalf (sendHalf west) (s.dev.half (sendHalf west)).pop }) ∧
    (e.bad = 0 → s.dev.threadSource i = true → (s.dev.thread i).unreachable = false →
      ((s.dev.thread i).credits = 0 ∨ (s.dev.thread i).sealing = true → exec (.threadTokenSend west) s = .next s) ∧
      ((s.dev.thread i).credits ≠ 0 → (s.dev.thread i).sealing = false → ∃ c : Cell, exec (.threadTokenSend west) s =
        .next { s with dev := (s.dev.tokenSent west i).sendCell (!west) c } ∧
          c.type = 32 + i ∧ c.dest = bits (s.dev.threadMap i) 11 8 ∧ c.body = e.data)) := by
  have ran : exec (.threadTokenSend west) s = execThreadTokenSend west s := rfl
  rw [ran]
  unfold execThreadTokenSend
  rw [onDev_next]
  dsimp only
  rw [he]
  dsimp only
  rw [hon, ← hi]
  refine ⟨fun hb => by rw [if_neg (by decide), if_pos hb], fun hb hsrc hun => ⟨fun hw => ?_, fun hc hse => ?_⟩⟩
  · rw [if_neg (by decide), if_neg (by simp [hb]), hsrc, if_neg (by decide), if_pos (by rcases hw with h | h <;> simp [h])]
  · rw [if_neg (by decide), if_neg (by simp [hb]), hsrc, if_neg (by decide), if_neg (by simp [hun, hse, hc])]
    refine ⟨_, rfl, rfl, ?_, rfl⟩
    exact congrArg (fun v => bits v 11 8) (Dev.putThread_rd_other _ i _ (j := 2) (by decide) (by decide))

theorem Dev.tokenSent_rest (d : Dev) (west : Bool) (i : Nat) (c : Cell) :
    (((d.tokenSent west i).sendCell (!west) c).thread i).credits = (d.thread i).credits - 1 ∧
      (((d.tokenSent west i).sendCell (!west) c).half (sendHalf west)).q = (d.half (sendHalf west)).q.tail ∧
      ((d.tokenSent west i).sendCell (!west) c).out = (d.sendCell (!west) c).out ∧
      ((d.tokenSent west i).sendCell (!west) c).rdN (0x2410 + i) 3 = (d.rdN (0x2410 + i) 3 + 1) % 2 ^ 32 ∧
      (∀ k, k ≠ i → ((d.tokenSent west i).sendCell (!west) c).thread k = d.thread k) ∧
      ∀ h, h ≠ sendHalf west → ((d.tokenSent west i).sendCell (!west) c).half h = d.half h := by
  have sent := (d.tokenSent west i).sendCell_flowed (!west) c
  refine ⟨?_, ?_, ?_, ?_, fun k hk => ?_, fun h hh => ?_⟩
  · rw [sent.thread]
    unfold Dev.tokenSent
    rw [Dev.count_thread, Dev.putThread_same]
  · rw [Dev.sendCell_half]
    unfold Dev.tokenSent
    rw [Dev.count_half, Dev.putThread_half, Dev.putHalf_q]
    rfl
  · exact Dev.sendCell_out (d := d) (e := d.tokenSent west i) rfl (fun east => by
      unfold Dev.tokenSent; rw [Dev.count_link, Dev.putThread_link, Dev.putHalf_link]) (!west) c
  · rw [sent.rdN (by decide) (reportReg_high (by omega) _)]
    unfold Dev.tokenSent
    rw [Dev.rdN_count_same]
    unfold Dev.rdN
    rw [Dev.putThread_rd_other _ _ _ (by decide) (by decide)]
    rfl
  · rw [sent.thread]
    unfold Dev.tokenSent
    rw [Dev.count_thread, Dev.putThread_other _ _ hk]
    rfl
  · rw [Dev.sendCell_half]
    unfold Dev.tokenSent
    rw [Dev.count_half, Dev.putThread_half, Dev.putHalf_other _ _ hh]

/-- The token of a thread of this member received (R305). -/
def Dev.tokenReceived (d : Dev) (west : Bool) (i : Nat) (e : HEntry) : Dev :=
  (d.putHalf (receiveHalf west) ((d.half (receiveHalf west)).put e)).count (0x2410 + i) 4 32 1

theorem Dev.tokenReceived_rest (d : Dev) (west : Bool) (i : Nat) (e : HEntry) :
    { d.tokenReceived west i e with halves := d.halves, regs := d.regs } = d ∧
      ((d.tokenReceived west i e).half (receiveHalf west)).q = (d.half (receiveHalf west)).q ++ [e] ∧
      RegsKept (regsOf (0x2410 + i) [4]) d (d.tokenReceived west i e) ∧
      (d.tokenReceived west i e).rdN (0x2410 + i) 4 = (d.rdN (0x2410 + i) 4 + 1) % 2 ^ 32 ∧
      ∀ h, h ≠ receiveHalf west → (d.tokenReceived west i e).half h = d.half h := by
  unfold Dev.tokenReceived
  refine ⟨rfl, ?_, fun i' j' hj' hr => ?_, ?_, fun h hh => ?_⟩
  · rw [Dev.count_half, Dev.putHalf_q]
    rfl
  · exact (Dev.wr_regsKept _ (0x2410 + i) 4 _ (by decide) i' j' hj' hr).trans (Dev.setHalf_rd _ _ _ _ _)
  · exact Dev.rdN_count_same _ _ _ _
  · rw [Dev.count_half, Dev.putHalf_other _ _ hh]

theorem threadTokenReceive_parts (west : Bool) (thread : Fin 16) (data : BitVec 256) {i : Nat} {s : State} (ht : s.dev.thimble = true)
    (hi : i = thread.val + (if west then 16 else 0)) (hd : s.dev.threadDest i = true) :
    (s.dev.core.state ≠ .unconfigured → exec (.threadTokenReceive west thread data) s =
      .next { s with dev := s.dev.tokenReceived west i { data := data, tag := BitVec.ofNat 8 thread.val } }) ∧
    (s.dev.core.state = .unconfigured → exec (.threadTokenReceive west thread data) s = .next s) := by
  have ran : exec (.threadTokenReceive west thread data) s = execThreadTokenReceive west thread data s := rfl
  have runs : s.dev.ringRuns = true := ht
  rw [ran]
  unfold execThreadTokenReceive
  rw [onDev_next]
  dsimp only
  rw [← hi, runs, hd]
  refine ⟨fun hs => ?_, fun hs => ?_⟩
  · rw [if_neg (by simp [hs])]
    rfl
  · rw [if_pos (by simp [hs])]

/-! ### Credits and reseals (R306, R308) -/

theorem creditReturn_parts (i : Fin 32) {s : State} (ht : s.dev.thimble = true) (hs : s.dev.threadSource i.val = true) :
    ((s.dev.thread i.val).credits < bits (s.dev.threadMap i.val) 7 0 → exec (.creditReturn i) s =
      .next { s with dev := s.dev.putThread i.val { s.dev.thread i.val with credits := (s.dev.thread i.val).credits + 1 } }) ∧
    (bits (s.dev.threadMap i.val) 7 0 ≤ (s.dev.thread i.val).credits → exec (.creditReturn i) s = .next s) := by
  have ran : exec (.creditReturn i) s = execCreditReturn i s := rfl
  have runs : s.dev.ringRuns = true := ht
  rw [ran]
  unfold execCreditReturn
  rw [onDev_next]
  dsimp only
  rw [runs, hs]
  refine ⟨fun h => ?_, fun h => ?_⟩
  · rw [if_pos (by simp [h])]
  · rw [if_neg (by simp [h])]

/-- The source's part of a reseal: the credits that are not held at the destination (R308). -/
def Dev.resealSource (d : Dev) (i held : Nat) : Dev :=
  if d.threadSource i then
    d.putThread i { d.thread i with credits := bits (d.threadMap i) 7 0 - held, unreachable := false, sealing := false }
  else d

theorem Dev.resealSource_same (d : Dev) (i held : Nat) (h : d.threadSource i = true) :
    (d.resealSource i held).thread i =
      { d.thread i with credits := bits (d.threadMap i) 7 0 - held, unreachable := false, sealing := false } := by
  unfold Dev.resealSource
  rw [if_pos h, Dev.putThread_same]

theorem Dev.resealSource_rest (d : Dev) (i held : Nat) :
    (∀ k, k ≠ i → (d.resealSource i held).thread k = d.thread k) ∧ (d.resealSource i held).core = d.core ∧
      (∀ h, (d.resealSource i held).half h = d.half h) ∧
      ∀ j, j < 256 → j ≠ 1 → (d.resealSource i held).rd (0x2410 + i) j = d.rd (0x2410 + i) j := by
  unfold Dev.resealSource
  split
  · exact ⟨fun k hk => Dev.putThread_other _ _ hk, rfl, fun _ => rfl, fun j hj h => Dev.putThread_rd_other _ _ _ hj h⟩
  · exact ⟨fun _ _ => rfl, rfl, fun _ => rfl, fun _ _ _ => rfl⟩

theorem Dev.resealDest_flowed (d : Dev) (i lost : Nat) : Flowed d (d.resealDest i lost) := by
  have stored (e : HEntry) : Flowed d (if d.core.state = .unconfigured then d
      else d.putHalf (receiveHalf (16 ≤ i)) ((d.half (receiveHalf (16 ≤ i))).put e)) := by
    split
    · exact .refl d
    · exact d.putHalf_flowed _ _
  exact (stored _).trans (Dev.sendCell_flowed _ _ _)

/-- The destination's receive hem takes the GAP entry (R308). -/
theorem Dev.resealDest_gap (d : Dev) (i lost : Nat) (h : d.core.state ≠ .unconfigured) :
    ((d.resealDest i lost).half (receiveHalf (16 ≤ i))).q = (d.half (receiveHalf (16 ≤ i))).q ++
      [{ data := gapBody { count := lost, firstTime := d.core.time }, tag := BitVec.ofNat 8 (0x80 + i % 16) }] := by
  unfold Dev.resealDest
  dsimp only
  rw [if_neg h, Dev.sendCell_half, Dev.putHalf_q]
  rfl

/-- A reseal of thread i with its destination in the ring. -/
def Dev.resealed (d : Dev) (i held lost : Nat) : Dev :=
  let e := (d.resealSource i held).count (0x2410 + i) 5 32 lost
  (if e.threadDest i then e.resealDest i lost else e).log 0x0A31 i 0

/-- A reseal of thread i whose destination is gone. -/
def Dev.sealedOff (d : Dev) (i : Nat) : Dev :=
  if d.threadSource i then (d.putThread i { d.thread i with unreachable := true, sealing := false }).logNotify 0x0A32 i 0 else d

theorem Dev.sealedOff_rest (d : Dev) (i : Nat) :
    (d.threadSource i = true → ((d.sealedOff i).thread i).unreachable = true ∧ ((d.sealedOff i).thread i).credits = (d.thread i).credits) ∧
      (∀ k, k ≠ i → (d.sealedOff i).thread k = d.thread k) ∧ (d.sealedOff i).core = d.core := by
  unfold Dev.sealedOff
  split
  · have told := (d.putThread i { d.thread i with unreachable := true, sealing := false }).logNotify_flowed 0x0A32 i 0
    refine ⟨fun _ => ?_, fun k hk => ?_, told.core⟩
    · rw [told.thread, Dev.putThread_same]
      exact ⟨rfl, rfl⟩
    · rw [told.thread, Dev.putThread_other _ _ hk]
  · next h => exact ⟨fun hs => absurd hs h, fun _ _ => rfl, rfl⟩

theorem Dev.resealed_rest (d : Dev) {i held lost : Nat} (hi : i < 32) :
    (d.resealed i held lost).rdN (0x2410 + i) 5 = (d.rdN (0x2410 + i) 5 + lost) % 2 ^ 32 ∧
    (d.threadSource i = true → ((d.resealed i held lost).thread i).credits = bits (d.threadMap i) 7 0 - held ∧
      ((d.resealed i held lost).thread i).unreachable = false ∧ ((d.resealed i held lost).thread i).sealing = false) ∧
    (d.threadDest i = true → d.core.state ≠ .unconfigured →
      ((d.resealed i held lost).half (receiveHalf (16 ≤ i))).q = (d.half (receiveHalf (16 ≤ i))).q ++
        [{ data := gapBody { count := lost, firstTime := d.core.time }, tag := BitVec.ofNat 8 (0x80 + i % 16) }]) ∧
    (∀ k, k ≠ i → (d.resealed i held lost).thread k = d.thread k) ∧ (d.resealed i held lost).core = d.core := by
  obtain ⟨others, core, half, regs⟩ := d.resealSource_rest i held
  have flows (e : Dev) : Flowed e ((if e.threadDest i then e.resealDest i lost else e).log 0x0A31 i 0) := by
    refine Flowed.trans ?_ (Dev.log_flowed _ _ _ _)
    split
    · exact e.resealDest_flowed i lost
    · exact .refl e
  have done := flows ((d.resealSource i held).count (0x2410 + i) 5 32 lost)
  have hem : receiveHalf (16 ≤ i) ≠ 237 := by unfold receiveHalf; split <;> decide
  refine ⟨?_, fun hs => ?_, fun hd hu => ?_, fun k hk => ?_, ?_⟩
  · refine (done.rdN (by decide) (reportReg_high (by omega) _)).trans ?_
    rw [Dev.rdN_count_same]
    unfold Dev.rdN
    rw [regs 5 (by decide) (by decide)]
  · rw [show (d.resealed i held lost).thread i = _ from done.thread i, Dev.count_thread, Dev.resealSource_same _ _ _ hs]
    exact ⟨rfl, rfl, rfl⟩
  · have dest : ((d.resealSource i held).count (0x2410 + i) 5 32 lost).threadDest i = true := by
      unfold Dev.threadDest Dev.threadMap at hd ⊢
      rw [Dev.count_eq, Dev.wrN, Dev.rd_wr_other _ _ (by unfold objKey; omega), regs 2 (by decide) (by decide), Dev.wr_core, core]
      exact hd
    unfold Dev.resealed
    dsimp only
    rw [if_pos dest, (Dev.log_reported _ _ _ _).half _ hem, Dev.resealDest_gap _ _ _ (by rw [Dev.count_core, core]; exact hu),
      Dev.count_half, half, Dev.count_core, core]
  · rw [show (d.resealed i held lost).thread k = _ from done.thread k, Dev.count_thread, others k hk]
  · exact done.core.trans core

theorem threadReseal_parts (i : Fin 32) (held : BitVec 8) (n : SealCount) {s : State} (ht : s.dev.thimble = true)
    (he : s.dev.threadSource i.val = true ∨ s.dev.threadDest i.val = true) :
    exec (.threadReseal i held n false) s = .next { s with dev := s.dev.sealedOff i.val } ∧
    exec (.threadReseal i held n true) s =
      .next { s with dev := s.dev.resealed i.val held.toNat (s.dev.newlyLost i.val n.sent n.received) } := by
  have ran (p : Bool) : exec (.threadReseal i held n p) s = execThreadReseal i held n p s := rfl
  have ends : (!s.dev.ringRuns || !(s.dev.threadSource i.val || s.dev.threadDest i.val)) = false := by
    have runs : s.dev.ringRuns = true := ht
    rw [runs]
    rcases he with h | h <;> simp [h]
  rw [ran, ran]
  unfold execThreadReseal
  rw [onDev_next, onDev_next]
  dsimp only
  rw [ends]
  unfold Dev.sealedOff Dev.resealed Dev.resealSource
  simp only [Bool.false_eq_true, if_false, Bool.not_false, Bool.not_true, if_true, and_self]

/-! ### Commands of a widened set (R309) -/

/-- A command of the leader of group g's widened set taken. -/
def Dev.widenCommand (d : Dev) (g : Nat) (cmd : Fin 4) (pc time : Nat) : Dev :=
  if cmd.val = 0 then (if (d.shuttle g).state == .halted && !d.calibrating g then d.armRun g pc time 0 else d)
  else if cmd.val = 3 then d.lateVector g
  else d.stopRun g (if cmd.val = 1 then .stop else .atNotch) time

theorem widenCommandReceive_taken (g : Fin 12) (cmd : Fin 4) (startPc : BitVec 14) (time : Nat) {s : State}
    (hm : s.dev.remoteMembers g.val = true) (hr : s.dev.groupRuns g.val = true) :
    exec (.widenCommandReceive g cmd startPc time) s = .next { s with dev := s.dev.widenCommand g.val cmd startPc.toNat time } := by
  have ran : exec (.widenCommandReceive g cmd startPc time) s = execWidenCommandReceive g cmd startPc time s := rfl
  rw [ran]
  unfold execWidenCommandReceive
  rw [onDev_next]
  rw [hm, hr, if_neg (by decide)]
  rfl

theorem Dev.widenCommand_start (d : Dev) {g : Nat} (pc time : Nat) (hh : (d.shuttle g).state = .halted)
    (hc : d.calibrating g = false) : d.widenCommand g 0 pc time = d.armRun g pc time 0 := by
  unfold Dev.widenCommand
  rw [if_pos (by decide), if_pos (by rw [hh, hc]; rfl)]

theorem Dev.widenCommand_stop (d : Dev) {g : Nat} (pc time : Nat) (hr : (d.shuttle g).state = .running)
    (hs : (d.shuttle g).stopReq ≠ .stop) :
    d.widenCommand g 1 pc time = d.setShuttle g { d.shuttle g with stopReq := .stop, stopAt := time } := by
  unfold Dev.widenCommand
  rw [if_neg (by decide), if_neg (by decide), if_pos (by decide)]
  unfold Dev.stopRun
  dsimp only
  rw [if_neg (by simp [hr]), if_neg (by simp [hr]), if_neg (by simp [hs])]

theorem Dev.widenCommand_late (d : Dev) (g pc time : Nat) :
    d.widenCommand g 3 pc time = (d.localSet g).foldl Dev.endLate d := by
  unfold Dev.widenCommand
  rw [if_neg (by decide), if_pos (by decide)]
  exact d.lateVector_eq g

theorem Dev.armRun_arms (d : Dev) (g pc startAt startFill : Nat) :
    ((d.armRun g pc startAt startFill).shuttle g).state = .armed ∧ ((d.armRun g pc startAt startFill).shuttle g).pc = pc ∧
      ((d.armRun g pc startAt startFill).shuttle g).startAt = startAt ∧
      ∀ k, k ≠ g → (d.armRun g pc startAt startFill).shuttle k = d.shuttle k := by
  have counts (e : Dev) (k : Nat) : (((e.wrN (sampleIdx g) 4 0).wrN (sampleIdx g) 5 0).wrN (sampleIdx g) 6 0).shuttle k = e.shuttle k := rfl
  unfold Dev.armRun
  dsimp only
  refine ⟨?_, ?_, ?_, fun k hk => ?_⟩
  · rw [counts, Dev.shuttle_setShuttle_same]
  · rw [counts, Dev.shuttle_setShuttle_same]
  · rw [counts, Dev.shuttle_setShuttle_same]
  · rw [counts, Dev.shuttle_setShuttle_other _ _ _ _ (Ne.symm hk)]

/-! ### TREF_0 (R13, R427) -/

/-- The presence of TREF_0 and the lock of the cascade PLLs taken. -/
def Dev.tref0 (d : Dev) (present locks : Bool) : Dev :=
  { d with env := { d.env with
    tref := if present then d.env.tref ||| 1 else d.env.tref &&& 0xE, cascadePll := present && locks } }

/-- The cascade transmit islands that run or stop with it. -/
def Dev.tref0Follows (d : Dev) (present locks : Bool) : Dev :=
  let tx (n : Nat) : Bool := n = 109 || n = 111
  if !d.thimble then d
  else if present && locks then d.markRan tx
  else if present then (d.markStopped tx).log 0x0150 0x2080 0
  else d.markStopped tx

theorem Dev.tref0Follows_flowed (d : Dev) (present locks : Bool) : Flowed d (d.tref0Follows present locks) := by
  unfold Dev.tref0Follows
  dsimp only
  split
  · exact .refl _
  · split
    · exact d.markRan_flowed _
    · split
      · exact (d.markStopped_flowed _).trans (Dev.log_flowed _ _ _ _)
      · exact d.markStopped_flowed _

theorem tref0PresenceChange_eq (present locks : Bool) (s : State) :
    exec (.tref0PresenceChange ⟨present, locks⟩) s =
      .next { s with dev := (s.dev.tref0 present locks).tref0Follows present locks } := rfl

theorem tref0_bits (w : BitVec 4) (present : Bool) :
    (if present then w ||| 1 else w &&& 0xE).getLsbD 0 = present ∧
      ∀ k, 0 < k → (if present then w ||| 1 else w &&& 0xE).getLsbD k = w.getLsbD k := by
  have low : ∀ (w : BitVec 4) (p : Bool), (if p then w ||| 1 else w &&& 0xE).getLsbD 0 = p ∧
      ∀ k : Fin 4, 0 < k.val → (if p then w ||| 1 else w &&& 0xE).getLsbD k.val = w.getLsbD k.val := by decide
  refine ⟨(low w present).1, fun k hk => ?_⟩
  by_cases h : k < 4
  · exact (low w present).2 ⟨k, h⟩ hk
  · rw [BitVec.getLsbD_of_ge _ _ (by omega), BitVec.getLsbD_of_ge _ _ (by omega)]

theorem Flowed.cascadeTransmit {d e : Dev} (h : Flowed d e) {n : Nat} (hn : n = 109 ∨ n = 111) :
    e.islandOn n = (d.thimble && d.env.cascadePll) := by
  have thimble : e.thimble = d.thimble := by
    unfold Dev.thimble
    rw [h.vaux, h.core]
  have runs : e.islandOn n = (e.thimble && e.env.cascadePll) := by
    unfold Dev.islandOn
    rcases hn with rfl | rfl
    · rw [if_neg (by decide), if_neg (by decide), if_pos (by decide)]
    · rw [if_neg (by decide), if_neg (by decide), if_pos (by decide)]
  rw [runs, thimble, h.env]

/-- Settles O34: each command is named by what it does to the device (tokenSent, tokenReceived, putThread, resealed, endLate, tref0), and
the rest follows from the frames of those. -/
theorem threadsAndWidening : Obligations.ThreadsAndWidening := by
  unfold Obligations.ThreadsAndWidening
  refine ⟨fun west e i s hon he hi => ?_, fun west thread data i s ht hi hd => ?_, fun i s ht hs => ?_,
    fun i held sent received present s ht he => ?_, fun g startPc time s hm hr => ?_, fun present locks s => ?_⟩
  · obtain ⟨bad, good⟩ := threadTokenSend_parts west hon he hi
    refine ⟨fun hb => ⟨_, bad hb, kept_withDev s _, rfl, Dev.putHalf_q _ _ _⟩, fun hb hsrc hun => ?_⟩
    obtain ⟨waits, goes⟩ := good hb hsrc hun
    refine ⟨waits, fun hc hse => ?_⟩
    obtain ⟨c, ran, htype, hdest, hbody⟩ := goes hc hse
    obtain ⟨credits, queue, out, count, threads, halves⟩ := s.dev.tokenSent_rest west i c
    exact ⟨_, c, ran, kept_withDev s _, credits, queue, htype, hdest, hbody, out, count, threads, halves⟩
  · obtain ⟨takes, lost⟩ := threadTokenReceive_parts west thread data ht hi hd
    refine ⟨fun hs => ?_, lost⟩
    obtain ⟨frame, queue, regs, count, halves⟩ :=
      s.dev.tokenReceived_rest west i { data := data, tag := BitVec.ofNat 8 thread.val }
    exact ⟨_, takes hs, kept_withDev s _, frame, queue, regs, count, halves⟩
  · obtain ⟨adds, full⟩ := creditReturn_parts i ht hs
    refine ⟨fun h => ?_, full⟩
    have small : (s.dev.thread i.val).credits + 1 < 256 := Nat.lt_of_le_of_lt h (bits_lt _ 7 0)
    exact ⟨_, adds h, kept_withDev s _, congrArg ThreadSt.credits (Dev.putThread_same _ _ _), Dev.putThread_shows _ _ small,
      Dev.putThread_regs _ _ _, fun k hk => Dev.putThread_other _ _ hk⟩
  · obtain ⟨gone, there⟩ := threadReseal_parts i held ⟨sent, received⟩ ht he
    cases present
    case false =>
      obtain ⟨source, others, core⟩ := s.dev.sealedOff_rest i.val
      exact ⟨_, gone, kept_withDev s _, fun h => absurd h (by decide), fun h => absurd h (by decide), fun h => absurd h (by decide),
        fun _ => source, others, core⟩
    case true =>
      obtain ⟨lost, source, dest, others, core⟩ :=
        s.dev.resealed_rest (held := held.toNat) (lost := s.dev.newlyLost i.val sent received) i.isLt
      exact ⟨_, there, kept_withDev s _, fun _ => lost, fun _ => source, fun _ hd hu => ⟨_, dest hd hu, rfl, rfl⟩,
        fun h => absurd h (by decide), others, core⟩
  · have ran := fun cmd => widenCommandReceive_taken g cmd startPc time hm hr
    refine ⟨fun hh hc => ?_, fun hrun hstop => ?_, fun hrun => ?_⟩
    · obtain ⟨armed, pc, begins, others⟩ := s.dev.armRun_arms g.val startPc.toNat time 0
      have arms := ran 0
      rw [Dev.widenCommand_start _ _ _ hh hc] at arms
      exact ⟨_, arms, kept_withDev s _, armed, pc, begins, others⟩
    · have stops := ran 1
      rw [Dev.widenCommand_stop _ _ _ hrun hstop] at stops
      exact ⟨_, stops, kept_withDev s _, rfl, Dev.shuttle_setShuttle_same _ _ _,
        fun k hk => Dev.shuttle_setShuttle_other _ _ _ _ (Ne.symm hk)⟩
    · have late := ran 3
      rw [Dev.widenCommand_late] at late
      obtain ⟨mem, low⟩ := Dev.localSet_of_remote g.isLt hm
      obtain ⟨halted, shown⟩ := endLates_reached _ low mem hrun
      exact ⟨_, late, kept_withDev s _, halted, (congrArg BitVec.toNat shown).trans (toNat_word (by decide)),
        fun k hk => endLates_others _ low hk _⟩
  · have flowed := (s.dev.tref0 present locks).tref0Follows_flowed present locks
    obtain ⟨own, others⟩ := tref0_bits s.dev.env.tref present
    refine ⟨_, tref0PresenceChange_eq present locks s, kept_withDev s _, ?_, ?_, fun k hk => ?_, fun n hn => ?_, flowed.core, flowed.cascade, flowed.shuttles, flowed.staged⟩
    · rw [flowed.env]
      rfl
    · rw [flowed.env]
      exact own
    · rw [flowed.env]
      exact others k hk
    · rw [flowed.cascadeTransmit hn, Bool.and_assoc]
      rfl

end Sys2Proof.Machine
end

section
/-! SUPPORT. The ring at a cascade notch, swatches and recovery (R292, R296, R302 to R304, R310, R312): what links, roles and cells leave. -/

namespace Sys2Proof.Machine

theorem Flowed.swatch {d e : Dev} (h : Flowed d e) : e.swatch = d.swatch := (congrArg Dev.swatch h.still :)

theorem Flowed.thimble {d e : Dev} (h : Flowed d e) : e.thimble = d.thimble := by
  unfold Dev.thimble; rw [h.vaux, h.core]

/-! ### Cells and outputs -/

/-- A cell that leaves adds to the outputs and does nothing else. -/
theorem Dev.sendCell_outOnly (d : Dev) (east : Bool) (c : Cell) : ∃ o, d.sendCell east c = { d with out := o } := by
  unfold Dev.sendCell
  split
  · exact ⟨_, rfl⟩
  · exact ⟨d.out, rfl⟩

theorem Dev.broadcast_outOnly (d : Dev) (kind body : Nat) : ∃ o, d.broadcast kind body = { d with out := o } := by
  obtain ⟨o, east⟩ := d.sendCell_outOnly true { type := kind, source := d.core.cascadeId, dest := 16, body := BitVec.ofNat 256 body }
  obtain ⟨o', west⟩ := Dev.sendCell_outOnly ({ d with out := o } : Dev) false
    { type := kind, source := d.core.cascadeId, dest := 16, body := BitVec.ofNat 256 body }
  unfold Dev.broadcast
  dsimp only
  rw [east, west]
  exact ⟨o', rfl⟩

/-! ### The ring's own changes (R292, R296, R310) -/

/-- The registers of the ring and of reports. -/
def ringReg (i j : Nat) : Bool := reportReg i j || decide (i = 0x2400) || decide (i = 0x2401)

/-- Links, roles and reports moved between d and e. -/
structure Turned (d e : Dev) : Prop where
  core : e.core = d.core
  regs : RegsKept ringReg d e

theorem Turned.refl (d : Dev) : Turned d d := ⟨rfl, RegsKept.refl _ d⟩

theorem Turned.trans {d e f : Dev} (h : Turned d e) (k : Turned e f) : Turned d f :=
  ⟨k.core.trans h.core, h.regs.trans k.regs (fun _ _ => id) (fun _ _ => id)⟩

theorem Flowed.turned {d e : Dev} (h : Flowed d e) : Turned d e :=
  ⟨h.core, fun i j hj hr => h.regs i j hj (by
    unfold ringReg at hr
    simp only [Bool.or_eq_false_iff] at hr
    exact hr.1.1)⟩

theorem Turned.of_regs {d e : Dev} (hc : e.core = d.core) (hr : e.regs = d.regs) : Turned d e :=
  ⟨hc, fun i j _ _ => by unfold Dev.rd; rw [hr]⟩

theorem Turned.rdN {d e : Dev} (h : Turned d e) {i j : Nat} (hj : j < 256) (hr : ringReg i j = false) : e.rdN i j = d.rdN i j := by
  unfold Dev.rdN; rw [h.regs i j hj hr]

/-- A register of the ring takes a value. -/
theorem Dev.wr_turned (d : Dev) {i j : Nat} (v : Word) (hj : j < 256) (h : i = 0x2400 ∨ i = 0x2401) : Turned d (d.wr i j v) := by
  refine ⟨rfl, fun i' j' hj' hr => d.rd_wr_other v fun e => ?_⟩
  obtain ⟨rfl, rfl⟩ := objKey_inj hj hj' e
  rcases h with rfl | rfl <;> simp [ringReg] at hr

theorem Dev.setFlag_turned (d : Dev) {i j : Nat} (k : Nat) (b : Bool) (hj : j < 256) (h : i = 0x2400 ∨ i = 0x2401) :
    Turned d (d.setFlag i j k b) := d.wr_turned _ hj h

theorem Dev.wrN_turned (d : Dev) {i j : Nat} (v : Nat) (hj : j < 256) (h : i = 0x2400 ∨ i = 0x2401) : Turned d (d.wrN i j v) :=
  d.wr_turned _ hj h

theorem Dev.withCascade_turned (d : Dev) (c : CascadeSt) : Turned d { d with cascade := c } := .of_regs rfl rfl
theorem Dev.setLink_turned (d : Dev) (east : Bool) (x : LinkSt) : Turned d (d.setLink east x) := by
  unfold Dev.setLink
  split <;> exact .of_regs rfl rfl

theorem Dev.setThread_turned (d : Dev) (i : Nat) (x : ThreadSt) : Turned d (d.setThread i x) := .of_regs rfl rfl

theorem forEach_turned {f : Nat → Dev → Dev} (h : ∀ i e, Turned e (f i e)) (n : Nat) (d : Dev) : Turned d (forEach n f d) := by
  induction n with
  | zero => exact .refl d
  | succ n ih =>
    rw [forEach_succ]
    exact ih.trans (h n _)

theorem linkSub_lt (east : Bool) : linkSub east + 4 < 256 := by cases east <;> decide

theorem Dev.setRole_turned (d : Dev) (r : Nat) : Turned d (d.setRole r) := by
  unfold Dev.setRole
  split
  · exact .refl d
  · exact (d.wr_turned _ (by decide) (.inl rfl)).trans (Dev.wr_turned _ _ (by decide) (.inl rfl))

theorem Dev.setMaster_turned (d : Dev) (m : Option Nat) : Turned d (d.setMaster m) :=
  (d.wrN_turned _ (by decide) (.inl rfl)).trans (Dev.wr_turned _ _ (by decide) (.inl rfl))

theorem Dev.setAlone_turned (d : Dev) : Turned d d.setAlone := by
  have flag (e : Dev) (k : Nat) (b : Bool) : Turned e (e.setFlag 0x2400 1 k b) := e.setFlag_turned k b (by decide) (.inl rfl)
  have alone (e : Dev) : Turned e (((e.wrN 0x2400 3 0).wrN 0x2400 4 0).setRole 0) :=
    ((e.wrN_turned 0 (by decide) (.inl rfl)).trans (Dev.wrN_turned _ 0 (by decide) (.inl rfl))).trans (Dev.setRole_turned _ 0)
  have unknown := ((d.withCascade_turned { d.cascade with
    locked := 0, leaving := false, handover := false, owing := false, notches := [] }).trans (Dev.setMaster_turned _ none)).trans
      (flag _ 0 false)
  unfold Dev.setAlone
  dsimp only
  split
  · exact (unknown.trans (flag _ 1 true)).trans (alone _)
  · exact unknown.trans (alone _)

theorem Dev.release_turned (d : Dev) : Turned d d.release :=
  (((d.broadcast_flowed _ _).turned.trans (Dev.setRole_turned _ 2)).trans (Dev.setMaster_turned _ none)).trans
    (Dev.withCascade_turned _ _)

theorem Dev.sealThreads_turned (d : Dev) (east : Bool) : Turned d (d.sealThreads east) := by
  unfold Dev.sealThreads
  refine forEach_turned (fun t e => ?_) 16 d
  dsimp only
  generalize (t + if east then 0 else 16) = i
  split
  · exact e.setThread_turned _ _
  · exact .refl e

theorem Dev.receiveIslands_turned (d : Dev) : Turned d d.receiveIslands :=
  (d.markStopped_flowed _).turned.trans (Dev.markRan_flowed _ _).turned

theorem Dev.wrap_turned (d : Dev) (east : Bool) : Turned d (d.wrap east) := by
  have opened := ((((((d.setLink_turned east { wrapped := true, view := (d.link east).view, failed := (d.link east).failed }).trans
    (Dev.wrN_turned _ (i := 0x2401) (j := linkSub east) (2 ^ 30) (Nat.lt_of_le_of_lt (Nat.le_add_right _ 4) (linkSub_lt east))
      (.inr rfl))).trans
    (Dev.wrN_turned _ (i := 0x2401) 0xFF (linkSub_lt east) (.inr rfl))).trans
    (Dev.setFlag_turned _ (i := 0x2400) (j := 1) 3 true (by decide) (.inl rfl))).trans (Dev.sealThreads_turned _ east)).trans
    (Dev.receiveIslands_turned _))
  unfold Dev.wrap
  dsimp only
  split
  · exact opened
  · exact opened.trans (Dev.setAlone_turned _)

theorem Dev.unwrap_turned (d : Dev) (east : Bool) : Turned d (d.unwrap east) := by
  have closed := (((d.setLink_turned east { d.link east with wrapped := false, unwrapDue := false }).trans
    (Dev.setFlag_turned _ (i := 0x2401) (j := linkSub east) 30 false (Nat.lt_of_le_of_lt (Nat.le_add_right _ 4) (linkSub_lt east))
      (.inr rfl))).trans (Dev.log_flowed _ 0x0A03 0x2401 0).turned).trans (Dev.sealThreads_turned _ east)
  unfold Dev.unwrap
  dsimp only
  split
  · exact .refl d
  · split
    · exact closed
    · exact closed.trans (Dev.setFlag_turned _ 3 false (by decide) (.inl rfl))

theorem Dev.depart_turned (d : Dev) : Turned d d.depart := by
  have left (e : Dev) : Turned e (((((((e.setLink true {}).setLink false {}).wrN 0x2401 1 0).wrN 0x2401 2 0).wrN 0x2401 5 0xFF).wrN
      0x2401 6 0xFF).receiveIslands.setAlone) :=
    (((((((e.setLink_turned _ _).trans (Dev.setLink_turned _ _ _)).trans (Dev.wrN_turned _ _ (by decide) (.inr rfl))).trans
      (Dev.wrN_turned _ _ (by decide) (.inr rfl))).trans (Dev.wrN_turned _ _ (by decide) (.inr rfl))).trans
      (Dev.wrN_turned _ _ (by decide) (.inr rfl))).trans (Dev.receiveIslands_turned _)).trans (Dev.setAlone_turned _)
  unfold Dev.depart
  dsimp only
  split
  · exact d.release_turned.trans (left _)
  · exact left d

theorem Dev.wrapLeft_turned (d : Dev) (east : Bool) : Turned d (d.wrapLeft east) := by
  unfold Dev.wrapLeft
  split
  · exact d.wrap_turned east
  · exact .refl d

/-- What a cascade notch does to the ring itself touches no core and no register beside the ring's. -/
theorem Dev.ringNotch_turned (d : Dev) : Turned d d.ringNotch := by
  have unwrapped := (d.unwrap_turned true).trans (Dev.unwrap_turned _ false)
  unfold Dev.ringNotch
  dsimp only
  split
  · exact unwrapped.trans (Dev.depart_turned _)
  · have wrapped := (unwrapped.trans (Dev.wrapLeft_turned _ true)).trans (Dev.wrapLeft_turned _ false)
    split
    · exact wrapped.trans (Dev.release_turned _)
    · exact wrapped

/-! ### Swatches (R304, R467) -/

/-- A trigger leaves the core, the images, the ring and what is routed to the master. -/
structure Detected (d e : Dev) : Prop where
  core : e.core = d.core
  config : e.config = d.config
  cascade : e.cascade = d.cascade
  routed : e.swatch.routed = d.swatch.routed

theorem Flowed.detected {d e : Dev} (h : Flowed d e) : Detected d e := ⟨h.core, h.config, h.cascade, congrArg SwatchSt.routed h.swatch⟩

theorem Detected.trans {d e f : Dev} (h : Detected d e) (k : Detected e f) : Detected d f :=
  ⟨k.core.trans h.core, k.config.trans h.config, k.cascade.trans h.cascade, k.routed.trans h.routed⟩

theorem Dev.count_detected (d : Dev) (i j width n : Nat) : Detected d (d.count i j width n) := ⟨rfl, rfl, rfl, rfl⟩

theorem Dev.swatchMissed_detected (d : Dev) : Detected d d.swatchMissed := by
  unfold Dev.swatchMissed
  dsimp only
  split
  · exact d.count_detected _ _ _ _
  · have marked (e : Dev) : Detected e { e with swatch := { e.swatch with sent61 := true } } := ⟨rfl, rfl, rfl, rfl⟩
    exact ((d.count_detected _ _ _ _).trans (marked _)).trans (Dev.notify_flowed _ _ _).detected

theorem Dev.swatchDetect_detected (d : Dev) (triggers : Nat) (details : List (Nat × Nat)) (latch cascade : Nat) (late : Bool) :
    Detected d (d.swatchDetect triggers details latch cascade late) := by
  unfold Dev.swatchDetect
  split
  · exact ⟨rfl, rfl, rfl, rfl⟩
  · split
    · split
      · exact ⟨rfl, rfl, rfl, rfl⟩
      · exact d.swatchMissed_detected
    · split
      · exact d.swatchMissed_detected
      · split
        · exact (d.count_detected _ _ _ _).trans (Dev.notify_flowed _ _ _).detected
        · exact ⟨rfl, rfl, rfl, rfl⟩

/-- With the controller free and no swatch to be kept a trigger takes it. -/
theorem Dev.swatchDetect_free {d : Dev} (triggers : Nat) (details : List (Nat × Nat)) (latch cascade : Nat) (late : Bool)
    (ht : d.thimble = true) (hd : d.swatch.det = none) (hb : d.swatch.busy = none) (hk : bit (d.rd 0x3600 4) 7 = false) :
    (d.swatchDetect triggers details latch cascade late).swatch.det = some {
      triggers := triggers, details := details, detect := d.core.time, latch := latch, cascade := cascade, late := late } := by
  unfold Dev.swatchDetect
  rw [ht, hd, hb, hk]
  rfl

/-- A cascade swatch as this member takes it: its lateness logged, the requests routed to the master used up, its number shown. -/
def Dev.swatchTaken (d : Dev) (n t : Nat) : Dev :=
  let e := if t < d.core.time then d.log 0x0A21 0 0 else d
  { e with swatch := { e.swatch with routed := 0, routedDetails := [] }, cascade := { e.cascade with swatchNumber := n } }

theorem Dev.cascadeSwatch_eq (d : Dev) (n t : Nat) : ∃ triggers details late, d.cascadeSwatch n t =
    (d.swatchTaken n t).swatchDetect triggers details (max t (d.swatchTaken n t).core.time) n late := ⟨_, _, _, rfl⟩

/-- The lateness of a swatch is logged, or not. -/
theorem Dev.swatchLate_flowed (d : Dev) (t : Nat) : Flowed d (if t < d.core.time then d.log 0x0A21 0 0 else d) := by
  split
  · exact d.log_flowed _ _ _
  · exact .refl d

theorem Dev.swatchTaken_core (d : Dev) (n t : Nat) : (d.swatchTaken n t).core = d.core := (d.swatchLate_flowed t).core

theorem Dev.cascadeSwatch_taken (d : Dev) (n t : Nat) :
    (d.cascadeSwatch n t).core = d.core ∧ (d.cascadeSwatch n t).cascade.swatchNumber = n ∧ (d.cascadeSwatch n t).swatch.routed = 0 := by
  obtain ⟨triggers, details, late, eq⟩ := d.cascadeSwatch_eq n t
  have detected := (d.swatchTaken n t).swatchDetect_detected triggers details (max t (d.swatchTaken n t).core.time) n late
  rw [eq]
  exact ⟨detected.core.trans (d.swatchTaken_core n t), congrArg CascadeSt.swatchNumber detected.cascade, detected.routed⟩

theorem Dev.cascadeSwatch_free {d : Dev} (n t : Nat) (ht : d.thimble = true) (hd : d.swatch.det = none) (hb : d.swatch.busy = none)
    (hk : bit (d.rd 0x3600 4) 7 = false) :
    ∃ x, (d.cascadeSwatch n t).swatch.det = some x ∧ x.cascade = n ∧ x.latch = max t d.core.time := by
  have late := d.swatchLate_flowed t
  have free : (d.swatchTaken n t).thimble = true ∧ (d.swatchTaken n t).swatch.det = none ∧ (d.swatchTaken n t).swatch.busy = none ∧
      bit ((d.swatchTaken n t).rd 0x3600 4) 7 = false :=
    ⟨late.thimble.trans ht, (congrArg SwatchSt.det late.swatch).trans hd, (congrArg SwatchSt.busy late.swatch).trans hb,
      (congrArg (fun v => bit v 7) (late.rd (by decide) (reportReg_high (by decide) _))).trans hk⟩
  obtain ⟨runs, det, busy, keep⟩ := free
  obtain ⟨triggers, details, isLate, eq⟩ := d.cascadeSwatch_eq n t
  rw [eq, Dev.swatchDetect_free _ _ _ _ _ runs det busy keep, d.swatchTaken_core]
  exact ⟨_, rfl, rfl, rfl⟩

/-! ### Recovery (R312) -/

theorem Dev.touchUnits_flowed (d : Dev) (u n : Nat) : Flowed d (d.touchUnits u n) :=
  (forEach_flowed (fun _ e => (e.touchRaw_reported _ _).flowed) n d).trans (Dev.peakCheck_reported _).flowed

theorem Dev.sendSlot_flowed (d : Dev) (target n : Nat) : Flowed d (d.sendSlot target n) :=
  forEach_flowed (fun _ e => e.sendCell_flowed _ _) _ d

end Sys2Proof.Machine
end

section
/-! The statement about the ring's broadcasts: its parts, and the whole. -/

namespace Sys2Proof.Machine

/-! ### Cascade notches (R302, R303) -/

/-- A cascade notch received: its number and its place among those that wait. -/
def Dev.notchHeard (d : Dev) (number : BitVec 32) (time : BitVec 64) : Dev :=
  { d with cascade := { d.cascade with
    notchNumber := number.toNat
    notches := d.cascade.notches ++ [{ time := time.toNat, number := number.toNat, late := decide (time.toNat < d.core.time) }] } }

theorem Dev.isMaster_false {d : Dev} (h : d.role ≠ 3) : d.isMaster = false := by
  unfold Dev.isMaster
  exact beq_false_of_ne h

theorem Dev.isMaster_true {d : Dev} (h : d.role = 3) : d.isMaster = true := by
  unfold Dev.isMaster
  rw [h]
  rfl

theorem cascadeNotchReceive_heard (number : BitVec 32) (time : BitVec 64) {s : State} (ht : s.dev.thimble = true)
    (hr : s.dev.role = 1 ∨ s.dev.role = 2) :
    ∃ d, exec (.cascadeNotchReceive number time) s = .next { s with dev := d } ∧ Flowed (s.dev.notchHeard number time) d := by
  have ran : exec (.cascadeNotchReceive number time) s = execCascadeNotchReceive number time s := rfl
  have runs : s.dev.ringRuns = true := ht
  have member : s.dev.isMaster = false := Dev.isMaster_false (by omega)
  have inRing : s.dev.role ≠ 0 := by omega
  refine ⟨if time.toNat < s.dev.core.time then (s.dev.notchHeard number time).log 0x0A20 0x2400 0
    else s.dev.notchHeard number time, ?_, ?_⟩
  · rw [ran]
    unfold execCascadeNotchReceive
    rw [onDev_next]
    dsimp only
    rw [runs, member, if_neg (by simp [inRing])]
    rfl
  · split
    · exact Dev.log_flowed _ _ _ _
    · exact .refl _

/-- The notch of a due cascade notch: the device and every group whose shuttle is HALTED. -/
def cascadeMarker (d : Dev) (e : CasEvent) : Marker where
  time := max e.time d.core.time
  groups := maskOf 12 (fun g => (d.shuttle g).state == .halted && !e.groupsDone.getLsbD g)
  device := true
  cascade := true
  host := false
  source := 0xF

/-- The cascade notches that still wait once e has taken effect in the groups. -/
def notchesLeft (e : CasEvent) (groups : Nat) (l : List CasEvent) : List CasEvent :=
  (l.map fun x => if x = e then { x with applied := true, groupsDone := x.groupsDone ||| BitVec.ofNat 12 groups } else x).filter
    fun x => !(x.applied && x.groupsDone == BitVec.allOnes 12)

/-- The notch with its markers, before the ring's own changes. -/
def Dev.cascadeNotched (d : Dev) (m : Marker) : Dev :=
  forEach 12 (fun g d => if m.groups.testBit g then d.placeMarkers m g else d) (d.notchEffect m (.cascade :: m.scopes))

theorem Dev.cascadeNotched_idle {d : Dev} (m : Marker) (hs : d.staged = []) (hc : d.cal.staged = []) :
    Notched (d.countNotch m) (d.cascadeNotched m) := by
  refine (Dev.notchEffect_idle m (.cascade :: m.scopes) hs hc).trans (forEach_notched (fun g e => ?_) 12 _)
  split
  · exact (e.placeMarkers_flowed m g).notched
  · exact .refl e

/-- The notches that wait changed, and the ring's own part of a cascade notch. -/
def Dev.notchDone (d : Dev) (e : CasEvent) (groups : Nat) : Dev :=
  ({ d with cascade := { d.cascade with notches := notchesLeft e groups d.cascade.notches } }).ringNotch

theorem cascadeNotchApply_due {e : CasEvent} {s : State} (ht : s.dev.thimble = true) (hn : s.dev.cascade.notches = [e])
    (ha : e.applied = false) (hd : e.time ≤ s.dev.core.time) :
    exec (.cascadeNotchApply []) s = .next { s with dev :=
      (s.dev.cascadeNotched (cascadeMarker s.dev e)).notchDone e (cascadeMarker s.dev e).groups } := by
  have ran : exec (.cascadeNotchApply []) s = execCascadeNotchApply [] s := rfl
  have found : s.dev.cascade.notches.find? (fun e => !e.applied && e.time ≤ s.dev.core.time) = some e := by
    rw [hn, List.find?_cons_of_pos (by simp [ha, hd])]
  rw [ran]
  unfold execCascadeNotchApply
  rw [onDev_next]
  dsimp only
  rw [found]
  dsimp only
  rw [ht, if_neg (by decide)]
  rfl

theorem Dev.notchDone_turned (d : Dev) (e : CasEvent) (groups : Nat) : Turned d (d.notchDone e groups) :=
  (d.withCascade_turned _).trans (Dev.ringNotch_turned _)

/-- The groups of a cascade notch are those whose shuttle is HALTED. -/
theorem cascadeMarker_groups (d : Dev) {e : CasEvent} (hg : e.groupsDone = 0) {g : Nat} (h : g < 12) :
    (cascadeMarker d e).groups.testBit g = decide ((d.shuttle g).state = .halted) := by
  unfold cascadeMarker
  dsimp only
  rw [testBit_maskOf, hg]
  simp [h, beq_eq_decide]

theorem notchReg_apart {g : Nat} : notchReg (0x3100 + g) 8 = false ∧ ringReg (0x3100 + g) 8 = false := by
  have report := reportReg_high (i := 0x3100 + g) (by omega) 8
  have h2 : 0x3100 + g ≠ 0x2400 := by omega
  have h3 : 0x3100 + g ≠ 0x2401 := by omega
  refine ⟨?_, ?_⟩
  · simp [notchReg, report, regsOf]
  · simp [ringReg, report, h2, h3]

/-! ### Requests and broadcasts (R302, R304) -/

/-- The notch that the master issues for device time t. -/
theorem Dev.issueNotch_out (d : Dev) (t : Nat) : ∃ c : Cell, c.type = 2 ∧ (d.issueNotch t).out = ((d.sendCell true c).sendCell false c).out :=
  ⟨_, rfl, rfl⟩

theorem Dev.issueNotch_rest (d : Dev) (t : Nat) : { d.issueNotch t with cascade := d.cascade, out := d.out } = d := by
  unfold Dev.issueNotch
  dsimp only
  obtain ⟨o, sent⟩ := d.broadcast_outOnly 2 ((d.cascade.notchNumber + 1) % 2 ^ 32 * 2 ^ 64 + t)
  rw [sent]

theorem cascadeNotchRequest_accepted {path : Transport} {s : State}
    (h : Accepted objCascadeRequest actCascadeRequest (ringWr path 2) s.dev) :
    exec (.cascadeNotchRequest path) s = .next { s with dev := s.dev.requestNotch 2 } := by
  have ran : exec (.cascadeNotchRequest path) s = execCascadeNotchRequest path s := rfl
  have asks : actCascadeRequest.apply s.dev (ringWr path 2) = s.dev.requestNotch 2 := rfl
  rw [ran]
  unfold execCascadeNotchRequest
  rw [onDev_next, rowWrite_accepted _ _ h, asks]

theorem cascadeSwatch_accepted {path : Transport} {s : State}
    (h : Accepted objCascadeRequest actCascadeRequest (ringWr path 3) s.dev) :
    exec (.cascadeSwatch path) s = .next { s with dev := s.dev.routeSwatch 0 0 } := by
  have ran : exec (.cascadeSwatch path) s = execCascadeSwatch path s := rfl
  have asks : actCascadeRequest.apply s.dev (ringWr path 3) = s.dev.routeSwatch 0 0 := rfl
  rw [ran]
  unfold execCascadeSwatch
  rw [onDev_next, rowWrite_accepted _ _ h, asks]

/-- The request bit of a cascade swatch that goes to the master. -/
def Dev.swatchRouted (d : Dev) : Dev :=
  { d with swatch := { d.swatch with routed := d.swatch.routed ||| 1, routedDetails := d.swatch.routedDetails ++ [(0, 0)] } }

theorem Dev.routeSwatch_member {d : Dev} (h : d.role ≠ 3) : ∃ c : Cell, c.type = 7 ∧ c.dest = d.rdN 0x2400 9 ∧
    c.body = BitVec.ofNat 256 (3 * 2 ^ 64 + d.core.time % 2 ^ 64) ∧ d.routeSwatch 0 0 = d.swatchRouted.sendCell true c := by
  have member : d.swatchRouted.isMaster = false := Dev.isMaster_false h
  have routes : d.routeSwatch 0 0 = if d.swatchRouted.isMaster then d.swatchRouted.issueSwatch d.swatchRouted.core.time
      else d.swatchRouted.askMaster 3 d.swatchRouted.core.time := rfl
  rw [routes, member, if_neg (by decide)]
  exact ⟨_, rfl, rfl, rfl, rfl⟩

theorem Dev.swatchRouted_sends (d : Dev) (c : Cell) :
    { d.swatchRouted.sendCell true c with swatch := d.swatch, out := d.out } = d ∧
      (d.swatchRouted.sendCell true c).swatch.routed = d.swatch.routed ||| 1 ∧
      (d.swatchRouted.sendCell true c).out = (d.sendCell true c).out := by
  refine ⟨?_, ?_, Dev.sendCell_out (d := d) (e := d.swatchRouted) rfl (fun _ => rfl) true c⟩
  · obtain ⟨o, sent⟩ := d.swatchRouted.sendCell_outOnly true c
    rw [sent]
    rfl
  · exact congrArg SwatchSt.routed (d.swatchRouted.sendCell_flowed true c).swatch

theorem cascadeSwatchReceive_taken (number : BitVec 32) (time : BitVec 64) {s : State} (ht : s.dev.thimble = true)
    (hr : s.dev.role = 1 ∨ s.dev.role = 2) :
    exec (.cascadeSwatchReceive number time) s = .next { s with dev := s.dev.cascadeSwatch number.toNat time.toNat } := by
  have ran : exec (.cascadeSwatchReceive number time) s = execCascadeSwatchReceive number time s := rfl
  have runs : s.dev.ringRuns = true := ht
  have member : s.dev.isMaster = false := Dev.isMaster_false (by omega)
  have inRing : s.dev.role ≠ 0 := by omega
  rw [ran]
  unfold execCascadeSwatchReceive
  rw [onDev_next, runs, member, if_pos (by simp [inRing])]

/-- A request that reaches the master of an established ring. -/
theorem cascadeRequestCell_taken (swatch : Bool) (time : BitVec 64) {s : State} (ht : s.dev.thimble = true) (hr : s.dev.role = 3)
    (he : s.dev.established = true) :
    exec (.cascadeRequestCell ⟨swatch, time⟩) s = .next { s with dev :=
      (if swatch then s.dev.issueSwatch time.toNat else s.dev.issueNotch (time.toNat + s.dev.notchLead)) } := by
  have ran : exec (.cascadeRequestCell ⟨swatch, time⟩) s = execCascadeRequestCell ⟨swatch, time⟩ s := rfl
  have runs : s.dev.ringRuns = true := ht
  rw [ran]
  unfold execCascadeRequestCell
  rw [onDev_next, runs, Dev.isMaster_true hr, he, if_neg (by decide)]

theorem Dev.issueSwatch_issued (d : Dev) (t : Nat) : (d.issueSwatch t).core = d.core ∧
    (d.issueSwatch t).cascade.swatchNumber = (d.cascade.swatchNumber + 1) % 2 ^ 32 := by
  obtain ⟨core, number, -⟩ :=
    (d.broadcast 3 ((d.cascade.swatchNumber + 1) % 2 ^ 32 * 2 ^ 64 + (t + d.notchLead))).cascadeSwatch_taken
      ((d.cascade.swatchNumber + 1) % 2 ^ 32) (t + d.notchLead)
  exact ⟨core.trans (d.broadcast_flowed _ _).core, number⟩

/-! ### Recovery (R312) -/

/-- A recovery request taken: its slot's units are read, and it waits behind those under way. -/
theorem cascadeRecover_taken {w : Wr} {s : State} (h : Accepted objRecoverRequest actRecoverRequest w s.dev) :
    ∃ u k, exec (.cascadeRecover w) s = .next { s with dev :=
      ({ s.dev.touchUnits u k with cascade := { (s.dev.touchUnits u k).cascade with recover := (s.dev.touchUnits u k).cascade.recover ++
        [(bits (objRecoverRequest.valueOf w) 15 12, bits (objRecoverRequest.valueOf w) 3 0)] } } : Dev).setFlag 0x2450 1 15 true } := by
  have ran : exec (.cascadeRecover w) s = execCascadeRecover w s := rfl
  rw [ran]
  unfold execCascadeRecover
  rw [onDev_next, rowWrite_accepted _ _ h]
  exact ⟨_, _, rfl⟩

/-- The first stream done with: broken and logged, or sent. -/
def Dev.recoverSent (d : Dev) (lost : Bool) (target n : Nat) (rest : List (Nat × Nat)) : Dev :=
  let e := { d with cascade := { d.cascade with recover := rest, broken := false } }
  if lost then e.log 0x0A51 0x2450 0 else e.sendSlot target n

theorem Dev.recoverSent_flowed (d : Dev) (lost : Bool) (target n : Nat) (rest : List (Nat × Nat)) :
    Flowed { d with cascade := { d.cascade with recover := rest, broken := false } } (d.recoverSent lost target n rest) := by
  unfold Dev.recoverSent
  dsimp only
  split
  · exact Dev.log_flowed _ _ _ _
  · exact Dev.sendSlot_flowed _ _ _

theorem cascadeRecoverComplete_first (broken : Bool) {target n : Nat} {rest : List (Nat × Nat)} {s : State}
    (h : s.dev.cascade.recover = (target, n) :: rest) :
    exec (.cascadeRecoverComplete broken) s = .next { s with dev :=
      (s.dev.recoverSent (broken || s.dev.cascade.broken) target n rest).complete 0x2450 1 14 (if rest.isEmpty then some 15 else none) } := by
  have ran : exec (.cascadeRecoverComplete broken) s = execCascadeRecoverComplete broken s := rfl
  rw [ran]
  unfold execCascadeRecoverComplete
  rw [onDev_next]
  dsimp only
  rw [h]
  rfl

/-- RECOVER_STATUS as a finished stream leaves it. -/
theorem Dev.complete_recover (d : Dev) (rest : List (Nat × Nat)) :
    let e := d.complete 0x2450 1 14 (if rest.isEmpty then some 15 else none)
    bit (e.rd 0x2450 1) 15 = (if rest = [] then false else bit (d.rd 0x2450 1) 15) ∧ bit (e.rd 0x2450 1) 14 = true ∧
      bits (e.rd 0x2450 1) 31 16 = nextSeq (bits (d.rd 0x2450 1) 31 16) := by
  have seq : nextSeq (bits (d.rd 0x2450 1) 31 16) % 2 ^ (31 + 1 - 16) = nextSeq (bits (d.rd 0x2450 1) 31 16) :=
    Nat.mod_eq_of_lt (nextSeq_lt (bits_lt _ 31 16))
  dsimp only
  rw [Dev.complete_word]
  cases rest with
  | nil =>
    refine ⟨bit_setBit_same _ _ (by decide), ?_, ?_⟩
    · rw [List.isEmpty_nil, if_pos rfl]
      dsimp only
      rw [bit_setBit_other _ _ (by decide), bit_setBit_same _ _ (by decide)]
    · rw [List.isEmpty_nil, if_pos rfl]
      dsimp only
      rw [bits_setBit_other _ _ (.inr (by decide)), bits_setBit_other _ _ (.inr (by decide)), bits_setBits_same _ _ (by decide), seq]
  | cons x rest =>
    refine ⟨?_, bit_setBit_same _ _ (by decide), ?_⟩
    · rw [List.isEmpty_cons, if_neg (by decide), if_neg (by simp)]
      dsimp only
      rw [bit_setBit_other _ _ (by decide), bit_setBits_other _ _ (.inl (by decide))]
    · rw [List.isEmpty_cons, if_neg (by decide)]
      dsimp only
      rw [bits_setBit_other _ _ (.inr (by decide)), bits_setBits_same _ _ (by decide), seq]

/-- Settles O33: a cascade notch moves the numbers on as any notch does and then turns the ring (Turned), a swatch takes its number, and a
recovery request waits and completes in order. -/
theorem ringBroadcasts : Obligations.RingBroadcasts := by
  unfold Obligations.RingBroadcasts
  refine ⟨fun number time s ht hr => ?_, fun e s ht hn ha hd hg hs hc => ?_, fun path s h => ?_, fun number time s ht hr => ?_,
    fun path s h hr => ?_, fun time s ht hr he => ?_, fun w s h => ?_, fun broken target n rest s h => ?_, fun s h => ?_⟩
  · obtain ⟨d, ran, heard⟩ := cascadeNotchReceive_heard number time ht hr
    exact ⟨_, ran, kept_withDev s _, heard.cascade, heard.core, heard.staged, heard.shuttles⟩
  · have turned := (s.dev.cascadeNotched (cascadeMarker s.dev e)).notchDone_turned e (cascadeMarker s.dev e).groups
    have notched := Dev.cascadeNotched_idle (cascadeMarker s.dev e) hs hc
    refine ⟨_, cascadeNotchApply_due ht hn ha hd, kept_withDev s _, ?_, ?_, fun g hlt => ?_⟩
    · exact (turned.core.trans notched.core).trans (s.dev.countNotch_core _)
    · refine ((turned.rdN (by decide) (by decide)).trans (notched.rdN (by decide) (by decide))).trans ?_
      rw [Dev.countNotch_device]
      exact if_pos rfl
    · refine ((turned.rdN (by decide) notchReg_apart.2).trans (notched.rdN (by decide) notchReg_apart.1)).trans ?_
      rw [Dev.countNotch_group _ _ hlt, cascadeMarker_groups _ hg hlt]
      simp only [decide_eq_true_eq]
  · have ran := cascadeNotchRequest_accepted h
    refine ⟨fun hr => ?_, fun hr => ?_⟩
    · unfold Dev.requestNotch at ran
      rw [Dev.isMaster_true hr, if_pos rfl] at ran
      obtain ⟨c, kind, out⟩ := s.dev.issueNotch_out (s.dev.core.time + s.dev.notchLead)
      exact ⟨_, c, ran, kept_withDev s _, s.dev.issueNotch_rest _, kind, out, rfl, rfl⟩
    · unfold Dev.requestNotch at ran
      rw [Dev.isMaster_false hr, if_neg (by decide)] at ran
      exact ⟨_, _, ran, kept_withDev s _, rfl, rfl, rfl, rfl⟩
  · obtain ⟨core, taken, routed⟩ := s.dev.cascadeSwatch_taken number.toNat time.toNat
    exact ⟨_, cascadeSwatchReceive_taken number time ht hr, kept_withDev s _, taken, core, routed,
      fun hd hb hk => Dev.cascadeSwatch_free _ _ ht hd hb hk⟩
  · have ran := cascadeSwatch_accepted h
    obtain ⟨c, kind, dest, body, asks⟩ := Dev.routeSwatch_member hr
    obtain ⟨rest, routed, out⟩ := s.dev.swatchRouted_sends c
    rw [asks] at ran
    exact ⟨_, c, ran, kept_withDev s _, rest, routed, kind, dest, body, out⟩
  · have ran := fun b => cascadeRequestCell_taken b time ht hr he
    obtain ⟨core, number⟩ := s.dev.issueSwatch_issued time.toNat
    exact ⟨⟨_, ran false, kept_withDev s _, s.dev.issueNotch_rest _, rfl⟩, ⟨_, ran true, kept_withDev s _, core, number⟩⟩
  · obtain ⟨u, k, ran⟩ := cascadeRecover_taken h
    have read := s.dev.touchUnits_flowed u k
    refine ⟨_, ran, kept_withDev s _, read.core, ?_, ?_⟩
    · rw [Dev.setFlag_eq, Dev.rd_wr_same, bit_setBit_same _ _ (by decide)]
    · rw [← read.cascade]
      rfl
  · have sent := s.dev.recoverSent_flowed (broken || s.dev.cascade.broken) target n rest
    have word : (s.dev.recoverSent (broken || s.dev.cascade.broken) target n rest).rd 0x2450 1 = s.dev.rd 0x2450 1 :=
      sent.rd (by decide) (by decide)
    obtain ⟨busy, unacked, seq⟩ := (s.dev.recoverSent (broken || s.dev.cascade.broken) target n rest).complete_recover rest
    rw [word] at busy seq
    refine ⟨_, cascadeRecoverComplete_first broken h, kept_withDev s _, sent.cascade, busy, unacked, seq, sent.core, fun hb ht => ?_⟩
    have lost : (broken || s.dev.cascade.broken) = true := by rcases hb with h | h <;> simp [h]
    have runs : ({ s.dev with cascade := { s.dev.cascade with recover := rest, broken := false } } : Dev).thimble = true := ht
    obtain ⟨e, mem, reason, -, time⟩ := Dev.log_mem runs 0x0A51 0x2450 0
    refine ⟨e, ?_, reason, time⟩
    have logged : s.dev.recoverSent true target n rest =
        ({ s.dev with cascade := { s.dev.cascade with recover := rest, broken := false } } : Dev).log 0x0A51 0x2450 0 := rfl
    rw [← logged, ← lost] at mem
    exact mem
  · have ran : exec (.cascadeRecoverComplete false) s = execCascadeRecoverComplete false s := rfl
    rw [ran]
    unfold execCascadeRecoverComplete
    rw [onDev_next]
    dsimp only
    rw [h]
    rfl

end Sys2Proof.Machine
end

section
/-! SUPPORT. Commits (R341, R448): whatever the new contents of patches do, the core and the images committed before stay. -/

namespace Sys2Proof.Machine

/-- Contents, objects, tokens and channels moved between d and e: neither the core nor the images committed. -/
structure Carried (d e : Dev) : Prop where
  core : e.core = d.core
  partials : e.config.partials = d.config.partials

theorem Carried.refl (d : Dev) : Carried d d := ⟨rfl, rfl⟩

theorem Carried.trans {d e f : Dev} (h : Carried d e) (k : Carried e f) : Carried d f :=
  ⟨k.core.trans h.core, k.partials.trans h.partials⟩

theorem Flowed.carried {d e : Dev} (h : Flowed d e) : Carried d e := ⟨h.core, congrArg ConfigSt.partials h.config⟩

theorem Detected.carried {d e : Dev} (h : Detected d e) : Carried d e := ⟨h.core, congrArg ConfigSt.partials h.config⟩

theorem forEach_carried {f : Nat → Dev → Dev} (h : ∀ i e, Carried e (f i e)) (n : Nat) (d : Dev) : Carried d (forEach n f d) := by
  induction n with
  | zero => exact .refl d
  | succ n ih =>
    rw [forEach_succ]
    exact ih.trans (h n _)

theorem foldl_carried {α : Type} {f : Dev → α → Dev} (h : ∀ e x, Carried e (f e x)) (l : List α) (d : Dev) : Carried d (l.foldl f d) := by
  induction l generalizing d with
  | nil => exact .refl d
  | cons x l ih => exact (h d x).trans (ih _)

/-! ### One register, one table entry -/

theorem Dev.wr_carried (d : Dev) (i j : Nat) (v : Word) : Carried d (d.wr i j v) := ⟨rfl, rfl⟩
theorem Dev.wrN_carried (d : Dev) (i j v : Nat) : Carried d (d.wrN i j v) := ⟨rfl, rfl⟩
theorem Dev.setFlag_carried (d : Dev) (i j k : Nat) (b : Bool) : Carried d (d.setFlag i j k b) := ⟨rfl, rfl⟩
theorem Dev.count_carried (d : Dev) (i j width n : Nat) : Carried d (d.count i j width n) := ⟨rfl, rfl⟩
theorem Dev.complete_carried (d : Dev) (i j u : Nat) (busy : Option Nat) : Carried d (d.complete i j u busy) := ⟨rfl, rfl⟩
theorem Dev.setBytes_carried (d : Dev) (i j : Nat) (l : List Byte) : Carried d (d.setBytes i j l) := ⟨rfl, rfl⟩
theorem Dev.emit_carried (d : Dev) (o : Output) : Carried d (d.emit o) := ⟨rfl, rfl⟩
theorem Dev.free_carried (d : Dev) : Carried d d.free.2 := ⟨rfl, rfl⟩
theorem Dev.setPanel_carried (d : Dev) (k : Nat) (x : PanelSt) : Carried d (d.setPanel k x) := ⟨rfl, rfl⟩
theorem Dev.setWatch_carried (d : Dev) (k : Nat) (x : WatchSt) : Carried d (d.setWatch k x) := ⟨rfl, rfl⟩
theorem Dev.setBobbin_carried (d : Dev) (k : Nat) (x : BobbinSt) : Carried d (d.setBobbin k x) := ⟨rfl, rfl⟩
theorem Dev.setBlock_carried (d : Dev) (k : Nat) (x : BlockSt) : Carried d (d.setBlock k x) := ⟨rfl, rfl⟩
theorem Dev.setNeedle_carried (d : Dev) (k : Nat) (x : NeedleSt) : Carried d (d.setNeedle k x) := ⟨rfl, rfl⟩
theorem Dev.setBank_carried (d : Dev) (k : Nat) (x : BankSt) : Carried d (d.setBank k x) := ⟨rfl, rfl⟩
theorem Dev.setChan_carried (d : Dev) (k : Nat) (x : SpoolSt) : Carried d (d.setChan k x) := ⟨rfl, rfl⟩
theorem Dev.setThread_carried (d : Dev) (k : Nat) (x : ThreadSt) : Carried d (d.setThread k x) := ⟨rfl, rfl⟩
theorem Dev.setFrench_carried (d : Dev) (k : Nat) (x : FrenchSt) : Carried d (d.setFrench k x) := ⟨rfl, rfl⟩
theorem Dev.setProgWord_carried (d : Dev) (g a : Nat) (w : BitVec 64) : Carried d (d.setProgWord g a w) := ⟨rfl, rfl⟩

theorem Dev.log_carried (d : Dev) (reason inst detail : Nat) : Carried d (d.log reason inst detail) := (d.log_flowed _ _ _).carried
theorem Dev.notify_carried (d : Dev) (reason inst : Nat) : Carried d (d.notify reason inst) := (d.notify_flowed _ _).carried

/-! ### Frames and contents (R339, R341) -/

theorem Dev.writeFrame_carried (d : Dev) (a : Nat) (x : Frame) : Carried d (d.writeFrame a x) := by
  unfold Dev.writeFrame
  dsimp only
  split
  · exact ⟨rfl, rfl⟩
  · split
    · exact forEach_carried (fun k e => e.setBlock_carried _ _) 32 d
    · split
      · exact forEach_carried (fun k e => e.setProgWord_carried _ _ _) 32 d
      · exact .refl d

theorem Dev.clearBlocks_carried (d : Dev) (p : Nat → Bool) : Carried d (d.clearBlocks p) := by
  unfold Dev.clearBlocks
  refine foldl_carried (fun e k => ?_) _ d
  split
  · exact e.setBlock_carried _ _
  · exact .refl e

theorem Dev.initFrench_carried (d : Dev) (n : Nat) : Carried d (d.initFrench n) := by
  unfold Dev.initFrench
  dsimp only
  split
  · exact d.setFrench_carried _ _
  · exact d.setFrench_carried _ _

/-! ### Objects that an image gives (R324) -/

theorem Dev.setHeadroom_carried (d : Dev) (v : Word) : Carried d (d.setHeadroom v) := by
  have set := d.wr_carried 0x2300 9 v
  unfold Dev.setHeadroom
  dsimp only
  split
  · exact (set.trans (Dev.complete_carried _ _ _ _ _)).trans (Dev.logNotify_flowed _ _ _ _).carried
  · exact set

theorem Dev.switchMode_carried (d : Dev) (c mode t : Nat) : Carried d (d.switchMode c mode t) := by
  unfold Dev.switchMode
  dsimp only
  split
  · exact .refl d
  · have set := (d.wrN_carried (0x3200 + c) 2 mode).trans (Dev.setFlag_carried _ (0x3200 + c) 6 31 false)
    split
    · exact set.trans (Dev.setNeedle_carried _ _ _)
    · exact set.trans (Dev.setNeedle_carried _ _ _)

theorem Dev.changePin_carried (d : Dev) (b n fn t : Nat) : Carried d (d.changePin b n fn t) := by
  unfold Dev.changePin
  dsimp only
  split
  · exact .refl d
  · exact (d.wrN_carried _ _ _).trans (Dev.setBank_carried _ _ _)

theorem Dev.applyThread_carried (d : Dev) (idx : Nat) (v : Word) : Carried d (d.applyThread idx v) := by
  unfold Dev.applyThread
  exact ((d.wr_carried idx 2 v).trans (Dev.setThread_carried _ _ _)).trans (Dev.wrN_carried _ _ _ _)

theorem Dev.applyWord_carried (d : Dev) (idx sub : Nat) (v : Word) (t : Nat) : Carried d (d.applyValue idx sub (.word v) t) := by
  have set := d.wr_carried idx sub v
  unfold Dev.applyValue
  dsimp only
  split
  · exact d.switchMode_carried _ _ _
  · split
    · exact set.trans (Dev.setBank_carried _ _ _)
    · split
      · exact set.trans (Dev.setBank_carried _ _ _)
      · split
        · exact d.changePin_carried _ _ _ _
        · split
          · exact set.trans (Dev.setBobbin_carried _ _ _)
          · split
            · exact d.applyThread_carried _ _
            · split
              · exact set.trans (Dev.wrN_carried _ _ _ _)
              · exact set

theorem actTallyConfig_carried (n : Nat) (d : Dev) (w : Wr) : Carried d ((actTallyConfig n).apply d w) := by
  have set := (d.wr_carried (tallyIdx n) 3 (objTallyConfig.valueOf w)).trans
    (Dev.setFlag_carried _ (tallyIdx n) 1 13 (bit (objTallyConfig.valueOf w) 30))
  have zero (e : Dev) (t : TallySt) : Carried e { e.tallyZero n with tally := t } := ⟨rfl, rfl⟩
  unfold actTallyConfig
  dsimp only
  split
  · exact set.trans (zero _ _)
  · exact set

theorem actTallyThreshold_carried (o : Desc) (n sub : Nat) (d : Dev) (w : Wr) : Carried d ((actTallyThreshold o n sub).apply d w) := by
  have set := d.wr_carried (tallyIdx n) sub (o.valueOf w)
  unfold actTallyThreshold
  dsimp only
  split
  · exact set.trans (Dev.setFlag_carried _ _ _ _ _)
  · exact set

theorem Dev.applyImage_carried (d : Dev) (idx sub : Nat) (v : Word) : Carried d (d.applyImage idx sub v) := by
  unfold Dev.applyImage
  dsimp only
  split
  · exact d.setHeadroom_carried v
  · split
    · exact actTallyConfig_carried _ d _
    · split
      · exact actTallyThreshold_carried _ _ _ d _
      · exact d.applyWord_carried _ _ _ _

theorem Dev.imageDefaults_carried (d : Dev) (p : Nat → Nat → Bool) : Carried d (d.imageDefaults p) :=
  foldl_carried (fun e _ => e.applyImage_carried _ _ _) _ d

theorem Dev.applySetup_carried (d : Dev) (l : List (Nat × Nat × Word)) : Carried d (d.applySetup l) :=
  (foldl_carried (fun e _ => e.applyImage_carried _ _ _) _ d).trans (foldl_carried (fun e _ => e.applyImage_carried _ _ _) _ _)

/-! ### Watch points and tokens (R103, R467) -/

theorem Dev.bindWatch_carried (d : Dev) (l : List (Fin 512 × Word)) : Carried d (d.bindWatch l) :=
  foldl_carried (fun e _ => (e.wr_carried _ _ _).trans (Dev.setWatch_carried _ _ _)) l d

theorem Dev.unbindWatch_carried (d : Dev) (p : Word → Bool) : Carried d (d.unbindWatch p) := by
  unfold Dev.unbindWatch
  refine forEach_carried (fun w e => ?_) 512 d
  split
  · exact e.wr_carried _ _ _
  · exact .refl e

theorem Dev.issueSwatch_carried (d : Dev) (t : Nat) : Carried d (d.issueSwatch t) := by
  have late (e : Dev) (n t : Nat) : Carried e (e.cascadeSwatch n t) := by
    obtain ⟨triggers, details, isLate, eq⟩ := e.cascadeSwatch_eq n t
    have taken : Carried e (e.swatchTaken n t) :=
      (e.swatchLate_flowed t).carried.trans ⟨rfl, rfl⟩
    rw [eq]
    exact taken.trans (Dev.swatchDetect_detected _ _ _ _ _ _).carried
  exact (d.broadcast_flowed _ _).carried.trans (late _ _ _)

theorem Dev.routeSwatch_carried (d : Dev) (k detail : Nat) : Carried d (d.routeSwatch k detail) := by
  have routed (w : SwatchSt) : Carried d { d with swatch := w } := ⟨rfl, rfl⟩
  unfold Dev.routeSwatch
  dsimp only
  split
  · exact (routed _).trans (Dev.issueSwatch_carried _ _)
  · exact (routed _).trans (Dev.sendCell_flowed _ _ _).carried

theorem Dev.swatchTrigger_carried (d : Dev) (k detail : Nat) : Carried d (d.swatchTrigger k detail) := by
  have detected := (d.swatchDetect_detected (2 ^ k) [(k, detail)] (d.core.time + 100) 0 false).carried
  unfold Dev.swatchTrigger
  split
  · exact .refl d
  · split
    · split
      · exact d.routeSwatch_carried k detail
      · exact detected.trans (Dev.log_carried _ _ _ _)
    · exact detected

theorem Dev.watchToken_carried (d : Dev) (w : Nat) : Carried d (d.watchToken w) := by
  have counted (x : WatchSt) := (d.count_carried (0x3B80 + w / 4) (0x10 * (w % 4 + 1) + 6) 48 1).trans (Dev.setWatch_carried _ w x)
  unfold Dev.watchToken
  dsimp only
  split
  · exact (counted _).trans (Dev.swatchTrigger_carried _ _ _)
  · exact counted _

theorem Dev.emitBundle_carried (d : Dev) (column row b : Nat) : Carried d (d.emitBundle column row b) := by
  have watched (e : Dev) : Carried e (e.watchTokens column row b) := by
    unfold Dev.watchTokens
    refine forEach_carried (fun w e => ?_) 512 e
    split
    · exact e.watchToken_carried w
    · exact .refl e
  have settled (e : Dev) : Carried e (e.settleBundle column row b) := by
    unfold Dev.settleBundle
    dsimp only
    split
    · exact e.setPanel_carried _ _
    · exact .refl e
  unfold Dev.emitBundle
  exact (((d.setPanel_carried _ _).trans (Dev.emit_carried _ _)).trans (watched _)).trans (settled _)

theorem Dev.emitFull_carried (d : Dev) (site : Nat) : Carried d (d.emitFull site) := by
  unfold Dev.emitFull
  refine forEach_carried (fun b e => ?_) 16 d
  split
  · exact e.emitBundle_carried _ _ _
  · exact .refl e

/-! ### Channels that lose their endpoint (R443, R448) -/

theorem Dev.spoolEvent_carried (d : Dev) (c result reason info : Nat) (addr : Word) : Carried d (d.spoolEvent c result reason info addr) :=
  ⟨rfl, rfl⟩

theorem Dev.writeback_carried (d : Dev) (c status : Nat) : Carried d (d.writeback c status) := by
  have posted (o o' : Output) (i n : Nat) : Carried d ((((d.emit o).wrN i 8 n).emit o').count i 0x0E 32 1) := ⟨rfl, rfl⟩
  unfold Dev.writeback
  dsimp only
  split
  · exact ((posted _ _ _ _).trans (Dev.count_carried _ _ _ _ _)).trans (Dev.setChan_carried _ _ _)
  · exact (posted _ _ _ _).trans (Dev.setChan_carried _ _ _)

/-- What an ended channel reports. -/
theorem Dev.spoolReport_carried (d : Dev) (c result reason reason' info cause : Nat) (addr : Word) :
    Carried d (((if cause = 6 then d else d.log reason c 0).spoolEvent c result reason' info addr).notify reason' c) := by
  have told (e : Dev) : Carried e ((e.spoolEvent c result reason' info addr).notify reason' c) :=
    (e.spoolEvent_carried _ _ _ _ _).trans (Dev.notify_carried _ _ _)
  split
  · exact told d
  · exact (d.log_carried _ _ _).trans (told _)

theorem Dev.spoolFail_carried (d : Dev) (c kind cause : Nat) (fromHost : Bool) (addr : Word) :
    Carried d (d.spoolFail c kind cause fromHost addr) := by
  unfold Dev.spoolFail
  exact (((d.writeback_carried _ _).trans (Dev.setChan_carried _ _ _)).trans (Dev.emit_carried _ _)).trans
    (Dev.spoolReport_carried _ _ _ _ _ _ _ _)

theorem Dev.spoolHalt_carried (d : Dev) (c kind cause index : Nat) (fromHost : Bool) :
    Carried d (d.spoolHalt c kind cause index fromHost) := by
  unfold Dev.spoolHalt
  exact ((d.free_carried.trans (Dev.setChan_carried _ _ _)).trans (Dev.spoolReport_carried _ _ _ _ _ _ _ _)).trans (Dev.emit_carried _ _)

theorem Dev.startDescr_carried (d : Dev) (c : Nat) (x : Descr) : Carried d (d.startDescr c x) := by
  unfold Dev.startDescr
  split
  · exact d.spoolHalt_carried _ _ _ _ _
  · split
    · exact d.free_carried.trans (Dev.spoolFail_carried _ _ _ _ _ _)
    · exact d.setChan_carried _ _

theorem Dev.promote_carried (d : Dev) (c : Nat) : Carried d (d.promote c) := by
  unfold Dev.promote
  dsimp only
  split
  · exact .refl d
  · split
    · exact (d.setChan_carried _ _).trans (Dev.startDescr_carried _ _ _)
    · exact d.spoolHalt_carried _ _ _ _ _
    · exact .refl d

theorem Dev.descrDone_carried (d : Dev) (c : Nat) (commit : Bool) : Carried d (d.descrDone c commit) := by
  unfold Dev.descrDone
  dsimp only
  split
  · exact .refl d
  · split
    · exact ((d.writeback_carried _ _).trans (Dev.emit_carried _ _)).trans (Dev.promote_carried _ _)
    · exact (d.writeback_carried _ _).trans (Dev.promote_carried _ _)

theorem Dev.endpointLost_carried (d : Dev) (c : Nat) (fromHost : Bool) : Carried d (d.endpointLost c fromHost) := by
  unfold Dev.endpointLost
  split
  · exact d.spoolFail_carried _ _ _ _ _
  · exact ((((d.setChan_carried _ _).trans (Dev.log_carried _ _ _ _)).trans (Dev.spoolEvent_carried _ _ _ _ _ _)).trans
      (Dev.notify_carried _ _ _)).trans (Dev.emit_carried _ _)

theorem Dev.spoolCommit_carried (d : Dev) (p : Nat → Bool) : Carried d (d.spoolCommit p) := by
  unfold Dev.spoolCommit
  refine forEach_carried (fun c e => ?_) 16 d
  dsimp only
  split
  · exact .refl e
  · split
    · exact e.endpointLost_carried _ _
    · split
      · exact .refl e
      · split
        · exact e.endpointLost_carried _ _
        · exact e.descrDone_carried _ _

/-! ### Step 3 of R341 -/

/-- The replaced patches take their new contents: neither the core nor the images committed before change. -/
theorem Dev.activate_carried (d : Dev) (i : StagedImage) (bindings : List (Fin 512 × Word)) : Carried d (d.activate i bindings) := by
  have plane (e : Dev) (l : List (Nat × Frame)) : Carried e { e with config := { e.config with active := l } } := ⟨rfl, rfl⟩
  have panels (l : List Nat) (e : Dev) : Carried e (l.foldl (fun e x => e.initPanel x) e) :=
    foldl_carried (fun e _ => e.setPanel_carried _ _) l e
  have bobbins (e : Dev) : Carried e ((List.range 54).foldl (fun e q => if i.header.patchMask.testBit q then e.emptyBobbins q else e) e) :=
    foldl_carried (fun e q => by
      split
      · exact ⟨rfl, rfl⟩
      · exact .refl e) _ e
  have frames (l : List (Nat × Frame)) (e : Dev) : Carried e (l.foldl (fun e x => e.writeFrame x.1 x.2) e) :=
    foldl_carried (fun e _ => e.writeFrame_carried _ _) l e
  have french (e : Dev) : Carried e (forEach 64 (fun n e => if e.frenchIn i.header.patchMask n then
      ((e.initFrench n).setFlag (0x3980 + n) 1 14 false).setFlag (0x3980 + n) 1 12 false else e) e) :=
    forEach_carried (fun n e => by
      split
      · exact ((e.initFrench_carried n).trans (Dev.setFlag_carried _ _ _ _ _)).trans (Dev.setFlag_carried _ _ _ _ _)
      · exact .refl e) 64 e
  have found (e : Dev) : Carried e (forEach 54 (fun q e => if i.header.patchMask.testBit q then e.setFlag 0x3900 8 q false else e) e) :=
    forEach_carried (fun q e => by
      split
      · exact e.setFlag_carried _ _ _ _
      · exact .refl e) 54 e
  have sends (l : List Nat) (e : Dev) : Carried e (l.foldl (fun e x => e.emitFull x) e) :=
    foldl_carried (fun e _ => e.emitFull_carried _) l e
  unfold Dev.activate
  extract_lets mask c d1 sites d2 d3 d4 taps d5 d6 d7 d8
  have replaced : Carried d d4 := (((plane d _).trans (panels sites d1)).trans (bobbins d2)).trans
    ((d3.clearBlocks_carried _).trans (frames _ _))
  have given : Carried d4 d6 := ((d4.unbindWatch_carried _).trans (Dev.imageDefaults_carried _ _)).trans
    (((d5.applySetup_carried _).trans (Dev.bindWatch_carried _ _)).trans (Dev.spoolCommit_carried _ _))
  have done : Carried d d8 := (replaced.trans given).trans ((french d6).trans (found d7))
  split
  · exact done.trans (sends sites d8)
  · exact done

end Sys2Proof.Machine
end

section
/-! The statement about commits, the configuration scrub and the recovery copy: its parts, and the whole. -/

namespace Sys2Proof.Machine

/-! ### Commits (R341) -/

theorem Dev.latchCapture_bareBaste (d : Dev) : ∃ q, d.latchCapture = { d with baste := q } := by
  unfold Dev.latchCapture
  split
  · dsimp only
    split
    · exact ⟨d.baste, rfl⟩
    · exact ⟨_, rfl⟩
  · exact ⟨d.baste, rfl⟩

/-- A commit is told: its result, the log, permits and a capture that waited. -/
def Dev.commitTold (d : Dev) : Dev := ((d.complete 0x2110 1 14 (some 10)).log 0x0122 0 0).updatePermits.latchCapture

theorem Dev.commitTold_rest (d : Dev) : d.commitTold.core = d.core ∧ d.commitTold.config = d.config ∧
    (∀ j, j < 256 → j ≠ 1 → d.commitTold.rd 0x2110 j = d.rd 0x2110 j) ∧
    bit (d.commitTold.rd 0x2110 1) 10 = false ∧ bit (d.commitTold.rd 0x2110 1) 14 = true := by
  have told := (d.complete 0x2110 1 14 (some 10)).log_flowed 0x0122 0 0
  obtain ⟨q, latched⟩ := ((d.complete 0x2110 1 14 (some 10)).log 0x0122 0 0).updatePermits.latchCapture_bareBaste
  have reg {j : Nat} (hj : j < 256) : d.commitTold.rd 0x2110 j = (d.complete 0x2110 1 14 (some 10)).rd 0x2110 j := by
    have notReport : reportReg 0x2110 j = false := by simp [reportReg]
    unfold Dev.commitTold
    rw [latched]
    exact (Dev.updatePermits_rd _ (by decide) hj).trans (told.rd hj notReport)
  refine ⟨?_, ?_, fun j hj h => ?_, ?_, ?_⟩
  · unfold Dev.commitTold
    rw [latched]
    exact (Dev.updatePermits_core _).trans told.core
  · unfold Dev.commitTold
    rw [latched]
    exact (Dev.updatePermits_config _).trans told.config
  · rw [reg hj]
    exact d.complete_other _ _ (by unfold objKey; omega)
  · rw [reg (by decide), Dev.complete_word]
    exact bit_setBit_same _ _ (by decide)
  · rw [reg (by decide), Dev.complete_word]
    dsimp only
    rw [bit_setBit_other _ _ (by decide)]
    exact bit_setBit_same _ _ (by decide)

theorem Dev.committed_shows (d : Dev) (i : StagedImage) :
    (d.committed i).core = d.core ∧ (d.committed i).config.staged = none ∧ (d.committed i).config.shadow = [] ∧
      (d.committed i).config.staging = [] ∧
      (d.committed i).config.partials = { header := i.header, digest := i.digest, slot := i.source.slotOf } :: d.config.partials ∧
      (d.committed i).rd 0x2110 5 = word i.header.patchMask ∧ (d.committed i).rd 0x2110 6 = word i.header.imageId := by
  have shown (e : Dev) :
      (((e.wrN 0x2110 5 i.header.patchMask).wrN 0x2110 6 i.header.imageId).setFlag 0x2110 1 11 false).rd 0x2110 5 =
        word i.header.patchMask ∧
      (((e.wrN 0x2110 5 i.header.patchMask).wrN 0x2110 6 i.header.imageId).setFlag 0x2110 1 11 false).rd 0x2110 6 =
        word i.header.imageId := by
    rw [Dev.setFlag_eq, Dev.rd_wr_other _ _ (by decide), Dev.rd_wr_other _ _ (by decide), Dev.wrN, Dev.wrN,
      Dev.rd_wr_other _ _ (by decide), Dev.rd_wr_same, Dev.rd_wr_same]
    exact ⟨rfl, rfl⟩
  unfold Dev.committed
  dsimp only
  split
  · obtain ⟨mask, id⟩ := shown _
    exact ⟨rfl, rfl, rfl, rfl, rfl, mask, id⟩
  · obtain ⟨mask, id⟩ := shown _
    exact ⟨rfl, rfl, rfl, rfl, rfl, mask, id⟩

/-- The planes as the check of their staged frames leaves them. -/
def Dev.checkedPlanes (d : Dev) (shadow staging : List (Nat × Frame)) : Dev :=
  { d with config := { d.config with shadow := shadow, staging := staging } }

/-- A latched commit whose staged frames are sound. -/
theorem partialCommitComplete_sound (ups : List FrameUpset) (bindings : List (Fin 512 × Word)) {i : StagedImage} {s : State}
    {x y : List (Nat × Frame)} (hs : s.dev.config.staged = some i) (hc : i.committing = true)
    (hx : checkStaged ups s.dev.config.shadow = .ok x) (hy : checkStaged ups s.dev.config.staging = .ok y) :
    exec (.partialCommitComplete ups bindings) s =
      .next { s with dev := (((s.dev.checkedPlanes x y).activate i bindings).committed i).commitTold } := by
  have ran : exec (.partialCommitComplete ups bindings) s = execPartialCommitComplete ups bindings s := rfl
  rw [ran]
  unfold execPartialCommitComplete
  rw [onDev_next]
  dsimp only
  rw [hs]
  dsimp only
  rw [hc, if_neg (by decide), hx, hy]
  unfold Dev.commitTold Dev.checkedPlanes
  dsimp only
  rw [hs]

/-- No image is staged any more. -/
def Dev.unstaged (d : Dev) : Dev := { d with config := { d.config with staged := none, shadow := [], staging := [] } }

/-- PARTIAL_STATUS and the reason of a commit that is given up at the frame at logical address a. -/
def Dev.commitFault (d : Dev) (a : Nat) : Dev :=
  (((d.setFlag 0x2110 1 10 false).setFlag 0x2110 1 11 false).wrN 0x2110 7 0x0124).wrN 0x2110 8 a

/-- A commit is given up at the frame at logical address a. -/
def Dev.commitGivenUp (d : Dev) (a : Nat) : Dev := ((d.unstaged.commitFault a).log 0x0124 0 a).latchCapture

theorem partialCommitComplete_unsound (ups : List FrameUpset) (bindings : List (Fin 512 × Word)) {i : StagedImage} {s : State} {a : Nat}
    (hs : s.dev.config.staged = some i) (hc : i.committing = true)
    (ha : checkStaged ups s.dev.config.shadow = .error a ∨
      ((checkStaged ups s.dev.config.shadow).isOk = true ∧ checkStaged ups s.dev.config.staging = .error a)) :
    exec (.partialCommitComplete ups bindings) s = .next { s with dev := s.dev.commitGivenUp a } := by
  have ran : exec (.partialCommitComplete ups bindings) s = execPartialCommitComplete ups bindings s := rfl
  rw [ran]
  unfold execPartialCommitComplete
  rw [onDev_next]
  dsimp only
  rw [hs]
  dsimp only
  rw [hc, if_neg (by decide)]
  rcases ha with ha | ⟨hok, ha⟩
  · rw [ha]
    rfl
  · cases hx : checkStaged ups s.dev.config.shadow with
    | error b => rw [hx] at hok; exact absurd hok Bool.false_ne_true
    | ok x =>
      rw [ha]
      rfl

theorem Dev.commitFault_shows (d : Dev) (a : Nat) : (d.commitFault a).rd 0x2110 7 = word 0x0124 ∧
    (d.commitFault a).rdN 0x2110 8 = a % 2 ^ 64 ∧ bit ((d.commitFault a).rd 0x2110 1) 10 = false := by
  unfold Dev.commitFault Dev.rdN Dev.wrN
  refine ⟨?_, ?_, ?_⟩
  · rw [Dev.rd_wr_other _ _ (by decide), Dev.rd_wr_same]
  · rw [Dev.rd_wr_same]
    exact BitVec.toNat_ofNat _ _
  · rw [Dev.rd_wr_other _ _ (by decide), Dev.rd_wr_other _ _ (by decide), Dev.setFlag_eq, Dev.rd_wr_same,
      bit_setBit_other _ _ (by decide), Dev.setFlag_eq, Dev.rd_wr_same]
    exact bit_setBit_same _ _ (by decide)

theorem Dev.commitGivenUp_rest (d : Dev) (a : Nat) : (d.commitGivenUp a).core = d.core ∧
    (d.commitGivenUp a).config = { d.config with staged := none, shadow := [], staging := [] } ∧
    (d.commitGivenUp a).panels = d.panels ∧ (d.commitGivenUp a).rd 0x2110 7 = word 0x0124 ∧
    (d.commitGivenUp a).rdN 0x2110 8 = a % 2 ^ 64 ∧ bit ((d.commitGivenUp a).rd 0x2110 1) 10 = false := by
  obtain ⟨reason, address, status⟩ := d.unstaged.commitFault_shows a
  have told := (d.unstaged.commitFault a).log_flowed 0x0124 0 a
  obtain ⟨q, latched⟩ := ((d.unstaged.commitFault a).log 0x0124 0 a).latchCapture_bareBaste
  unfold Dev.commitGivenUp
  rw [latched]
  exact ⟨told.core, told.config, told.panels, (told.rd (by decide) (by decide)).trans reason,
    (told.rdN (by decide) (by decide)).trans address, (congrArg (fun w => bit w 10) (told.rd (by decide) (by decide))).trans status⟩

/-! ### PARTIAL_DISCARD (R342) -/

theorem partialDiscard_accepted {path : Transport} {s : State}
    (h : Accepted objPartialDiscard actPartialDiscard ⟨path, 1, 1, [], 0⟩ s.dev) :
    exec (.partialDiscard path) s = .next { s with dev := s.dev.discardPartial } := by
  have ran : exec (.partialDiscard path) s = execPartialDiscard path s := rfl
  rw [ran]
  unfold execPartialDiscard
  rw [onDev_next, rowWrite_accepted _ _ h]
  rfl

/-- An image whose commit is under way is not discarded. -/
theorem partialDiscard_waits {w : Wr} {d : Dev} {i : StagedImage} (h : Accepted objPartialDiscard actPartialDiscard w d)
    (hs : d.config.staged = some i) : i.committing = false := by
  have allowed : (if d.config.staged.any (fun i => i.committing) then 0x0123 else 0) = 0 := allow_of_writeCheck h.2
  rw [hs] at allowed
  cases hc : i.committing
  · rfl
  · rw [Option.any_some, hc] at allowed
    exact absurd allowed (by decide)

/-- PARTIAL_STATUS and the reason of an image discarded. -/
def Dev.discardShown (d : Dev) : Dev :=
  ((d.wr 0x2110 1 (setBits (d.rd 0x2110 1) 13 11 0)).wrN 0x2110 7 0x0120).wrN 0x2110 8 0xFFFFFFFF

/-- A staged image is discarded. -/
def Dev.discarded (d : Dev) : Dev := d.unstaged.discardShown.log 0x0120 0 0

theorem Dev.discardPartial_staged {d : Dev} {i : StagedImage} (hs : d.config.staged = some i) (hc : i.committing = false) :
    d.discardPartial = d.discarded := by
  unfold Dev.discardPartial
  rw [hs]
  dsimp only
  rw [if_neg (by simp [hc])]
  rfl

/-- A field cleared has no bit set. -/
theorem bit_setBits_zero (w : Word) {hi lo j : Nat} (hj : j < 64) (hl : lo ≤ j) (hh : j ≤ hi) : bit (setBits w hi lo 0) j = false := by
  unfold bit
  rw [getLsbD_setBits, if_pos ⟨hj, hl, by omega⟩, Nat.zero_testBit]

theorem Dev.discardShown_shows (d : Dev) :
    d.discardShown.rd 0x2110 7 = word 0x0120 ∧ bit (d.discardShown.rd 0x2110 1) 13 = false := by
  unfold Dev.discardShown Dev.wrN
  refine ⟨?_, ?_⟩
  · rw [Dev.rd_wr_other _ _ (by decide), Dev.rd_wr_same]
  · rw [Dev.rd_wr_other _ _ (by decide), Dev.rd_wr_other _ _ (by decide), Dev.rd_wr_same]
    exact bit_setBits_zero _ (by decide) (by decide) (by decide)

theorem Dev.discarded_rest (d : Dev) : d.discarded.core = d.core ∧
    d.discarded.config = { d.config with staged := none, staging := [], shadow := [] } ∧
    d.discarded.rd 0x2110 7 = word 0x0120 ∧ bit (d.discarded.rd 0x2110 1) 13 = false := by
  have told := d.unstaged.discardShown.log_flowed 0x0120 0 0
  obtain ⟨reason, status⟩ := d.unstaged.discardShown_shows
  exact ⟨told.core, told.config, (told.rd (by decide) (by decide)).trans reason,
    (congrArg (fun w => bit w 13) (told.rd (by decide) (by decide))).trans status⟩

/-! ### The scrub (R343 to R345) -/

/-- The frame at logical address a as a check found it sound, corrected where it had to be. -/
def Dev.putFrame (d : Dev) (a : Nat) (g : Frame) : Dev :=
  if g = d.frame a then d else { d with config := { d.config with active := tabIns (tabDel d.config.active a) a g } }

theorem Dev.putFrame_rest (d : Dev) (a : Nat) (g : Frame) : (d.putFrame a g).frame a = g ∧
    (∀ b, b ≠ a → (d.putFrame a g).frame b = d.frame b) ∧ { d.putFrame a g with config := d.config } = d ∧
    (d.putFrame a g).config.sent160 = d.config.sent160 ∧ (d.putFrame a g).config.scrubPos = d.config.scrubPos := by
  unfold Dev.putFrame
  split
  · next h => exact ⟨h.symm, fun _ _ => rfl, rfl, rfl, rfl⟩
  · refine ⟨tabGet_tabIns_same _ _ _ _, fun b hb => ?_, rfl, rfl, rfl⟩
    exact (tabGet_tabIns_other _ _ _ (Ne.symm hb)).trans (tabGet_tabDel_other _ _ (Ne.symm hb))

theorem Dev.putFrame_core (d : Dev) (a : Nat) (g : Frame) : (d.putFrame a g).core = d.core := by
  unfold Dev.putFrame
  split <;> rfl

theorem Dev.putFrame_rd (d : Dev) (a : Nat) (g : Frame) (i j : Nat) : (d.putFrame a g).rd i j = d.rd i j := by
  unfold Dev.putFrame
  split <;> rfl

/-- A corrected frame of patch q is counted, and told once a window. -/
def Dev.correctionCounted (d : Dev) (q : Nat) : Dev :=
  let e := d.count 0x2120 3 32 1
  if e.config.sent160 then e else ({ e with config := { e.config with sent160 := true } }).notify 0x0160 (0x3910 + q)

theorem Dev.correctionCounted_rest (d : Dev) (q : Nat) : (d.correctionCounted q).core = d.core ∧
    (d.correctionCounted q).config = { d.config with sent160 := true } ∧
    (d.correctionCounted q).rdN 0x2120 3 = (d.rdN 0x2120 3 + 1) % 2 ^ 32 ∧
    RegsKept (fun i j => reportReg i j || regsOf 0x2120 [3] i j) d (d.correctionCounted q) := by
  have counted : RegsKept (regsOf 0x2120 [3]) d (d.count 0x2120 3 32 1) := Dev.wr_regsKept _ _ _ _ (by decide)
  have config : (d.count 0x2120 3 32 1).config = d.config := rfl
  unfold Dev.correctionCounted
  dsimp only
  split
  · next h =>
    rw [config] at h
    refine ⟨rfl, ?_, Dev.rdN_count_same _ _ _ _, counted.trans (.refl reportReg _) (fun i j hr => ?_) (fun i j hr => ?_)⟩
    · rw [config, ← h]
    · exact (Bool.or_eq_false_iff.1 hr).2
    · exact (Bool.or_eq_false_iff.1 hr).1
  · have told := ({ d.count 0x2120 3 32 1 with config := { d.config with sent160 := true } } : Dev).notify_flowed 0x0160 (0x3910 + q)
    refine ⟨told.core, told.config, (told.rdN (by decide) (by decide)).trans (Dev.rdN_count_same d _ _ _),
      counted.trans (q := reportReg) told.regs (fun i j hr => ?_) (fun i j hr => ?_)⟩
    · exact (Bool.or_eq_false_iff.1 hr).2
    · exact (Bool.or_eq_false_iff.1 hr).1

/-- What the scrubber of patch q makes of a frame that it saw and found sound. -/
def Dev.scrubbed (d : Dev) (q a : Nat) (seen g : Frame) : Dev :=
  if seen.syndrome = 0 then d.putFrame a g else (d.putFrame a g).correctionCounted q

/-- The scrubber of patch q moves on from position p. -/
def Dev.scrubNext (d : Dev) (q p : Nat) : Dev :=
  { d with config := { d.config with scrubPos := tabSet (fun _ => 0) d.config.scrubPos q (p + 1) } }

theorem Dev.scrubOn_within (d : Dev) (q : Nat) {p : Nat} (h : p < 2719) : d.scrubOn q p = d.scrubNext q p := by
  unfold Dev.scrubOn
  dsimp only
  rw [if_pos h]
  rfl

/-- What the scrubber of patch q does at position p with what its check makes of the frame: sound, or past correction. -/
def Dev.scrubFound (d : Dev) (q p a : Nat) (seen : Frame) : Option Frame → Dev
  | none => d.frameLost q (scrubSite q p).1 (scrubSite q p).2 (p % 20)
  | some g => d.scrubbed q a seen g

/-- One step of a scrubber that runs. -/
theorem cfgScrubFrame_checked (q : Fin 54) (data : BitVec 2048) (check : BitVec 12) (crc : BitVec 32) {p a : Nat} {seen : Frame}
    {s : State} (ht : s.dev.thimble = true) (hst : s.dev.core.state = .run ∨ s.dev.core.state = .folded ∨ s.dev.core.state = .safe)
    (hh : s.dev.patchHeld q.val = false) (hd : s.dev.config.passDone.getLsbD q.val = false)
    (hp : p = tabGet (fun _ => 0) s.dev.config.scrubPos q.val)
    (ha : a = panelAddr (scrubSite q.val p).1 (scrubSite q.val p).2 (p % 20)) (hseen : seen = (s.dev.frame a).upset data check crc) :
    exec (.cfgScrubFrame q data check crc) s = .next { s with dev :=
      (s.dev.scrubFound q.val p a seen (seen.settled a)).scrubOn q.val p } := by
  have ran : exec (.cfgScrubFrame q data check crc) s = execCfgScrubFrame q data check crc s := rfl
  have runs : (s.dev.core.state == .run || s.dev.core.state == .folded || s.dev.core.state == .safe) = true := by
    rcases hst with h | h | h <;> rw [h] <;> rfl
  rw [ran]
  unfold execCfgScrubFrame
  rw [onDev_next]
  dsimp only
  rw [runs, ht, hh, hd, if_neg (by decide), ← hp, ← ha, ← hseen]
  rfl

/-- A report of a panel fault in RUN and FOLDED waits for its repair. -/
theorem Dev.panelFault_queued {d : Dev} (source column row : Nat) (h : d.core.state = .run ∨ d.core.state = .folded) :
    ∃ r : RepairSt, d.panelFault source column row = { d with darn := { d.darn with queue := d.darn.queue ++ [r] } } ∧
      r.source = source ∧ r.row = row := by
  unfold Dev.panelFault
  dsimp only
  rcases h with h | h
  · rw [h]
    exact ⟨_, rfl, rfl, rfl⟩
  · rw [h]
    exact ⟨_, rfl, rfl, rfl⟩

theorem Flowed.darn {d e : Dev} (h : Flowed d e) : e.darn = d.darn := (congrArg Dev.darn h.still :)

/-- A frame past correction where the patch has a recovery source. -/
theorem Dev.frameLost_repaired {d : Dev} (q column row minor : Nat) (hr : d.config.recoveryFor.getLsbD q = true)
    (h : d.core.state = .run ∨ d.core.state = .folded) : (d.frameLost q column row minor).core = d.core ∧
      (d.frameLost q column row minor).config = d.config ∧
      ∃ r, (d.frameLost q column row minor).darn.queue = d.darn.queue ++ [r] ∧ r.source = 0x0812 ∧ r.row = row := by
  have told := d.log_flowed 0x0161 (0x3910 + q) (panelAddr column row minor)
  have state : (d.log 0x0161 (0x3910 + q) (panelAddr column row minor)).core.state = .run ∨
      (d.log 0x0161 (0x3910 + q) (panelAddr column row minor)).core.state = .folded := by
    rw [told.core]
    exact h
  obtain ⟨r, queued, source, at_row⟩ := Dev.panelFault_queued 0x0812 (d.physColumn column row) row state
  unfold Dev.frameLost
  dsimp only
  rw [if_pos hr, queued]
  exact ⟨told.core, told.config, r, congrArg (fun x => x.queue ++ [r]) told.darn, source, at_row⟩

theorem Dev.isolateLoss_isolates (d : Dev) (r : RepairSt) (recovered : Nat) (h : r.patch < 64) :
    (d.isolateLoss r recovered).isolated r.patch = true ∧ (d.isolateLoss r recovered).config = d.config := by
  have told := (d.isolate r.patch).logNotify_flowed 0x0823 (256 * (d.logicalColumn r.column r.row).getD r.column + r.row) 0
  have shown : bit ((d.isolate r.patch).rd 0x3900 8) r.patch = true := by
    unfold Dev.isolate
    rw [Dev.updatePermits_rd _ (by decide) (by decide), Dev.setFlag_eq, Dev.rd_wr_same, bit_setBit_same _ _ h]
  unfold Dev.isolateLoss Dev.repairDone Dev.isolated
  dsimp only
  rw [Dev.complete_other _ _ _ (by decide), Dev.setBytes_rd, Dev.count_eq, Dev.wrN, Dev.rd_wr_other _ _ (by decide),
    told.rd (by decide) (by decide)]
  refine ⟨shown, told.config.trans ?_⟩
  exact (Dev.updatePermits_config _).trans rfl

/-- A frame past correction where the patch has none: the patch is isolated. -/
theorem Dev.frameLost_isolated {d : Dev} {q : Nat} (column row minor : Nat) (hq : q < 64)
    (hr : d.config.recoveryFor.getLsbD q = false) :
    (d.frameLost q column row minor).isolated q = true ∧ (d.frameLost q column row minor).config = d.config := by
  have told := d.logNotify_flowed 0x0162 (0x3910 + q) (panelAddr column row minor)
  unfold Dev.frameLost
  dsimp only
  rw [if_neg (by simp [hr])]
  split
  · next h => exact ⟨h, told.config⟩
  · obtain ⟨isolated, config⟩ := (d.logNotify 0x0162 (0x3910 + q) (panelAddr column row minor)).isolateLoss_isolates
      { patch := q, row := row, column := d.physColumn column row, source := 0x0812, kind := 1,
        started := (d.logNotify 0x0162 (0x3910 + q) (panelAddr column row minor)).core.time } 0 hq
    exact ⟨isolated, config.trans told.config⟩

theorem Dev.frameLost_safe {d : Dev} {q : Nat} (column row minor : Nat) (hr : d.config.recoveryFor.getLsbD q = true)
    (h : d.core.state = .safe) : (d.frameLost q column row minor).config = d.config := by
  have told := d.log_flowed 0x0161 (0x3910 + q) (panelAddr column row minor)
  unfold Dev.frameLost Dev.panelFault
  dsimp only
  rw [if_pos hr, told.core, h]
  exact (Dev.log_flowed _ _ _ _).config.trans told.config

theorem Dev.frameLost_config {d : Dev} {q : Nat} (column row minor : Nat) (hq : q < 64)
    (h : d.core.state = .run ∨ d.core.state = .folded ∨ d.core.state = .safe) : (d.frameLost q column row minor).config = d.config := by
  cases hr : d.config.recoveryFor.getLsbD q
  case false => exact (Dev.frameLost_isolated column row minor hq hr).2
  case true =>
    rcases h with h | h | h
    · exact (Dev.frameLost_repaired q column row minor hr (.inl h)).2.1
    · exact (Dev.frameLost_repaired q column row minor hr (.inr h)).2.1
    · exact Dev.frameLost_safe column row minor hr h

/-! ### The recovery copy (R355) -/

section
variable {α : Type}

theorem self_mem_tabIns (t : List (Nat × α)) (k : Nat) (v : α) : (k, v) ∈ tabIns t k v := by
  induction t with
  | nil => exact List.mem_singleton.2 rfl
  | cons x t ih =>
    unfold tabIns
    split
    · exact List.mem_cons_self
    · split
      · exact List.mem_cons_self
      · exact List.mem_cons_of_mem _ ih

theorem mem_tabIns_of_mem {t : List (Nat × α)} {k : Nat} (v : α) {x : Nat × α} (h : x ∈ t) (hk : x.1 ≠ k) : x ∈ tabIns t k v := by
  induction t with
  | nil => exact absurd h List.not_mem_nil
  | cons y t ih =>
    unfold tabIns
    split
    · exact List.mem_cons_of_mem _ h
    · split
      · next hy =>
        refine List.mem_cons_of_mem _ ((List.mem_cons.1 h).resolve_left fun e => hk ?_)
        rw [e]
        exact hy
      · rcases List.mem_cons.1 h with rfl | h
        · exact List.mem_cons_self
        · exact List.mem_cons_of_mem _ (ih h)

theorem mem_tabDel_of_mem {t : List (Nat × α)} {k : Nat} {x : Nat × α} (h : x ∈ t) (hk : x.1 ≠ k) : x ∈ tabDel t k := by
  induction t with
  | nil => exact absurd h List.not_mem_nil
  | cons y t ih =>
    unfold tabDel
    rcases List.mem_cons.1 h with rfl | h
    · rw [if_neg hk]
      exact List.mem_cons_self
    · split
      · exact ih h
      · exact List.mem_cons_of_mem _ (ih h)

/-- The entries that a pass over a list of keys puts into a table are all there after it. -/
theorem mem_foldl_tabIns (p : Nat → Bool) (f : Nat → α) {q : Nat} (hp : p q = true) (l : List Nat) (t : List (Nat × α))
    (h : q ∈ l ∨ (q, f q) ∈ t) : (q, f q) ∈ l.foldl (fun t q => if p q then tabIns (tabDel t q) q (f q) else t) t := by
  induction l generalizing t with
  | nil => exact h.resolve_left List.not_mem_nil
  | cons k l ih =>
    rw [List.foldl_cons]
    by_cases hk : q = k
    · subst hk
      refine ih _ (.inr ?_)
      rw [if_pos hp]
      exact self_mem_tabIns _ _ _
    · refine ih _ (h.imp (fun hq => (List.mem_cons.1 hq).resolve_left hk) fun ht => ?_)
      split
      · exact mem_tabIns_of_mem _ (mem_tabDel_of_mem ht hk) hk
      · exact ht

end

theorem Dev.touchUnits_vault (d : Dev) (u n : Nat) : (d.touchUnits u n).vault = d.vault :=
  (Dev.peakCheck_reported _).vault.trans (forEach_keeps Dev.vault (fun _ e => (e.touchRaw_reported _ _).vault) n d)

/-- The copies of the patches being copied are in the wardrobe. -/
def Dev.copiesKept (d : Dev) (f : Fuses) : Dev :=
  { d with
    config := { d.config with recoveryFor := d.config.recoveryFor ||| d.config.copying, copying := 0 }
    nv := { d.nv with recovery := (List.range 54).foldl (fun t q =>
      if d.config.copying.getLsbD q then tabIns (tabDel t q) q (d.recoveryCopy f q) else t) d.nv.recovery } }

/-- The units that hold the copies are accessed. -/
def Dev.copiesTouched (d : Dev) (mask : BitVec 54) : Dev :=
  (List.range 54).foldl (fun e q => if mask.getLsbD q then e.touchUnits (7136 + 12 * q) 12 else e) d

theorem Dev.copiesTouched_flowed (d : Dev) (mask : BitVec 54) :
    Flowed d (d.copiesTouched mask) ∧ (d.copiesTouched mask).nv.recovery = d.nv.recovery := by
  have touched : ∀ (l : List Nat) (e : Dev),
      Flowed e (l.foldl (fun e q => if mask.getLsbD q then e.touchUnits (7136 + 12 * q) 12 else e) e) ∧
        (l.foldl (fun e q => if mask.getLsbD q then e.touchUnits (7136 + 12 * q) 12 else e) e).vault = e.vault := fun l => by
    induction l with
    | nil => exact fun e => ⟨.refl e, rfl⟩
    | cons q l ih =>
      intro e
      rw [List.foldl_cons]
      split
      · obtain ⟨flowed, vault⟩ := ih (e.touchUnits (7136 + 12 * q) 12)
        exact ⟨(e.touchUnits_flowed _ _).trans flowed, vault.trans (e.touchUnits_vault _ _)⟩
      · exact ih e
  obtain ⟨flowed, vault⟩ := touched (List.range 54) d
  exact ⟨flowed, congrArg (fun v => v.nv.recovery) vault⟩

theorem recoveryCopyComplete_kept {s : State} (ht : s.dev.thimble = true) (hc : s.dev.config.copying ≠ 0) :
    exec .recoveryCopyComplete s = .next { s with dev :=
      ((s.dev.copiesKept s.fuses).copiesTouched s.dev.config.copying).wrN 0x2120 6 2 } := by
  have ran : exec .recoveryCopyComplete s = execRecoveryCopyComplete s := rfl
  rw [ran]
  unfold execRecoveryCopyComplete
  rw [onDev_next]
  dsimp only
  rw [ht, if_neg (by simpa using hc)]
  rfl

/-- Settles O45: a commit changes contents only (Carried) before it is shown, a scrubber's step is the frame settled or lost, and the
recovery copy is a pass over the patches. -/
theorem commitsScrubRecovery : Obligations.CommitsScrubRecovery := by
  unfold Obligations.CommitsScrubRecovery
  refine ⟨fun ups bindings i s hs hc => ⟨fun x y hx hy => ?_, fun a ha => ?_⟩, fun path s h => ⟨fun hn => ?_, fun i hs => ?_⟩,
    fun q p a data check crc seen s ht hst hh hd hp hlt ha hseen => ?_, fun s ht hc => ?_⟩
  · have carried := (s.dev.checkedPlanes x y).activate_carried i bindings
    obtain ⟨core, staged, shadow, staging, partials, mask, id⟩ := ((s.dev.checkedPlanes x y).activate i bindings).committed_shows i
    obtain ⟨core', config, regs, clear, told⟩ := (((s.dev.checkedPlanes x y).activate i bindings).committed i).commitTold_rest
    refine ⟨_, partialCommitComplete_sound ups bindings hs hc hx hy, kept_withDev s _, (core'.trans core).trans carried.core, ?_, ?_, ?_, ?_,
      (regs 5 (by decide) (by decide)).trans mask, (regs 6 (by decide) (by decide)).trans id, clear, told⟩
    · rw [config, staged]
    · rw [config, shadow]
    · rw [config, staging]
    · rw [config, partials, carried.partials]
      rfl
  · obtain ⟨core, config, panels, reason, address, status⟩ := s.dev.commitGivenUp_rest a
    exact ⟨_, partialCommitComplete_unsound ups bindings hs hc ha, kept_withDev s _, core, config, panels, reason, address, status⟩
  · have same : s.dev.discardPartial = s.dev := by
      unfold Dev.discardPartial
      rw [hn]
    rw [partialDiscard_accepted h, same]
  · have waits := partialDiscard_waits h hs
    obtain ⟨core, config, reason, status⟩ := s.dev.discarded_rest
    refine ⟨_, partialDiscard_accepted h, kept_withDev s _, ?_⟩
    rw [Dev.discardPartial_staged hs waits]
    exact ⟨core, config, reason, status⟩
  · have ran := cfgScrubFrame_checked q data check crc ht hst hh hd hp ha hseen
    rw [Dev.scrubOn_within _ _ hlt] at ran
    refine ⟨fun g hg => ?_, fun hg => ?_⟩
    · rw [hg] at ran
      obtain ⟨same, others, rest, sent, pos⟩ := s.dev.putFrame_rest a g
      by_cases hsyn : seen.syndrome = 0
      · unfold Dev.scrubFound Dev.scrubbed at ran
        dsimp only at ran
        rw [if_pos hsyn] at ran
        refine ⟨_, ran, kept_withDev s _, s.dev.putFrame_core a g, same, others, ?_, fun _ => ⟨rest, sent⟩, fun h => absurd hsyn h⟩
        exact congrArg (fun l => tabSet (fun _ => 0) l q.val (p + 1)) pos
      · unfold Dev.scrubFound Dev.scrubbed at ran
        dsimp only at ran
        rw [if_neg hsyn] at ran
        obtain ⟨core, config, count, regs⟩ := (s.dev.putFrame a g).correctionCounted_rest q.val
        have frame (b : Nat) : (((s.dev.putFrame a g).correctionCounted q.val).scrubNext q.val p).frame b = (s.dev.putFrame a g).frame b :=
          (congrArg (fun c : ConfigSt => tabGet blankFrame c.active b) config :)
        refine ⟨_, ran, kept_withDev s _, core.trans (s.dev.putFrame_core a g), (frame a).trans same, fun b hb => (frame b).trans (others b hb), ?_,
          fun h => absurd h hsyn, fun _ => ⟨?_, congrArg ConfigSt.sent160 config, fun i j hj hr => ?_⟩⟩
        · exact congrArg (fun l => tabSet (fun _ => 0) l q.val (p + 1)) ((congrArg ConfigSt.scrubPos config).trans pos)
        · refine count.trans ?_
          unfold Dev.rdN
          rw [Dev.putFrame_rd]
        · exact (regs i j hj hr).trans (s.dev.putFrame_rd a g i j)
    · rw [hg] at ran
      have small : q.val < 64 := Nat.lt_trans q.isLt (by decide)
      have config := Dev.frameLost_config (scrubSite q.val p).1 (scrubSite q.val p).2 (p % 20) small hst
      refine ⟨_, ran, kept_withDev s _, ?_, fun hr hsafe => ?_, fun hr => ?_⟩
      · exact (congrArg (fun c : ConfigSt => tabSet (fun _ => 0) c.scrubPos q.val (p + 1)) config :)
      · have state : s.dev.core.state = .run ∨ s.dev.core.state = .folded := hst.imp_right (fun h => h.resolve_right hsafe)
        obtain ⟨core, -, queued⟩ := Dev.frameLost_repaired q.val (scrubSite q.val p).1 (scrubSite q.val p).2 (p % 20) hr state
        exact ⟨core, queued⟩
      · exact (Dev.frameLost_isolated _ _ _ small hr).1
  · obtain ⟨touched, recovery⟩ := (s.dev.copiesKept s.fuses).copiesTouched_flowed s.dev.config.copying
    refine ⟨_, recoveryCopyComplete_kept ht hc, kept_withDev s _, touched.core, touched.config, fun q hq hm => ?_, Dev.rd_wr_same _ _ _ _, ?_⟩
    · have kept := mem_foldl_tabIns (fun q => s.dev.config.copying.getLsbD q) (s.dev.recoveryCopy s.fuses) hm (List.range 54)
        s.dev.nv.recovery (.inl (List.mem_range.2 hq))
      rw [show ((((s.dev.copiesKept s.fuses).copiesTouched s.dev.config.copying).wrN 0x2120 6 2)).nv.recovery = _ from recovery]
      exact kept
    · have touchedOnly : RegsKept reportReg s.dev ((s.dev.copiesKept s.fuses).copiesTouched s.dev.config.copying) := touched.regs
      refine touchedOnly.trans (Dev.wr_regsKept _ 0x2120 6 _ (by decide)) (fun i j hr => ?_) (fun i j hr => ?_)
      · exact (Bool.or_eq_false_iff.1 hr).1
      · exact (Bool.or_eq_false_iff.1 hr).2

end Sys2Proof.Machine
end

section
/-! SUPPORT. Basting requests (R69 to R76): what an accepted request latches, and what its completion leaves. -/

namespace Sys2Proof.Machine

theorem leBytes_length (n v : Nat) : (leBytes n v).length = n := by
  induction n generalizing v with
  | zero => rfl
  | succ n ih => rw [leBytes, List.length_cons, ih]

/-! ### Accepted requests (R69) -/

/-- What an accepted request latches: BUSY is set first, and KIND and TARGET are the two fields of the word written. -/
theorem actBaste_apply (known : Dev → Nat → Nat → Bool) (latch : BasteReq → Dev → Dev) (d : Dev) (path : Transport) {k t : Nat}
    (hk : k < 256) (ht : t < 2 ^ 32) :
    (actBaste known latch).apply d ⟨path, 8, word (k * 2 ^ 56 + t), [], 0⟩ =
      latch { kind := k, target := t, result := none } (d.setFlag 0x2170 1 15 true) := by
  have value : objBasteRequest.valueOf ⟨path, 8, word (k * 2 ^ 56 + t), [], 0⟩ = word (k * 2 ^ 56 + t) := by
    simp [Desc.valueOf, Desc.width, objBasteRequest, lowBytes]
  have number : (word (k * 2 ^ 56 + t)).toNat = k * 2 ^ 56 + t := toNat_word (by omega)
  have kind : bits (word (k * 2 ^ 56 + t)) 63 56 = k := by
    rw [bits, number, Nat.shiftRight_eq_div_pow]
    omega
  have target : bits (word (k * 2 ^ 56 + t)) 31 0 = t := by
    rw [bits, number, Nat.shiftRight_eq_div_pow]
    omega
  simp only [actBaste, value, kind, target]

/-- A busy BASTE_STATUS: nothing beside the registers moved, of them only the status word, and BUSY shows. -/
theorem Dev.setBusy_shows (d : Dev) :
    { d.setFlag 0x2170 1 15 true with regs := d.regs } = d ∧ RegsKept (regsOf 0x2170 [1]) d (d.setFlag 0x2170 1 15 true) ∧
      bit ((d.setFlag 0x2170 1 15 true).rd 0x2170 1) 15 = true :=
  ⟨rfl, d.wr_regsKept _ _ _ (by decide), by rw [Dev.setFlag_eq, Dev.rd_wr_same, bit_setBit_same _ _ (by decide)]⟩

/-! ### Panel captures (R72, R74, R75) -/

theorem Dev.panelResult_length (d : Dev) (column row time : Nat) (waiting : BitVec 16) :
    (d.panelResult column row time waiting).length = 64 := by
  simp [Dev.panelResult, leBytes_length]

/-- A capture in progress, whose patch neither repairs nor moves, takes its panel's values (R72, R74). -/
theorem Dev.latchCapture_takes {d : Dev} {q : BasteReq} (hq : d.baste = some q) (kind : q.kind = 1) (waits : q.result = none)
    (repairs : d.repairing (sitePatch (q.target / 256 % 256) (q.target % 256)) = false)
    (moves : d.moving (sitePatch (q.target / 256 % 256) (q.target % 256)) = false) :
    d.latchCapture = { d with baste := some { q with
      result := some (d.panelResult (q.target / 256 % 256) (q.target % 256) d.core.time q.waiting) } } := by
  simp [Dev.latchCapture, hq, kind, waits, repairs, moves]

/-- An accepted capture whose patch neither repairs nor moves has its 64 bytes at once. -/
theorem latchPanel_latches {d : Dev} (waiting : BitVec 16) {column row target : Nat} (hc : target / 256 % 256 = column)
    (hr : target % 256 = row) (repairs : d.repairing (sitePatch column row) = false) (moves : d.moving (sitePatch column row) = false) :
    ∃ l, l.length = 64 ∧ latchPanel waiting { kind := 1, target := target, result := none } d =
      { d with baste := some { kind := 1, target := target, result := some l, waiting := waiting } } := by
  subst hc hr
  exact ⟨_, Dev.panelResult_length _ _ _ _ _,
    Dev.latchCapture_takes (q := { kind := 1, target := target, result := none, waiting := waiting }) rfl rfl rfl repairs moves⟩

theorem panelCapture_accepted {path : Transport} {upper waiting : BitVec 16} {column row : BitVec 8} {s : State}
    (h : Accepted objBasteRequest (actBaste (fun _ _ t => captureExists t) (latchPanel waiting))
      ⟨path, 8, word (2 ^ 56 + upper.toNat * 65536 + column.toNat * 256 + row.toNat), [], 0⟩ s.dev) :
    exec (.panelCapture path upper column row waiting) s = .next { s with
      dev := latchPanel waiting { kind := 1, target := upper.toNat * 65536 + column.toNat * 256 + row.toNat, result := none }
        (s.dev.setFlag 0x2170 1 15 true) } := by
  have small : upper.toNat * 65536 + column.toNat * 256 + row.toNat < 2 ^ 32 := by omega
  have fields : 2 ^ 56 + upper.toNat * 65536 + column.toNat * 256 + row.toNat =
      1 * 2 ^ 56 + (upper.toNat * 65536 + column.toNat * 256 + row.toNat) := by omega
  have ran : exec (.panelCapture path upper column row waiting) s = onDev (rowWrite objBasteRequest
      (actBaste (fun _ _ t => captureExists t) (latchPanel waiting)) 0x2170 2
      ⟨path, 8, word (2 ^ 56 + upper.toNat * 65536 + column.toNat * 256 + row.toNat), [], 0⟩) s := rfl
  rw [ran, onDev_next, rowWrite_accepted _ _ h, fields, actBaste_apply _ _ _ _ (by decide) small]

/-! ### Pending values (R76) -/

/-- The result for an RWN object of the table whose write is pending: its target, the notch it falls due at, and its value. -/
theorem pendingResult_pending {d : Dev} {target : Nat} {o : Desc} {x : Staged} {v : Word} (f : Fuses)
    (ho : findDesc (target / 256 % 65536) (target % 256) = some o) (rwn : o.acc = .rwn)
    (hx : d.pendingOf (target / 256 % 65536) (target % 256) = some x) (hv : x.val = .word v) :
    pendingResult f d target = leBytes 16 (v.toNat * 2 ^ 64 + (x.due * 2 ^ 32 + 2 ^ 31) + target % 2 ^ 24) := by
  simp [pendingResult, ho, rwn, hx, hv, basteValue]

theorem latchBaste_object {d : Dev} {target : Nat} {o : Desc} (f : Fuses)
    (ho : findDesc (target / 256 % 65536) (target % 256) = some o) :
    latchBaste f { kind := 2, target := target, result := none } d =
      { d with baste := some { kind := 2, target := target, result := some (pendingResult f d target) } } := by
  simp [latchBaste, ho]

theorem pendingValueRead_accepted {path : Transport} {target : BitVec 32} {s : State}
    (h : Accepted objBasteRequest (actBaste basteExists (latchBaste s.fuses)) ⟨path, 8, word (2 ^ 57 + target.toNat), [], 0⟩ s.dev) :
    exec (.pendingValueRead path target) s = .next { s with
      dev := latchBaste s.fuses { kind := 2, target := target.toNat, result := none } (s.dev.setFlag 0x2170 1 15 true) } := by
  have fields : 2 ^ 57 + target.toNat = 2 * 2 ^ 56 + target.toNat := by omega
  have ran : exec (.pendingValueRead path target) s = onDev (rowWrite objBasteRequest
      (actBaste basteExists (latchBaste s.fuses)) 0x2170 2 ⟨path, 8, word (2 ^ 57 + target.toNat), [], 0⟩) s := rfl
  rw [ran, onDev_next, rowWrite_accepted _ _ h, fields, actBaste_apply _ _ _ _ (by decide) target.isLt]

/-! ### Completion (R71) -/

/-- The device once a result of a KIND has moved into the data object, with the request gone (R71). -/
def Dev.basted (d : Dev) (kind : Nat) (l : List Byte) : Dev :=
  let e := ({ d with baste := none }).setBytes 0x2171 0 l
  ((e.wrN 0x2170 3 0).wr 0x2170 1 (setBits (e.rd 0x2170 1) 7 0 kind)).complete 0x2170 1 14 (some 15)

theorem basteComplete_latched {q : BasteReq} {l : List Byte} {s : State} (hq : s.dev.baste = some q) (hl : q.result = some l) :
    exec .basteComplete s = .next { s with dev := s.dev.basted q.kind l } := by
  have ran : exec .basteComplete s = execBasteComplete s := rfl
  have latched : s.dev.latchCapture = s.dev := by simp [Dev.latchCapture, hq, hl]
  obtain ⟨kind, target, result, waiting⟩ := q
  subst hl
  rw [ran, execBasteComplete, onDev_next]
  simp only [latched, hq]
  rfl

/-- The status word of a result that completes: KIND shows, SEQ moves on, UNACKED is set and BUSY clear. -/
theorem Dev.basted_status (d : Dev) (kind : Nat) (l : List Byte) :
    bits ((d.basted kind l).rd 0x2170 1) 31 16 = nextSeq (bits (d.rd 0x2170 1) 31 16) ∧ bit ((d.basted kind l).rd 0x2170 1) 14 = true ∧
      bit ((d.basted kind l).rd 0x2170 1) 15 = false ∧ bits ((d.basted kind l).rd 0x2170 1) 7 0 = kind % 256 := by
  have before : (({ d with baste := none }).setBytes 0x2171 0 l).rd 0x2170 1 = d.rd 0x2170 1 := rfl
  have after : (d.basted kind l).rd 0x2170 1 = setBit (setBit (setBits (setBits (d.rd 0x2170 1) 7 0 kind) 31 16
      (nextSeq (bits (d.rd 0x2170 1) 31 16))) 14 true) 15 false := by
    simp only [Dev.basted, before, Dev.complete_word, Dev.rd_wr_same, bits_setBits_other _ _ (.inr (by decide) : 31 < 0 ∨ 7 < 16)]
  have seq : nextSeq (bits (d.rd 0x2170 1) 31 16) < 2 ^ 16 := nextSeq_lt (bits_lt _ 31 16)
  rw [after]
  refine ⟨?_, ?_, bit_setBit_same _ _ (by decide), ?_⟩
  · rw [bits_setBit_other _ _ (.inr (by decide)), bits_setBit_other _ _ (.inr (by decide)), bits_setBits_same _ _ (by decide),
      Nat.mod_eq_of_lt seq]
  · rw [bit_setBit_other _ _ (by decide), bit_setBit_same _ _ (by decide)]
  · rw [bits_setBit_other _ _ (.inl (by decide)), bits_setBit_other _ _ (.inl (by decide)),
      bits_setBits_other _ _ (.inl (by decide)), bits_setBits_same _ _ (by decide)]
    rfl

/-- Beside the status word a completion changes REASON, the data object and the request. -/
theorem Dev.basted_rest (d : Dev) (kind : Nat) (l : List Byte) :
    { d.basted kind l with regs := d.regs, strs := d.strs, baste := d.baste } = d ∧ (d.basted kind l).baste = none ∧
      (d.basted kind l).bytesOf 0x2171 0 = l ∧ RegsKept (regsOf 0x2170 [1, 3]) d (d.basted kind l) ∧
      (d.basted kind l).rd 0x2170 3 = 0 := by
  refine ⟨rfl, rfl, tabGet_tabSet_same _ _ _ _, fun i j hj h => ?_, ?_⟩
  · have apart : ∀ k, k = 1 ∨ k = 3 → objKey 0x2170 k ≠ objKey i j := by
      intro k hk e
      obtain ⟨rfl, rfl⟩ := objKey_inj (by omega) hj e
      rcases hk with rfl | rfl <;> simp [regsOf] at h
    have status := apart 1 (.inl rfl)
    unfold Dev.basted
    dsimp only
    rw [Dev.complete_other _ _ _ status, Dev.rd_wr_other _ _ status]
    exact Dev.rd_wr_other _ _ (apart 3 (.inr rfl))
  · unfold Dev.basted
    dsimp only
    rw [Dev.complete_other _ _ _ (by decide), Dev.rd_wr_other _ _ (by decide)]
    exact Dev.rd_wr_same _ _ _ _

end Sys2Proof.Machine
end

section
/-! The statement about basting requests. -/

namespace Sys2Proof.Machine

/-- Settles O15: a request accepted is BUSY and what its KIND latches at once; a result that completes is the data object, REASON and the
status word (Dev.basted). -/
theorem bastingRequests : Obligations.BastingRequests := by
  unfold Obligations.BastingRequests
  refine ⟨fun path upper column row waiting s h repairs moves => ?_, fun path target o x v s h ho rwn hx hv => ?_, fun q l s hq hl => ?_⟩
  · obtain ⟨l, len, latched⟩ := latchPanel_latches (d := s.dev.setFlag 0x2170 1 15 true) waiting
      (target := upper.toNat * 65536 + column.toNat * 256 + row.toNat) (column := column.toNat) (row := row.toNat)
      (by omega) (by omega) repairs moves
    obtain ⟨rest, regs, busy⟩ := s.dev.setBusy_shows
    have ran := panelCapture_accepted h
    rw [latched] at ran
    exact ⟨_, l, ran, kept_withDev s _, congrArg (fun d : Dev => { d with baste := s.dev.baste }) rest, regs, busy, len, rfl⟩
  · obtain ⟨rest, regs, busy⟩ := s.dev.setBusy_shows
    have ran := pendingValueRead_accepted h
    rw [latchBaste_object s.fuses ho, pendingResult_pending (d := s.dev.setFlag 0x2170 1 15 true) s.fuses ho rwn hx hv] at ran
    exact ⟨_, ran, kept_withDev s _, congrArg (fun d : Dev => { d with baste := s.dev.baste }) rest, regs, busy, rfl⟩
  · obtain ⟨rest, gone, data, regs, reason⟩ := s.dev.basted_rest q.kind l
    obtain ⟨seq, unacked, busy, kind⟩ := s.dev.basted_status q.kind l
    exact ⟨_, basteComplete_latched hq hl, kept_withDev s _, rest, gone, data, regs, reason, seq, unacked, busy, kind⟩

end Sys2Proof.Machine
end

section
/-! SUPPORT. Tokens at the bundles (R41 to R56): reports, watch points and swatches beside them take no output back and leave the panels
alone; what taking, capturing and emitting a token each do. -/

namespace Sys2Proof.Machine

/-! ### No report takes an output back (R402, R521) -/

theorem outputs_ite {p : Prop} [Decidable p] {d x y : Dev} (hx : d.out <:+ x.out) (hy : d.out <:+ y.out) :
    d.out <:+ (if p then x else y).out := by
  split
  · exact hx
  · exact hy

theorem Dev.emit_outputs (d : Dev) (o : Output) : d.out <:+ (d.emit o).out := List.suffix_cons _ _

theorem Dev.emcy_outputs (d : Dev) (code reason inst : Nat) : d.out <:+ (d.emcy code reason inst).out :=
  outputs_ite List.suffix_rfl (outputs_ite List.suffix_rfl (d.emit_outputs _))

theorem Dev.msix_outputs (d : Dev) (v : Nat) : d.out <:+ (d.msix v).out :=
  outputs_ite List.suffix_rfl (d.emit_outputs _)

theorem Dev.ringEntry_outputs (d : Dev) (reason inst vector : Nat) : d.out <:+ (d.ringEntry reason inst vector).out := by
  refine List.IsSuffix.trans ?_ (Dev.msix_outputs _ vector)
  exact outputs_ite (x := d.count 0x2041 4 32 1) List.suffix_rfl List.suffix_rfl

theorem Dev.notifyRing_outputs (d : Dev) (reason inst : Nat) : d.out <:+ (d.notifyRing reason inst).out := by
  have entered := outputs_ite (p := bit (d.rd 0x2040 (reason / 256)) 14) ((d.lastEvent reason inst).ringEntry_outputs reason inst
    (bits (d.rd 0x2040 (reason / 256)) 5 0)) List.suffix_rfl
  exact outputs_ite (entered.trans (Dev.emcy_outputs _ _ _ _)) entered

theorem Dev.notify_outputs (d : Dev) (reason inst : Nat) : d.out <:+ (d.notify reason inst).out := by
  have ring := d.notifyRing_outputs reason inst
  have fabric (e : Dev) : (e.fabricNotify reason inst).out = e.out := by
    unfold Dev.fabricNotify
    dsimp only
    split <;> rfl
  have fabric' : d.out <:+ ((d.notifyRing reason inst).fabricNotify reason inst).out := by rwa [fabric]
  refine outputs_ite List.suffix_rfl (outputs_ite (outputs_ite ?_ fabric') ring)
  exact fabric'.trans (Dev.notifyRing_outputs (Dev.setHemWin _ _ _) _ _)

theorem Dev.enterLog_out (d : Dev) (time reason inst detail : Nat) : (d.enterLog time reason inst detail).out = d.out := by
  have level (e : Dev) (u : Nat) : (e.level u).out = e.out := by
    unfold Dev.level
    split
    · dsimp only
      split <;> rfl
    · rfl
  have touched (e : Dev) (u n : Nat) : (e.touchRaw u n).out = e.out := by
    unfold Dev.touchRaw
    dsimp only
    split
    · exact level _ u
    · exact level _ u
  exact touched _ _ _

theorem Dev.peakCheck_outputs (d : Dev) : d.out <:+ d.peakCheck.out := by
  have entered (e : Dev) : e.out <:+ (e.enterLog e.core.time 0x0262 0x2130 0).out := by
    rw [Dev.enterLog_out]
  unfold Dev.peakCheck
  split
  · exact (entered { d with nv := { d.nv with wearPeakSeen := d.wearLevel } }).trans (Dev.notify_outputs _ _ _)
  · exact List.suffix_rfl

theorem Dev.log_outputs (d : Dev) (reason inst detail : Nat) : d.out <:+ (d.log reason inst detail).out := by
  have checked := (d.enterLog d.core.time reason inst detail).peakCheck_outputs
  rw [Dev.enterLog_out] at checked
  unfold Dev.log
  split
  · exact checked
  · exact List.suffix_rfl

theorem Dev.sendCell_outputs (d : Dev) (east : Bool) (c : Cell) : d.out <:+ (d.sendCell east c).out := by
  unfold Dev.sendCell
  split
  · exact d.emit_outputs _
  · exact List.suffix_rfl

/-! ### What watch points, swatches and reports leave (R103, R402, R467) -/

/-- Tokens moved between d and e: the core, the staged writes, the frames and the routing stay, and no output is taken back. -/
structure Passed (d e : Dev) : Prop where
  core : e.core = d.core
  staged : e.staged = d.staged
  config : e.config = d.config
  wiring : e.wiring = d.wiring
  outputs : d.out <:+ e.out

theorem Passed.refl (d : Dev) : Passed d d := ⟨rfl, rfl, rfl, rfl, List.suffix_rfl⟩

theorem Passed.trans {d e f : Dev} (h : Passed d e) (k : Passed e f) : Passed d f :=
  ⟨k.core.trans h.core, k.staged.trans h.staged, k.config.trans h.config, k.wiring.trans h.wiring, h.outputs.trans k.outputs⟩

/-- The panels stay as well: no token moved, one was only seen. -/
structure Sensed (d e : Dev) : Prop extends Passed d e where
  panels : e.panels = d.panels

theorem Sensed.refl (d : Dev) : Sensed d d := ⟨.refl d, rfl⟩

theorem Sensed.trans {d e f : Dev} (h : Sensed d e) (k : Sensed e f) : Sensed d f :=
  ⟨h.toPassed.trans k.toPassed, k.panels.trans h.panels⟩

theorem Flowed.sensed {d e : Dev} (h : Flowed d e) (ho : d.out <:+ e.out) : Sensed d e :=
  ⟨⟨h.core, h.staged, h.config, (congrArg Dev.wiring h.still :), ho⟩, h.panels⟩

theorem Dev.notify_sensed (d : Dev) (reason inst : Nat) : Sensed d (d.notify reason inst) :=
  (d.notify_flowed _ _).sensed (d.notify_outputs _ _)
theorem Dev.log_sensed (d : Dev) (reason inst detail : Nat) : Sensed d (d.log reason inst detail) :=
  (d.log_flowed _ _ _).sensed (d.log_outputs _ _ _)
theorem Dev.sendCell_sensed (d : Dev) (east : Bool) (c : Cell) : Sensed d (d.sendCell east c) :=
  (d.sendCell_flowed _ _).sensed (d.sendCell_outputs _ _)
theorem Dev.broadcast_sensed (d : Dev) (kind body : Nat) : Sensed d (d.broadcast kind body) :=
  (d.sendCell_sensed true _).trans (Dev.sendCell_sensed _ false _)
theorem Dev.count_sensed (d : Dev) (i j width n : Nat) : Sensed d (d.count i j width n) :=
  ⟨⟨rfl, rfl, rfl, rfl, List.suffix_rfl⟩, rfl⟩
theorem Dev.setWatch_sensed (d : Dev) (w : Nat) (x : WatchSt) : Sensed d (d.setWatch w x) :=
  ⟨⟨rfl, rfl, rfl, rfl, List.suffix_rfl⟩, rfl⟩
theorem Dev.withSwatch_sensed (d : Dev) (w : SwatchSt) : Sensed d { d with swatch := w } :=
  ⟨⟨rfl, rfl, rfl, rfl, List.suffix_rfl⟩, rfl⟩
theorem Dev.setFlag_sensed (d : Dev) (i j k : Nat) (b : Bool) : Sensed d (d.setFlag i j k b) :=
  ⟨⟨rfl, rfl, rfl, rfl, List.suffix_rfl⟩, rfl⟩

theorem Dev.swatchMissed_sensed (d : Dev) : Sensed d d.swatchMissed := by
  have counted := d.count_sensed 0x3600 6 32 1
  unfold Dev.swatchMissed
  dsimp only
  split
  · exact counted
  · exact (counted.trans (Dev.withSwatch_sensed _ _)).trans (Dev.notify_sensed _ _ _)

theorem Dev.swatchDetect_sensed (d : Dev) (triggers : Nat) (details : List (Nat × Nat)) (latch cascade : Nat) (late : Bool) :
    Sensed d (d.swatchDetect triggers details latch cascade late) := by
  unfold Dev.swatchDetect
  split
  · exact .refl d
  · split
    · split
      · exact d.withSwatch_sensed _
      · exact d.swatchMissed_sensed
    · split
      · exact d.swatchMissed_sensed
      · split
        · exact (d.count_sensed _ _ _ _).trans (Dev.notify_sensed _ _ _)
        · exact (d.withSwatch_sensed _).trans (Dev.setFlag_sensed _ _ _ _ _)

theorem Dev.cascadeSwatch_sensed (d : Dev) (n t : Nat) : Sensed d (d.cascadeSwatch n t) := by
  have late : Sensed d (if t < d.core.time then d.log 0x0A21 0 0 else d) := by
    split
    · exact d.log_sensed _ _ _
    · exact .refl d
  have taken : Sensed d (d.swatchTaken n t) := late.trans ⟨⟨rfl, rfl, rfl, rfl, List.suffix_rfl⟩, rfl⟩
  obtain ⟨triggers, details, isLate, eq⟩ := d.cascadeSwatch_eq n t
  rw [eq]
  exact taken.trans (Dev.swatchDetect_sensed _ _ _ _ _ _)

theorem Dev.issueSwatch_sensed (d : Dev) (t : Nat) : Sensed d (d.issueSwatch t) :=
  (d.broadcast_sensed 3 _).trans (Dev.cascadeSwatch_sensed _ _ _)

theorem Dev.routeSwatch_sensed (d : Dev) (k detail : Nat) : Sensed d (d.routeSwatch k detail) := by
  have routed (w : SwatchSt) := d.withSwatch_sensed w
  unfold Dev.routeSwatch
  dsimp only
  split
  · exact (routed _).trans (Dev.issueSwatch_sensed _ _)
  · exact (routed _).trans (Dev.sendCell_sensed _ _ _)

theorem Dev.swatchTrigger_sensed (d : Dev) (k detail : Nat) : Sensed d (d.swatchTrigger k detail) := by
  have detected := d.swatchDetect_sensed (2 ^ k) [(k, detail)] (d.core.time + 100) 0 false
  unfold Dev.swatchTrigger
  split
  · exact .refl d
  · split
    · split
      · exact d.routeSwatch_sensed k detail
      · exact detected.trans (Dev.log_sensed _ _ _ _)
    · exact detected

theorem Dev.watchToken_sensed (d : Dev) (w : Nat) : Sensed d (d.watchToken w) := by
  have counted (x : WatchSt) := (d.count_sensed (0x3B80 + w / 4) (0x10 * (w % 4 + 1) + 6) 48 1).trans (Dev.setWatch_sensed _ w x)
  unfold Dev.watchToken
  dsimp only
  split
  · exact (counted _).trans (Dev.swatchTrigger_sensed _ _ _)
  · exact counted _

theorem Dev.watchTokens_sensed (d : Dev) (column row b : Nat) : Sensed d (d.watchTokens column row b) := by
  unfold Dev.watchTokens
  induction (512 : Nat) with
  | zero => exact .refl d
  | succ n ih =>
    rw [forEach_succ]
    refine ih.trans ?_
    split
    · exact Dev.watchToken_sensed _ n
    · exact .refl _

/-! ### What frames and routing decide (R41, R46, R322) -/

section
variable {d e : Dev} (h : Passed d e)
include h

theorem Passed.frame (a : Nat) : e.frame a = d.frame a := by
  unfold Dev.frame; rw [h.config]

theorem Passed.bundleWord (column row b : Nat) : e.bundleWord column row b = d.bundleWord column row b := by
  unfold Dev.bundleWord; rw [h.frame]

theorem Passed.stitchWord (column row k : Nat) : e.stitchWord column row k = d.stitchWord column row k := by
  unfold Dev.stitchWord; rw [h.frame]

theorem Passed.stitchTable (column row k : Nat) : e.stitchTable column row k = d.stitchTable column row k := by
  unfold Dev.stitchTable; rw [h.frame]

theorem Passed.coupleUp (column row b : Nat) : e.coupleUp column row b = d.coupleUp column row b := by
  unfold Dev.coupleUp; rw [h.bundleWord]

theorem Passed.inputSrc (column row b i : Nat) : e.inputSrc column row b i = d.inputSrc column row b i := by
  simp only [Dev.inputSrc, Dev.select, h.wiring, h.frame]

theorem Passed.portSrc (column row u k : Nat) : e.portSrc column row u k = d.portSrc column row u k := by
  simp only [Dev.portSrc, Dev.select, h.wiring, h.frame]

theorem Passed.headOf (column n row b : Nat) : e.headOf column n row b = d.headOf column n row b := by
  induction n generalizing row b with
  | zero => rfl
  | succ n ih => simp only [Dev.headOf, h.coupleUp, ih]

theorem Passed.receivers (column row b : Nat) : e.receivers column row b = d.receivers column row b := by
  simp only [Dev.receivers, Dev.draws, Dev.portBundle, h.headOf, h.inputSrc, h.portSrc]

end

end Sys2Proof.Machine
end

section
/-! SUPPORT. Tokens taken, captured and emitted (R41 to R56): what each step of an acceptance does to the panels, and what it leaves. -/

namespace Sys2Proof.Machine

/-! ### Masks of 16 bundles -/

theorem getLsbD_setMask (m : BitVec 16) (b i : Nat) (v : Bool) (h : i < 16) :
    (setMask m b v).getLsbD i = if i = b then v else m.getLsbD i := by
  have bits (k : Nat) : (BitVec.ofNat 16 (2 ^ b)).getLsbD k = (decide (k < 16) && decide (b = k)) := by
    rw [BitVec.getLsbD_ofNat, Nat.testBit_two_pow]
  unfold setMask
  by_cases e : i = b
  · subst e
    cases v <;> simp only [Bool.false_eq_true, if_false, if_true, BitVec.getLsbD_and, BitVec.getLsbD_or, BitVec.getLsbD_not, bits] <;>
      simp [h]
  · have e' : ¬ b = i := Ne.symm e
    cases v <;> simp only [Bool.false_eq_true, if_false, if_true, BitVec.getLsbD_and, BitVec.getLsbD_or, BitVec.getLsbD_not, bits] <;>
      simp [h, e, e']

theorem getLsbD_ofNat_maskOf {n i : Nat} (p : Nat → Bool) (h : i < n) : (BitVec.ofNat n (maskOf n p)).getLsbD i = p i := by
  rw [BitVec.getLsbD_ofNat, testBit_maskOf]
  simp [h]

/-! ### Tokens taken (R41, R48, R80, R492) -/

/-- Inputs came in between d and e: registers of French seams, panels, seams and the French halves moved, and free bits were used. -/
def Inward (d e : Dev) : Prop :=
  { e with regs := d.regs, freeCtr := d.freeCtr, panels := d.panels, seams := d.seams, darn := d.darn } = d

theorem Inward.refl (d : Dev) : Inward d d := rfl

theorem Inward.trans {d e f : Dev} (h : Inward d e) (k : Inward e f) : Inward d f := by
  have step := congrArg (fun x : Dev => { x with
    regs := d.regs, freeCtr := d.freeCtr, panels := d.panels, seams := d.seams, darn := d.darn }) k
  exact step.trans h

theorem Inward.out {d e : Dev} (h : Inward d e) : e.out = d.out := (congrArg Dev.out h :)

theorem Inward.passed {d e : Dev} (h : Inward d e) : Passed d e :=
  ⟨(congrArg Dev.core h :), (congrArg Dev.staged h :), (congrArg Dev.config h :), (congrArg Dev.wiring h :), by rw [h.out]⟩

/-- Tokens were taken at the sites of own: beside their handshakes no panel moved. -/
structure Took (own : Nat → Prop) (d e : Dev) : Prop where
  inward : Inward d e
  regA : ∀ p, (e.panel p).regA = (d.panel p).regA
  regB : ∀ p, (e.panel p).regB = (d.panel p).regB
  others : ∀ p, ¬ own p → e.panel p = d.panel p

theorem Took.refl (own : Nat → Prop) (d : Dev) : Took own d d := ⟨.refl d, fun _ => rfl, fun _ => rfl, fun _ _ => rfl⟩

theorem Took.trans {own : Nat → Prop} {d e f : Dev} (h : Took own d e) (k : Took own e f) : Took own d f :=
  ⟨h.inward.trans k.inward, fun p => (k.regA p).trans (h.regA p), fun p => (k.regB p).trans (h.regB p),
    fun p hp => (k.others p hp).trans (h.others p hp)⟩

/-- A change that leaves the panels as they are. -/
theorem Took.of_panels (own : Nat → Prop) {d e : Dev} (h : Inward d e) (hp : e.panels = d.panels) : Took own d e := by
  have same (p : Nat) : e.panel p = d.panel p := by unfold Dev.panel; rw [hp]
  exact ⟨h, fun p => by rw [same], fun p => by rw [same], fun p _ => same p⟩

/-- A panel of own whose registers stay. -/
theorem Dev.setPanel_took {own : Nat → Prop} (d : Dev) {site : Nat} {x : PanelSt} (ho : own site) (ha : x.regA = (d.panel site).regA)
    (hb : x.regB = (d.panel site).regB) : Took own d (d.setPanel site x) := by
  refine ⟨rfl, fun p => ?_, fun p => ?_, fun p hp => d.panel_setPanel_other _ _ _ (fun e => hp (e ▸ ho))⟩
  · by_cases e : site = p
    · subst e; rw [Dev.panel_setPanel_same, ha]
    · rw [d.panel_setPanel_other _ _ _ e]
  · by_cases e : site = p
    · subst e; rw [Dev.panel_setPanel_same, hb]
    · rw [d.panel_setPanel_other _ _ _ e]

theorem Dev.ackBundle_took {own : Nat → Prop} (d : Dev) (column row b r : Nat) (ho : own (siteNo column row)) :
    Took own d (d.ackBundle column row b r) := by
  have settled (e : Dev) : Took own e (e.settleBundle column row b) := by
    unfold Dev.settleBundle
    dsimp only
    split
    · exact e.setPanel_took ho rfl rfl
    · exact .refl own e
  exact Took.trans (d.setPanel_took (x := { d.panel (siteNo column row) with
    taken := (d.panel (siteNo column row)).taken ||| BitVec.ofNat 384 (2 ^ (24 * b + r)) }) ho rfl rfl) (settled _)

theorem Dev.takePort_took (own : Nat → Prop) (d : Dev) (site u : Nat) : Took own d (d.takePort site u) := by
  have replayed (e : Dev) : Took own e (e.frenchReplay site u) := by
    unfold Dev.frenchReplay
    split
    · exact .refl own e
    · dsimp only
      split
      · exact .of_panels own rfl rfl
      · exact .of_panels own rfl rfl
  have entered (e : Dev) (w : BitVec 12) : Took own e (e.frenchInput site u w) := by
    unfold Dev.frenchInput
    split
    · exact .refl own e
    · dsimp only
      unfold Dev.peakAllowance
      split
      · exact .of_panels own rfl rfl
      · exact .of_panels own rfl rfl
  unfold Dev.takePort
  dsimp only
  split
  · exact (replayed d).trans (entered _ _)
  · have cleared (x : SeamSt) : Took own d (d.setSeam (seamIn site u) x) := .of_panels own rfl rfl
    exact (cleared _).trans (entered _ _)

/-- The row whose panel a thread ends in. -/
def InThread.row : InThread → Nat
  | .bundle row _ _ => row
  | .port row _ => row

theorem Dev.takeThread_took {own : Nat → Prop} (d : Dev) (column : Nat) (t : InThread) (ho : own (siteNo column t.row)) :
    Took own d (d.takeThread column t) := by
  cases t with
  | bundle row b r => exact d.ackBundle_took column row b r ho
  | port row u => exact d.takePort_took own _ u

/-- The threads due at a group, taken one after the other. -/
def Dev.tokensTaken (d : Dev) (column row head : Nat) : Dev :=
  (d.dueThreads column row head (d.coupledGroup column 127 row head)).foldl (fun e t => e.takeThread column t) d

theorem Dev.takeThreads_took {own : Nat → Prop} (column : Nat) {l : List InThread} (ho : ∀ t ∈ l, own (siteNo column t.row))
    (d : Dev) : Took own d (l.foldl (fun e t => e.takeThread column t) d) := by
  induction l generalizing d with
  | nil => exact .refl own d
  | cons t l ih =>
    exact (d.takeThread_took column t (ho t (by simp))).trans (ih (fun x hx => ho x (by simp [hx])) _)

theorem Dev.tokensTaken_took (d : Dev) (column row head : Nat) : Took (fun _ => True) d (d.tokensTaken column row head) :=
  Dev.takeThreads_took column (fun _ _ => trivial) d

/-- The threads that feed a group of one bundle end in that bundle's panel. -/
theorem Dev.dueThreads_row {d : Dev} {column row head : Nat} {t : InThread} (h : t ∈ d.dueThreads column row head [(row, head)]) :
    t.row = row := by
  have fed : t ∈ d.groupThreads column [(row, head)] := by
    unfold Dev.dueThreads at h
    dsimp only at h
    split at h
    · exact List.mem_of_getElem? (by simpa using h)
    · exact h
  have threads : t ∈ d.bundleThreads column row head := by
    simpa [Dev.groupThreads] using fed
  unfold Dev.bundleThreads at threads
  rcases List.mem_append.1 threads with here | here
  · obtain ⟨b, -, rfl⟩ := List.mem_map.1 here
    rfl
  · obtain ⟨u, -, rfl⟩ := List.mem_map.1 here
    rfl

/-- A group of one bundle takes its tokens in its own panel. -/
theorem Dev.tokensTaken_single {d : Dev} {column row head : Nat} (hg : d.coupledGroup column 127 row head = [(row, head)]) :
    Took (fun p => p = siteNo column row) d (d.tokensTaken column row head) := by
  unfold Dev.tokensTaken
  rw [hg]
  exact Dev.takeThreads_took column (fun t ht => by rw [Dev.dueThreads_row ht]) d

/-! ### Tokens captured (R43, R44, R54) -/

theorem Dev.captureBundle_inward (d : Dev) (column row b : Nat) (x : BundleIn) (side : Option Bool) (c : Chain) :
    Inward d (d.captureBundle column row b x side c).1 := rfl

theorem Dev.captureGroup_inward (d : Dev) (column : Nat) (side : Option Bool) (l : List ((Nat × Nat) × BundleIn)) (c : Chain) :
    Inward d (d.captureGroup column side l c) := by
  induction l generalizing d c with
  | nil => exact .refl d
  | cons m l ih => exact (d.captureBundle_inward column m.1.1 m.1.2 m.2 side c).trans (ih _ _)

theorem Dev.captureBundle_others (d : Dev) (column row b : Nat) (x : BundleIn) (side : Option Bool) (c : Chain) {p : Nat}
    (h : p ≠ siteNo column row) : (d.captureBundle column row b x side c).1.panel p = d.panel p :=
  Dev.panel_setPanel_other _ _ _ _ (Ne.symm h)

/-- Registers of the other bundles of the panel stay. -/
theorem Dev.captureBundle_beside (d : Dev) (column row b : Nat) (x : BundleIn) (side : Option Bool) (c : Chain) {i : Nat} (hi : i < 128)
    (h : i / 8 ≠ b) :
    ((d.captureBundle column row b x side c).1.panel (siteNo column row)).regA.getLsbD i = (d.panel (siteNo column row)).regA.getLsbD i ∧
      ((d.captureBundle column row b x side c).1.panel (siteNo column row)).regB.getLsbD i =
        (d.panel (siteNo column row)).regB.getLsbD i := by
  unfold Dev.captureBundle
  dsimp only
  rw [Dev.panel_setPanel_same, getLsbD_ofNat_maskOf _ hi, getLsbD_ofNat_maskOf _ hi, if_neg h, if_neg h]
  exact ⟨rfl, rfl⟩

/-- Register A of stitch k of the bundle: what its mode makes of the token (R44). -/
theorem Dev.captureBundle_regA (d : Dev) (column row b : Nat) (x : BundleIn) (side : Option Bool) (c : Chain) {k : Nat} (hk : k < 8)
    (hb : b < 16) {w : Word} (hw : w = d.stitchWord column row (8 * b + k)) :
    ∃ free free', ((d.captureBundle column row b x side c).1.panel (siteNo column row)).regA.getLsbD (8 * b + k) =
      regNext (bits w 13 12) (bit w 5) (bit w 7) x.sr x.ce ((d.panel (siteNo column row)).regA.getLsbD (8 * b + k))
        ((d.bundleData column row b x side c free).a.getLsbD k) free' := by
  have place : (8 * b + k) / 8 = b := by omega
  have stitch : 8 * b + k - 8 * b = k := by omega
  refine ⟨Config.freeWord d.freeCtr, bit (Config.freeWord d.freeCtr) (40 + k), ?_⟩
  unfold Dev.captureBundle
  dsimp only
  rw [Dev.panel_setPanel_same, getLsbD_ofNat_maskOf _ (by omega), if_pos place, stitch, hw]
  rfl

/-- The tables of a chain: a stitch with LUT_MODE 0 gives the bit of its table that its inputs select (R43). -/
theorem tableChain_mode0 (word : Nat → Word) (table : Nat → BitVec 64) (n : Nat → Nat) (free : Word) {fuel j k : Nat} (ci : Bool)
    (hj : j < fuel) (mode : bits (word (k + j)) 15 14 = 0) :
    (((tableChain word table n free fuel k ci).1[j]?).getD (false, false)).1 = (table (k + j)).getLsbD (n (k + j)) := by
  induction fuel generalizing j k ci with
  | zero => exact absurd hj (Nat.not_lt_zero j)
  | succ fuel ih =>
    cases j with
    | zero =>
      rw [Nat.add_zero] at mode ⊢
      simp [tableChain, tableOut, mode]
    | succ j =>
      have place : k + 1 + j = k + (j + 1) := by omega
      have rest := ih (k := k + 1) (tableOut (bits (word k) 15 14) (table k) (n k) ci (bit free (3 * k)) (bit free (3 * k + 1))
        (bit free (3 * k + 2))).2.2 (Nat.lt_of_succ_lt_succ hj) (by rwa [place])
      rw [place] at rest
      exact rest

/-- The source of register A of a stitch with LUT_MODE 0 in a bundle without a multiplexer tree, with A_SRC 0 (R43, R46). -/
theorem Dev.bundleData_mode0 (d : Dev) {column row b k : Nat} (x : BundleIn) (free : Word) (hk : k < 8)
    (tree : bits (d.bundleWord column row b) 18 16 = 0) (source : bit (d.stitchWord column row (8 * b + k)) 3 = false)
    (mode : bits (d.stitchWord column row (8 * b + k)) 15 14 = 0) :
    (d.bundleData column row b x none {} free).a.getLsbD k =
      (d.stitchTable column row (8 * b + k)).getLsbD (x.ins.extractLsb' (6 * k) 6).toNat := by
  have chain (ci : Bool) := tableChain_mode0 (fun k => d.stitchWord column row (8 * b + k)) (fun k => d.stitchTable column row (8 * b + k))
    (stitchIn x none) free (fuel := 8) (j := k) (k := 0) ci hk (by rwa [Nat.zero_add])
  simp only [Nat.zero_add] at chain
  unfold Dev.bundleData
  dsimp only
  rw [getLsbD_ofNat_maskOf _ hk, source, tree]
  exact chain _

/-! ### Tokens emitted (R48, R56) -/

/-- A panel whose bundle b has just put out a token: REQ is high, no receiver has taken it, and no other token waits. -/
def PanelSt.sent (p : PanelSt) (b : Nat) : PanelSt :=
  { p with
    outFull := setMask p.outFull b true, taken := p.taken &&& ~~~ BitVec.ofNat 384 ((2 ^ 24 - 1) * 2 ^ (24 * b))
    returning := setMask p.returning b false, reqWait := setMask p.reqWait b false }

/-- A panel whose bundle b has had its token taken by every receiver. -/
def PanelSt.settled (p : PanelSt) (b : Nat) : PanelSt :=
  { p with outFull := setMask p.outFull b false, returning := setMask p.returning b true }

theorem Dev.emitBundle_shape (d : Dev) (column row b : Nat) : ∃ v, d.emitBundle column row b =
    (((d.setPanel (siteNo column row) ((d.panel (siteNo column row)).sent b)).emit
      (.token 0 (16 * siteNo column row + b) v)).watchTokens column row b).settleBundle column row b := ⟨_, rfl⟩

/-- A handshake settles, with every receiver's acknowledge in, or stays as it is. -/
theorem Dev.settleBundle_cases (d : Dev) (column row b : Nat) :
    (((d.receivers column row b).all (fun r => (d.panel (siteNo column row)).taken.getLsbD (24 * b + r)) = true) ∧
      d.settleBundle column row b = d.setPanel (siteNo column row) ((d.panel (siteNo column row)).settled b)) ∨
    d.settleBundle column row b = d := by
  unfold Dev.settleBundle
  dsimp only
  split
  · rename_i all
    exact .inl ⟨(Bool.and_eq_true_iff.1 all).2, rfl⟩
  · exact .inr rfl

theorem Dev.setPanel_passed (d : Dev) (site : Nat) (x : PanelSt) : Passed d (d.setPanel site x) :=
  ⟨rfl, rfl, rfl, rfl, List.suffix_rfl⟩

theorem Dev.settleBundle_passed (d : Dev) (column row b : Nat) : Passed d (d.settleBundle column row b) := by
  rcases d.settleBundle_cases column row b with ⟨-, shape⟩ | shape
  · rw [shape]; exact d.setPanel_passed _ _
  · rw [shape]; exact .refl d

/-- The token is among the outputs, and nothing but panels, watch points, swatches and reports moved. -/
theorem Dev.emitBundle_puts (d : Dev) (column row b : Nat) : Passed d (d.emitBundle column row b) ∧
    ∃ v, Output.token 0 (16 * siteNo column row + b) v ∈ (d.emitBundle column row b).out := by
  obtain ⟨v, shape⟩ := d.emitBundle_shape column row b
  rw [shape]
  have put (e : Dev) (o : Output) : Passed (e.emit o) (((e.emit o).watchTokens column row b).settleBundle column row b) :=
    (Dev.watchTokens_sensed _ _ _ _).toPassed.trans (Dev.settleBundle_passed _ _ _ _)
  have out (e : Dev) (o : Output) : Passed e (e.emit o) := ⟨rfl, rfl, rfl, rfl, e.emit_outputs o⟩
  exact ⟨((d.setPanel_passed _ _).trans (out _ _)).trans (put _ _), v, (put _ _).outputs.subset (List.mem_cons_self ..)⟩

/-- The panel of a bundle that emits: its token is sent, or settled at once where every receiver (there may be none) has taken it. -/
theorem Dev.emitBundle_own (d : Dev) (column row b : Nat) :
    (d.emitBundle column row b).panel (siteNo column row) = (d.panel (siteNo column row)).sent b ∨
      (d.receivers column row b).all (fun r => ((d.panel (siteNo column row)).sent b).taken.getLsbD (24 * b + r)) = true ∧
      (d.emitBundle column row b).panel (siteNo column row) = ((d.panel (siteNo column row)).sent b).settled b := by
  obtain ⟨v, shape⟩ := d.emitBundle_shape column row b
  rw [shape]
  set e := (d.setPanel (siteNo column row) ((d.panel (siteNo column row)).sent b)).emit (.token 0 (16 * siteNo column row + b) v) with he
  have out : Passed d e := ⟨rfl, rfl, rfl, rfl, Dev.emit_outputs _ _⟩
  have seen := e.watchTokens_sensed column row b
  have panel : (e.watchTokens column row b).panel (siteNo column row) = (d.panel (siteNo column row)).sent b := by
    unfold Dev.panel
    rw [seen.panels]
    exact Dev.panel_setPanel_same _ _ _
  have receivers := (out.trans seen.toPassed).receivers column row b
  rcases (e.watchTokens column row b).settleBundle_cases column row b with ⟨all, settled⟩ | stays
  · rw [settled, Dev.panel_setPanel_same, panel]
    rw [receivers, panel] at all
    exact .inr ⟨all, rfl⟩
  · rw [stays]
    exact .inl panel

theorem Dev.emitBundle_others (d : Dev) (column row b : Nat) {p : Nat} (h : p ≠ siteNo column row) :
    (d.emitBundle column row b).panel p = d.panel p := by
  obtain ⟨v, shape⟩ := d.emitBundle_shape column row b
  have settled (e : Dev) : (e.settleBundle column row b).panel p = e.panel p := by
    rcases e.settleBundle_cases column row b with ⟨-, eq⟩ | eq
    · rw [eq, Dev.panel_setPanel_other _ _ _ _ (Ne.symm h)]
    · rw [eq]
  rw [shape, settled]
  unfold Dev.panel
  rw [(Dev.watchTokens_sensed _ _ _ _).panels]
  exact Dev.panel_setPanel_other _ _ _ _ (Ne.symm h)

/-- What an emission never touches in any panel. -/
def PanelSt.held (p : PanelSt) : BitVec 128 × BitVec 128 × BitVec 16 := (p.regA, p.regB, p.granted)

theorem Dev.emitBundle_held (d : Dev) (column row b p : Nat) : ((d.emitBundle column row b).panel p).held = (d.panel p).held := by
  by_cases h : p = siteNo column row
  · subst h
    rcases d.emitBundle_own column row b with eq | ⟨-, eq⟩
    · rw [eq]; rfl
    · rw [eq]; rfl
  · rw [d.emitBundle_others column row b h]

/-- REQ no longer waits once its token is put out (R56). -/
theorem Dev.emitBundle_reqWait (d : Dev) (column row : Nat) {b : Nat} (hb : b < 16) :
    ((d.emitBundle column row b).panel (siteNo column row)).reqWait.getLsbD b = false := by
  have waits : ((d.panel (siteNo column row)).sent b).reqWait.getLsbD b = false :=
    (getLsbD_setMask _ _ _ _ hb).trans (if_pos rfl)
  rcases d.emitBundle_own column row b with eq | ⟨-, eq⟩
  · rw [eq]; exact waits
  · rw [eq]; exact waits

/-- No acknowledge of the token before counts for the one just sent. -/
theorem PanelSt.sent_taken (p : PanelSt) {b r : Nat} (hr : r < 24) : (p.sent b).taken.getLsbD (24 * b + r) = false := by
  have cleared : ((2 ^ 24 - 1) * 2 ^ (24 * b)).testBit (24 * b + r) = true := by
    rw [← Nat.shiftLeft_eq, Nat.testBit_shiftLeft, Nat.add_sub_cancel_left, Nat.testBit_two_pow_sub_one]
    simp [hr]
  show (p.taken &&& ~~~ BitVec.ofNat 384 ((2 ^ 24 - 1) * 2 ^ (24 * b))).getLsbD (24 * b + r) = false
  rw [BitVec.getLsbD_and, BitVec.getLsbD_not, BitVec.getLsbD_ofNat, cleared]
  simp

theorem Dev.receivers_lt {d : Dev} {column row b r : Nat} (h : r ∈ d.receivers column row b) : r < 24 := by
  rcases List.mem_append.1 h with here | here
  · have := List.mem_range.1 (List.mem_filter.1 here).1
    omega
  · obtain ⟨u, hu, rfl⟩ := List.mem_map.1 here
    have := List.mem_range.1 (List.mem_filter.1 hu).1
    omega

/-- A token with receivers stays offered to them. -/
theorem Dev.emitBundle_outFull (d : Dev) (column row : Nat) {b : Nat} (hb : b < 16) (hr : d.receivers column row b ≠ []) :
    ((d.emitBundle column row b).panel (siteNo column row)).outFull.getLsbD b = true := by
  rcases d.emitBundle_own column row b with eq | ⟨all, -⟩
  · rw [eq]
    exact (getLsbD_setMask _ _ _ _ hb).trans (if_pos rfl)
  · obtain ⟨r, hmem⟩ := List.exists_mem_of_ne_nil _ hr
    have taken := List.all_eq_true.1 all r hmem
    rw [PanelSt.sent_taken _ (Dev.receivers_lt hmem)] at taken
    contradiction

/-! ### A group emits (R52) -/

/-- The head is the last bundle of its group. -/
theorem Dev.coupledGroup_head (d : Dev) (column n row b : Nat) : ∃ l, d.coupledGroup column n row b = l ++ [(row, b)] := by
  cases n with
  | zero => exact ⟨[], rfl⟩
  | succ n =>
    unfold Dev.coupledGroup
    split
    · split
      · exact ⟨_, rfl⟩
      · exact ⟨[], rfl⟩
    · exact ⟨[], rfl⟩

theorem Dev.emitGroup_passed (d : Dev) (column : Nat) (l : List (Nat × Nat)) : Passed d (d.emitGroup column l) := by
  unfold Dev.emitGroup
  induction l generalizing d with
  | nil => exact .refl d
  | cons m l ih => exact (d.emitBundle_puts column m.1 m.2).1.trans (ih _)

theorem Dev.emitGroup_held (d : Dev) (column : Nat) (l : List (Nat × Nat)) (p : Nat) :
    ((d.emitGroup column l).panel p).held = (d.panel p).held := by
  unfold Dev.emitGroup
  induction l generalizing d with
  | nil => rfl
  | cons m l ih => exact (ih _).trans (d.emitBundle_held column m.1 m.2 p)

theorem Dev.emitGroup_concat (d : Dev) (column : Nat) (l : List (Nat × Nat)) (m : Nat × Nat) :
    d.emitGroup column (l ++ [m]) = (d.emitGroup column l).emitBundle column m.1 m.2 := by
  unfold Dev.emitGroup
  rw [List.foldl_append, List.foldl_cons, List.foldl_nil]

/-- What a group that emits leaves at its head: the token among the outputs, offered to its receivers, and REQ no longer waiting. -/
theorem Dev.emitGroup_head (d : Dev) (column row : Nat) {head : Nat} (hb : head < 16) {e : Dev} (h : Passed d e) :
    (d.receivers column row head ≠ [] →
      ((e.emitGroup column (d.coupledGroup column 127 row head)).panel (siteNo column row)).outFull.getLsbD head = true) ∧
    ((e.emitGroup column (d.coupledGroup column 127 row head)).panel (siteNo column row)).reqWait.getLsbD head = false ∧
    ∃ v, Output.token 0 (16 * siteNo column row + head) v ∈ (e.emitGroup column (d.coupledGroup column 127 row head)).out := by
  obtain ⟨l, group⟩ := d.coupledGroup_head column 127 row head
  have last : e.emitGroup column (d.coupledGroup column 127 row head) = (e.emitGroup column l).emitBundle column row head := by
    rw [group, Dev.emitGroup_concat]
  rw [last]
  refine ⟨fun hr => Dev.emitBundle_outFull _ _ _ hb ?_, Dev.emitBundle_reqWait _ _ _ hb, (Dev.emitBundle_puts _ _ _ _).2⟩
  rwa [(h.trans (e.emitGroup_passed column l)).receivers]

end Sys2Proof.Machine
end

section
/-! The statement about bundles: acceptance, merges and tension, and the whole. -/

namespace Sys2Proof.Machine

/-! ### Acceptance (R41 to R56) -/

theorem siteNo_of_site (site : Nat) : siteNo (site % 102) (site / 102) = site := Nat.div_add_mod site 102

/-- A bundle that may accept has no REQ that waits (R56). -/
theorem Dev.canAccept_free {d : Dev} {site head : Nat} (h : d.canAccept site head = true) :
    (d.panel site).reqWait.getLsbD head = false := by
  unfold Dev.canAccept at h
  simp only [Bool.and_eq_true] at h
  obtain ⟨⟨⟨⟨-, free⟩, -⟩, -⟩, -⟩ := h
  simpa using free

/-- A group has taken and captured its token, and its head has used the grant (R41, R44, R50). -/
def Dev.tokenCaptured (d : Dev) (site head : Nat) : Dev :=
  let e := (d.tokensTaken (site % 102) (site / 102) head).captureGroup (site % 102) (d.sideOf (site % 102) (site / 102) head)
    (d.groupIn (site % 102) (d.coupledGroup (site % 102) 127 (site / 102) head)) {}
  e.setPanel site { e.panel site with granted := setMask (e.panel site).granted head false }

/-- The token captured is put out, or its REQ waits for the ACKs of the one before (R56). -/
def Dev.tokenOffered (d : Dev) (site head : Nat) (group : List (Nat × Nat)) (fallen : Bool) : Dev :=
  if fallen then d.emitGroup (site % 102) group
  else d.setPanel site { d.panel site with reqWait := setMask (d.panel site).reqWait head true }

section
variable {site : Fin 7344} {head : Fin 16} {a b c : Bool} {s : State}

theorem bundleTokenAccept_waits (live : s.dev.siteLive site.val = true) (waits : (s.dev.panel site.val).reqWait.getLsbD head.val = true) :
    exec (.bundleTokenAccept site head a b c) s = .next { s with
      dev := if a && b && c then s.dev.emitGroup (site.val % 102) (s.dev.coupledGroup (site.val % 102) 127 (site.val / 102) head.val)
        else s.dev } := by
  have ran : exec (.bundleTokenAccept site head a b c) s = execBundleTokenAccept site head a b c s := rfl
  rw [ran, execBundleTokenAccept, onDev_next]
  dsimp only
  rw [live, waits, Bool.and_self, if_pos rfl]

theorem bundleTokenAccept_refuses (free : (s.dev.panel site.val).reqWait.getLsbD head.val = false)
    (no : s.dev.canAccept site.val head.val = false) : exec (.bundleTokenAccept site head a b c) s = .next s := by
  have ran : exec (.bundleTokenAccept site head a b c) s = execBundleTokenAccept site head a b c s := rfl
  rw [ran, execBundleTokenAccept, onDev_next]
  dsimp only
  rw [free, no, Bool.and_false, if_neg Bool.false_ne_true, Bool.not_false, if_pos rfl]

/-- A FILTER bundle with GATE 0 takes its token and emits nothing (R49). -/
theorem bundleTokenAccept_filters {x : (Nat × Nat) × BundleIn} (can : s.dev.canAccept site.val head.val = true)
    (filter : bits (s.dev.bundleWord (site.val % 102) (site.val / 102) head.val) 23 22 = 1)
    (last : (s.dev.groupIn (site.val % 102) (s.dev.coupledGroup (site.val % 102) 127 (site.val / 102) head.val)).getLast? = some x)
    (gate : x.2.gate = false) :
    exec (.bundleTokenAccept site head a b c) s = .next { s with
      dev := s.dev.tokensTaken (site.val % 102) (site.val / 102) head.val } := by
  have ran : exec (.bundleTokenAccept site head a b c) s = execBundleTokenAccept site head a b c s := rfl
  rw [ran, execBundleTokenAccept, onDev_next]
  dsimp only
  rw [Dev.canAccept_free can, can, Bool.and_false, if_neg Bool.false_ne_true, Bool.not_true, if_neg Bool.false_ne_true, last, filter]
  simp only [Option.map_some, Option.getD_some, gate]
  rfl

theorem bundleTokenAccept_captures (can : s.dev.canAccept site.val head.val = true)
    (passes : ¬(bits (s.dev.bundleWord (site.val % 102) (site.val / 102) head.val) 23 22 = 1 ∧
      ∃ x, (s.dev.groupIn (site.val % 102) (s.dev.coupledGroup (site.val % 102) 127 (site.val / 102) head.val)).getLast? = some x ∧
        x.2.gate = false)) :
    exec (.bundleTokenAccept site head a b c) s = .next { s with
      dev := (s.dev.tokenCaptured site.val head.val).tokenOffered site.val head.val
        (s.dev.coupledGroup (site.val % 102) 127 (site.val / 102) head.val) (a && b && c) } := by
  have ran : exec (.bundleTokenAccept site head a b c) s = execBundleTokenAccept site head a b c s := rfl
  have flows : ¬(decide (bits (s.dev.bundleWord (site.val % 102) (site.val / 102) head.val) 23 22 = 1) &&
      !((s.dev.groupIn (site.val % 102) (s.dev.coupledGroup (site.val % 102) 127 (site.val / 102) head.val)).getLast?.map
        (fun x => x.2.gate)).getD true) = true := by
    intro shut
    obtain ⟨filter, gate⟩ := Bool.and_eq_true_iff.1 shut
    refine passes ⟨of_decide_eq_true filter, ?_⟩
    cases last : (s.dev.groupIn (site.val % 102) (s.dev.coupledGroup (site.val % 102) 127 (site.val / 102) head.val)).getLast? with
    | none => rw [last] at gate; exact absurd gate (by decide)
    | some x => rw [last] at gate; exact ⟨x, rfl, by simpa using gate⟩
  rw [ran, execBundleTokenAccept, onDev_next]
  dsimp only
  rw [Dev.canAccept_free can, can, Bool.and_false, if_neg Bool.false_ne_true, Bool.not_true, if_neg Bool.false_ne_true, if_neg flows]
  rfl

end

theorem Dev.tokenCaptured_inward (d : Dev) (site head : Nat) : Inward d (d.tokenCaptured site head) := by
  have granted (e : Dev) (x : PanelSt) : Inward e (e.setPanel site x) := rfl
  exact (((d.tokensTaken_took _ _ _).inward).trans (Dev.captureGroup_inward _ _ _ _ _)).trans (granted _ _)

/-- The grant is used (R50). -/
theorem Dev.tokenCaptured_granted (d : Dev) (site : Nat) {head : Nat} (hb : head < 16) :
    ((d.tokenCaptured site head).panel site).granted.getLsbD head = false := by
  unfold Dev.tokenCaptured
  dsimp only
  rw [Dev.panel_setPanel_same]
  exact (getLsbD_setMask _ _ _ _ hb).trans (if_pos rfl)

/-- Offering a token touches no register and no grant. -/
theorem Dev.tokenOffered_held (d : Dev) (site head : Nat) (group : List (Nat × Nat)) (fallen : Bool) (p : Nat) :
    ((d.tokenOffered site head group fallen).panel p).held = (d.panel p).held := by
  unfold Dev.tokenOffered
  split
  · exact d.emitGroup_held _ _ _
  · by_cases h : site = p
    · subst h; rw [Dev.panel_setPanel_same]; rfl
    · rw [d.panel_setPanel_other _ _ _ h]

/-- A token whose ACKs have not all fallen waits, and nothing but its panel moves. -/
theorem Dev.tokenOffered_waits (d : Dev) (site : Nat) {head : Nat} (hb : head < 16) (group : List (Nat × Nat)) :
    ((d.tokenOffered site head group false).panel site).reqWait.getLsbD head = true ∧
      Inward d (d.tokenOffered site head group false) := by
  refine ⟨?_, rfl⟩
  unfold Dev.tokenOffered
  rw [if_neg Bool.false_ne_true, Dev.panel_setPanel_same]
  exact (getLsbD_setMask _ _ _ _ hb).trans (if_pos rfl)

/-- A group of one bundle offers its token in its own panel. -/
theorem Dev.tokenOffered_others (d : Dev) (site head : Nat) (fallen : Bool) {p : Nat} (h : p ≠ site) :
    (d.tokenOffered site head [(site / 102, head)] fallen).panel p = d.panel p := by
  have single : d.emitGroup (site % 102) [(site / 102, head)] = d.emitBundle (site % 102) (site / 102) head :=
    d.emitGroup_concat (site % 102) [] (site / 102, head)
  unfold Dev.tokenOffered
  split
  · rw [single]
    exact d.emitBundle_others _ _ _ (by rwa [siteNo_of_site])
  · exact d.panel_setPanel_other _ _ _ (Ne.symm h)

/-! ### A group of one bundle (R43, R44) -/

theorem regNext_storing {mode : Nat} (srEn srval sr ce old data free : Bool) (h : mode = 1 ∨ mode = 2) :
    regNext mode srEn srval sr ce old data free =
      if sr && srEn then srval else if mode = 2 && !ce then old else data := by
  rcases h with rfl | rfl
  · simp [regNext]
  · cases ce <;> simp [regNext]

theorem Dev.tokenCaptured_single {d : Dev} {site head column row : Nat} {x : BundleIn} (hc : column = site % 102) (hr : row = site / 102)
    (hg : d.coupledGroup column 127 row head = [(row, head)]) (hx : x = d.bundleIn (d.levelNow column row) column row head)
    (plain : bits (d.bundleWord column row head) 23 22 = 0) :
    ∃ e, e = ((d.tokensTaken column row head).captureBundle column row head x none {}).1 ∧
      d.tokenCaptured site head = e.setPanel site { e.panel site with granted := setMask (e.panel site).granted head false } := by
  subst hc hr
  have side : d.sideOf (site % 102) (site / 102) head = none := by
    simp [Dev.sideOf, plain]
  have inputs : d.groupIn (site % 102) [(site / 102, head)] = [((site / 102, head), x)] := by
    rw [hx]; rfl
  refine ⟨_, rfl, ?_⟩
  unfold Dev.tokenCaptured
  rw [side, hg, inputs]
  rfl

section
variable {d : Dev} {site head column row : Nat} {x : BundleIn} (hc : column = site % 102) (hr : row = site / 102)
  (hg : d.coupledGroup column 127 row head = [(row, head)]) (hx : x = d.bundleIn (d.levelNow column row) column row head)
  (plain : bits (d.bundleWord column row head) 23 22 = 0)
include hc hr hg hx plain

/-- Every other panel stays. -/
theorem Dev.tokenCaptured_others {p : Nat} (h : p ≠ site) : (d.tokenCaptured site head).panel p = d.panel p := by
  obtain ⟨e, capture, shape⟩ := Dev.tokenCaptured_single hc hr hg hx plain
  have own : siteNo column row = site := by rw [hc, hr, siteNo_of_site]
  have apart : p ≠ siteNo column row := by rwa [own]
  rw [shape, Dev.panel_setPanel_other _ _ _ _ (Ne.symm h), capture, Dev.captureBundle_others _ _ _ _ _ _ _ apart]
  exact (Dev.tokensTaken_single hg).others p apart

/-- The registers of the panel after the token are those that the bundle captured. -/
theorem Dev.tokenCaptured_regs : ((d.tokenCaptured site head).panel site).regA =
      ((((d.tokensTaken column row head).captureBundle column row head x none {}).1).panel site).regA ∧
    ((d.tokenCaptured site head).panel site).regB =
      ((((d.tokensTaken column row head).captureBundle column row head x none {}).1).panel site).regB := by
  obtain ⟨e, capture, shape⟩ := Dev.tokenCaptured_single hc hr hg hx plain
  rw [shape, Dev.panel_setPanel_same, ← capture]
  exact ⟨rfl, rfl⟩

/-- Registers of the other bundles of the panel stay. -/
theorem Dev.tokenCaptured_beside {i : Nat} (hi : i < 128) (h : i / 8 ≠ head) :
    ((d.tokenCaptured site head).panel site).regA.getLsbD i = (d.panel site).regA.getLsbD i ∧
      ((d.tokenCaptured site head).panel site).regB.getLsbD i = (d.panel site).regB.getLsbD i := by
  obtain ⟨regA, regB⟩ := Dev.tokenCaptured_regs hc hr hg hx plain
  have took := d.tokensTaken_took column row head
  have own : siteNo column row = site := by rw [hc, hr, siteNo_of_site]
  obtain ⟨a, b⟩ := (d.tokensTaken column row head).captureBundle_beside column row head x none {} hi h
  rw [own] at a b
  rw [regA, regB, a, b, took.regA, took.regB]
  exact ⟨rfl, rfl⟩

/-- A storing stitch with LUT_MODE 0 outside a tree takes SRVAL under SR, keeps its value without CE, and else takes the bit of its table
(R43, R44). -/
theorem Dev.tokenCaptured_regA {k : Nat} {w : Word} (hk : k < 8) (hb : head < 16) (tree : bits (d.bundleWord column row head) 18 16 = 0)
    (hw : w = d.stitchWord column row (8 * head + k)) (mode : bits w 15 14 = 0) (source : bit w 3 = false)
    (stores : bits w 13 12 = 1 ∨ bits w 13 12 = 2) :
    ((d.tokenCaptured site head).panel site).regA.getLsbD (8 * head + k) =
      if x.sr && bit w 5 then bit w 7
      else if bits w 13 12 = 2 && !x.ce then (d.panel site).regA.getLsbD (8 * head + k)
      else (d.stitchTable column row (8 * head + k)).getLsbD (x.ins.extractLsb' (6 * k) 6).toNat := by
  obtain ⟨regA, -⟩ := Dev.tokenCaptured_regs hc hr hg hx plain
  have took := d.tokensTaken_took column row head
  have passed := took.inward.passed
  have own : siteNo column row = site := by rw [hc, hr, siteNo_of_site]
  have word' : (d.tokensTaken column row head).stitchWord column row (8 * head + k) = w := by rw [passed.stitchWord, hw]
  obtain ⟨free, free', captured⟩ := (d.tokensTaken column row head).captureBundle_regA column row head x none {} hk hb word'.symm
  have data := (d.tokensTaken column row head).bundleData_mode0 (column := column) (row := row) (b := head) x free hk
    (by rwa [passed.bundleWord]) (by rwa [word']) (by rwa [word'])
  rw [own, data, passed.stitchTable, took.regA, regNext_storing _ _ _ _ _ _ _ stores] at captured
  rw [regA, captured]

end

/-! ### Merges (R50, R51) -/

/-- A MERGE bundle grants: the thread that waits alone, or of two that contend the one that lost the last contest, or at the first contest
the one that the mutual-exclusion element chooses. -/
def PanelSt.grant (p : PanelSt) (b : Nat) (zero one second : Bool) : PanelSt :=
  if zero && one then
    let side := if p.contested.getLsbD b then !p.lastContested.getLsbD b else second
    { p with
      granted := setMask p.granted b true, grantSide := setMask p.grantSide b side
      contested := setMask p.contested b true, lastContested := setMask p.lastContested b side }
  else { p with granted := setMask p.granted b true, grantSide := setMask p.grantSide b one }

theorem PanelSt.grant_shows (p : PanelSt) {b : Nat} (hb : b < 16) (zero one second : Bool) :
    (p.grant b zero one second).granted.getLsbD b = true ∧ (p.grant b zero one second).regA = p.regA ∧
      (p.grant b zero one second).outFull = p.outFull := by
  have set : (setMask p.granted b true).getLsbD b = true := (getLsbD_setMask _ _ _ _ hb).trans (if_pos rfl)
  unfold PanelSt.grant
  split
  · exact ⟨set, rfl, rfl⟩
  · exact ⟨set, rfl, rfl⟩

/-- Uncontested: the thread that waits is granted. -/
theorem PanelSt.grant_alone (p : PanelSt) {b : Nat} (hb : b < 16) {zero one : Bool} (second : Bool) (alone : (zero && one) = false) :
    (p.grant b zero one second).grantSide.getLsbD b = one := by
  unfold PanelSt.grant
  rw [alone, if_neg Bool.false_ne_true]
  exact (getLsbD_setMask _ _ _ _ hb).trans (if_pos rfl)

/-- Contested: the side granted is the one remembered as well. -/
theorem PanelSt.grant_contested (p : PanelSt) {b : Nat} (hb : b < 16) (second : Bool) :
    (p.grant b true true second).grantSide.getLsbD b =
        (if p.contested.getLsbD b then !p.lastContested.getLsbD b else second) ∧
      (p.grant b true true second).lastContested.getLsbD b =
        (if p.contested.getLsbD b then !p.lastContested.getLsbD b else second) :=
  ⟨(getLsbD_setMask _ _ _ _ hb).trans (if_pos rfl), (getLsbD_setMask _ _ _ _ hb).trans (if_pos rfl)⟩

theorem mergeGrant_merges {column : Fin 102} {row : Fin 72} {b : Fin 16} {second : Bool} {req : Nat → Bool} {s : State}
    (live : s.dev.siteLive (siteNo column.val row.val) = true) (merge : bits (s.dev.bundleWord column.val row.val b.val) 23 22 = 2)
    (free : (s.dev.panel (siteNo column.val row.val)).granted.getLsbD b.val = false)
    (hreq : ∀ k, req k = ((s.dev.groupThreads column.val (s.dev.coupledGroup column.val 127 row.val b.val))[k]?).any
      (fun t => s.dev.raised column.val t)) :
    exec (.mergeGrant column row b second) s = .next { s with
      dev := if req 0 || req 1 then s.dev.setPanel (siteNo column.val row.val)
          ((s.dev.panel (siteNo column.val row.val)).grant b.val (req 0) (req 1) second)
        else s.dev } := by
  have ran : exec (.mergeGrant column row b second) s = execMergeGrant column row b second s := rfl
  have side : (s.dev.sideOf column.val row.val b.val).isNone = false := by
    simp [Dev.sideOf, merge]
  rw [ran, execMergeGrant, onDev_next]
  simp only [← hreq, live, side, free, Bool.not_true, Bool.false_or]
  cases req 0 <;> cases req 1 <;> rfl

/-! ### Tension (R64) -/

/-- Four bits of 64 replaced: the field reads as the number's low bits, every other field as before. -/
theorem extract_tension (t : BitVec 64) (n : Nat) {b k : Nat} (hk : k < 16) :
    ((t &&& ~~~ BitVec.ofNat 64 (15 * 16 ^ b)) ||| BitVec.ofNat 64 (n % 16 * 16 ^ b)).extractLsb' (4 * k) 4 =
      if k = b then BitVec.ofNat 4 n else t.extractLsb' (4 * k) 4 := by
  have pow : 16 ^ b = 2 ^ (4 * b) := by rw [Nat.pow_mul]
  have ones (i : Nat) : (15 * 2 ^ (4 * b)).testBit i = (decide (4 * b ≤ i) && decide (i - 4 * b < 4)) := by
    rw [← Nat.shiftLeft_eq, Nat.testBit_shiftLeft, show 15 = 2 ^ 4 - 1 from rfl, Nat.testBit_two_pow_sub_one]
  have value (i : Nat) : (n % 16 * 2 ^ (4 * b)).testBit i =
      (decide (4 * b ≤ i) && (decide (i - 4 * b < 4) && n.testBit (i - 4 * b))) := by
    rw [← Nat.shiftLeft_eq, Nat.testBit_shiftLeft, show n % 16 = n % 2 ^ 4 from rfl, Nat.testBit_mod_two_pow]
  rw [pow]
  refine BitVec.eq_of_getLsbD_eq fun i hi => ?_
  have inside : 4 * k + i < 64 := by omega
  simp only [BitVec.getLsbD_extractLsb', BitVec.getLsbD_or, BitVec.getLsbD_and, BitVec.getLsbD_not, BitVec.getLsbD_ofNat, ones, value, hi,
    inside, decide_true, Bool.true_and]
  by_cases h : k = b
  · rw [if_pos h, h, BitVec.getLsbD_ofNat]
    simp [hi]
  · have apart : ¬(4 * b ≤ 4 * k + i ∧ 4 * k + i - 4 * b < 4) := by omega
    have apart' : (decide (4 * b ≤ 4 * k + i) && decide (4 * k + i - 4 * b < 4)) = false := by
      simpa using apart
    rw [if_neg h, ← Bool.and_assoc, apart', BitVec.getLsbD_extractLsb']
    simp [hi]

theorem tensionAdopt_adopts (site : Fin 7344) (b : Fin 16) (s : State) :
    exec (.tensionAdopt site b) s = .next { s with
      dev := s.dev.setPanel site.val { s.dev.panel site.val with
        tension := ((s.dev.panel site.val).tension &&& ~~~ BitVec.ofNat 64 (15 * 16 ^ b.val)) |||
          BitVec.ofNat 64 (s.dev.rdN 0x2150 0 % 16 * 16 ^ b.val) } } := rfl

/-! ### The whole -/

/-- Settles O13: an acceptance takes, captures and offers its token, each with its own frame; a merge is one grant of its panel, and a
tension one field. -/
theorem bundlesAndMerges : Obligations.BundlesAndMerges := by
  unfold Obligations.BundlesAndMerges
  refine ⟨?accepts, ?raises, ?refuses, ?captures, ?filters, ?grants, ?adopts⟩
  case accepts =>
    intro site head column row a b c s hc hr can passes
    subst hc hr
    have ran := bundleTokenAccept_captures (a := a) (b := b) (c := c) can passes
    have inward := s.dev.tokenCaptured_inward site.val head.val
    have held (fallen : Bool) := (s.dev.tokenCaptured site.val head.val).tokenOffered_held site.val head.val
      (s.dev.coupledGroup (site.val % 102) 127 (site.val / 102) head.val) fallen site.val
    have granted (fallen : Bool) := (congrArg (fun p => p.2.2.getLsbD head.val) (held fallen)).trans
      (s.dev.tokenCaptured_granted site.val head.isLt)
    refine ⟨fun fallen => ?_, fun waits => ?_⟩
    · rw [fallen] at ran
      obtain ⟨offered, -, token⟩ := Dev.emitGroup_head s.dev (site.val % 102) (site.val / 102) head.isLt inward.passed
      rw [siteNo_of_site] at offered token
      have passed := inward.passed.trans (Dev.emitGroup_passed _ (site.val % 102)
        (s.dev.coupledGroup (site.val % 102) 127 (site.val / 102) head.val))
      exact ⟨_, ran, kept_withDev s _, offered, granted true, token, passed.core, passed.staged⟩
    · rw [waits] at ran
      obtain ⟨reqWait, put⟩ := (s.dev.tokenCaptured site.val head.val).tokenOffered_waits site.val head.isLt
        (s.dev.coupledGroup (site.val % 102) 127 (site.val / 102) head.val)
      have all := inward.trans put
      exact ⟨_, ran, kept_withDev s _, reqWait, granted false, all.out, all.passed.core⟩
  case raises =>
    intro site head a b c s live waits
    have ran := bundleTokenAccept_waits (a := a) (b := b) (c := c) live waits
    refine ⟨fun still => ?_, fun fallen => ?_⟩
    · rw [ran, still]
      rfl
    · rw [fallen] at ran
      obtain ⟨-, raised, token⟩ := Dev.emitGroup_head s.dev (site.val % 102) (site.val / 102) head.isLt (.refl s.dev)
      rw [siteNo_of_site] at raised token
      exact ⟨_, ran, kept_withDev s _, raised, token, (Dev.emitGroup_passed _ _ _).core⟩
  case refuses =>
    intro site head a b c s free no
    exact bundleTokenAccept_refuses free no
  case captures =>
    intro site head a b c column row x s hc hr can hg hx plain tree
    have ran := bundleTokenAccept_captures (a := a) (b := b) (c := c) can (by
      rw [← hc, ← hr, plain]
      rintro ⟨filter, -⟩
      contradiction)
    rw [← hc, ← hr, hg, hr] at ran
    have held := (s.dev.tokenCaptured site.val head.val).tokenOffered_held site.val head.val [(site.val / 102, head.val)] (a && b && c)
      site.val
    have regA := congrArg Prod.fst held
    have regB := congrArg (fun p => p.2.1) held
    refine ⟨_, ran, kept_withDev s _, fun k w hk hw mode source stores => ?_, fun i hi h => ?_, fun p hp => ?_⟩
    · exact (congrArg (fun r : BitVec 128 => r.getLsbD (8 * head.val + k)) regA).trans
        (Dev.tokenCaptured_regA hc hr hg hx plain hk head.isLt tree hw mode source stores)
    · obtain ⟨sameA, sameB⟩ := Dev.tokenCaptured_beside hc hr hg hx plain hi h
      exact ⟨(congrArg (fun r : BitVec 128 => r.getLsbD i) regA).trans sameA,
        (congrArg (fun r : BitVec 128 => r.getLsbD i) regB).trans sameB⟩
    · exact (Dev.tokenOffered_others _ _ _ _ hp).trans (Dev.tokenCaptured_others hc hr hg hx plain hp)
  case filters =>
    intro site head a b c column row x s hc hr can filter last gate
    subst hc hr
    have took := s.dev.tokensTaken_took (site.val % 102) (site.val / 102) head.val
    exact ⟨_, bundleTokenAccept_filters can filter last gate, kept_withDev s _, took.inward.out, took.inward.passed.core,
      fun p => ⟨took.regA p, took.regB p⟩⟩
  case grants =>
    intro column row b second site req s hs live merge free hreq
    subst hs
    have ran := mergeGrant_merges (second := second) live merge free hreq
    refine ⟨fun no0 no1 => ?_, fun asked => ?_⟩
    · rw [ran, no0, no1]
      rfl
    · rw [if_pos asked] at ran
      have panel := s.dev.panel_setPanel_same (siteNo column.val row.val)
        ((s.dev.panel (siteNo column.val row.val)).grant b.val (req 0) (req 1) second)
      obtain ⟨granted, regA, outFull⟩ := (s.dev.panel (siteNo column.val row.val)).grant_shows b.isLt (req 0) (req 1) second
      refine ⟨_, ran, kept_withDev s _, rfl, ?_, ?_, ?_, fun p hp => s.dev.panel_setPanel_other _ _ _ (Ne.symm hp), fun no0 => ?_,
        fun no1 => ?_, fun yes0 yes1 first => ?_, fun yes0 yes1 later => ?_⟩
      all_goals rw [panel]
      · exact granted
      · exact regA
      · exact outFull
      · rw [no0] at asked
        exact (PanelSt.grant_alone _ b.isLt second (by rw [no0, Bool.false_and])).trans asked
      · exact (PanelSt.grant_alone _ b.isLt second (by rw [no1, Bool.and_false])).trans no1
      · rw [yes0, yes1]
        have shown := (s.dev.panel (siteNo column.val row.val)).grant_contested b.isLt second
        rwa [first] at shown
      · rw [yes0, yes1]
        have shown := (s.dev.panel (siteNo column.val row.val)).grant_contested b.isLt second
        rwa [later] at shown
  case adopts =>
    intro site b s
    have panel (x : PanelSt) := s.dev.panel_setPanel_same site.val x
    refine ⟨_, tensionAdopt_adopts site b s, kept_withDev s _, rfl, ?_, fun k hk h => ?_, ?_,
      fun p hp => s.dev.panel_setPanel_other _ _ _ (Ne.symm hp)⟩
    all_goals rw [panel]
    · exact (extract_tension _ _ b.isLt).trans (if_pos rfl)
    · exact (extract_tension _ _ hk).trans (if_neg h)

end Sys2Proof.Machine
end

section
/-! SUPPORT. Seam wires and words (R78 to R80, R89): what a launch and an acknowledge make of the wires, and which digits a word holds. -/

namespace Sys2Proof.Machine

/-! ### Digits of four wires (R77, R78) -/

theorem getLsbD_ones {n w i : Nat} (h : i < w) : (BitVec.ofNat w (2 ^ n - 1)).getLsbD i = decide (i < n) := by
  rw [BitVec.getLsbD_ofNat, Nat.testBit_two_pow_sub_one, decide_eq_true h, Bool.true_and]

/-- One transition on wire v of digit n. -/
theorem extract_transition {n k v : Nat} (hk : k < 6) (hv : v < 4) :
    (BitVec.ofNat 24 (2 ^ (4 * n + v))).extractLsb' (4 * k) 4 = if k = n then 1#4 <<< v else 0 := by
  refine BitVec.eq_of_getLsbD_eq fun i hi => ?_
  have inside : 4 * k + i < 24 := by omega
  rw [BitVec.getLsbD_extractLsb', BitVec.getLsbD_ofNat, Nat.testBit_two_pow]
  by_cases h : k = n
  · subst h
    have wire : (1#4 <<< v).getLsbD i = decide (v = i) := by
      rw [BitVec.getLsbD_shiftLeft, BitVec.getLsbD_one]
      by_cases e : v = i
      · subst e; simp [hi]
      · have off : v ≤ i → i - v ≠ 0 := by omega
        simpa [hi, e] using off
    rw [if_pos rfl, wire]
    simp [hi, inside]
  · have apart : ¬ 4 * n + v = 4 * k + i := by omega
    simp [h, apart]

theorem launchWires_succ (wires : BitVec 24) (w : BitVec 12) (n : Nat) :
    launchWires wires w (n + 1) = launchWires wires w n ^^^ BitVec.ofNat 24 (2 ^ (4 * n + (w.extractLsb' (2 * n) 2).toNat)) := by
  simp [launchWires, List.range_succ]

/-- In each of the n digits the wire of the digit's value makes a transition, and no other wire does (R77, R79). -/
theorem launchWires_flips (wires : BitVec 24) (w : BitVec 12) (n : Nat) {k : Nat} (hk : k < 6) :
    (launchWires wires w n ^^^ wires).extractLsb' (4 * k) 4 = if k < n then 1#4 <<< (w.extractLsb' (2 * k) 2).toNat else 0 := by
  induction n with
  | zero => simp [launchWires]
  | succ n ih =>
    have value : (w.extractLsb' (2 * n) 2).toNat < 4 := (w.extractLsb' (2 * n) 2).isLt
    have order : launchWires wires w (n + 1) ^^^ wires =
        (launchWires wires w n ^^^ wires) ^^^ BitVec.ofNat 24 (2 ^ (4 * n + (w.extractLsb' (2 * n) 2).toNat)) := by
      rw [launchWires_succ, BitVec.xor_assoc, BitVec.xor_comm (BitVec.ofNat _ _), ← BitVec.xor_assoc]
    rw [order, BitVec.extractLsb'_xor, ih, extract_transition hk value]
    rcases Nat.lt_trichotomy k n with lt | rfl | gt
    · simp [lt, Nat.lt_succ_of_lt lt, Nat.ne_of_lt lt]
    · simp
    · have beyond : ¬ k < n + 1 := by omega
      simp [beyond, Nat.lt_asymm gt, Nat.ne_of_gt gt]

/-! ### Acknowledged digits (R78, R80) -/

/-- The references of the n digits acknowledged are the levels, and those of the other digits stay. -/
theorem SeamSt.ack_wires (x : SeamSt) (levels : BitVec 24) (n : Nat) {k : Nat} (hk : k < 6) :
    (x.ack levels n).wires.extractLsb' (4 * k) 4 =
      if k < n then levels.extractLsb' (4 * k) 4 else x.wires.extractLsb' (4 * k) 4 := by
  have pow : 16 ^ n = 2 ^ (4 * n) := by rw [Nat.pow_mul]
  refine BitVec.eq_of_getLsbD_eq fun i hi => ?_
  have inside : 4 * k + i < 24 := by omega
  unfold SeamSt.ack
  dsimp only
  rw [pow, BitVec.getLsbD_extractLsb', BitVec.getLsbD_or, BitVec.getLsbD_and, BitVec.getLsbD_and, BitVec.getLsbD_not,
    getLsbD_ones inside]
  by_cases h : k < n
  · have covered : 4 * k + i < 4 * n := by omega
    simp [h, covered, hi]
  · have beyond : ¬ 4 * k + i < 4 * n := by omega
    simp [h, beyond, hi, inside]

theorem SeamSt.ack_acks (x : SeamSt) (levels : BitVec 24) (n : Nat) {k : Nat} (hk : k < 6) :
    (x.ack levels n).acks.getLsbD k = (x.acks.getLsbD k ^^ decide (k < n)) := by
  unfold SeamSt.ack
  dsimp only
  rw [BitVec.getLsbD_xor, getLsbD_ones hk]

/-! ### Digits that are present, and the word that they make (R78 to R80, R89) -/

theorem digitValue_lt {x : BitVec 4} {v : Nat} (h : digitValue x = some v) : v < 4 := by
  unfold digitValue at h
  split_ifs at h <;> cases h <;> decide

section
variable {x : SeamSt} {levels : BitVec 24} {n : Nat} {digit : Nat → Nat}
  (one : ∀ k, k < n → digitValue (digitDiff x.wires levels k) = some (digit k))
include one

theorem digitsAt_of_values : digitsAt x levels n = some ((List.range n).map digit) := by
  have values : (List.range n).filterMap (fun k => digitValue (digitDiff x.wires levels k)) = (List.range n).map digit :=
    List.filterMap_eq_map_iff_forall_eq_some.2 fun k hk => one k (List.mem_range.1 hk)
  unfold digitsAt
  dsimp only
  rw [values, List.length_map, List.length_range, if_pos rfl]

theorem invalidDigit_of_values {twice : BitVec 6} (once : ∀ k, k < n → twice.getLsbD k = false) :
    invalidDigit x levels twice n = none := by
  refine List.find?_eq_none.2 fun k hk => ?_
  rw [once k (List.mem_range.1 hk), one k (List.mem_range.1 hk)]
  simp

end

theorem foldl_zipIdx_ofDigits (l : List Nat) (i a : Nat) :
    (l.zipIdx i).foldl (fun a p => a + p.1 * 4 ^ p.2) a = a + 4 ^ i * Nat.ofDigits 4 l := by
  induction l generalizing i a with
  | nil => simp
  | cons x l ih =>
    rw [List.zipIdx_cons, List.foldl_cons, ih, Nat.ofDigits_cons]
    ring

/-- The digits that a thread does not carry: CE is the low bit of digit 4 and GATE of digit 5, and both are 1 by default (R79). -/
def defaultDigits (n : Nat) : List Nat := [0, 0, 0, 0, 1, 1].drop n

/-- A seam word is six digits: those of the thread, then the defaults of the others (R79). -/
theorem seamWord_eq_ofDigits {l : List Nat} (h : l.length ≤ 6) :
    seamWord l = BitVec.ofNat 12 (Nat.ofDigits 4 (l ++ defaultDigits l.length)) := by
  unfold seamWord
  dsimp only
  rw [foldl_zipIdx_ofDigits, Nat.ofDigits_append, Nat.add_assoc]
  have defaults : (if l.length ≤ 4 then 2 ^ 8 else 0) + (if l.length ≤ 5 then 2 ^ 10 else 0) =
      4 ^ l.length * Nat.ofDigits 4 (defaultDigits l.length) := by
    generalize l.length = n at h
    interval_cases n <;> decide
  rw [defaults]
  simp

theorem ofDigits_digit {b : Nat} {l : List Nat} (hb : 0 < b) (small : ∀ x ∈ l, x < b) {k : Nat} (h : k < l.length) :
    Nat.ofDigits b l / b ^ k % b = l[k] := by
  rw [Nat.ofDigits_div_pow_eq_ofDigits_drop k hb l small, List.drop_eq_getElem_cons h, Nat.ofDigits_cons, Nat.add_mul_mod_self_left]
  exact Nat.mod_eq_of_lt (small _ (List.getElem_mem h))

/-- Two bits of a word of 12 are a digit of its number. -/
theorem extract_digit (m : Nat) {k : Nat} (h : k < 6) : ((BitVec.ofNat 12 m).extractLsb' (2 * k) 2).toNat = m / 4 ^ k % 4 := by
  rw [BitVec.extractLsb'_toNat, BitVec.toNat_ofNat, Nat.shiftRight_eq_div_pow]
  interval_cases k <;> omega

/-- The word that a receiver latches: a relay's one digit, or a port's digits with the defaults of the rest (R79, R80, R85). -/
def latchWord (u : Nat) (l : List Nat) : BitVec 12 := if 8 ≤ u then BitVec.ofNat 12 (l.headD 0) else seamWord l

theorem seamWord_digit {l : List Nat} (short : l.length ≤ 6) (small : ∀ x ∈ l, x < 4) {k : Nat} (h : k < l.length) :
    ((seamWord l).extractLsb' (2 * k) 2).toNat = l[k] := by
  have all : ∀ x ∈ l ++ defaultDigits l.length, x < 4 := by
    intro x hx
    rcases List.mem_append.1 hx with here | here
    · exact small x here
    · have defaults : ∀ y ∈ [0, 0, 0, 0, 1, 1], y < 4 := by decide
      exact defaults x (List.mem_of_mem_drop here)
  have place : k < (l ++ defaultDigits l.length).length := by
    rw [List.length_append]
    omega
  rw [seamWord_eq_ofDigits short, extract_digit _ (by omega), ofDigits_digit (by decide) all place, List.getElem_append_left h]

/-- The word holds the digits' values: a relay has one digit, a port at most six. -/
theorem latchWord_digit {u : Nat} {l : List Nat} (relay : 8 ≤ u → l.length = 1) (short : l.length ≤ 6) (small : ∀ x ∈ l, x < 4) {k : Nat}
    (h : k < l.length) : ((latchWord u l).extractLsb' (2 * k) 2).toNat = l[k] := by
  unfold latchWord
  split
  · next hu =>
    obtain ⟨x, rfl⟩ := List.length_eq_one_iff.1 (relay hu)
    obtain rfl : k = 0 := by simpa using h
    have value := small x (by simp)
    rw [extract_digit _ (by decide)]
    simp [Nat.mod_eq_of_lt value]
  · exact seamWord_digit short small h

/-- The word of n digits with one changed wire each holds their values. -/
theorem latchWord_of_values {x : SeamSt} {levels : BitVec 24} {u n : Nat} {digit : Nat → Nat}
    (one : ∀ k, k < n → digitValue (digitDiff x.wires levels k) = some (digit k)) (relay : 8 ≤ u → n = 1) (short : n ≤ 6) {k : Nat}
    (hk : k < n) : ((latchWord u ((List.range n).map digit)).extractLsb' (2 * k) 2).toNat = digit k := by
  have count : ((List.range n).map digit).length = n := by rw [List.length_map, List.length_range]
  have small : ∀ v ∈ (List.range n).map digit, v < 4 := by
    intro v hv
    obtain ⟨i, hi, rfl⟩ := List.mem_map.1 hv
    exact digitValue_lt (one i (List.mem_range.1 hi))
  rw [latchWord_digit (by rwa [count]) (by rwa [count]) small (by rwa [count])]
  simp

end Sys2Proof.Machine
end

section
/-! SUPPORT. Launches and latches (R80 to R92, R492): what each does to the seam units, and what it leaves. -/

namespace Sys2Proof.Machine

/-- The input and the output of a unit are two seam numbers. -/
theorem seamIn_ne_seamOut (site u : Nat) : seamIn site u ≠ seamOut site u := by
  unfold seamIn seamOut
  omega

/-! ### A launch (R80, R85, R492) -/

theorem Dev.launch_seam_same (d : Dev) (site u : Nat) (w : BitVec 12) (n : Nat) :
    (d.launch site u w n).seam (seamOut site u) =
      { d.seam (seamOut site u) with wires := launchWires (d.seam (seamOut site u)).wires w n, word := some w, digits := n, acked := [] } :=
  d.seam_setSeam_same _ _

theorem Dev.launch_seam_other (d : Dev) (site u : Nat) (w : BitVec 12) (n : Nat) {k : Nat} (h : k ≠ seamOut site u) :
    (d.launch site u w n).seam k = d.seam k :=
  d.seam_setSeam_other _ _ _ (Ne.symm h)

theorem Dev.launch_beside (d : Dev) (site u : Nat) (w : BitVec 12) (n : Nat) :
    { d.launch site u w n with seams := d.seams, out := d.out } = d := by
  unfold Dev.launch Dev.emit Dev.setSeam
  rfl

/-- An acknowledge of a bundle's token moves panels only. -/
theorem Dev.ackBundle_shape (d : Dev) (column row b r : Nat) : ∃ p, d.ackBundle column row b r = { d with panels := p } := by
  unfold Dev.ackBundle
  dsimp only
  generalize acked : d.setPanel (siteNo column row) _ = e
  rcases e.settleBundle_cases column row b with ⟨-, shape⟩ | shape
  · exact ⟨_, by rw [shape, ← acked]; rfl⟩
  · exact ⟨_, by rw [shape, ← acked]; rfl⟩

/-- A token that receiver r has acknowledged is not offered to it any more. -/
theorem Dev.ackBundle_offers (d : Dev) (column row : Nat) {b r : Nat} (hb : b < 16) (hr : r < 24) :
    ((d.ackBundle column row b r).panel (siteNo column row)).offers b r = false := by
  unfold Dev.ackBundle
  dsimp only
  generalize acked : d.setPanel (siteNo column row) _ = e
  have taken : (e.panel (siteNo column row)).taken.getLsbD (24 * b + r) = true := by
    rw [← acked, Dev.panel_setPanel_same, BitVec.getLsbD_or, BitVec.getLsbD_ofNat, Nat.testBit_two_pow_self]
    have inside : 24 * b + r < 384 := by omega
    simp [inside]
  unfold PanelSt.offers
  rcases e.settleBundle_cases column row b with ⟨-, shape⟩ | shape
  · rw [shape, Dev.panel_setPanel_same]
    simp [PanelSt.settled, taken]
  · rw [shape, taken]
    simp

/-- A half that emits notes it in its French seam only. -/
theorem Dev.frenchEmit_shape (d : Dev) (site : Nat) : ∃ x, d.frenchEmit site = { d with darn := x } := by
  unfold Dev.frenchEmit
  split
  · exact ⟨_, rfl⟩
  · exact ⟨_, rfl⟩

theorem Dev.portDigits_le (d : Dev) (column row item : Nat) : d.portDigits column row item ≤ 6 := by
  unfold Dev.portDigits
  omega

/-- A relay has one digit, a port's thread at most six (R79, R85). -/
theorem Dev.receiverDigits_le (d : Dev) (column row u : Nat) : (if 8 ≤ u then 1 else d.portDigits column row u) ≤ 6 := by
  split
  · decide
  · exact d.portDigits_le column row u

/-- Bit 11 is sent as 0 (R79). -/
theorem Dev.portOut_top (d : Dev) (column row u : Nat) : (d.portOut column row u).getLsbD 11 = false := by
  unfold Dev.portOut
  rw [BitVec.getLsbD_ofNat, testBit_maskOf]
  rfl

/-- An outbound port has taken the token of bundle b: its word is launched, the token acknowledged, and a French half notes the emission. -/
def Dev.portSent (d : Dev) (column row u b : Nat) : Dev :=
  ((d.launch (siteNo column row) u (d.portOut column row u) (d.portDigits column row (32 + u))).ackBundle column row b (16 + u)).frenchEmit
    (siteNo column row)

/-- Beside the launch only panels and the French half move. -/
theorem Dev.portSent_shape (d : Dev) (column row u b : Nat) : ∃ p x, d.portSent column row u b =
    { d.launch (siteNo column row) u (d.portOut column row u) (d.portDigits column row (32 + u)) with panels := p, darn := x } := by
  unfold Dev.portSent
  generalize d.launch _ u _ _ = e
  obtain ⟨p, acked⟩ := e.ackBundle_shape column row b (16 + u)
  rw [acked]
  obtain ⟨x, emitted⟩ := Dev.frenchEmit_shape { e with panels := p } (siteNo column row)
  exact ⟨p, x, emitted⟩

theorem Dev.portSent_seam (d : Dev) (column row u b k : Nat) : (d.portSent column row u b).seam k =
    (d.launch (siteNo column row) u (d.portOut column row u) (d.portDigits column row (32 + u))).seam k := by
  obtain ⟨p, x, shape⟩ := d.portSent_shape column row u b
  rw [shape]
  generalize d.launch _ u _ _ = e
  rfl

theorem Dev.portSent_beside (d : Dev) (column row u b : Nat) :
    { d.portSent column row u b with seams := d.seams, panels := d.panels, darn := d.darn, out := d.out } = d := by
  obtain ⟨p, x, shape⟩ := d.portSent_shape column row u b
  rw [shape]
  unfold Dev.launch Dev.emit Dev.setSeam
  rfl

theorem Dev.portSent_offers (d : Dev) (column row : Nat) {u b : Nat} (hu : u < 8) (hb : b < 16) :
    ((d.portSent column row u b).panel (siteNo column row)).offers b (16 + u) = false := by
  unfold Dev.portSent
  generalize acked : Dev.ackBundle _ column row b (16 + u) = e
  obtain ⟨x, emitted⟩ := e.frenchEmit_shape (siteNo column row)
  have offers : (e.panel (siteNo column row)).offers b (16 + u) = false := by
    rw [← acked]
    exact Dev.ackBundle_offers _ column row hb (by omega)
  rw [emitted]
  exact offers

section
variable {column : Fin 102} {row : Fin 72} {unit : Fin 24} {hardAck : Bool} {s : State}

/-- A unit without room launches nothing (R80). -/
theorem seamDigitLaunch_full (full : s.dev.seamRoom (siteNo column.val row.val) unit.val hardAck = false) :
    exec (.seamDigitLaunch column row unit hardAck) s = .next s := by
  have ran : exec (.seamDigitLaunch column row unit hardAck) s = execSeamDigitLaunch column row unit hardAck s := rfl
  rw [ran, execSeamDigitLaunch, onDev_next]
  dsimp only
  rw [full, Bool.not_false, Bool.or_true, if_pos rfl]

variable (live : s.dev.siteLive (siteNo column.val row.val) = true) (gates : s.dev.core.gatesOpen = true)
  (empty : (s.dev.seam (seamOut (siteNo column.val row.val) unit.val)).word = none)
include live gates empty

theorem seamDigitLaunch_port {b : Nat} (port : unit.val < 8) (fed : s.dev.portBundle column.val row.val unit.val = some b)
    (offers : (s.dev.panel (siteNo column.val row.val)).offers b (16 + unit.val) = true)
    (idle : s.dev.frenchWaits (siteNo column.val row.val) = false) :
    exec (.seamDigitLaunch column row unit hardAck) s = .next { s with dev := s.dev.portSent column.val row.val unit.val b } := by
  have ran : exec (.seamDigitLaunch column row unit hardAck) s = execSeamDigitLaunch column row unit hardAck s := rfl
  rw [ran, execSeamDigitLaunch, onDev_next]
  simp only [live, gates, Dev.seamRoom, empty, Nat.not_le.2 port, fed, offers, idle, Option.isNone_none, Option.isSome_none, Bool.true_or,
    Bool.not_true, Bool.or_false, Bool.false_eq_true, if_false]
  rfl

theorem seamDigitLaunch_relay {v : BitVec 12} (relay : 8 ≤ unit.val)
    (stored : (s.dev.seam (seamIn (siteNo column.val row.val) unit.val)).word = some v) :
    exec (.seamDigitLaunch column row unit hardAck) s =
      .next { s with dev := s.dev.launch (siteNo column.val row.val) unit.val v 1 } := by
  have ran : exec (.seamDigitLaunch column row unit hardAck) s = execSeamDigitLaunch column row unit hardAck s := rfl
  rw [ran, execSeamDigitLaunch, onDev_next]
  simp only [live, gates, Dev.seamRoom, empty, relay, stored, Option.isNone_none, Option.isSome_none, Bool.true_or, Bool.not_true,
    Bool.or_false, Bool.false_eq_true, if_false, if_true]

end

/-! ### Routes follow the frames and the routing (R82, R84, R87) -/

theorem Passed.leaves {d e : Dev} (h : Passed d e) (n site g : Nat) : e.leaves n site g = d.leaves n site g := by
  induction n generalizing site g with
  | zero => rfl
  | succ n ih => simp only [Dev.leaves, Dev.groupSources, Dev.selectGroup, h.wiring, h.frame, ih]

theorem Passed.branchesOf {d e : Dev} (h : Passed d e) (site u : Nat) : e.branchesOf site u = d.branchesOf site u := by
  simp only [Dev.branchesOf, h.wiring, h.leaves]

/-! ### Senders acknowledged (R80, R84, R85) -/

theorem Dev.frenchAck_seam (d : Dev) (site k : Nat) : (d.frenchAck site).seam k = d.seam k := by
  unfold Dev.frenchAck
  split
  · rfl
  · dsimp only
    split <;> rfl

theorem Dev.senderDone_seam_other (d : Dev) {site u k : Nat} (hout : k ≠ seamOut site u) (hin : k ≠ seamIn site u) :
    (d.senderDone site u).seam k = d.seam k := by
  unfold Dev.senderDone
  dsimp only
  split
  · rw [Dev.frenchAck_seam, Dev.seam_setSeam_other _ _ _ _ (Ne.symm hout)]
  · rw [Dev.seam_setSeam_other _ _ _ _ (Ne.symm hin), Dev.seam_setSeam_other _ _ _ _ (Ne.symm hout)]

/-- A sender that is done has no word under way. -/
theorem Dev.senderDone_word (d : Dev) (site u : Nat) : ((d.senderDone site u).seam (seamOut site u)).word = none := by
  unfold Dev.senderDone
  dsimp only
  split
  · rw [Dev.frenchAck_seam, Dev.seam_setSeam_same]
  · rw [Dev.seam_setSeam_other _ _ _ _ (seamIn_ne_seamOut site u), Dev.seam_setSeam_same]

theorem Dev.ackSender_seam_other (d : Dev) (key : Nat) {site u k : Nat} (hout : k ≠ seamOut site u) (hin : k ≠ seamIn site u) :
    (d.ackSender key site u).seam k = d.seam k := by
  unfold Dev.ackSender
  extract_lets x acked
  split
  · exact d.senderDone_seam_other hout hin
  · exact d.seam_setSeam_other _ _ _ (Ne.symm hout)

/-- A sender whose one branch acknowledges has room. -/
theorem Dev.ackSender_word {d : Dev} {key site u : Nat} (only : d.branchesOf site u = [key]) :
    ((d.ackSender key site u).seam (seamOut site u)).word = none := by
  have all : (d.branchesOf site u).all (fun k => (if (d.seam (seamOut site u)).acked.contains key then (d.seam (seamOut site u)).acked
      else (d.seam (seamOut site u)).acked ++ [key]).contains k) = true := by
    rw [only, List.all_cons, List.all_nil, Bool.and_true]
    split
    · assumption
    · simp
  unfold Dev.ackSender
  dsimp only
  rw [if_pos all, Dev.senderDone_word]

/-- A receiver acknowledges its senders, one after the other. -/
def Dev.ackSenders (d : Dev) (key : Nat) (l : List (Nat × Nat)) : Dev := l.foldl (fun e a => e.ackSender key a.1 a.2) d

theorem Dev.ackSenders_seam_other (d : Dev) (key : Nat) {l : List (Nat × Nat)} {k : Nat}
    (h : ∀ a ∈ l, k ≠ seamOut a.1 a.2 ∧ k ≠ seamIn a.1 a.2) : (d.ackSenders key l).seam k = d.seam k := by
  induction l generalizing d with
  | nil => rfl
  | cons a l ih =>
    obtain ⟨hout, hin⟩ := h a (List.mem_cons_self ..)
    exact (ih _ fun x hx => h x (List.mem_cons_of_mem _ hx)).trans (d.ackSender_seam_other key hout hin)

/-! ### A latch (R78, R80, R85) -/

/-- A receiver has taken the levels as its references, toggled its ACKs and stored the word. -/
def Dev.latched (d : Dev) (key : Nat) (levels : BitVec 24) (n : Nat) (w : BitVec 12) : Dev :=
  let e := d.setSeam key ((d.seam key).ack levels n)
  e.setSeam key { e.seam key with word := some w }

theorem Dev.latched_seam_same (d : Dev) (key : Nat) (levels : BitVec 24) (n : Nat) (w : BitVec 12) :
    (d.latched key levels n w).seam key = { (d.seam key).ack levels n with word := some w } := by
  unfold Dev.latched
  dsimp only
  rw [Dev.seam_setSeam_same, Dev.seam_setSeam_same]

theorem Dev.latched_seam_other (d : Dev) (key : Nat) (levels : BitVec 24) (n : Nat) (w : BitVec 12) {k : Nat} (h : k ≠ key) :
    (d.latched key levels n w).seam k = d.seam k :=
  (Dev.seam_setSeam_other _ _ _ _ (Ne.symm h)).trans (d.seam_setSeam_other _ _ _ (Ne.symm h))

theorem Dev.latched_passed (d : Dev) (key : Nat) (levels : BitVec 24) (n : Nat) (w : BitVec 12) : Passed d (d.latched key levels n w) :=
  ⟨rfl, rfl, rfl, rfl, List.suffix_rfl⟩

theorem Dev.fabricLive_of_siteLive {d : Dev} {site : Nat} (h : d.siteLive site = true) : d.fabricLive = true := by
  unfold Dev.siteLive at h
  simp only [Bool.and_eq_true] at h
  obtain ⟨⟨live, -⟩, -⟩ := h
  exact live

section
variable {column : Fin 102} {row : Fin 72} {unit : Fin 24} {hard : BitVec 24} {twice partner : BitVec 6} {site n : Nat} {s : State}
  (hs : site = siteNo column.val row.val) (gates : s.dev.core.gatesOpen = true)
  (single : s.dev.seamUnits column.val row.val unit.val = [unit.val])
  (hn : n = if 8 ≤ unit.val then 1 else s.dev.portDigits column.val row.val unit.val)
  (valid : (s.dev.seam (seamIn site unit.val)).invalid = false)
include hs gates single hn valid

theorem seamWordLatch_latches {levels : BitVec 24} {l : List Nat} (live : s.dev.siteLive site = true)
    (hl : levels = s.dev.seamLevels hard site unit.val n) (empty : (s.dev.seam (seamIn site unit.val)).word = none)
    (clean : invalidDigit (s.dev.seam (seamIn site unit.val)) levels twice n = none)
    (present : digitsAt (s.dev.seam (seamIn site unit.val)) levels n = some l) :
    exec (.seamWordLatch column row unit hard twice partner) s = .next { s with
      dev := ((s.dev.latched (seamIn site unit.val) levels n (latchWord unit.val l)).ackSenders (seamIn site unit.val)
        (s.dev.sendersOf site unit.val n)).emit (.token 2 (seamIn site unit.val) (latchWord unit.val l).toNat) } := by
  have ran : exec (.seamWordLatch column row unit hard twice partner) s = execSeamWordLatch column row unit hard twice partner s := rfl
  subst hs hl
  rw [ran, execSeamWordLatch, onDev_next]
  simp only [← hn, single, List.any_cons, List.any_nil, List.findSome?_cons, List.findSome?_nil, List.foldl_cons, List.foldl_nil, if_true,
    Dev.fabricLive_of_siteLive live, live, gates, valid, clean, present, empty, Option.map_none, Option.isSome_none, Bool.not_true,
    Bool.or_false, Bool.false_eq_true, if_false, bne_self_eq_false]
  rfl

theorem seamWordLatch_flags {k : Nat} (live : s.dev.fabricLive = true)
    (fault : invalidDigit (s.dev.seam (seamIn site unit.val)) (s.dev.seamLevels hard site unit.val n) twice n = some k) :
    exec (.seamWordLatch column row unit hard twice partner) s = .next { s with dev := s.dev.flagDigit site unit.val k } := by
  have ran : exec (.seamWordLatch column row unit hard twice partner) s = execSeamWordLatch column row unit hard twice partner s := rfl
  subst hs
  rw [ran, execSeamWordLatch, onDev_next]
  simp only [← hn, single, List.any_cons, List.any_nil, List.findSome?_cons, if_true, live, gates, valid, fault, Option.map_some,
    Bool.not_true, Bool.or_false, Bool.false_eq_true, if_false]

end

/-! ### An invalid digit (R89, R484) -/

/-- The repair that a panel fault of digit k of unit u asks for: it names the physical site, the port or relay and the digit. -/
def Dev.digitFault (d : Dev) (column row u k : Nat) : RepairSt where
  patch := sitePatch (d.physColumn column row) row
  row := row
  column := d.physColumn column row
  source := 0x0810
  kind := 1
  started := d.core.time
  report := .seam u k

/-- In RUN the digit is flagged and its fault queued. -/
theorem Dev.flagDigit_run {d : Dev} {column row : Nat} (u k : Nat) (hc : column < 102) (run : d.core.state = .run) :
    d.flagDigit (siteNo column row) u k = {
      d.setSeam (seamIn (siteNo column row) u) { d.seam (seamIn (siteNo column row) u) with invalid := true } with
      darn := { d.darn with queue := d.darn.queue ++ [d.digitFault column row u k] } } := by
  have hcol : siteNo column row % 102 = column := by unfold siteNo; omega
  have hrow : siteNo column row / 102 = row := by unfold siteNo; omega
  unfold Dev.flagDigit Dev.panelFault
  dsimp only
  rw [hcol, hrow, Dev.setSeam_core, run]
  rfl

end Sys2Proof.Machine
end

section
/-! The statement about seams: launches, relays, latches and invalid digits, and the whole. -/

namespace Sys2Proof.Machine

/-- Settles O14: a launch is one transition a digit on the wires of its own output, a latch moves its own input and then its senders, and
the first invalid digit is flagged and queued, each read off at the seam unit it names. -/
theorem seamsLaunchAndLatch : Obligations.SeamsLaunchAndLatch := by
  unfold Obligations.SeamsLaunchAndLatch
  refine ⟨?launches, ?latches, ?faults⟩
  case launches =>
    intro column row unit hardAck site s hs live gates
    subst hs
    refine ⟨seamDigitLaunch_full, fun b n w port empty fed offers idle hw hn => ?_, fun v relay empty stored => ?_⟩
    · subst hw hn
      refine ⟨_, seamDigitLaunch_port live gates empty port fed offers idle, kept_withDev s _, s.dev.portOut_top _ _ _, ?_, ?_,
        fun k hk => ?_, fun hb => s.dev.portSent_offers _ _ port hb, fun u hu => ?_, s.dev.portSent_beside _ _ _ _⟩
      · rw [Dev.portSent_seam, Dev.launch_seam_same]
      · rw [Dev.portSent_seam, Dev.launch_seam_same]
      · rw [Dev.portSent_seam, Dev.launch_seam_same]
        exact launchWires_flips _ _ _ hk
      · exact (Dev.portSent_seam _ _ _ _ _ _).trans (Dev.launch_seam_other _ _ _ _ _ hu)
    · refine ⟨_, seamDigitLaunch_relay live gates empty relay stored, kept_withDev s _, ?_, ?_, ?_,
        fun u hu => Dev.launch_seam_other _ _ _ _ _ hu, s.dev.launch_beside _ _ _ _⟩
      · rw [Dev.launch_seam_other _ _ _ _ _ (seamIn_ne_seamOut _ _), stored]
      · rw [Dev.launch_seam_same]
      · rw [Dev.launch_seam_same]
        exact launchWires_flips _ v 1 (k := 0) (by decide)
  case latches =>
    intro column row unit hard twice partner site n levels digit s hs live gates single hn hl valid empty once one apart
    set key := seamIn site unit.val
    have short : n ≤ 6 := hn ▸ s.dev.receiverDigits_le _ _ _
    have ran := seamWordLatch_latches (partner := partner) hs gates single hn valid live hl empty (invalidDigit_of_values one once)
      (digitsAt_of_values one)
    set w := latchWord unit.val ((List.range n).map digit)
    have own : ((s.dev.latched key levels n w).ackSenders key (s.dev.sendersOf site unit.val n)).seam key =
        { (s.dev.seam key).ack levels n with word := some w } :=
      (Dev.ackSenders_seam_other _ _ fun a ha => (apart a ha).symm.imp Ne.symm Ne.symm).trans (Dev.latched_seam_same _ _ _ _ _)
    refine ⟨_, w, ran, kept_withDev s _, ?_, fun k hk => ?_, fun k hk => ?_, fun k hk => ?_, fun a sender _ only => ?_,
      fun u hu others => ?_⟩
    · exact congrArg SeamSt.word own
    · exact latchWord_of_values one (fun relay => by rw [hn, if_pos relay]) short hk
    · exact (congrArg (fun x : SeamSt => x.wires.extractLsb' (4 * k) 4) own).trans ((s.dev.seam key).ack_wires levels n hk)
    · exact (congrArg (fun x : SeamSt => x.acks.getLsbD k) own).trans ((s.dev.seam key).ack_acks levels n hk)
    · rw [sender]
      exact Dev.ackSender_word (((s.dev.latched_passed key levels n w).branchesOf a.1 a.2).trans only)
    · exact (Dev.ackSenders_seam_other _ _ others).trans (Dev.latched_seam_other _ _ _ _ _ hu)
  case faults =>
    intro column row unit hard twice partner site n k s hs run held gates single hn valid fault
    have live : s.dev.fabricLive = true := by
      unfold Dev.fabricLive
      rw [held, run]
      rfl
    have ran := seamWordLatch_flags (partner := partner) hs gates single hn valid live fault
    subst hs
    rw [Dev.flagDigit_run _ _ column.isLt run] at ran
    exact ⟨_, ran, kept_withDev s _, Dev.seam_setSeam_same _ _ _, rfl, fun u hu => Dev.seam_setSeam_other _ _ _ _ (Ne.symm hu), rfl⟩

end Sys2Proof.Machine
end

section
/-! SUPPORT. Bobbins outside packet mode and of fewer than 8 members (R116 to R125, R334): what a write, a drop, a gap marker and a read
make of the one bobbin they are about. -/

namespace Sys2Proof.Machine

variable {d : Dev} {h : Nat} {cfg : Word}

/-! ### Counters -/

theorem Dev.count_bobbin (d : Dev) (i j width n k : Nat) : (d.count i j width n).bobbin k = d.bobbin k := rfl

/-- A counter of a bobbin is not its configuration. -/
theorem Dev.count_bobbinCfg (d : Dev) (h width n : Nat) {j : Nat} (hj : j < 256) (other : j ≠ 3) :
    (d.count (0x4400 + h) j width n).bobbinCfg h = d.bobbinCfg h :=
  d.rd_wr_other _ fun e => other (objKey_inj hj (by decide) e).2

/-! ### Level crossings and gap markers (R121, R124) -/

/-- Only a combination of 8 has a level. -/
theorem Dev.levelUp_small (d : Dev) (h : Nat) (small : members cfg ≠ 8) : d.levelUp h cfg = d := by
  unfold Dev.levelUp
  simp [small]

theorem Dev.gapMarkerDue_noRun (norun : (d.bobbin h).run = none) : d.gapMarkerDue h = d := by
  unfold Dev.gapMarkerDue
  simp only [norun]

/-- A marker finds no room while every read word is taken. -/
theorem Dev.gapMarkerDue_full (full : (d.bobbin h).full (d.bobbinCfg h) = true) : d.gapMarkerDue h = d := by
  unfold Dev.gapMarkerDue
  simp only [full]
  split
  · simp
  · rfl

/-- The bobbin with the marker of its drop run r at the end of its queue. -/
def BobbinSt.marked (x : BobbinSt) (r : DropRun) : BobbinSt := { x with run := none, words := x.words ++ [gapMarker r] }

/-- The device whose bobbin h has just taken the marker of r: counted in BOBBIN_GAPS, and SATURATED where the count ran over (R122). -/
def Dev.gapMarked (d : Dev) (h : Nat) (r : DropRun) : Dev :=
  let d := (d.setBobbin h ((d.bobbin h).marked r)).count (0x4400 + h) 7 32 1
  if r.count > 65535 then d.setFlag (0x4400 + h) 1 13 true else d

theorem Dev.gapMarkerDue_marks {r : DropRun} (run : (d.bobbin h).run = some r) (closed : r.closed = true) (whole : r.truncated = false)
    (room : (d.bobbin h).full (d.bobbinCfg h) = false) (small : members (d.bobbinCfg h) ≠ 8) : d.gapMarkerDue h = d.gapMarked h r := by
  unfold Dev.gapMarkerDue
  simp only [run, closed, room, whole, Dev.levelUp_small _ _ small]
  rfl

theorem Dev.gapMarked_regsOnly (d : Dev) (h : Nat) (r : DropRun) (l : List (Nat × Word)) :
    { d.gapMarked h r with regs := l } = { d.setBobbin h ((d.bobbin h).marked r) with regs := l } := by
  unfold Dev.gapMarked
  dsimp only
  split <;> rfl

theorem Dev.gapMarked_bobbin (d : Dev) (h : Nat) (r : DropRun) (k : Nat) :
    (d.gapMarked h r).bobbin k = (d.setBobbin h ((d.bobbin h).marked r)).bobbin k :=
  (congrArg (fun e => e.bobbin k) (d.gapMarked_regsOnly h r []) :)

theorem Dev.gapMarked_gaps (d : Dev) (h : Nat) (r : DropRun) :
    (d.gapMarked h r).rdN (0x4400 + h) 7 = (d.rdN (0x4400 + h) 7 + 1) % 2 ^ 32 := by
  have counted := (d.setBobbin h ((d.bobbin h).marked r)).rdN_count_same (0x4400 + h) 7 1
  unfold Dev.gapMarked
  dsimp only
  split
  · have apart : objKey (0x4400 + h) 1 ≠ objKey (0x4400 + h) 7 := fun e => absurd (objKey_inj (by decide) (by decide) e).2 (by decide)
    exact (congrArg BitVec.toNat (Dev.rd_wr_other _ _ apart)).trans counted
  · exact counted

/-! ### Drops (R121) -/

/-- The bobbin with the run that its first dropped write outside packet mode starts and closes. -/
def BobbinSt.firstDrop (x : BobbinSt) : BobbinSt :=
  { x with run := some { count := 1, packets := 0, truncated := false, words := x.pktWords, closed := true }
           pktDropping := false, pktStored := false, sent310 := true }

/-- A drop into a full bobbin that has already noticed one in this watch window: its marker waits for room. -/
theorem Dev.bobbinDrop_full (plain : packetMode (d.bobbinCfg h) = false) (norun : (d.bobbin h).run = none)
    (full : (d.bobbin h).full (d.bobbinCfg h) = true) (sent : (d.bobbin h).sent310 = true) :
    d.bobbinDrop h (d.bobbinCfg h) false = (d.setBobbin h (d.bobbin h).firstDrop).count (0x4400 + h) 6 32 1 := by
  have held : (((d.setBobbin h (d.bobbin h).firstDrop).count (0x4400 + h) 6 32 1).bobbin h).full
      (((d.setBobbin h (d.bobbin h).firstDrop).count (0x4400 + h) 6 32 1).bobbinCfg h) = true := by
    rw [Dev.count_bobbin, Dev.bobbin_setBobbin_same, Dev.count_bobbinCfg _ _ _ _ (by decide) (by decide)]
    exact full
  rw [← Dev.gapMarkerDue_full held]
  unfold Dev.bobbinDrop
  simp [plain, norun, sent, BobbinSt.firstDrop]

/-! ### Writes (R116 to R120, R334) -/

/-- The read word being filled once data stands in the next position of it (R117). -/
def BobbinSt.filledWith (x : BobbinSt) (cfg : Word) (data : BitVec 64) : BitVec 256 :=
  x.partData ||| BitVec.ofNat 256 (data.toNat % 2 ^ wrWidth cfg * 2 ^ (wrWidth cfg * x.partCount))

/-- The bobbin with data stored outside packet mode: in its position, or with the word it fills at the end of the queue. -/
def BobbinSt.stored (x : BobbinSt) (cfg : Word) (data : BitVec 64) : BobbinSt :=
  if x.partCount + 1 = rdWidth cfg / wrWidth cfg then
    { x with words := x.words ++ [{ data := x.filledWith cfg data, tag := 0 }], partCount := 0, partData := 0
             pktWords := x.pktWords + 1, pktStored := false }
  else { x with partCount := x.partCount + 1, partData := x.filledWith cfg data, pktStored := false }

/-- The bobbin with a write that waits in its handshake. -/
def BobbinSt.holding (x : BobbinSt) (data : BitVec 64) (ctrl : BitVec 4) : BobbinSt := { x with waiting := some (data, ctrl) }

/-- A write is a number of whole bytes. -/
theorem wrWidth_bytes (cfg : Word) : 8 * (wrWidth cfg / 8) = wrWidth cfg := by
  unfold wrWidth
  omega

theorem Dev.bobbinStore_plain (d : Dev) (h : Nat) (data : BitVec 64) (bytes : Nat) (plain : packetMode cfg = false)
    (small : members cfg ≠ 8) : d.bobbinStore h cfg data false bytes = d.setBobbin h ((d.bobbin h).stored cfg data) := by
  unfold Dev.bobbinStore BobbinSt.stored BobbinSt.filledWith
  by_cases fills : (d.bobbin h).partCount + 1 = rdWidth cfg / wrWidth cfg
  · simp [fills, plain, wrWidth_bytes, Dev.levelUp_small _ _ small]
  · simp [fills, plain, wrWidth_bytes]

/-- Outside packet mode and with no drop run, room decides: a write is stored, or it waits or is dropped as FULL_ACTION says. -/
theorem Dev.bobbinWrite_plain (data : BitVec 64) (ctrl : BitVec 4) (plain : packetMode (d.bobbinCfg h) = false)
    (norun : (d.bobbin h).run = none) (taking : (d.bobbin h).pktDropping = false) :
    d.bobbinWrite h data ctrl =
      if (d.bobbin h).partCount = 0 ∧ (d.bobbin h).full (d.bobbinCfg h) = true then
        if fullWaits (d.bobbinCfg h) then d.setBobbin h ((d.bobbin h).holding data ctrl)
        else d.bobbinDrop h (d.bobbinCfg h) false
      else d.bobbinStore h (d.bobbinCfg h) data false (ctrl.toNat % 8) := by
  unfold Dev.bobbinWrite BobbinSt.holding
  simp [Dev.gapMarkerDue_noRun norun, norun, taking, plain]

/-! ### Reads (R124, R127) -/

theorem Dev.levelDown_bobbinsOnly (d : Dev) (h : Nat) (l : List (Nat × BobbinSt)) :
    { d.levelDown h with bobbins := l } = { d with bobbins := l } := by
  unfold Dev.levelDown
  dsimp only
  split <;> rfl

/-- The crossing re-armed changes the arming alone. -/
theorem Dev.levelDown_bobbin (d : Dev) (h : Nat) : ∃ armed, (d.levelDown h).bobbin h = { d.bobbin h with levelArmed := armed } := by
  unfold Dev.levelDown
  dsimp only
  split
  · exact ⟨true, d.bobbin_setBobbin_same h _⟩
  · exact ⟨(d.bobbin h).levelArmed, rfl⟩

theorem Dev.levelDown_bobbin_other (d : Dev) {h k : Nat} (other : k ≠ h) : (d.levelDown h).bobbin k = d.bobbin k := by
  unfold Dev.levelDown
  dsimp only
  split
  · exact d.bobbin_setBobbin_other h _ k other.symm
  · rfl

/-- The device whose bobbin h has just given its oldest word and keeps the others. -/
def Dev.oldestTaken (d : Dev) (h : Nat) : Dev :=
  (d.setBobbin h { d.bobbin h with words := (d.bobbin h).words.tail }).levelDown h

theorem Dev.oldestTaken_bobbinsOnly (d : Dev) (h : Nat) (l : List (Nat × BobbinSt)) :
    { d.oldestTaken h with bobbins := l } = { d with bobbins := l } := Dev.levelDown_bobbinsOnly _ h l

theorem Dev.oldestTaken_out (d : Dev) (h : Nat) : (d.oldestTaken h).out = d.out :=
  (congrArg Dev.out (d.oldestTaken_bobbinsOnly h []) :)

theorem Dev.oldestTaken_bobbin (d : Dev) (h : Nat) :
    ∃ armed, (d.oldestTaken h).bobbin h = { d.bobbin h with words := (d.bobbin h).words.tail, levelArmed := armed } := by
  obtain ⟨armed, rearmed⟩ := (d.setBobbin h { d.bobbin h with words := (d.bobbin h).words.tail }).levelDown_bobbin h
  rw [Dev.bobbin_setBobbin_same] at rearmed
  exact ⟨armed, rearmed⟩

theorem Dev.oldestTaken_bobbin_other (d : Dev) {h k : Nat} (other : k ≠ h) : (d.oldestTaken h).bobbin k = d.bobbin k :=
  (Dev.levelDown_bobbin_other _ other).trans (d.bobbin_setBobbin_other h _ k other.symm)

/-- A read of a bobbin that owes no marker and keeps no write waiting. -/
theorem Dev.bobbinTake_oldest {w : BWord} {rest : List BWord} (words : (d.bobbin h).words = w :: rest)
    (norun : (d.bobbin h).run = none) (free : (d.bobbin h).waiting = none) :
    d.bobbinTake h false = (d.oldestTaken h, some w) := by
  obtain ⟨armed, taken⟩ := d.oldestTaken_bobbin h
  have owes : (d.oldestTaken h).gapMarkerDue h = d.oldestTaken h := Dev.gapMarkerDue_noRun (by rw [taken]; exact norun)
  have waits : (d.oldestTaken h).bobbinRetry h = d.oldestTaken h := by
    unfold Dev.bobbinRetry
    simp only [taken, free]
  calc d.bobbinTake h false
      = (((d.oldestTaken h).gapMarkerDue h).bobbinRetry h, some w) := by
        unfold Dev.bobbinTake Dev.oldestTaken
        simp only [words, List.tail_cons]
        rfl
    _ = (d.oldestTaken h, some w) := by rw [owes, waits]

/-! ### The commands -/

section
variable {b : Fin 768} {s : State} (live : s.dev.fabricLive = true) (head : h = s.dev.bobbinHead b.val)
include live head

/-- BOBBIN_WRITE into a fabric side whose handshake is free: until ENABLE_WRITES it waits (R334). -/
theorem bobbinWrite_offered (data : BitVec 64) (ctrl : BitVec 4) (free : (s.dev.bobbin h).waiting = none)
    (side : writeLining (s.dev.bobbinCfg h) = false) :
    exec (.bobbinWrite b data ctrl) s = .next { s with
      dev := if s.dev.core.writes then s.dev.bobbinWrite h data ctrl
        else s.dev.setBobbin h ((s.dev.bobbin h).holding data ctrl) } := by
  subst head
  change execBobbinWrite b data ctrl s = _
  unfold execBobbinWrite onDev BobbinSt.holding
  simp [live, free, side]

/-- BOBBIN_READ of a bobbin that owes no marker and keeps no write waiting. -/
theorem bobbinRead_oldest {w : BWord} {rest : List BWord} (side : readLining (s.dev.bobbinCfg h) = false)
    (words : (s.dev.bobbin h).words = w :: rest) (norun : (s.dev.bobbin h).run = none) (free : (s.dev.bobbin h).waiting = none) :
    exec (.bobbinRead b false) s = .next { s with
      dev := (s.dev.oldestTaken h).emit (.token 2 h (w.tag.toNat * 2 ^ 256 + w.data.toNat)) } := by
  subst head
  change execBobbinRead b false s = _
  unfold execBobbinRead onDev
  simp only [live, side, Dev.bobbinTake_oldest words norun free]
  rfl

end

/-- GAP_MARKER_WRITE of a closed run that cut no packet short, once a read word is free. -/
theorem gapMarkerWrite_marks {b : Fin 768} {s : State} {r : DropRun} (head : h = s.dev.bobbinHead b.val)
    (run : (s.dev.bobbin h).run = some r) (closed : r.closed = true) (whole : r.truncated = false)
    (room : (s.dev.bobbin h).full (s.dev.bobbinCfg h) = false) (small : members (s.dev.bobbinCfg h) ≠ 8) :
    exec (.gapMarkerWrite b) s = .next { s with dev := s.dev.gapMarked h r } := by
  subst head
  rw [← Dev.gapMarkerDue_marks run closed whole room small]
  rfl

end Sys2Proof.Machine
end

section
/-! The statement about bobbins. -/

namespace Sys2Proof.Machine

/-- Settles O17: room decides what becomes of a write (bobbinWrite_plain), and each outcome, the word read and the marker written is one
change of the head's bobbin. -/
theorem bobbinsKeepOrder : Obligations.BobbinsKeepOrder := by
  unfold Obligations.BobbinsKeepOrder
  have others (d : Dev) (h : Nat) (x : BobbinSt) : ∀ k, k ≠ h → (d.setBobbin h x).bobbin k = d.bobbin k :=
    fun k hk => d.bobbin_setBobbin_other h x k hk.symm
  refine ⟨?writes, ?reads, ?marks⟩
  case writes =>
    intro b data ctrl h cfg x s live head hcfg hx free side
    subst hcfg hx
    have ran := bobbinWrite_offered live head data ctrl free side
    refine ⟨fun held => ?_, fun enabled plain small norun taking => ?_⟩
    · rw [held] at ran
      exact ⟨_, ran, kept_withDev s _, rfl, Dev.bobbin_setBobbin_same _ _ _, others _ _ _⟩
    · rw [enabled, if_pos rfl, Dev.bobbinWrite_plain data ctrl plain norun taking] at ran
      refine ⟨fun empty full waits => ?_, fun empty full drops sent => ?_, fun room => ?_⟩
      · rw [if_pos ⟨empty, full⟩, if_pos waits] at ran
        exact ⟨_, ran, kept_withDev s _, rfl, Dev.bobbin_setBobbin_same _ _ _, others _ _ _⟩
      · rw [if_pos ⟨empty, full⟩, drops, if_neg (by decide), Dev.bobbinDrop_full plain norun full sent] at ran
        have dropped := s.dev.bobbin_setBobbin_same h (s.dev.bobbin h).firstDrop
        exact ⟨_, ran, kept_withDev s _, (congrArg BobbinSt.words dropped :), Dev.rdN_count_same _ _ _ _,
          ⟨_, (congrArg BobbinSt.run dropped :), rfl, rfl⟩, others _ _ _⟩
      · rw [if_neg room, Dev.bobbinStore_plain _ _ _ _ plain small] at ran
        refine ⟨_, ran, kept_withDev s _, rfl, others _ _ _, fun part => ?_, fun fills => ?_⟩
        · rw [Dev.bobbin_setBobbin_same, BobbinSt.stored, if_neg part]
          exact ⟨rfl, rfl, rfl⟩
        · rw [Dev.bobbin_setBobbin_same, BobbinSt.stored, if_pos fills]
          exact ⟨rfl, rfl, rfl⟩
  case reads =>
    intro b w rest s live side words norun free
    obtain ⟨armed, taken⟩ := s.dev.oldestTaken_bobbin (s.dev.bobbinHead b.val)
    refine ⟨_, bobbinRead_oldest live rfl side words norun free, kept_withDev s _, ?_, ?_, ?_,
      fun k hk => s.dev.oldestTaken_bobbin_other hk⟩
    · exact congrArg (fun e : Dev => { e with out := s.dev.out }) (s.dev.oldestTaken_bobbinsOnly (s.dev.bobbinHead b.val) s.dev.bobbins)
    · exact congrArg (List.cons _) (s.dev.oldestTaken_out (s.dev.bobbinHead b.val))
    · exact (congrArg BobbinSt.words taken).trans (congrArg List.tail words)
  case marks =>
    intro b h r s head run closed whole room small
    refine ⟨_, gapMarkerWrite_marks head run closed whole room small, kept_withDev s _, ?_, ?_, ?_, s.dev.gapMarked_gaps h r,
      fun k hk => ?_⟩
    · exact congrArg (fun e : Dev => { e with bobbins := s.dev.bobbins }) (s.dev.gapMarked_regsOnly h r s.dev.regs)
    · rw [Dev.gapMarked_bobbin, Dev.bobbin_setBobbin_same]
      rfl
    · rw [Dev.gapMarked_bobbin, Dev.bobbin_setBobbin_same]
      rfl
    · rw [Dev.gapMarked_bobbin, others _ _ _ k hk]

end Sys2Proof.Machine
end

section
/-! SUPPORT. The stored words of a block memory (R163 to R168): what a store, an upset and a decode make of one word, and that they
leave every other word. -/

namespace Sys2Proof.Machine

/-! ### One word of a block -/

variable {x y z : BlockSt} {a : Nat}

/-- Every word but word a stands in y as it did in x. -/
def BlockSt.Beside (a : Nat) (x y : BlockSt) : Prop := ∀ k, k ≠ a → y.word k = x.word k ∧ y.err k = x.err k

theorem BlockSt.Beside.refl (a : Nat) (x : BlockSt) : x.Beside a x := fun _ _ => ⟨rfl, rfl⟩

theorem BlockSt.Beside.trans (h : x.Beside a y) (k : y.Beside a z) : x.Beside a z := fun i hi =>
  ⟨(k i hi).1.trans (h i hi).1, (k i hi).2.trans (h i hi).2⟩

/-- Words and errors set at one address stand beside every other address. -/
theorem BlockSt.Beside.of_tables (w e : BitVec 80) (hw : y.words = tabSet (fun _ => 0) x.words a w ∨ y.words = x.words)
    (he : y.errs = tabSet (fun _ => 0) x.errs a e) : x.Beside a y := by
  intro k hk
  constructor
  · unfold BlockSt.word
    rcases hw with hw | hw <;> rw [hw]
    exact tabGet_tabSet_other _ _ _ hk.symm
  · unfold BlockSt.err
    rw [he]
    exact tabGet_tabSet_other _ _ _ hk.symm

theorem BlockSt.store_word (x : BlockSt) (a : Nat) (w : BitVec 80) : (x.store a w).word a = w := tabGet_tabSet_same _ _ _ _
theorem BlockSt.store_err (x : BlockSt) (a : Nat) (w : BitVec 80) : (x.store a w).err a = 0 :=
  tabGet_tabSet_same (fun _ => 0) x.errs a 0
theorem BlockSt.store_beside (x : BlockSt) (a : Nat) (w : BitVec 80) : x.Beside a (x.store a w) :=
  .of_tables w 0 (.inl rfl) rfl

theorem BlockSt.store_writeback (x : BlockSt) (a : Nat) (w : BitVec 80) : a ∉ (x.store a w).writeback := by
  simp [BlockSt.store]

theorem BlockSt.store_injected (x : BlockSt) (a : Nat) (w : BitVec 80) : (x.store a w).injected ≠ some a := by
  unfold BlockSt.store
  dsimp only
  split
  · exact nofun
  · assumption

/-- A word stored as it already is keeps every word. -/
theorem BlockSt.store_same_word (x : BlockSt) (a k : Nat) : (x.store a (x.word a)).word k = x.word k := by
  by_cases h : k = a
  · rw [h, BlockSt.store_word]
  · exact (x.store_beside a _ k h).1

theorem BlockSt.upset_word (x : BlockSt) (a : Nat) (m : BitVec 80) (k : Nat) : (x.upset a m).word k = x.word k := rfl
theorem BlockSt.upset_err (x : BlockSt) (a : Nat) (m : BitVec 80) : (x.upset a m).err a = x.err a ^^^ m :=
  tabGet_tabSet_same _ _ _ _
theorem BlockSt.upset_beside (x : BlockSt) (a : Nat) (m : BitVec 80) : x.Beside a (x.upset a m) :=
  .of_tables 0 _ (.inr rfl) rfl

/-! ### The decode (R165) -/

/-- A mask without a bit set is zero. -/
theorem maskBits_eq_nil {m : BitVec 80} : maskBits m = [] ↔ m = 0 := by
  constructor
  · intro h
    apply BitVec.eq_of_getLsbD_eq
    intro i hi
    have none := List.filter_eq_nil_iff.1 (List.reverse_eq_nil_iff.1 h) i (List.mem_range.2 hi)
    simpa using none
  · rintro rfl
    decide

/-- What a decode gives for word w with two bits in error or fewer: all corrected. -/
def corrected (w e : BitVec 80) : Decoded :=
  { cls := (maskBits e).length, fixed := maskBits e, data := wordData w, poison := wordPoison w }

/-- What a decode gives for word w with three bits in error: the bits as stored. -/
def uncorrectable (w e : BitVec 80) : Decoded :=
  { cls := 3, fixed := [], data := wordData (w ^^^ e), poison := wordPoison (w ^^^ e) }

theorem Dev.decode_corrected (d : Dev) (few : (maskBits (x.err a)).length ≤ 2) :
    d.decode x a = (corrected (x.word a) (x.err a), d) := by
  unfold Dev.decode corrected
  dsimp only
  have cases : (maskBits (x.err a)).length = 0 ∨ (maskBits (x.err a)).length = 1 ∨ (maskBits (x.err a)).length = 2 := by omega
  rcases cases with n | n | n <;> rw [n]
  · rw [List.length_eq_zero_iff.1 n]
    rfl
  · rfl
  · rfl

theorem Dev.decode_uncorrectable (d : Dev) (three : (maskBits (x.err a)).length = 3) :
    d.decode x a = (uncorrectable (x.word a) (x.err a), d) := by
  unfold Dev.decode uncorrectable
  dsimp only
  rw [three]
  rfl

/-- Whatever a decode gives, it takes at most free values. -/
theorem Dev.decode_device (d : Dev) (x : BlockSt) (a : Nat) : ∃ n, (d.decode x a).2 = { d with freeCtr := n } := by
  unfold Dev.decode
  dsimp only
  split
  iterate 4 exact ⟨_, rfl⟩
  split <;> exact ⟨_, rfl⟩

/-- Only a word with four bits in error or more can be taken for another one. -/
theorem BlockSt.settle_few (r : Decoded) (few : (maskBits (x.err a)).length ≤ 3) : x.settle a r = x := by
  unfold BlockSt.settle
  rw [if_pos]
  simp [Nat.lt_succ_of_le few]

theorem BlockSt.settle_beside (x : BlockSt) (a : Nat) (r : Decoded) : x.Beside a (x.settle a r) := by
  unfold BlockSt.settle
  split
  · exact .refl a x
  · exact .of_tables _ _ (.inl rfl) rfl

/-- The block with hard faults noted: its words as they were. -/
def BlockSt.Noted (x y : BlockSt) : Prop := ∃ hard due, y = { x with hard := hard, hardDue := due }

theorem BlockSt.Noted.refl (x : BlockSt) : x.Noted x := ⟨x.hard, x.hardDue, rfl⟩

theorem BlockSt.Noted.beside (h : x.Noted y) : x.Beside a y := by
  obtain ⟨hard, due, rfl⟩ := h
  exact .refl a x

end Sys2Proof.Machine
end

section
/-! SUPPORT. Detections and visits of a word (R165 to R167, R172 to R175, R182): what they leave of the device, of the block and of its
counters. -/

namespace Sys2Proof.Machine

/-! ### What lies outside the blocks -/

/-- The registers of a block that detections and the bucket move: status, counters, bucket and last error. -/
def memSubs : List Nat := [1, 5, 6, 7, 0x0C]

/-- Block memories of own were accessed or maintained: nothing else moved but reports, free values and those blocks' registers. -/
structure Tended (own : Nat → Prop) (d e : Dev) : Prop where
  core : e.core = d.core
  env : e.env = d.env
  patrol : e.patrol = d.patrol
  softMap : e.nv.softMap = d.nv.softMap
  regs : ∀ i j, j < 256 → reportReg i j = false → (∀ m, own m → regsOf (0x4800 + m) memSubs i j = false) → e.rd i j = d.rd i j
  blocks : ∀ k, ¬ own k → e.block k = d.block k

theorem Tended.refl (own : Nat → Prop) (d : Dev) : Tended own d d :=
  ⟨rfl, rfl, rfl, rfl, fun _ _ _ _ _ => rfl, fun _ _ => rfl⟩

theorem Tended.trans {own : Nat → Prop} {d e f : Dev} (h : Tended own d e) (k : Tended own e f) : Tended own d f where
  core := k.core.trans h.core
  env := k.env.trans h.env
  patrol := k.patrol.trans h.patrol
  softMap := k.softMap.trans h.softMap
  regs := fun i j hj hr ho => (k.regs i j hj hr ho).trans (h.regs i j hj hr ho)
  blocks := fun m hm => (k.blocks m hm).trans (h.blocks m hm)

theorem Tended.mono {own all : Nat → Prop} {d e : Dev} (h : Tended own d e) (within : ∀ m, own m → all m) : Tended all d e :=
  { h with regs := fun i j hj hr ho => h.regs i j hj hr fun m hm => ho m (within m hm)
           blocks := fun k hk => h.blocks k fun ho => hk (within k ho) }

/-- A block reads as before where no block was stored. -/
theorem Dev.block_of_blocks {d e : Dev} (h : e.blocks = d.blocks) (m : Nat) : e.block m = d.block m := by
  unfold Dev.block
  rw [h]

theorem Tended.thimble {own : Nat → Prop} {d e : Dev} (h : Tended own d e) : e.thimble = d.thimble := by
  unfold Dev.thimble Dev.vaux
  rw [h.core, h.env]

/-- A register that no block has and no report moves. -/
theorem Tended.rd_low {own : Nat → Prop} {d e : Dev} (h : Tended own d e) {i j : Nat} (hi : i < 0x4800) (hj : j < 256)
    (hr : reportReg i j = false) : e.rd i j = d.rd i j :=
  h.regs i j hj hr fun m _ => by
    have apart : (i == 0x4800 + m) = false := by simp; omega
    simp [regsOf, apart]

/-- A register of the one block accessed, beside those that detections move. -/
theorem Tended.rd_own {d e : Dev} {m : Nat} (h : Tended (· = m) d e) {j : Nat} (hj : j < 256) (other : memSubs.contains j = false) :
    e.rd (0x4800 + m) j = d.rd (0x4800 + m) j := by
  refine h.regs _ j hj ?_ fun k hk => ?_
  · unfold reportReg
    simp
    omega
  · unfold regsOf
    rw [other, Bool.and_false]

variable (d : Dev) (m a : Nat)

theorem Reported.tended {d e : Dev} (h : Reported d e) (own : Nat → Prop) : Tended own d e where
  core := h.core
  env := h.env
  patrol := h.patrol
  softMap := (congrArg Nv.softMap h.nv :)
  regs := fun i j hj hr _ => h.regs i j hj hr
  blocks := fun k _ => Dev.block_of_blocks h.blocks k

theorem Dev.setBlock_tended (x : BlockSt) : Tended (· = m) d (d.setBlock m x) :=
  ⟨rfl, rfl, rfl, rfl, fun _ _ _ _ _ => rfl, fun k hk => d.block_setBlock_other m x k (Ne.symm hk)⟩

theorem Dev.wr_tended {j : Nat} (v : Word) (hj : memSubs.contains j = true) : Tended (· = m) d (d.wr (0x4800 + m) j v) where
  core := rfl
  env := rfl
  patrol := rfl
  softMap := rfl
  regs := by
    intro i' j' hj' _ ho
    refine d.rd_wr_other v fun e => ?_
    have small : j < 256 := by
      have cases : j ∈ memSubs := by simpa using hj
      simp only [memSubs, List.mem_cons, List.not_mem_nil, or_false] at cases
      omega
    obtain ⟨rfl, rfl⟩ := objKey_inj small hj' e
    have own := ho m rfl
    rw [regsOf, hj, Bool.and_true, beq_self_eq_true] at own
    exact absurd own (by decide)
  blocks := fun _ _ => rfl

theorem Dev.withFreeCtr_tended (own : Nat → Prop) (n : Nat) : Tended own d { d with freeCtr := n } :=
  ⟨rfl, rfl, rfl, rfl, fun _ _ _ _ _ => rfl, fun _ _ => rfl⟩

/-! ### Detections (R172 to R174, R182) -/

/-- A rise of the bucket moves its level and the block's status word, and reports. -/
theorem Dev.bucketAdd_tended (n : Nat) : Tended (· = m) d (d.bucketAdd m n) := by
  unfold Dev.bucketAdd
  dsimp only
  have level := d.wr_tended m (j := 7) (word (min 65535 (d.bucket m + n))) (by decide)
  split
  · exact ((level.trans (Dev.wr_tended _ m _ (by decide))).trans (Dev.wr_tended _ m _ (by decide))).trans
      ((Dev.notify_reported _ _ _).tended _)
  · exact level

theorem Dev.bucketAdd_blocks (n : Nat) : (d.bucketAdd m n).blocks = d.blocks := by
  unfold Dev.bucketAdd
  dsimp only
  split
  · rw [(Dev.notify_reported _ _ _).blocks]
    rfl
  · rfl

/-- Registers of one object are apart by their subindices. -/
theorem objKey_sub_ne {i j k : Nat} (h : j ≠ k) : objKey i j ≠ objKey i k := by
  unfold objKey
  omega

/-- Reports move no register of a block. -/
theorem Reported.rd_block {d e : Dev} (h : Reported d e) {j : Nat} (hj : j < 256) : e.rd (0x4800 + m) j = d.rd (0x4800 + m) j :=
  h.regs _ j hj (by unfold reportReg; simp; omega)

theorem Dev.bucketAdd_counter (n : Nat) {j : Nat} (hj : j = 5 ∨ j = 6) :
    (d.bucketAdd m n).rd (0x4800 + m) j = d.rd (0x4800 + m) j := by
  have level : (d.wrN (0x4800 + m) 7 (min 65535 (d.bucket m + n))).rd (0x4800 + m) j = d.rd (0x4800 + m) j :=
    d.rd_wr_other _ (objKey_sub_ne (by omega))
  unfold Dev.bucketAdd
  dsimp only
  split
  · rw [(Dev.notify_reported _ _ _).rd_block m (by omega), Dev.setFlag_eq, Dev.rd_wr_other _ _ (objKey_sub_ne (by omega)),
      Dev.complete_other _ _ _ (objKey_sub_ne (by omega)), level]
  · exact level

/-- BLOCK_LAST_ERROR as a detection at word a leaves it. -/
def Dev.lastErrorShown (r : Decoded) : Dev :=
  d.wrN (0x4800 + m) 0x0C
    (r.cls * 2 ^ 30 + ((d.block m).injected == some a).toNat * 2 ^ 29 + (!((d.block m).injected == some a) &&
        !(d.block m).writeback.contains a && r.cls ≠ 3 && (d.block m).isHard a r.fixed).toNat * 2 ^ 28 +
      a * 2 ^ 18 + (r.fixed[0]?).getD 0x7F * 2 ^ 11 + (r.fixed[1]?).getD 0x7F * 2 ^ 4)

/-- The count of a detection, and the rise of the bucket where the word is neither injected nor uncorrectable. -/
def Dev.detectionCounted (r : Decoded) : Dev :=
  let e := (d.lastErrorShown m a r).count (0x4800 + m) (if r.cls = 3 then 6 else 5) 32 1
  if (d.block m).injected == some a || r.cls = 3 then e else e.bucketAdd m (if r.cls = 1 then 1 else 4)

/-- A detection is shown, counted where no writeback is pending, and noted where it is a hard fault. -/
theorem Dev.detect_cases (r : Decoded) :
    ((d.block m).writeback.contains a = true ∧ d.detect m a r = d.lastErrorShown m a r) ∨
    ((d.block m).writeback.contains a = false ∧ (d.detect m a r = d.detectionCounted m a r ∨
      ∃ y, (d.block m).Noted y ∧
        d.detect m a r = (((d.detectionCounted m a r).setBlock m y).setFlag (0x4800 + m) 1 10 true).log 0x0703 m a)) := by
  unfold Dev.detect Dev.detectionCounted Dev.lastErrorShown
  dsimp only
  by_cases pending : (d.block m).writeback.contains a = true
  · exact .inl ⟨pending, if_pos pending⟩
  · refine .inr ⟨by simpa using pending, ?_⟩
    rw [if_neg pending]
    split
    · exact .inr ⟨_, ⟨_, _, rfl⟩, rfl⟩
    · exact .inl rfl

theorem Dev.lastErrorShown_tended (r : Decoded) : Tended (· = m) d (d.lastErrorShown m a r) := Dev.wr_tended _ _ _ (by decide)

theorem Dev.lastErrorShown_blocks (r : Decoded) : (d.lastErrorShown m a r).blocks = d.blocks := d.wr_blocks _ _ _

theorem Dev.detectionCounted_tended (r : Decoded) : Tended (· = m) d (d.detectionCounted m a r) := by
  unfold Dev.detectionCounted
  dsimp only
  have counted := (d.lastErrorShown_tended m a r).trans
    (Dev.wr_tended (d.lastErrorShown m a r) m (j := if r.cls = 3 then 6 else 5) (word
      (((d.lastErrorShown m a r).rdN (0x4800 + m) (if r.cls = 3 then 6 else 5) + 1) % 2 ^ 32)) (by split <;> decide))
  split
  · exact counted
  · exact counted.trans (Dev.bucketAdd_tended _ _ _)

theorem Dev.detectionCounted_blocks (r : Decoded) : (d.detectionCounted m a r).blocks = d.blocks := by
  unfold Dev.detectionCounted
  dsimp only
  have counted := (Dev.wr_blocks (d.lastErrorShown m a r) (0x4800 + m) (if r.cls = 3 then 6 else 5) (word
    (((d.lastErrorShown m a r).rdN (0x4800 + m) (if r.cls = 3 then 6 else 5) + 1) % 2 ^ 32))).trans (d.lastErrorShown_blocks m a r)
  split
  · exact counted
  · exact (Dev.bucketAdd_blocks _ _ _).trans counted

theorem Dev.detect_tended (r : Decoded) : Tended (· = m) d (d.detect m a r) := by
  rcases d.detect_cases m a r with ⟨-, h⟩ | ⟨-, h | ⟨y, -, h⟩⟩ <;> rw [h]
  · exact d.lastErrorShown_tended m a r
  · exact d.detectionCounted_tended m a r
  · exact (((d.detectionCounted_tended m a r).trans (Dev.setBlock_tended _ _ _)).trans (Dev.wr_tended _ m _ (by decide))).trans
      ((Dev.log_reported _ _ _ _).tended _)

/-- A detection changes no word of the block. -/
theorem Dev.detect_noted (r : Decoded) : (d.block m).Noted ((d.detect m a r).block m) := by
  rcases d.detect_cases m a r with ⟨-, h⟩ | ⟨-, h | ⟨y, noted, h⟩⟩ <;> rw [h]
  · rw [Dev.block_of_blocks (d.lastErrorShown_blocks m a r)]
    exact .refl _
  · rw [Dev.block_of_blocks (d.detectionCounted_blocks m a r)]
    exact .refl _
  · have flagged := Dev.wr_blocks ((d.detectionCounted m a r).setBlock m y) (0x4800 + m) 1
      (setBit (((d.detectionCounted m a r).setBlock m y).rd (0x4800 + m) 1) 10 true)
    rw [Dev.block_of_blocks (Dev.log_reported _ _ _ _).blocks, Dev.setFlag_eq, Dev.block_of_blocks flagged, Dev.block_setBlock_same]
    exact noted

/-- One detection of r at block m counted: as uncorrectable in .06, as corrected in .05. -/
def Counted (m : Nat) (r : Decoded) (d e : Dev) : Prop := ∀ j, j = 5 ∨ j = 6 →
  e.rdN (0x4800 + m) j =
    if j = (if r.cls = 3 then 6 else 5) then (d.rdN (0x4800 + m) j + 1) % 2 ^ 32 else d.rdN (0x4800 + m) j

theorem Counted.as_corrected {m : Nat} {r : Decoded} {d e : Dev} (h : Counted m r d e) (few : r.cls ≠ 3) :
    e.rdN (0x4800 + m) 5 = (d.rdN (0x4800 + m) 5 + 1) % 2 ^ 32 ∧ e.rdN (0x4800 + m) 6 = d.rdN (0x4800 + m) 6 := by
  unfold Counted at h
  rw [if_neg few] at h
  exact ⟨(h 5 (.inl rfl)).trans (if_pos rfl), (h 6 (.inr rfl)).trans (if_neg (by decide))⟩

theorem Counted.as_uncorrectable {m : Nat} {r : Decoded} {d e : Dev} (h : Counted m r d e) (three : r.cls = 3) :
    e.rdN (0x4800 + m) 6 = (d.rdN (0x4800 + m) 6 + 1) % 2 ^ 32 ∧ e.rdN (0x4800 + m) 5 = d.rdN (0x4800 + m) 5 := by
  unfold Counted at h
  rw [if_pos three] at h
  exact ⟨(h 6 (.inr rfl)).trans (if_pos rfl), (h 5 (.inl rfl)).trans (if_neg (by decide))⟩

theorem Dev.detectionCounted_counts (r : Decoded) : Counted m r d (d.detectionCounted m a r) := by
  intro j hj
  have shown : (d.lastErrorShown m a r).rdN (0x4800 + m) j = d.rdN (0x4800 + m) j :=
    Dev.rdN_wrN_other _ _ (objKey_sub_ne (by omega))
  have counted : ((d.lastErrorShown m a r).count (0x4800 + m) (if r.cls = 3 then 6 else 5) 32 1).rdN (0x4800 + m) j =
      if j = (if r.cls = 3 then 6 else 5) then (d.rdN (0x4800 + m) j + 1) % 2 ^ 32 else d.rdN (0x4800 + m) j := by
    by_cases same : j = (if r.cls = 3 then 6 else 5)
    · rw [if_pos same, ← same, Dev.rdN_count_same, shown]
    · rw [if_neg same, Dev.rdN_count_other _ _ _ (objKey_sub_ne (Ne.symm same)), shown]
  rw [← counted]
  unfold Dev.detectionCounted
  dsimp only
  split
  · rfl
  · exact congrArg BitVec.toNat (Dev.bucketAdd_counter _ _ _ hj)

/-- A detection that no writeback hides is counted once. -/
theorem Dev.detect_counts {r : Decoded} (fresh : (d.block m).writeback.contains a = false) : Counted m r d (d.detect m a r) := by
  rcases d.detect_cases m a r with ⟨pending, -⟩ | ⟨-, h | ⟨y, -, h⟩⟩
  · rw [fresh] at pending
    contradiction
  · rw [h]
    exact d.detectionCounted_counts m a r
  · intro j hj
    have flagged : (((d.detectionCounted m a r).setBlock m y).setFlag (0x4800 + m) 1 10 true).rd (0x4800 + m) j =
        (d.detectionCounted m a r).rd (0x4800 + m) j := Dev.rd_wr_other _ _ (objKey_sub_ne (by omega))
    rw [h, ← d.detectionCounted_counts m a r j hj]
    exact congrArg BitVec.toNat (((Dev.log_reported _ _ _ _).rd_block m (by omega)).trans flagged)

/-! ### Words poisoned (R167) -/

/-- The block whose uncorrectable word a now stands as w, with POISON set: its notice of the watch window is sent. -/
def BlockSt.poisoned (x : BlockSt) (a : Nat) (w : BitVec 80) : BlockSt := { x.store a w with sent702 := true }

theorem BlockSt.poisoned_word (x : BlockSt) (a : Nat) (w : BitVec 80) : (x.poisoned a w).word a = w := x.store_word a w
theorem BlockSt.poisoned_err (x : BlockSt) (a : Nat) (w : BitVec 80) : (x.poisoned a w).err a = 0 := x.store_err a w
theorem BlockSt.poisoned_beside (x : BlockSt) (a : Nat) (w : BitVec 80) : x.Beside a (x.poisoned a w) := x.store_beside a w

theorem Dev.poisonWord_reported (data : BitVec 64) :
    Reported (d.setBlock m ((d.block m).poisoned a (codeword true data))) (d.poisonWord m a data) := by
  unfold Dev.poisonWord
  dsimp only
  split
  · exact Dev.log_reported _ _ _ _
  · exact Dev.logNotify_reported _ _ _ _

theorem Dev.poisonWord_tended (data : BitVec 64) : Tended (· = m) d (d.poisonWord m a data) :=
  (d.setBlock_tended m _).trans ((d.poisonWord_reported m a data).tended _)

theorem Dev.poisonWord_block (data : BitVec 64) : (d.poisonWord m a data).block m = (d.block m).poisoned a (codeword true data) := by
  rw [Dev.block, (d.poisonWord_reported m a data).blocks]
  exact d.block_setBlock_same m _

/-- A word poisoned is reported, and moves no counter. -/
theorem Dev.poisonWord_counter (data : BitVec 64) {j : Nat} (hj : j < 256) :
    (d.poisonWord m a data).rdN (0x4800 + m) j = d.rdN (0x4800 + m) j :=
  congrArg BitVec.toNat ((d.poisonWord_reported m a data).rd_block m hj)

/-- The log after an entry of WEAR_PEAK, where there is one. -/
theorem Dev.peakCheck_log : d.peakCheck.nv.log = d.nv.log ∨ ∃ e, d.peakCheck.nv.log = (e :: d.nv.log).take 65536 := by
  unfold Dev.peakCheck
  split
  · obtain ⟨e, -, -, -, entered⟩ :=
      Dev.enterLog_log { d with nv := { d.nv with wearPeakSeen := d.wearLevel } } d.core.time 0x0262 0x2130 0
    exact .inr ⟨e, (congrArg Nv.log (Dev.notify_nv _ _ _)).trans entered⟩
  · exact .inl rfl

/-- While the Thimble runs an event that is logged stands in the log with its detail. -/
theorem Dev.log_mem_detail {d : Dev} (h : d.thimble = true) (reason inst detail : Nat) :
    ∃ e ∈ (d.log reason inst detail).nv.log, e.reason = reason ∧ e.inst = inst ∧ e.detail = detail := by
  have entered : ∃ e : LogEntry, e.reason = reason ∧ e.inst = inst ∧ e.detail = detail ∧
      (d.enterLog d.core.time reason inst detail).nv.log = (e :: d.nv.log).take 65536 := ⟨_, rfl, rfl, rfl, Dev.touchRaw_log _ _ _⟩
  obtain ⟨e, hr, hi, hd, newest⟩ := entered
  refine ⟨e, ?_, hr, hi, hd⟩
  unfold Dev.log Dev.logAt
  rw [if_pos h]
  rcases (d.enterLog d.core.time reason inst detail).peakCheck_log with same | ⟨e', more⟩
  · rw [same, newest]
    simp
  · rw [more, newest]
    simp

theorem Dev.poisonWord_mem {d : Dev} (h : d.thimble = true) (m a : Nat) (data : BitVec 64) :
    ∃ e ∈ (d.poisonWord m a data).nv.log, e.reason = 0x0702 ∧ e.inst = m ∧ e.detail = a := by
  have logged := Dev.log_mem_detail (d := d.setBlock m ((d.block m).poisoned a (codeword true data))) h 0x0702 m a
  unfold Dev.poisonWord
  dsimp only
  split
  · exact logged
  · rw [Dev.notify_nv]
    exact logged

/-! ### Words written back (R166, R182) -/

/-- The block whose corrected word a stands in its place, recorded among the last 8. -/
def BlockSt.writtenBack (x : BlockSt) (a : Nat) : BlockSt :=
  { x.store a (x.word a) with recent := ((a, maskBits (x.err a)) :: x.recent).take 8 }

theorem Dev.writeBack_eq : d.writeBack m a = d.setBlock m ((d.block m).writtenBack a) := rfl

theorem BlockSt.writtenBack_word (x : BlockSt) (a k : Nat) : (x.writtenBack a).word k = x.word k := x.store_same_word a k
theorem BlockSt.writtenBack_err (x : BlockSt) (a : Nat) : (x.writtenBack a).err a = 0 := x.store_err a (x.word a)
theorem BlockSt.writtenBack_beside (x : BlockSt) (a : Nat) : x.Beside a (x.writtenBack a) := x.store_beside a (x.word a)
theorem BlockSt.writtenBack_writeback (x : BlockSt) (a : Nat) : a ∉ (x.writtenBack a).writeback := x.store_writeback a (x.word a)
theorem BlockSt.writtenBack_recent (x : BlockSt) (a : Nat) : (x.writtenBack a).recent.head? = some (a, maskBits (x.err a)) := rfl

/-! ### Visits (R165, R166, R175) -/

/-- Word a decoded and the detection made, as a port and the maintenance path share them. -/
def Dev.inspect : Decoded × Dev :=
  let p := d.decode (d.block m) a
  let e := p.2.setBlock m ((d.block m).settle a p.1)
  (p.1, if p.1.cls = 0 then e else e.detect m a p.1)

theorem Dev.inspect_tended : Tended (· = m) d (d.inspect m a).2 := by
  obtain ⟨n, free⟩ := d.decode_device (d.block m) a
  have settled : Tended (· = m) d ((d.decode (d.block m) a).2.setBlock m ((d.block m).settle a (d.decode (d.block m) a).1)) := by
    rw [free]
    exact (d.withFreeCtr_tended _ n).trans (Dev.setBlock_tended _ _ _)
  unfold Dev.inspect
  dsimp only
  split
  · exact settled
  · exact settled.trans (Dev.detect_tended _ _ _ _)

/-- Hard faults are noted, and a word with four bits in error or more may be taken for another one. -/
theorem Dev.inspect_noted : ((d.block m).settle a (d.inspect m a).1).Noted ((d.inspect m a).2.block m) := by
  unfold Dev.inspect
  dsimp only
  split
  · rw [Dev.block_setBlock_same]
    exact .refl _
  · have noted := Dev.detect_noted ((d.decode (d.block m) a).2.setBlock m ((d.block m).settle a (d.decode (d.block m) a).1)) m a
      (d.decode (d.block m) a).1
    rwa [Dev.block_setBlock_same] at noted

theorem Dev.inspect_beside : (d.block m).Beside a ((d.inspect m a).2.block m) :=
  (BlockSt.settle_beside _ _ _).trans (d.inspect_noted m a).beside

/-- A word with three bits in error or fewer stays what it is. -/
theorem Dev.inspect_few (few : (maskBits ((d.block m).err a)).length ≤ 3) : (d.block m).Noted ((d.inspect m a).2.block m) := by
  have noted := d.inspect_noted m a
  rwa [BlockSt.settle_few _ few] at noted

theorem Dev.inspect_corrected (few : (maskBits ((d.block m).err a)).length ≤ 2) :
    (d.inspect m a).1 = corrected ((d.block m).word a) ((d.block m).err a) := by
  unfold Dev.inspect
  rw [d.decode_corrected few]

theorem Dev.inspect_uncorrectable (three : (maskBits ((d.block m).err a)).length = 3) :
    (d.inspect m a).1 = uncorrectable ((d.block m).word a) ((d.block m).err a) := by
  unfold Dev.inspect
  rw [d.decode_uncorrectable three]

theorem Dev.inspect_clean (clean : (d.block m).err a = 0) :
    d.inspect m a = (corrected ((d.block m).word a) 0, d.setBlock m (d.block m)) := by
  have none : (maskBits ((d.block m).err a)).length = 0 := by rw [clean]; decide
  unfold Dev.inspect
  dsimp only
  rw [BlockSt.settle_few _ (by omega), d.decode_corrected (by omega), clean]
  rfl

/-- An error in a word that no writeback hides is counted by its class. -/
theorem Dev.inspect_counts (few : (maskBits ((d.block m).err a)).length ≤ 3) (bad : (d.inspect m a).1.cls ≠ 0)
    (fresh : (d.block m).writeback.contains a = false) : Counted m (d.inspect m a).1 d (d.inspect m a).2 := by
  obtain ⟨n, free⟩ := d.decode_device (d.block m) a
  have settled := BlockSt.settle_few (d.inspect m a).1 few
  have seen : (d.inspect m a).2 = (({ d with freeCtr := n } : Dev).setBlock m (d.block m)).detect m a (d.inspect m a).1 := by
    calc (d.inspect m a).2
        = ((d.decode (d.block m) a).2.setBlock m ((d.block m).settle a (d.inspect m a).1)).detect m a (d.inspect m a).1 := if_neg bad
      _ = _ := by rw [settled, free]
  have counted := Dev.detect_counts (({ d with freeCtr := n } : Dev).setBlock m (d.block m)) m a (r := (d.inspect m a).1)
    (by rw [Dev.block_setBlock_same]; exact fresh)
  rw [seen]
  exact counted

/-- The device with the bits that word a lost since it was last accessed. -/
def Dev.struck (up : BitVec 80) : Dev := d.setBlock m ((d.block m).upset a up)

theorem Dev.struck_block (up : BitVec 80) : (d.struck m a up).block m = (d.block m).upset a up := d.block_setBlock_same m _

theorem Dev.struck_err (up : BitVec 80) : ((d.struck m a up).block m).err a = (d.block m).err a ^^^ up := by
  rw [Dev.struck_block, BlockSt.upset_err]

theorem Dev.struck_tended (up : BitVec 80) : Tended (· = m) d (d.struck m a up) := d.setBlock_tended m _

/-- A read leaves an uncorrectable word poisoned and a corrected one for its writeback. -/
theorem Dev.portRead_eq (up : BitVec 80) :
    d.portRead m a up =
      let p := (d.struck m a up).inspect m a
      if p.1.cls = 3 then (p.1, p.2.poisonWord m a p.1.data)
      else if p.1.cls = 0 || ((d.struck m a up).block m).writeback.contains a then p
      else (p.1, p.2.setBlock m { p.2.block m with writeback := (p.2.block m).writeback ++ [a] }) := rfl

/-- A visit with correction leaves an uncorrectable word poisoned and writes a corrected one back. -/
theorem Dev.scrubWord_eq (correct : Bool) :
    d.scrubWord m a correct =
      let p := d.inspect m a
      if !correct || p.1.cls = 0 then p
      else if p.1.cls = 3 then (p.1, p.2.poisonWord m a p.1.data)
      else (p.1, p.2.writeBack m a) := rfl

theorem Dev.portRead_tended (up : BitVec 80) : Tended (· = m) d (d.portRead m a up).2 := by
  have seen := (d.struck_tended m a up).trans ((d.struck m a up).inspect_tended m a)
  rw [Dev.portRead_eq]
  dsimp only
  split
  · exact seen.trans (Dev.poisonWord_tended _ _ _ _)
  · split
    · exact seen
    · exact seen.trans (Dev.setBlock_tended _ _ _)

theorem Dev.portRead_beside (up : BitVec 80) : (d.block m).Beside a ((d.portRead m a up).2.block m) := by
  have upset : (d.block m).Beside a ((d.struck m a up).block m) := by
    rw [Dev.struck_block]
    exact BlockSt.upset_beside _ _ _
  have seen := upset.trans ((d.struck m a up).inspect_beside m a)
  rw [Dev.portRead_eq]
  dsimp only
  split
  · rw [Dev.poisonWord_block]
    exact seen.trans (BlockSt.poisoned_beside _ _ _)
  · split
    · exact seen
    · rw [Dev.block_setBlock_same]
      exact seen

end Sys2Proof.Machine
end

section
/-! SUPPORT. Requests of a block's ports (R157 to R159, R165 to R168, R172): what each makes of its one word, its counts and its answer. -/

namespace Sys2Proof.Machine

variable {d : Dev} {m a : Nat} {b : Bool} {up : BitVec 80}

/-! ### Reads (R159, R165 to R167) -/

/-- STATUS of the response to a read that found r (R159). -/
def Decoded.status (r : Decoded) (badOp : Bool) : Nat :=
  r.poison.toNat * 128 + (if r.cls = 3 then 64 else 0) + (if r.cls = 1 || r.cls = 2 then 32 else 0) + badOp.toNat * 4

/-- A word struck by few bits keeps its value and what was pending for it. -/
theorem Dev.struck_noted (few : (maskBits ((d.block m).err a ^^^ up)).length ≤ 3) :
    ((d.block m).upset a up).Noted (((d.struck m a up).inspect m a).2.block m) := by
  have noted := (d.struck m a up).inspect_few m a (by rwa [Dev.struck_err])
  rwa [Dev.struck_block] at noted

theorem Dev.struck_corrected (few : (maskBits ((d.block m).err a ^^^ up)).length ≤ 2) :
    ((d.struck m a up).inspect m a).1 = corrected ((d.block m).word a) ((d.block m).err a ^^^ up) := by
  rw [Dev.inspect_corrected _ _ _ (by rwa [Dev.struck_err]), Dev.struck_err, Dev.struck_block, BlockSt.upset_word]

theorem Dev.struck_uncorrectable (three : (maskBits ((d.block m).err a ^^^ up)).length = 3) :
    ((d.struck m a up).inspect m a).1 = uncorrectable ((d.block m).word a) ((d.block m).err a ^^^ up) := by
  rw [Dev.inspect_uncorrectable _ _ _ (by rwa [Dev.struck_err]), Dev.struck_err, Dev.struck_block, BlockSt.upset_word]

/-- A read of a word without an error takes in what struck it, and nothing else. -/
theorem Dev.portRead_clean (clean : (d.block m).err a ^^^ up = 0) :
    d.portRead m a up = (corrected ((d.block m).word a) 0, (d.struck m a up).setBlock m ((d.block m).upset a up)) := by
  rw [Dev.portRead_eq, Dev.inspect_clean _ _ _ (by rwa [Dev.struck_err]), Dev.struck_block]
  rfl

/-- A read that corrects leaves the word for its writeback. -/
theorem Dev.portRead_corrected (few : (maskBits ((d.block m).err a ^^^ up)).length = 1 ∨ (maskBits ((d.block m).err a ^^^ up)).length = 2)
    (fresh : (d.block m).writeback.contains a = false) :
    d.portRead m a up = (corrected ((d.block m).word a) ((d.block m).err a ^^^ up),
      ((d.struck m a up).inspect m a).2.setBlock m { ((d.struck m a up).inspect m a).2.block m with
        writeback := (((d.struck m a up).inspect m a).2.block m).writeback ++ [a] }) := by
  have found := d.struck_corrected (m := m) (a := a) (up := up) (by omega)
  have cls : ((d.struck m a up).inspect m a).1.cls = (maskBits ((d.block m).err a ^^^ up)).length := congrArg Decoded.cls found
  have idle : ((d.struck m a up).block m).writeback.contains a = false := by
    rw [Dev.struck_block]
    exact fresh
  rw [Dev.portRead_eq]
  dsimp only
  rw [if_neg (by omega), idle, Bool.or_false, if_neg (by simp; omega), found]

/-- A read of an uncorrectable word poisons it. -/
theorem Dev.portRead_uncorrectable (three : (maskBits ((d.block m).err a ^^^ up)).length = 3) :
    d.portRead m a up = (uncorrectable ((d.block m).word a) ((d.block m).err a ^^^ up),
      ((d.struck m a up).inspect m a).2.poisonWord m a (wordData ((d.block m).word a ^^^ ((d.block m).err a ^^^ up)))) := by
  have found := d.struck_uncorrectable (m := m) (a := a) (up := up) three
  rw [Dev.portRead_eq]
  dsimp only
  rw [found]
  exact if_pos rfl

/-- A read that finds an error counts it as its class says. -/
theorem Dev.struck_counts (few : (maskBits ((d.block m).err a ^^^ up)).length ≤ 3)
    (bad : ((d.struck m a up).inspect m a).1.cls ≠ 0) (fresh : (d.block m).writeback.contains a = false) :
    Counted m ((d.struck m a up).inspect m a).1 d ((d.struck m a up).inspect m a).2 := by
  have idle : ((d.struck m a up).block m).writeback.contains a = false := by
    rw [Dev.struck_block]
    exact fresh
  exact Dev.inspect_counts _ _ _ (by rwa [Dev.struck_err]) bad idle

/-- What a read finds that it can correct is noted and counted in .05. -/
theorem Dev.struck_detects_corrected
    (few : (maskBits ((d.block m).err a ^^^ up)).length = 1 ∨ (maskBits ((d.block m).err a ^^^ up)).length = 2)
    (fresh : (d.block m).writeback.contains a = false) :
    ((d.block m).upset a up).Noted (((d.struck m a up).inspect m a).2.block m) ∧
    ((d.struck m a up).inspect m a).2.rdN (0x4800 + m) 5 = (d.rdN (0x4800 + m) 5 + 1) % 2 ^ 32 ∧
    ((d.struck m a up).inspect m a).2.rdN (0x4800 + m) 6 = d.rdN (0x4800 + m) 6 := by
  have cls : ((d.struck m a up).inspect m a).1.cls = (maskBits ((d.block m).err a ^^^ up)).length :=
    congrArg Decoded.cls (Dev.struck_corrected (by omega))
  exact ⟨Dev.struck_noted (by omega), (Dev.struck_counts (by omega) (by omega) fresh).as_corrected (by omega)⟩

/-- What a read finds uncorrectable is noted and counted in .06. -/
theorem Dev.struck_detects_uncorrectable (three : (maskBits ((d.block m).err a ^^^ up)).length = 3)
    (fresh : (d.block m).writeback.contains a = false) :
    ((d.block m).upset a up).Noted (((d.struck m a up).inspect m a).2.block m) ∧
    ((d.struck m a up).inspect m a).2.rdN (0x4800 + m) 6 = (d.rdN (0x4800 + m) 6 + 1) % 2 ^ 32 ∧
    ((d.struck m a up).inspect m a).2.rdN (0x4800 + m) 5 = d.rdN (0x4800 + m) 5 := by
  have cls : ((d.struck m a up).inspect m a).1.cls = 3 := congrArg Decoded.cls (Dev.struck_uncorrectable three)
  exact ⟨Dev.struck_noted (by omega), (Dev.struck_counts (by omega) (by omega) fresh).as_uncorrectable cls⟩

theorem corrected_status {w e : BitVec 80} (few : (maskBits e).length = 1 ∨ (maskBits e).length = 2) (badOp : Bool) :
    (corrected w e).status badOp = (wordPoison w).toNat * 128 + 32 + badOp.toNat * 4 := by
  unfold Decoded.status corrected
  rcases few with n | n <;> simp [n]

theorem corrected_clean_status (w : BitVec 80) (badOp : Bool) :
    (corrected w 0).status badOp = (wordPoison w).toNat * 128 + badOp.toNat * 4 := by
  unfold Decoded.status corrected
  rw [maskBits_eq_nil.2 rfl]
  simp

theorem uncorrectable_status (w e : BitVec 80) (badOp : Bool) :
    (uncorrectable w e).status badOp = (wordPoison (w ^^^ e)).toNat * 128 + 64 + badOp.toNat * 4 := by
  simp [Decoded.status, uncorrectable]

/-! What a port reaches, the blocks and the outputs, is all that a response and a block stored touch. -/

theorem Dev.emit_portOnly (d : Dev) (x : Output) (l : List (Nat × BlockSt)) (o : List Output) :
    { d.emit x with blocks := l, out := o } = { d with blocks := l, out := o } := rfl

theorem Dev.setBlock_portOnly (d : Dev) (m : Nat) (x : BlockSt) (l : List (Nat × BlockSt)) (o : List Output) :
    { d.setBlock m x with blocks := l, out := o } = { d with blocks := l, out := o } := rfl

theorem Dev.setBlock_rdN (d : Dev) (m : Nat) (x : BlockSt) (i j : Nat) : (d.setBlock m x).rdN i j = d.rdN i j := rfl

/-- A read is what it reads and the response. -/
theorem Dev.doRead_eq (d : Dev) (m : Nat) (b : Bool) (a : Nat) (up : BitVec 80) (badOp : Bool) :
    d.doRead m b a up badOp = (d.portRead m a up).2.emit (.token 3 (2 * m + b.toNat)
      ((d.portRead m a up).1.status badOp * 2 ^ 64 + (d.portRead m a up).1.data.toNat)) := rfl

section
variable (d : Dev) (m : Nat) (b : Bool) (a : Nat) (up : BitVec 80) (badOp : Bool)

theorem Dev.doRead_tended : Tended (· = m) d (d.doRead m b a up badOp) :=
  (d.portRead_tended m a up).trans ((Dev.emit_reported _ _).tended _)

theorem Dev.doRead_beside : (d.block m).Beside a ((d.doRead m b a up badOp).block m) := d.portRead_beside m a up

theorem Dev.doRead_nv : (d.doRead m b a up badOp).nv = (d.portRead m a up).2.nv := rfl
theorem Dev.doRead_block (k : Nat) : (d.doRead m b a up badOp).block k = (d.portRead m a up).2.block k := rfl
theorem Dev.doRead_rdN (i j : Nat) : (d.doRead m b a up badOp).rdN i j = (d.portRead m a up).2.rdN i j := rfl

theorem Dev.doRead_out : (d.doRead m b a up badOp).out = .token 3 (2 * m + b.toNat)
    ((d.portRead m a up).1.status badOp * 2 ^ 64 + (d.portRead m a up).1.data.toNat) :: (d.portRead m a up).2.out := rfl

end

/-- A read of a word without an error detects nothing. -/
theorem Dev.doRead_clean_portOnly (clean : (d.block m).err a ^^^ up = 0) (b badOp : Bool) :
    { d.doRead m b a up badOp with blocks := d.blocks, out := d.out } = d := by
  rw [Dev.doRead_eq, Dev.emit_portOnly, Dev.portRead_clean clean, Dev.setBlock_portOnly]
  exact d.setBlock_portOnly m _ _ _

/-! ### Writes (R158, R159, R168) -/

/-- The response to a write, where WRITE_RESP asks for it. -/
def Dev.answerWrite (d : Dev) (m : Nat) (b : Bool) (status : Nat) : Dev :=
  if portWriteResp (d.rd (0x4800 + m) 3) b then d.respond m b 0 status else d

theorem Dev.answerWrite_eq (d : Dev) (m : Nat) (b : Bool) (status : Nat) :
    d.answerWrite m b status = { d with
      out := (if portWriteResp (d.rd (0x4800 + m) 3) b then [.token 3 (2 * m + b.toNat) (status * 2 ^ 64)] else []) ++ d.out } := by
  unfold Dev.answerWrite
  split
  · simp [Dev.respond, Dev.emit]
  · rfl

theorem Dev.answerWrite_tended (d : Dev) (m : Nat) (b : Bool) (status : Nat) (own : Nat → Prop) :
    Tended own d (d.answerWrite m b status) := by
  unfold Dev.answerWrite
  split
  · exact (Dev.emit_reported _ _).tended own
  · exact .refl own d

theorem Dev.answerWrite_out (d : Dev) (m : Nat) (b : Bool) (status : Nat) :
    (d.answerWrite m b status).out =
      (if portWriteResp (d.rd (0x4800 + m) 3) b then [.token 3 (2 * m + b.toNat) (status * 2 ^ 64)] else []) ++ d.out := by
  rw [Dev.answerWrite_eq]

theorem Dev.answerWrite_portOnly (d : Dev) (m : Nat) (b : Bool) (status : Nat) (l : List (Nat × BlockSt)) (o : List Output) :
    { d.answerWrite m b status with blocks := l, out := o } = { d with blocks := l, out := o } := by
  rw [Dev.answerWrite_eq]

theorem Dev.answerWrite_block (d : Dev) (m : Nat) (b : Bool) (status k : Nat) : (d.answerWrite m b status).block k = d.block k := by
  rw [Dev.answerWrite_eq]
  rfl

theorem Dev.answerWrite_rdN (d : Dev) (m : Nat) (b : Bool) (status i j : Nat) : (d.answerWrite m b status).rdN i j = d.rdN i j := by
  rw [Dev.answerWrite_eq]
  rfl

/-- Word a stored afresh in the one block. -/
def Dev.storeWord (d : Dev) (m a : Nat) (w : BitVec 80) : Dev := d.setBlock m ((d.block m).store a w)

theorem Dev.storeWord_block (d : Dev) (m a : Nat) (w : BitVec 80) : (d.storeWord m a w).block m = (d.block m).store a w :=
  d.block_setBlock_same m _

theorem Dev.storeWord_rd (d : Dev) (m a : Nat) (w : BitVec 80) (i j : Nat) : (d.storeWord m a w).rd i j = d.rd i j := rfl
theorem Dev.storeWord_rdN (d : Dev) (m a : Nat) (w : BitVec 80) (i j : Nat) : (d.storeWord m a w).rdN i j = d.rdN i j := rfl
theorem Dev.storeWord_out (d : Dev) (m a : Nat) (w : BitVec 80) : (d.storeWord m a w).out = d.out := rfl

theorem Dev.storeWord_portOnly (d : Dev) (m a : Nat) (w : BitVec 80) (l : List (Nat × BlockSt)) (o : List Output) :
    { d.storeWord m a w with blocks := l, out := o } = { d with blocks := l, out := o } := d.setBlock_portOnly m _ l o

theorem Dev.storeWord_tended (d : Dev) (m a : Nat) (w : BitVec 80) : Tended (· = m) d (d.storeWord m a w) := d.setBlock_tended m _

/-- The device once a write has looked at the old word: only a partial one does, and it detects what it finds. -/
def Dev.looked (d : Dev) (m a : Nat) (be : BitVec 8) : Dev :=
  let p := d.decode (d.block m) a
  if be == 0xFF then d else if p.1.cls = 0 then p.2 else p.2.detect m a p.1

/-- A whole write does not look at the old word, and a partial one finds nothing in a word without an error. -/
theorem Dev.looked_plain {be : BitVec 8} (plain : be = 0xFF ∨ (d.block m).err a = 0) : d.looked m a be = d := by
  unfold Dev.looked
  dsimp only
  rcases plain with rfl | clean
  · rfl
  · rw [d.decode_corrected (by rw [clean]; decide), clean]
    exact ite_self d

/-- A partial write detects what it finds. -/
theorem Dev.looked_detects {be : BitVec 8} (partly : be ≠ 0xFF) (bad : (d.block m).err a ≠ 0)
    (few : (maskBits ((d.block m).err a)).length ≤ 3) :
    d.looked m a be = d.detect m a (d.decode (d.block m) a).1 := by
  have found : (maskBits ((d.block m).err a)).length ≠ 0 := fun empty => bad (maskBits_eq_nil.1 (List.length_eq_zero_iff.1 empty))
  unfold Dev.looked
  dsimp only
  rw [if_neg (by simpa using partly)]
  rcases Nat.lt_or_eq_of_le few with two | three
  · rw [d.decode_corrected (by omega)]
    exact if_neg found
  · rw [d.decode_uncorrectable three]
    exact if_neg (show (3 : Nat) ≠ 0 by decide)

theorem Dev.looked_tended (d : Dev) (m a : Nat) (be : BitVec 8) : Tended (· = m) d (d.looked m a be) := by
  obtain ⟨n, free⟩ := d.decode_device (d.block m) a
  unfold Dev.looked
  dsimp only
  rw [free]
  split
  · exact .refl _ d
  · split
    · exact d.withFreeCtr_tended _ n
    · exact (d.withFreeCtr_tended _ n).trans (Dev.detect_tended _ _ _ _)

theorem Dev.looked_noted (d : Dev) (m a : Nat) (be : BitVec 8) : (d.block m).Noted ((d.looked m a be).block m) := by
  obtain ⟨n, free⟩ := d.decode_device (d.block m) a
  unfold Dev.looked
  dsimp only
  rw [free]
  split
  · exact .refl _
  · split
    · exact .refl _
    · exact Dev.detect_noted ({ d with freeCtr := n } : Dev) m a _

/-- The old word as a write decodes it. -/
theorem Dev.struck_decode_corrected (few : (maskBits ((d.block m).err a ^^^ up)).length ≤ 2) :
    ((d.struck m a up).decode ((d.struck m a up).block m) a).1 = corrected ((d.block m).word a) ((d.block m).err a ^^^ up) := by
  rw [Dev.decode_corrected _ (by rwa [Dev.struck_err]), Dev.struck_err, Dev.struck_block, BlockSt.upset_word]

theorem Dev.struck_decode_uncorrectable (three : (maskBits ((d.block m).err a ^^^ up)).length = 3) :
    ((d.struck m a up).decode ((d.struck m a up).block m) a).1 =
      uncorrectable ((d.block m).word a) ((d.block m).err a ^^^ up) := by
  rw [Dev.decode_uncorrectable _ (by rwa [Dev.struck_err]), Dev.struck_err, Dev.struck_block, BlockSt.upset_word]

/-- POISON of the word that a write makes of the old one. -/
def Decoded.writePoison (r : Decoded) (be : BitVec 8) : Bool := !(be == 0xFF) && (r.cls = 3 || r.poison)

/-- The word that a write makes of the old one. -/
def Decoded.writeData (r : Decoded) (data : BitVec 64) (be : BitVec 8) : BitVec 64 :=
  if be == 0xFF then data else mergeBytes r.data data be

/-- The word that a write makes, with its POISON. -/
def Dev.madeWord (d : Dev) (m a : Nat) (data : BitVec 64) (be : BitVec 8) (up : BitVec 80) : Bool × BitVec 64 :=
  let r := ((d.struck m a up).decode ((d.struck m a up).block m) a).1
  (r.writePoison be, r.writeData data be)

theorem Dev.madeWord_whole (data : BitVec 64) : d.madeWord m a data 0xFF up = (false, data) := rfl

theorem Dev.madeWord_corrected {be : BitVec 8} (partly : be ≠ 0xFF) (few : (maskBits ((d.block m).err a ^^^ up)).length ≤ 2)
    (data : BitVec 64) : d.madeWord m a data be up =
      (wordPoison ((d.block m).word a), mergeBytes (wordData ((d.block m).word a)) data be) := by
  have two : (maskBits ((d.block m).err a ^^^ up)).length ≠ 3 := by omega
  unfold Dev.madeWord Decoded.writePoison Decoded.writeData
  rw [Dev.struck_decode_corrected few, beq_false_of_ne partly]
  simp [corrected, two]

theorem Dev.madeWord_uncorrectable {be : BitVec 8} (partly : be ≠ 0xFF) (three : (maskBits ((d.block m).err a ^^^ up)).length = 3)
    (data : BitVec 64) : d.madeWord m a data be up =
      (true, mergeBytes (wordData ((d.block m).word a ^^^ ((d.block m).err a ^^^ up))) data be) := by
  unfold Dev.madeWord Decoded.writePoison Decoded.writeData
  rw [Dev.struck_decode_uncorrectable three, beq_false_of_ne partly]
  rfl

/-- STATUS of the response to a write that stored a word with that POISON. -/
def writeStatus (bad : Bool) : Nat := bad.toNat * 136 + 16

section
variable (d : Dev) (m : Nat) (b : Bool) (a : Nat) (data : BitVec 64) (be : BitVec 8) (up : BitVec 80)

/-- A write is one word stored after the look at the old one, and its response. -/
theorem Dev.doWrite_eq :
    d.doWrite m b a data be up false =
      (((d.struck m a up).looked m a be).storeWord m a
        (codeword (d.madeWord m a data be up).1 (d.madeWord m a data be up).2)).answerWrite m b
          (writeStatus (d.madeWord m a data be up).1) := by
  have status (bad : Bool) : bad.toNat * 128 + 16 + bad.toNat * 8 + false.toNat * 4 = writeStatus bad := by cases bad <;> rfl
  rw [← status]
  rfl

theorem Dev.doWrite_tended :
    Tended (· = m) d (d.doWrite m b a data be up false) := by
  rw [Dev.doWrite_eq]
  exact (((d.struck_tended m a up).trans (Dev.looked_tended _ _ _ _)).trans (Dev.storeWord_tended _ _ _ _)).trans
    (Dev.answerWrite_tended _ _ _ _ _)

theorem Dev.doWrite_block :
    (d.doWrite m b a data be up false).block m = (((d.struck m a up).looked m a be).block m).store a
      (codeword (d.madeWord m a data be up).1 (d.madeWord m a data be up).2) := by
  rw [Dev.doWrite_eq, Dev.answerWrite_block, Dev.storeWord_block]

theorem Dev.doWrite_beside :
    (d.block m).Beside a ((d.doWrite m b a data be up false).block m) := by
  have noted := (d.struck m a up).looked_noted m a be
  rw [Dev.struck_block] at noted
  rw [Dev.doWrite_block]
  exact ((BlockSt.upset_beside _ _ _).trans noted.beside).trans (BlockSt.store_beside _ _ _)

theorem Dev.doWrite_rdN (i j : Nat) :
    (d.doWrite m b a data be up false).rdN i j = ((d.struck m a up).looked m a be).rdN i j := by
  rw [Dev.doWrite_eq, Dev.answerWrite_rdN, Dev.storeWord_rdN]

/-- The response goes out before everything that was out when the write had looked. -/
theorem Dev.doWrite_out :
    (d.doWrite m b a data be up false).out = (if portWriteResp (d.rd (0x4800 + m) 3) b then
      [.token 3 (2 * m + b.toNat) (writeStatus (d.madeWord m a data be up).1 * 2 ^ 64)] else []) ++
        ((d.struck m a up).looked m a be).out := by
  have config : ((d.struck m a up).looked m a be).rd (0x4800 + m) 3 = d.rd (0x4800 + m) 3 :=
    ((d.struck_tended m a up).trans (Dev.looked_tended _ _ _ _)).rd_own (by decide) (by decide)
  rw [Dev.doWrite_eq, Dev.answerWrite_out, Dev.storeWord_rd, config, Dev.storeWord_out]

end

/-- A write that finds nothing to detect reports nothing. -/
theorem Dev.doWrite_plain_portOnly {be : BitVec 8} (plain : be = 0xFF ∨ (d.block m).err a ^^^ up = 0) (b : Bool) (data : BitVec 64) :
    { d.doWrite m b a data be up false with blocks := d.blocks, out := d.out } = d := by
  rw [Dev.doWrite_eq, Dev.looked_plain (by rwa [Dev.struck_err]), Dev.answerWrite_portOnly, Dev.storeWord_portOnly]
  exact Dev.setBlock_portOnly _ _ _ _ _

/-- What a partial write finds in the old word is counted by its class. -/
theorem Dev.struck_looked_counts {be : BitVec 8} (partly : be ≠ 0xFF) (bad : (d.block m).err a ^^^ up ≠ 0)
    (few : (maskBits ((d.block m).err a ^^^ up)).length ≤ 3) (fresh : (d.block m).writeback.contains a = false) :
    Counted m ((d.struck m a up).decode ((d.struck m a up).block m) a).1 d ((d.struck m a up).looked m a be) := by
  rw [Dev.looked_detects partly (by rwa [Dev.struck_err]) (by rwa [Dev.struck_err])]
  refine (d.struck m a up).detect_counts m a ?_
  rw [Dev.struck_block]
  exact fresh

theorem Dev.doWritePoison_eq (d : Dev) (m : Nat) (b : Bool) (a : Nat) (data : BitVec 64) :
    d.doWritePoison m b a data = (d.storeWord m a (codeword true data)).answerWrite m b 144 := rfl

/-- A write with poison reports nothing. -/
theorem Dev.doWritePoison_portOnly (d : Dev) (m : Nat) (b : Bool) (a : Nat) (data : BitVec 64) :
    { d.doWritePoison m b a data with blocks := d.blocks, out := d.out } = d := by
  rw [Dev.doWritePoison_eq, Dev.answerWrite_portOnly, Dev.storeWord_portOnly]

/-! ### The requests (R157, R334) -/

section
variable {m : Fin 1536} {a : Fin 1024} {s : State} (live : s.dev.portOpen m.val b = true)
include live

theorem blockRead_reads (access : portAccess (s.dev.rd (0x4800 + m.val) 3) b ≠ 2) (data : BitVec 64) (be : BitVec 8) (badOp : Bool) :
    exec (.blockRead m b a data be badOp up) s = .next { s with dev := s.dev.doRead m.val b a.val up badOp } := by
  change execBlockRead m b a data be badOp up s = _
  unfold execBlockRead onDev
  simp [live, access]

theorem blockWrite_writes (writes : s.dev.core.writes = true) (access : portAccess (s.dev.rd (0x4800 + m.val) 3) b ≠ 1)
    (data : BitVec 64) (be : BitVec 8) :
    exec (.blockWrite m b a data be up) s = .next { s with dev := s.dev.doWrite m.val b a.val data be up false } := by
  change execBlockWrite m b a data be up s = _
  unfold execBlockWrite onDev
  simp [live, access, writes]

theorem blockWritePoison_writes (writes : s.dev.core.writes = true) (access : portAccess (s.dev.rd (0x4800 + m.val) 3) b ≠ 1)
    (data : BitVec 64) :
    exec (.blockWritePoison m b a data up) s = .next { s with dev := s.dev.doWritePoison m.val b a.val data } := by
  change execBlockWritePoison m b a data up s = _
  unfold execBlockWritePoison onDev
  simp [live, access, writes]

end

/-- CORRECTION_WRITEBACK of the first pending word. -/
theorem correctionWriteback_first {m : Fin 1536} {a : Nat} {rest : List Nat} {s : State}
    (pending : (s.dev.block m.val).writeback = a :: rest) :
    exec (.correctionWriteback m) s = .next { s with dev := s.dev.writeBack m.val a } := by
  change execCorrectionWriteback m s = _
  unfold execCorrectionWriteback onDev
  simp only [pending]

end Sys2Proof.Machine
end

section
/-! The statement about the ports of the block memories. -/

namespace Sys2Proof.Machine

/-- Settles O59: a read is one inspection of its word and what it leaves of it, a write one word stored after a look at the old one, and
every other word, block and register keeps its value by Tended and Beside. -/
theorem blockPorts : Obligations.BlockPorts := by
  unfold Obligations.BlockPorts
  refine ⟨?reads, ?writes, ?poisons, ?access, ?writeback⟩
  case reads =>
    intro m b a data be badOp up x e s live access hx he
    subst hx he
    have tended := s.dev.doRead_tended m.val b a.val up badOp
    refine ⟨_, blockRead_reads live access data be badOp, kept_withDev s _, tended.core, tended.blocks,
      s.dev.doRead_beside m.val b a.val up badOp, fun clean => ?_, fun few fresh => ?_, fun three fresh => ?_⟩
    · refine ⟨Dev.doRead_clean_portOnly clean b badOp, ?_⟩
      simp only [Dev.doRead_block, Dev.doRead_out, Dev.portRead_clean clean, corrected_clean_status, Dev.block_setBlock_same]
      exact ⟨rfl, (BlockSt.upset_err _ _ _).trans clean, rfl⟩
    · obtain ⟨⟨hard, due, noted⟩, corrections, losses⟩ := Dev.struck_detects_corrected few fresh
      simp only [Dev.doRead_block, Dev.doRead_rdN, Dev.doRead_out, List.head?_cons, Dev.portRead_corrected few fresh,
        Dev.block_setBlock_same, noted, Dev.setBlock_rdN, corrected_status few]
      exact ⟨rfl, BlockSt.upset_err _ _ _, rfl, corrections, losses, rfl⟩
    · obtain ⟨⟨hard, due, noted⟩, losses, corrections⟩ := Dev.struck_detects_uncorrectable three fresh
      have poisoned (j : Nat) (hj : j < 256) := Dev.poisonWord_counter ((s.dev.struck m.val a.val up).inspect m.val a.val).2 m.val a.val
        (wordData ((s.dev.block m.val).word a.val ^^^ ((s.dev.block m.val).err a.val ^^^ up))) hj
      simp only [Dev.doRead_block, Dev.doRead_rdN, Dev.doRead_out, List.head?_cons, Dev.doRead_nv, Dev.portRead_uncorrectable three,
        Dev.poisonWord_block, poisoned 5 (by decide), poisoned 6 (by decide), noted]
      rw [uncorrectable_status]
      refine ⟨BlockSt.poisoned_word _ _ _, BlockSt.poisoned_err _ _ _, losses, corrections, rfl, fun runs => ?_⟩
      have tended := (s.dev.struck_tended m.val a.val up).trans (Dev.inspect_tended _ m.val a.val)
      exact Dev.poisonWord_mem (tended.thimble.trans runs) _ _ _
  case writes =>
    intro m b a data be up x e s live writes access hx he few
    subst hx he
    have tended := s.dev.doWrite_tended m.val b a.val data be up
    have stored := s.dev.doWrite_block m.val b a.val data be up
    refine ⟨_, (s.dev.madeWord m.val a.val data be up).1, (s.dev.madeWord m.val a.val data be up).2,
      blockWrite_writes live writes access data be, kept_withDev s _, tended.core, tended.blocks,
      s.dev.doWrite_beside m.val b a.val data be up, ?_, ?_, ?_, ?_, fun whole => ?_, fun partly two => ?_, fun partly three => ?_,
      fun plain => ⟨s.dev.doWrite_plain_portOnly plain b data, ?_⟩,
      fun partly bad => ⟨fun answers => ?_, fun fresh => ⟨fun two => ?_, fun three => ?_⟩⟩⟩
    · rw [stored, BlockSt.store_word]
    · rw [stored, BlockSt.store_err]
    · rw [stored]
      exact BlockSt.store_writeback _ _ _
    · rw [stored]
      exact BlockSt.store_injected _ _ _
    · rw [whole, Dev.madeWord_whole]
      exact ⟨rfl, rfl⟩
    · rw [Dev.madeWord_corrected partly two]
      exact ⟨rfl, rfl⟩
    · rw [Dev.madeWord_uncorrectable partly three]
      exact ⟨rfl, rfl⟩
    · rw [Dev.doWrite_out, Dev.looked_plain (by rwa [Dev.struck_err])]
      rfl
    · rw [Dev.doWrite_out, if_pos answers]
      rfl
    · have counts := Dev.struck_looked_counts partly bad few fresh
      rw [Dev.struck_decode_corrected two] at counts
      rw [Dev.doWrite_rdN, Dev.doWrite_rdN]
      exact (counts.as_corrected (by show (maskBits _).length ≠ 3; omega)).symm
    · have counts := Dev.struck_looked_counts partly bad few fresh
      rw [Dev.struck_decode_uncorrectable three] at counts
      rw [Dev.doWrite_rdN, Dev.doWrite_rdN]
      exact (counts.as_uncorrectable rfl).symm
  case poisons =>
    intro m b a data up x s live writes access hx
    subst hx
    refine ⟨_, blockWritePoison_writes live writes access data, kept_withDev s _, s.dev.doWritePoison_portOnly m.val b a.val data, ?_⟩
    simp only [Dev.doWritePoison_eq, Dev.answerWrite_block, Dev.answerWrite_out, Dev.storeWord_block, Dev.storeWord_rd, Dev.storeWord_out]
    exact ⟨(s.dev.storeWord_tended _ _ _).blocks, BlockSt.store_beside _ _ _, BlockSt.store_word _ _ _, BlockSt.store_err _ _ _, rfl⟩
  case access =>
    intro m b a data be up s
    refine ⟨fun readOnly => ⟨?_, ?_⟩, fun writeOnly => ?_⟩
    · change execBlockWrite m b a data be up s = execBlockRead m b a data be false up s
      simp [execBlockWrite, execBlockRead, readOnly, onDev]
    · change execBlockWritePoison m b a data up s = execBlockRead m b a data be false up s
      simp [execBlockWritePoison, execBlockRead, readOnly, onDev]
    · change execBlockRead m b a data be false up s = execBlockWrite m b a data be up s
      simp [execBlockWrite, execBlockRead, writeOnly, onDev]
  case writeback =>
    intro m a rest x s hx pending
    subst hx
    refine ⟨_, correctionWriteback_first pending, kept_withDev s _, rfl, (s.dev.setBlock_tended m.val _).blocks, ?_⟩
    simp only [Dev.writeBack_eq, Dev.block_setBlock_same]
    exact ⟨BlockSt.writtenBack_word _ _, BlockSt.writtenBack_err _ _, fun k hk => (BlockSt.writtenBack_beside _ _ k hk).2,
      BlockSt.writtenBack_writeback _ _, BlockSt.writtenBack_recent _ _⟩

end Sys2Proof.Machine
end

section
/-! SUPPORT. The leak of the buckets (R173, R174): every bucket that holds a level goes down once, and no other register moves. -/

namespace Sys2Proof.Machine

/-! ### Keys that no entry of a table lists -/

theorem tabGet_unlisted {α : Type} (dflt : Nat → α) {t : List (Nat × α)} {k : Nat} (h : ∀ e ∈ t, e.1 ≠ k) :
    tabGet dflt t k = dflt k := by
  induction t with
  | nil => rfl
  | cons e t ih =>
    rw [tabGet, if_neg (h e List.mem_cons_self)]
    exact ih fun f hf => h f (List.mem_cons_of_mem _ hf)

theorem nodup_eraseDups (l : List Nat) : l.eraseDups.Nodup := by
  match l with
  | [] => exact List.nodup_nil
  | n :: l =>
    rw [List.eraseDups_cons, List.nodup_cons]
    exact ⟨by simp [List.mem_eraseDups], nodup_eraseDups _⟩
termination_by l.length
decreasing_by exact Nat.lt_succ_of_le (List.length_filter_le _ _)

/-- A bucket that nothing wrote is empty. -/
theorem regDefault_bucket {m : Nat} (h : m < 1536) : regDefault (objKey (0x4800 + m) 7) = 0 := by
  have index : objKey (0x4800 + m) 7 / 256 = 0x4800 + m := by unfold objKey; omega
  have sub : objKey (0x4800 + m) 7 % 256 = 7 := by unfold objKey; omega
  have spans : ∀ o ∈ page48, o.lo = 0x4800 ∧ o.hi = 0x4DFF := by decide
  have covers : ∀ o ∈ page48, o.covers (0x4800 + m) 7 = o.covers 0x4800 7 := by
    intro o ho
    obtain ⟨lo, hi⟩ := spans o ho
    have high : 0x4800 + m ≤ 0x4DFF := by omega
    simp [Desc.covers, lo, hi, high]
  have page : pageObjects ((0x4800 + m) / 256) = page48 := by
    have inside : 0x48 ≤ (0x4800 + m) / 256 ∧ (0x4800 + m) / 256 ≤ 0x4D := by omega
    generalize (0x4800 + m) / 256 = p at inside
    obtain ⟨low, high⟩ := inside
    interval_cases p <;> rfl
  have found : findDesc (0x4800 + m) 7 = some objBlockBucket := by
    have any : subExists (0x4800 + m) 7 = true := by simp [subExists]
    unfold findDesc
    rw [if_pos any, page, List.find?_congr covers]
    rfl
  unfold regDefault
  rw [index, sub]
  dsimp only
  iterate 6 rw [if_neg (by omega)]
  rw [found]
  rfl

variable (d : Dev) (m : Nat)

/-! ### One bucket -/

theorem Dev.leak_regsOnly (l : List (Nat × Word)) : { d.leak m with regs := l } = { d with regs := l } := by
  unfold Dev.leak
  dsimp only
  split <;> rfl

theorem Dev.leak_regsKept : RegsKept (regsOf (0x4800 + m) [1, 7]) d (d.leak m) := by
  have level := Dev.wr_regsKept d (0x4800 + m) 7 (word (d.bucket m - 1)) (by decide)
  have within {k : Nat} (hk : [1, 7].contains k = true) :
      ∀ i j, regsOf (0x4800 + m) [1, 7] i j = false → regsOf (0x4800 + m) [k] i j = false := by
    simp [regsOf] at hk ⊢
    omega
  unfold Dev.leak
  dsimp only
  split
  · exact level.trans (Dev.wr_regsKept _ (0x4800 + m) 1 _ (by decide)) (within rfl) (within rfl)
  · exact level.trans (.refl (regsOf (0x4800 + m) [1, 7]) _) (within rfl) (fun _ _ => id)

/-- Block m leaked between d and e: its level one lower, and armed again where that is half the threshold or less. -/
def Leaked (m : Nat) (d e : Dev) : Prop :=
  e.rd (0x4800 + m) 7 = word (d.rdN (0x4800 + m) 7 - 1) ∧
  (0 < d.rdN (0x4800 + m) 7 → d.rdN (0x4800 + m) 7 - 1 ≤ d.rdN 0x3700 2 / 2 → bit (e.rd (0x4800 + m) 1) 14 = true)

theorem Dev.leak_leaked : Leaked m d (d.leak m) := by
  have level : (d.wrN (0x4800 + m) 7 (d.bucket m - 1)).rd (0x4800 + m) 7 = word (d.rdN (0x4800 + m) 7 - 1) := d.rd_wr_same _ _ _
  have threshold : (d.wrN (0x4800 + m) 7 (d.bucket m - 1)).rdN 0x3700 2 = d.rdN 0x3700 2 :=
    d.rdN_wrN_other _ (by unfold objKey; omega)
  unfold Dev.leak
  dsimp only
  rw [threshold]
  split
  · exact ⟨(Dev.rd_wr_other _ _ (objKey_sub_ne (by decide))).trans level, fun _ _ => by
      rw [Dev.setFlag_eq, Dev.rd_wr_same]
      exact bit_setBit_same _ true (by decide)⟩
  · rename_i high
    exact ⟨level, fun _ low => absurd low high⟩

/-! ### All of them -/

/-- The leaks of several blocks, one after the other. -/
def Dev.leakAll (d : Dev) (l : List Nat) : Dev := l.foldl (fun e m => e.leak m) d

theorem Dev.leakAll_regsOnly (l : List Nat) (r : List (Nat × Word)) : { d.leakAll l with regs := r } = { d with regs := r } := by
  induction l generalizing d with
  | nil => rfl
  | cons n l ih => exact (ih (d.leak n)).trans (d.leak_regsOnly n r)

/-- Leaks move the levels and the status words of the blocks that leak. -/
theorem Dev.leakAll_regsKept (l : List Nat) :
    RegsKept (fun i j => l.any fun n => regsOf (0x4800 + n) [1, 7] i j) d (d.leakAll l) := by
  induction l generalizing d with
  | nil => exact .refl _ d
  | cons n l ih =>
    refine (d.leak_regsKept n).trans (ih (d.leak n)) (fun i j h => ?_) (fun i j h => ?_) <;>
      rw [List.any_cons, Bool.or_eq_false_iff] at h
    · exact h.1
    · exact h.2

theorem Leaked.of_kept {m : Nat} {d e f : Dev} (h : Leaked m d e) (level : f.rd (0x4800 + m) 7 = e.rd (0x4800 + m) 7)
    (status : f.rd (0x4800 + m) 1 = e.rd (0x4800 + m) 1) : Leaked m d f :=
  ⟨level.trans h.1, fun some low => status ▸ h.2 some low⟩

/-- Registers of a block beside those that leak stay. -/
theorem Dev.leakAll_other {l : List Nat} {i : Nat} (other : ∀ n ∈ l, i ≠ 0x4800 + n) {j : Nat} (hj : j < 256) :
    (d.leakAll l).rd i j = d.rd i j := by
  refine d.leakAll_regsKept l i j hj ?_
  rw [List.any_eq_false]
  intro n hn
  simp [regsOf, other n hn]

/-- Each block leaks once. -/
theorem Dev.leakAll_leaked {l : List Nat} {m : Nat} (once : l.Nodup) (h : m ∈ l) : Leaked m d (d.leakAll l) := by
  induction l generalizing d with
  | nil => exact absurd h List.not_mem_nil
  | cons n l ih =>
    obtain ⟨gone, once⟩ := List.nodup_cons.1 once
    by_cases same : m = n
    · subst same
      have apart : ∀ k ∈ l, 0x4800 + m ≠ 0x4800 + k := fun k hk e => gone (Nat.add_left_cancel e ▸ hk)
      exact (d.leak_leaked m).of_kept ((d.leak m).leakAll_other apart (by decide)) ((d.leak m).leakAll_other apart (by decide))
    · have later := ih (d.leak n) once ((List.mem_cons.1 h).resolve_left same)
      have level : (d.leak n).rdN (0x4800 + m) 7 = d.rdN (0x4800 + m) 7 :=
        congrArg BitVec.toNat (d.leak_regsKept n _ _ (by decide) (by simp [regsOf]; omega))
      have threshold : (d.leak n).rdN 0x3700 2 = d.rdN 0x3700 2 :=
        congrArg BitVec.toNat (d.leak_regsKept n _ _ (by decide) (by simp [regsOf]))
      unfold Leaked at later ⊢
      rwa [level, threshold] at later

theorem Dev.leaking_lt {m : Nat} (h : m ∈ d.leaking) : m < 1536 := by
  unfold Dev.leaking at h
  simp at h
  omega

/-- A bucket that does not leak holds nothing. -/
theorem Dev.rd_of_not_leaking {m : Nat} (hm : m < 1536) (h : m ∉ d.leaking) : d.rd (0x4800 + m) 7 = 0 := by
  refine (tabGet_unlisted _ fun e he key => h ?_).trans (regDefault_bucket hm)
  unfold objKey at key
  unfold Dev.leaking
  simp only [List.mem_eraseDups, List.mem_map, List.mem_filter]
  refine ⟨e, ⟨he, ?_⟩, ?_⟩
  · simp
    omega
  · omega

/-- At a leak instant every bucket goes down, an empty one to nothing. -/
theorem Dev.leaking_leaked {m : Nat} (hm : m < 1536) : Leaked m d (d.leakAll d.leaking) := by
  by_cases h : m ∈ d.leaking
  · exact d.leakAll_leaked (nodup_eraseDups _) h
  · have empty := d.rd_of_not_leaking hm h
    have kept : (d.leakAll d.leaking).rd (0x4800 + m) 7 = d.rd (0x4800 + m) 7 :=
      d.leakAll_other (fun n hn e => h ((Nat.add_left_cancel e : m = n) ▸ hn)) (by decide)
    unfold Leaked Dev.rdN
    rw [kept, empty]
    exact ⟨rfl, fun some => absurd some (by decide)⟩

theorem leakInstant_leaks (s : State) : exec .leakInstant s = .next { s with dev := s.dev.leakAll s.dev.leaking } := rfl

end Sys2Proof.Machine
end

section
/-! SUPPORT. The patrol, requested scrubs, repairs and flip injections (R175 to R187). -/

namespace Sys2Proof.Machine

variable (d : Dev) (m a : Nat)

/-! ### The patrol (R175) -/

theorem Dev.scrubWord_tended (correct : Bool) : Tended (· = m) d (d.scrubWord m a correct).2 := by
  have seen := d.inspect_tended m a
  rw [Dev.scrubWord_eq]
  dsimp only
  split
  · exact seen
  · split
    · exact seen.trans (Dev.poisonWord_tended _ _ _ _)
    · exact seen.trans (Dev.setBlock_tended _ _ _)

/-- What a visit of word a with correction leaves of block x: the words as they were, word a without an error. -/
structure BlockSt.Corrected (a : Nat) (x y : BlockSt) : Prop where
  words : ∀ k, y.word k = x.word k
  mended : y.err a = 0
  others : ∀ k, k ≠ a → y.err k = x.err k
  recent : x.err a ≠ 0 → y.recent.head? = some (a, maskBits (x.err a))

theorem BlockSt.Noted.corrected {x y : BlockSt} (h : x.Noted y) : x.Corrected a (y.writtenBack a) := by
  obtain ⟨hard, due, rfl⟩ := h
  exact ⟨BlockSt.writtenBack_word _ a, BlockSt.writtenBack_err _ a, fun k hk => (BlockSt.writtenBack_beside _ a k hk).2,
    fun _ => BlockSt.writtenBack_recent _ a⟩

theorem Dev.scrubWord_corrected (few : (maskBits ((d.block m).err a)).length ≤ 2) :
    (d.block m).Corrected a ((d.scrubWord m a true).2.block m) := by
  rw [Dev.scrubWord_eq]
  dsimp only
  by_cases clean : (d.block m).err a = 0
  · rw [Dev.inspect_clean _ _ _ clean, if_pos, Dev.block_setBlock_same]
    · exact ⟨fun _ => rfl, clean, fun _ _ => rfl, fun bad => absurd clean bad⟩
    · unfold corrected
      rw [maskBits_eq_nil.2 rfl]
      rfl
  · have found : (maskBits ((d.block m).err a)).length ≠ 0 := fun empty => clean (maskBits_eq_nil.1 (List.length_eq_zero_iff.1 empty))
    have cls : (d.inspect m a).1.cls = (maskBits ((d.block m).err a)).length := congrArg Decoded.cls (d.inspect_corrected m a few)
    rw [if_neg (by simp; omega), if_neg (by omega), Dev.writeBack_eq, Dev.block_setBlock_same]
    exact (d.inspect_few m a (by omega)).corrected a

/-- The word under the patrol visited, with the bits that it lost since it was last accessed. -/
def Dev.patrolWord (d : Dev) (up : BitVec 80) : Dev :=
  ((d.struck (d.patrol / 1024) (d.patrol % 1024) up).scrubWord (d.patrol / 1024) (d.patrol % 1024) true).2

theorem Dev.patrolWord_tended (up : BitVec 80) : Tended (· = d.patrol / 1024) d (d.patrolWord up) :=
  (d.struck_tended _ _ up).trans (Dev.scrubWord_tended _ _ _ true)

theorem Dev.patrolWord_corrected (up : BitVec 80)
    (few : (maskBits ((d.block (d.patrol / 1024)).err (d.patrol % 1024) ^^^ up)).length ≤ 2) :
    ((d.block (d.patrol / 1024)).upset (d.patrol % 1024) up).Corrected (d.patrol % 1024)
      ((d.patrolWord up).block (d.patrol / 1024)) := by
  have corrected := Dev.scrubWord_corrected (d.struck (d.patrol / 1024) (d.patrol % 1024) up) (d.patrol / 1024) (d.patrol % 1024)
    (by rwa [Dev.struck_err])
  rwa [Dev.struck_block] at corrected

/-- The patrol moves on by one word, and counts a pass at the last one. -/
def Dev.patrolOn (d : Dev) : Dev :=
  if d.patrol + 1 = 1536 * 1024 then ({ d with patrol := 0 }).count 0x3700 6 32 1 else { d with patrol := d.patrol + 1 }

theorem Dev.patrolOn_patrol : d.patrolOn.patrol = if d.patrol + 1 = 1536 * 1024 then 0 else d.patrol + 1 := by
  unfold Dev.patrolOn
  split <;> rfl

theorem Dev.patrolOn_core : d.patrolOn.core = d.core := by
  unfold Dev.patrolOn
  split <;> rfl

theorem Dev.patrolOn_blocks : d.patrolOn.blocks = d.blocks := by
  unfold Dev.patrolOn
  split <;> rfl

theorem Dev.patrolOn_passes (last : d.patrol + 1 = 1536 * 1024) : d.patrolOn.rdN 0x3700 6 = (d.rdN 0x3700 6 + 1) % 2 ^ 32 := by
  unfold Dev.patrolOn
  rw [if_pos last]
  exact Dev.rdN_count_same _ _ _ _

/-- PATROL_SCRUB_VISIT while no requested scrub runs and the patrol is on. -/
theorem patrolScrubVisit_visits {s : State} (runs : s.dev.thimble = true) (idle : s.dev.scrub = none)
    (pass : s.dev.rdN 0x3700 5 ≠ 0) (up : BitVec 80) :
    exec (.patrolScrubVisit up) s = .next { s with dev := (s.dev.patrolWord up).patrolOn } := by
  change execPatrolScrubVisit up s = _
  unfold execPatrolScrubVisit onDev
  simp only [runs, idle, pass]
  rfl

/-! ### Requested scrubs (R176, R179) -/

/-- A write that passes the ordered checks passes order 7, the object's own range. -/
theorem check_of_writeCheck {o : Desc} {act : Act} {w : Wr} {d : Dev} (h : writeCheck o act w d = 0) : act.check d w = 0 := by
  unfold writeCheck at h
  dsimp only at h
  split at h
  · contradiction
  · split at h
    · exact absurd h (by decide)
    · split at h
      · contradiction
      · rename_i passed
        exact not_not.1 passed

theorem scrubRequest_range {w : Wr} {d : Dev} (h : writeCheck objScrubRequest actScrubRequest w d = 0) :
    scrubFirst (objScrubRequest.valueOf w) ≤ scrubLast (objScrubRequest.valueOf w) ∧ scrubLast (objScrubRequest.valueOf w) < 1536 := by
  have passed : (if scrubLast (objScrubRequest.valueOf w) < scrubFirst (objScrubRequest.valueOf w) ||
      1535 < scrubLast (objScrubRequest.valueOf w) then 0x0721 else 0) = 0 := check_of_writeCheck h
  split at passed
  · exact absurd passed (by decide)
  · rename_i inside
    simp only [Bool.or_eq_true, decide_eq_true_eq] at inside
    omega

/-- The scrub that a request with value v starts. -/
def Dev.scrubOf (d : Dev) (v : Word) : ScrubReq where
  first := scrubFirst v
  last := scrubLast v
  correct := bit v 31
  accepted := d.core.time
  commitWait := d.scrubMeets (scrubFirst v) (scrubLast v)

/-- The registers of an accepted scrub request: BUSY set, REASON clear. -/
def Dev.scrubBusy (d : Dev) : Dev := (d.setFlag 0x3701 1 15 true).wrN 0x3701 3 0

theorem Dev.scrubBusy_status : bit (d.scrubBusy.rd 0x3701 1) 15 = true := by
  unfold Dev.scrubBusy Dev.wrN
  rw [Dev.rd_wr_other _ _ (objKey_sub_ne (by decide)), Dev.setFlag_eq, Dev.rd_wr_same]
  exact bit_setBit_same _ true (by decide)

theorem Dev.scrubBusy_reason : d.scrubBusy.rd 0x3701 3 = word 0 := Dev.rd_wr_same _ _ _ _

theorem Dev.scrubBusy_regsKept : RegsKept (regsOf 0x3701 [1, 3]) d d.scrubBusy :=
  (Dev.wr_regsKept d 0x3701 1 _ (by decide)).trans (Dev.wr_regsKept _ 0x3701 3 _ (by decide))
    (by simp [regsOf]; omega) (by simp [regsOf]; omega)

theorem Dev.scrubBusy_scrubOnly (q : Option ScrubReq) :
    { ({ d.scrubBusy with scrub := q } : Dev) with regs := d.regs, scrub := d.scrub } = d := rfl

theorem actScrubRequest_apply (w : Wr) :
    actScrubRequest.apply d w = { d.scrubBusy with scrub := some (d.scrubOf (objScrubRequest.valueOf w)) } := rfl

theorem scrubRequest_accepted {w : Wr} {s : State} (h : Accepted objScrubRequest actScrubRequest w s.dev) :
    exec (.scrubRequest w) s = .next { s with
      dev := { s.dev.scrubBusy with scrub := some (s.dev.scrubOf (objScrubRequest.valueOf w)) } } := by
  change execScrubRequest w s = _
  unfold execScrubRequest onDev
  rw [rowWrite_accepted _ _ h, actScrubRequest_apply]

/-- The words of the range upset since they were last accessed. -/
def Dev.upsets (d : Dev) (ups : List (Nat × Nat × BitVec 80)) : Dev :=
  ups.foldl (fun e u => if u.1 < 1536 && u.2.1 < 1024 then e.setBlock u.1 ((e.block u.1).upset u.2.1 u.2.2) else e) d

/-- The words that a scrub of q visits: those of its range that hold anything but the all-zero word. -/
def Dev.scrubTodo (d : Dev) (q : ScrubReq) : List (Nat × Nat) :=
  (d.blocks.filter (fun e => q.first ≤ e.1 && e.1 ≤ q.last)).flatMap (fun e => e.2.listed.map (fun a => (e.1, a)))

/-- What a scrub of q counts, and the device it leaves. -/
def Dev.rangeScrubbed (d : Dev) (q : ScrubReq) : ScrubSum × Dev :=
  (d.scrubTodo q).foldl (fun p k => Dev.scrubStep q.correct k.1 k.2 p) ({}, d)

/-- The completion of a scrub of q that counted n: the summary, REASON, SEQ and BUSY as one. -/
def Dev.scrubShown (d : Dev) (q : ScrubReq) (n : ScrubSum) : Dev :=
  ((({ d with scrub := none } : Dev).setBytes 0x3702 0 (scrubSummary q n d.core.time)).wrN 0x3701 3 0).complete 0x3701 1 14 (some 15)

theorem scrubComplete_scrubs {q : ScrubReq} {s : State} (scrub : s.dev.scrub = some q) (clear : s.dev.scrubMeets q.first q.last = false)
    (ups : List (Nat × Nat × BitVec 80)) :
    exec (.scrubComplete ups) s = .next { s with
      dev := ((s.dev.upsets ups).rangeScrubbed q).2.scrubShown q ((s.dev.upsets ups).rangeScrubbed q).1 } := by
  change execScrubComplete ups s = _
  unfold execScrubComplete onDev
  simp only [scrub, clear]
  rfl

theorem Dev.upsets_tended (ups : List (Nat × Nat × BitVec 80)) : Tended (fun _ => True) d (d.upsets ups) := by
  induction ups generalizing d with
  | nil => exact .refl _ d
  | cons u ups ih =>
    refine Tended.trans ?_ (ih (if u.1 < 1536 && u.2.1 < 1024 then d.setBlock u.1 ((d.block u.1).upset u.2.1 u.2.2) else d))
    split
    · exact (d.setBlock_tended u.1 _).mono fun _ _ => trivial
    · exact .refl _ d

theorem scrubSteps_tended (correct : Bool) (l : List (Nat × Nat)) (p : ScrubSum × Dev) :
    Tended (fun _ => True) p.2 (l.foldl (fun p k => Dev.scrubStep correct k.1 k.2 p) p).2 := by
  induction l generalizing p with
  | nil => exact .refl _ _
  | cons k l ih =>
    have step : Tended (· = k.1) p.2 (Dev.scrubStep correct k.1 k.2 p).2 := p.2.scrubWord_tended k.1 k.2 correct
    exact (step.mono fun _ _ => trivial).trans (ih _)

theorem Dev.rangeScrubbed_tended (q : ScrubReq) : Tended (fun _ => True) d (d.rangeScrubbed q).2 := scrubSteps_tended _ _ ({}, d)

/-- An empty memory gives an empty summary. -/
theorem Dev.rangeScrubbed_empty {d : Dev} (empty : d.blocks = []) (q : ScrubReq) : (d.rangeScrubbed q).1 = {} := by
  unfold Dev.rangeScrubbed Dev.scrubTodo
  rw [empty]
  rfl

theorem Dev.scrubShown_core (q : ScrubReq) (n : ScrubSum) : (d.scrubShown q n).core = d.core := rfl
theorem Dev.scrubShown_scrub (q : ScrubReq) (n : ScrubSum) : (d.scrubShown q n).scrub = none := rfl

theorem Dev.scrubShown_summary (q : ScrubReq) (n : ScrubSum) :
    (d.scrubShown q n).bytesOf 0x3702 0 = scrubSummary q n d.core.time :=
  tabGet_tabSet_same (fun _ => []) d.strs (objKey 0x3702 0) (scrubSummary q n d.core.time)

theorem Dev.scrubShown_reason (q : ScrubReq) (n : ScrubSum) : (d.scrubShown q n).rd 0x3701 3 = word 0 :=
  (Dev.complete_other _ _ _ (objKey_sub_ne (by decide))).trans (Dev.rd_wr_same _ _ _ _)

/-- The status word as a scrub completes: UNACKED set, BUSY clear, SEQ one further. -/
theorem Dev.scrubShown_status (q : ScrubReq) (n : ScrubSum) :
    bit ((d.scrubShown q n).rd 0x3701 1) 14 = true ∧ bit ((d.scrubShown q n).rd 0x3701 1) 15 = false ∧
      bits ((d.scrubShown q n).rd 0x3701 1) 31 16 = nextSeq (bits (d.rd 0x3701 1) 31 16) := by
  have before : ((({ d with scrub := none } : Dev).setBytes 0x3702 0 (scrubSummary q n d.core.time)).wrN 0x3701 3 0).rd 0x3701 1 =
      d.rd 0x3701 1 := Dev.rd_wr_other _ _ (objKey_sub_ne (by decide))
  have shown : (d.scrubShown q n).rd 0x3701 1 =
      setBit (setBit (setBits (d.rd 0x3701 1) 31 16 (nextSeq (bits (d.rd 0x3701 1) 31 16))) 14 true) 15 false := by
    refine (Dev.complete_word _ _ _ _ _).trans ?_
    rw [before]
  rw [shown]
  refine ⟨?_, bit_setBit_same _ false (by decide), ?_⟩
  · rw [bit_setBit_other _ _ (by decide)]
    exact bit_setBit_same _ true (by decide)
  · rw [bits_setBit_other _ _ (by decide), bits_setBit_other _ _ (by decide), bits_setBits_same _ _ (by decide)]
    exact Nat.mod_eq_of_lt (nextSeq_lt (bits_lt _ _ _))

/-! ### Repairs (R183 to R185) -/

theorem Dev.startRepair_block (column : Bool) (n : Nat) :
    (d.startRepair m column n).block m = { d.block m with repair := some (column, n) } := d.block_setBlock_same m _

theorem Dev.startRepair_block_other (column : Bool) (n : Nat) {k : Nat} (h : k ≠ m) :
    (d.startRepair m column n).block k = d.block k := d.block_setBlock_other m _ k h.symm

theorem Dev.startRepair_busy (column : Bool) (n : Nat) : bit ((d.startRepair m column n).rd (0x4800 + m) 1) 13 = true := by
  unfold Dev.startRepair
  rw [Dev.setFlag_eq, Dev.rd_wr_same]
  exact bit_setBit_same _ true (by decide)

theorem Dev.startRepair_regsKept (column : Bool) (n : Nat) :
    RegsKept (regsOf (0x4800 + m) [1]) d (d.startRepair m column n) :=
  Dev.wr_regsKept (d.setBlock m { d.block m with repair := some (column, n) }) (0x4800 + m) 1 _ (by decide)

theorem Dev.startRepair_repairOnly (column : Bool) (n : Nat) (r : List (Nat × Word)) (l : List (Nat × BlockSt)) :
    { d.startRepair m column n with regs := r, blocks := l } = { d with regs := r, blocks := l } := rfl

/-- BLOCK_REPAIR written and accepted. -/
theorem blockRepair_written {m : Fin 1536} {w : Wr} {s : State} (h : Accepted objBlockRepair (actBlockRepair m.val) w s.dev) :
    exec (.blockRepair m (some w)) s = .next { s with
      dev := s.dev.startRepair m.val (bits (objBlockRepair.valueOf w) 31 30 == 2) (bits (objBlockRepair.valueOf w) 8 0) } := by
  change execBlockRepair m (some w) s = _
  unfold execBlockRepair onDev
  dsimp only
  rw [rowWrite_accepted _ _ h]
  rfl

/-- The automatic repair of the oldest hard fault of a block that awaits one. -/
theorem blockRepair_automatic {m : Fin 1536} {s : State} {row col : Nat} {due : List (Nat × Nat)} {column : Bool}
    (runs : s.dev.thimble = true) (awaits : (s.dev.block m.val).hardDue = (row, col) :: due) (auto : s.dev.rdN 0x3700 4 ≠ 0)
    (on : (s.dev.block m.val).noAuto = false) (idle : (s.dev.block m.val).repair = none)
    (kind : column = (s.dev.block m.val).hard.any (fun e => e.2 == col && !(e.1 == row)))
    (spare : noSpare (s.dev.rd (0x4800 + m.val) 8) column = false) :
    exec (.blockRepair m none) s = .next { s with dev := s.dev.startRepair m.val column (if column then col else row) } := by
  subst kind
  change execBlockRepair m none s = _
  unfold execBlockRepair onDev Dev.autoRepair
  simp [runs, awaits, auto, on, idle, spare]

/-- The block with word a copied as w into the spare: into a spare row whole, into a spare column its bit i alone. -/
def BlockSt.copied (x : BlockSt) (a : Nat) (w : BitVec 80) : Option Nat → BlockSt
  | none => x.store a w
  | some i =>
    let one : BitVec 80 := BitVec.ofNat 80 (2 ^ i)
    { x with errs := tabSet (fun _ => 0) x.errs a ((x.err a &&& ~~~ one) ||| ((w ^^^ x.word a) &&& one)) }

theorem BlockSt.copied_hardDue (x : BlockSt) (a : Nat) (w : BitVec 80) (column : Option Nat) :
    (x.copied a w column).hardDue = x.hardDue := by
  cases column <;> rfl

/-- A copy of one word: none is needed, the word is poisoned, or it is stored; what awaits a repair stays. -/
theorem Dev.copyWord_cases (column : Option Nat) :
    d.copyWord m a column = d ∨ (∃ n data, d.copyWord m a column = ({ d with freeCtr := n } : Dev).poisonWord m a data) ∨
      ∃ n w, d.copyWord m a column = ({ d with freeCtr := n } : Dev).setBlock m ((d.block m).copied a w column) := by
  obtain ⟨n, free⟩ := d.decode_device (d.block m) a
  unfold Dev.copyWord
  dsimp only
  rw [free]
  split
  · exact .inl rfl
  · split
    · exact .inr (.inl ⟨_, _, rfl⟩)
    · refine .inr (.inr ⟨n, codeword (d.decode (d.block m) a).1.poison (d.decode (d.block m) a).1.data, ?_⟩)
      cases column <;> rfl

theorem BlockSt.poisoned_hardDue (x : BlockSt) (a : Nat) (w : BitVec 80) : (x.poisoned a w).hardDue = x.hardDue := rfl

theorem Dev.withFreeCtr_block (n : Nat) : ({ d with freeCtr := n } : Dev).block m = d.block m := rfl

/-- A copy of one word tends the block and keeps the hard faults that await their repair. -/
theorem Dev.copyWord_tended (column : Option Nat) :
    Tended (· = m) d (d.copyWord m a column) ∧ ((d.copyWord m a column).block m).hardDue = (d.block m).hardDue := by
  rcases d.copyWord_cases m a column with h | ⟨n, data, h⟩ | ⟨n, w, h⟩ <;> rw [h]
  · exact ⟨.refl _ d, rfl⟩
  · refine ⟨(d.withFreeCtr_tended _ n).trans (Dev.poisonWord_tended _ _ _ _), ?_⟩
    rw [Dev.poisonWord_block, BlockSt.poisoned_hardDue, Dev.withFreeCtr_block]
  · refine ⟨(d.withFreeCtr_tended _ n).trans (Dev.setBlock_tended _ _ _), ?_⟩
    rw [Dev.block_setBlock_same, BlockSt.copied_hardDue]

/-- The words of a row or column copied into its spare. -/
def Dev.spareFilled (d : Dev) (m : Nat) (column : Bool) (n : Nat) : Dev :=
  (repairWords column n).foldl (fun e a => e.copyWord m a (if column then some (n / 4) else none)) d

theorem copies_tended (column : Option Nat) (l : List Nat) :
    Tended (· = m) d (l.foldl (fun e a => e.copyWord m a column) d) ∧
      ((l.foldl (fun e a => e.copyWord m a column) d).block m).hardDue = (d.block m).hardDue := by
  induction l generalizing d with
  | nil => exact ⟨.refl _ d, rfl⟩
  | cons a l ih =>
    obtain ⟨tended, due⟩ := d.copyWord_tended m a column
    obtain ⟨rest, left⟩ := ih (d.copyWord m a column)
    exact ⟨tended.trans rest, left.trans due⟩

theorem Dev.spareFilled_tended (column : Bool) (n : Nat) : Tended (· = m) d (d.spareFilled m column n) :=
  (copies_tended d m (if column then some (n / 4) else none) (repairWords column n)).1

theorem Dev.spareFilled_hardDue (column : Bool) (n : Nat) : ((d.spareFilled m column n).block m).hardDue = (d.block m).hardDue :=
  (copies_tended d m (if column then some (n / 4) else none) (repairWords column n)).2

/-- The block whose repair of row or column n is done. -/
def BlockSt.repaired (x : BlockSt) (column : Bool) (n : Nat) : BlockSt :=
  { x with repair := none, hardDue := x.hardDue.filter (fun e => (if column then e.2 else e.1) != n) }

/-- BLOCK_SPARES with one spare of the kind more in service. -/
def spareTaken (sp : Word) (column : Bool) : Word :=
  if column then setBits sp 5 4 (bits sp 5 4 + 1) else setBits sp 11 8 (bits sp 11 8 + 1)

/-- The repair of row or column n done, once its words are copied: the block, its status and its spares. -/
def Dev.repaired (d : Dev) (m : Nat) (column : Bool) (n : Nat) : Dev :=
  let x := (d.block m).repaired column n
  let e := (((d.setBlock m x).setFlag (0x4800 + m) 1 13 false).setFlag (0x4800 + m) 1 10 (!x.hardDue.isEmpty))
  e.wr (0x4800 + m) 8 (spareTaken (e.rd (0x4800 + m) 8) column)

/-- The entries in the log of a repair that is done. -/
def Dev.repairLogged (d : Dev) (m : Nat) (column : Bool) (n : Nat) (mapFails : Bool) : Dev :=
  let e := d.log (if column then 0x0711 else 0x0710) m n
  if mapFails then e.log 0x0715 m 0 else e

/-- The soft-repair map with more entries. -/
def Dev.softMapped (d : Dev) (l : List (Nat × Bool × Nat)) : Dev := { d with nv := { d.nv with softMap := d.nv.softMap ++ l } }

theorem blockRepairComplete_repairs {m : Fin 1536} {column : Bool} {n : Nat} {s : State}
    (busy : (s.dev.block m.val).repair = some (column, n)) (mapFails : Bool) :
    exec (.blockRepairComplete m mapFails) s = .next { s with
      dev := (((s.dev.spareFilled m.val column n).repaired m.val column n).repairLogged m.val column n mapFails).softMapped
        (if mapFails then [] else [(m.val, column, n)]) } := by
  have unmapped (e : Dev) : e.softMapped [] = e := by
    unfold Dev.softMapped
    rw [List.append_nil]
  change execBlockRepairComplete m mapFails s = _
  unfold execBlockRepairComplete onDev
  simp only [busy]
  cases mapFails
  · rfl
  · rw [if_pos rfl, if_pos rfl, unmapped]
    rfl

theorem Dev.repaired_block (column : Bool) (n : Nat) : (d.repaired m column n).block m = (d.block m).repaired column n :=
  d.block_setBlock_same m _

theorem Dev.repaired_block_other (column : Bool) (n : Nat) {k : Nat} (h : k ≠ m) : (d.repaired m column n).block k = d.block k :=
  d.block_setBlock_other m _ k h.symm

theorem Dev.repaired_status (column : Bool) (n : Nat) : (d.repaired m column n).rd (0x4800 + m) 1 =
    setBit (setBit (d.rd (0x4800 + m) 1) 13 false) 10 (!((d.block m).repaired column n).hardDue.isEmpty) := by
  unfold Dev.repaired
  dsimp only
  rw [Dev.rd_wr_other _ _ (objKey_sub_ne (by decide)), Dev.setFlag_eq, Dev.rd_wr_same, Dev.setFlag_eq, Dev.rd_wr_same, Dev.setBlock_rd]

/-- REPAIR_BUSY clears, and HARD_PENDING stays where another hard fault awaits its repair. -/
theorem Dev.repaired_flags (column : Bool) (n : Nat) :
    bit ((d.repaired m column n).rd (0x4800 + m) 1) 13 = false ∧
      bit ((d.repaired m column n).rd (0x4800 + m) 1) 10 = !((d.block m).repaired column n).hardDue.isEmpty := by
  rw [Dev.repaired_status]
  refine ⟨?_, bit_setBit_same _ _ (by decide)⟩
  rw [bit_setBit_other _ _ (by decide)]
  exact bit_setBit_same _ false (by decide)

theorem Dev.repaired_spares (column : Bool) (n : Nat) :
    (d.repaired m column n).rd (0x4800 + m) 8 = spareTaken (d.rd (0x4800 + m) 8) column := by
  unfold Dev.repaired
  dsimp only
  rw [Dev.rd_wr_same, Dev.setFlag_eq, Dev.rd_wr_other _ _ (objKey_sub_ne (by decide)), Dev.setFlag_eq,
    Dev.rd_wr_other _ _ (objKey_sub_ne (by decide)), Dev.setBlock_rd]

theorem Dev.repairLogged_reported (column : Bool) (n : Nat) (mapFails : Bool) :
    Reported d (d.repairLogged m column n mapFails) := by
  unfold Dev.repairLogged
  dsimp only
  split
  · exact (Dev.log_reported _ _ _ _).trans (Dev.log_reported _ _ _ _)
  · exact Dev.log_reported _ _ _ _

theorem Dev.repaired_thimble (column : Bool) (n : Nat) : (d.repaired m column n).thimble = d.thimble := rfl

theorem Dev.repairLogged_mem {d : Dev} (h : d.thimble = true) (m : Nat) (column : Bool) (n : Nat) :
    ∃ e ∈ (d.repairLogged m column n false).nv.log, e.reason = (if column then 0x0711 else 0x0710) ∧ e.inst = m ∧ e.detail = n :=
  Dev.log_mem_detail h _ _ _

/-! ### Flip injections (R187) -/

/-- The block with word a stored afresh, struck by a mask, and injected. -/
def BlockSt.injectedAt (x : BlockSt) (a : Nat) (mask : BitVec 80) : BlockSt :=
  { (x.store a (codeword (wordPoison (x.word a)) (wordData (x.word a)))).upset a mask with injected := some a }

theorem BlockSt.injectedAt_word (x : BlockSt) (a : Nat) (mask : BitVec 80) :
    (x.injectedAt a mask).word a = codeword (wordPoison (x.word a)) (wordData (x.word a)) := x.store_word a _

theorem BlockSt.injectedAt_err (x : BlockSt) (a : Nat) (mask : BitVec 80) : (x.injectedAt a mask).err a = mask := by
  have stored := x.store_err a (codeword (wordPoison (x.word a)) (wordData (x.word a)))
  refine (BlockSt.upset_err _ a mask).trans ?_
  rw [stored]
  exact BitVec.zero_xor

theorem BlockSt.injectedAt_beside (x : BlockSt) (a : Nat) (mask : BitVec 80) : x.Beside a (x.injectedAt a mask) := fun k hk =>
  ((x.store_beside a (codeword (wordPoison (x.word a)) (wordData (x.word a)))).trans (BlockSt.upset_beside _ a mask)) k hk

theorem Dev.setBlock_blocksOnly (x : BlockSt) : { d.setBlock m x with blocks := d.blocks } = d := rfl

/-- FLIP_INJECT at a word whose errors a decode corrects. -/
theorem flipInject_accepted {m : Fin 1536} {w : Wr} {s : State} {a : Nat} (h : Accepted objBlockFlipInject (actFlipInject m.val) w s.dev)
    (ha : a = bits (objBlockFlipInject.valueOf w) 9 0) (few : (maskBits ((s.dev.block m.val).err a)).length ≤ 2) :
    exec (.flipInject m w) s = .next { s with dev := s.dev.setBlock m.val ((s.dev.block m.val).injectedAt a
      (BitVec.ofNat 80 (bits (objBlockFlipInject.valueOf w) 31 16 * 2 ^ 64 + s.dev.rdN (0x4800 + m.val) 0x0A))) } := by
  subst ha
  change execFlipInject m w s = _
  unfold execFlipInject onDev
  rw [rowWrite_accepted _ _ h]
  unfold actFlipInject
  dsimp only
  rw [s.dev.decode_corrected few]
  rfl

end Sys2Proof.Machine
end

section
/-! The statement about the maintenance of the block memories. -/

namespace Sys2Proof.Machine

/-- Settles O60: leaks, visits, scrubs and repairs are each named by what they do to the device (leakAll, patrolWord, scrubShown,
startRepair, repaired, injectedAt), and what a visit leaves beside its block is Tended. -/
theorem blockMaintenance : Obligations.BlockMaintenance := by
  unfold Obligations.BlockMaintenance
  refine ⟨?leak, ?patrol, ?request, ?scrub, ?repair, ?repaired, ?inject⟩
  case leak =>
    intro s
    refine ⟨_, leakInstant_leaks s, kept_withDev s _, s.dev.leakAll_regsOnly _ _, fun m hm => s.dev.leaking_leaked hm, ?_⟩
    intro i j hj beside
    refine s.dev.leakAll_regsKept _ i j hj ?_
    rw [List.any_eq_false]
    intro n hn own
    have small := s.dev.leaking_lt hn
    simp [regsOf] at own beside
    omega
  case patrol =>
    intro up m a x e s runs idle pass hm ha hx he few
    subst hm ha hx he
    have visited := s.dev.patrolWord_tended up
    obtain ⟨words, mended, others, recent⟩ := s.dev.patrolWord_corrected up few
    rw [BlockSt.upset_err] at recent
    have blocks (k : Nat) := Dev.block_of_blocks (s.dev.patrolWord up).patrolOn_blocks k
    refine ⟨_, patrolScrubVisit_visits runs idle pass up, kept_withDev s _, (Dev.patrolOn_core _).trans visited.core, ?_,
      fun last => ?_, ?_⟩
    · rw [Dev.patrolOn_patrol, visited.patrol]
    · rw [Dev.patrolOn_passes _ (visited.patrol.symm ▸ last)]
      exact congrArg (fun v : Word => (v.toNat + 1) % 2 ^ 32) (visited.rd_low (by decide) (by decide) (by decide))
    · simp only [blocks]
      exact ⟨visited.blocks, words, mended, fun k hk => (others k hk).trans (BlockSt.upset_beside _ _ _ k hk).2, recent⟩
  case request =>
    intro w v s accepted hv
    subst hv
    obtain ⟨order, inside⟩ := scrubRequest_range accepted.2
    exact ⟨_, _, scrubRequest_accepted accepted, kept_withDev s _, rfl, rfl, rfl, rfl, rfl, order, inside, s.dev.scrubBusy_status,
      s.dev.scrubBusy_reason, s.dev.scrubBusy_regsKept, s.dev.scrubBusy_scrubOnly _⟩
  case scrub =>
    intro ups q s scrub clear
    have visited := (s.dev.upsets_tended ups).trans ((s.dev.upsets ups).rangeScrubbed_tended q)
    obtain ⟨unacked, idle, seq⟩ := Dev.scrubShown_status ((s.dev.upsets ups).rangeScrubbed q).2 q ((s.dev.upsets ups).rangeScrubbed q).1
    rw [visited.rd_low (by decide) (by decide) (by decide)] at seq
    have summary := Dev.scrubShown_summary ((s.dev.upsets ups).rangeScrubbed q).2 q ((s.dev.upsets ups).rangeScrubbed q).1
    rw [visited.core] at summary
    refine ⟨_, ((s.dev.upsets ups).rangeScrubbed q).1, scrubComplete_scrubs scrub clear ups, kept_withDev s _, Dev.scrubShown_scrub _ _ _,
      (Dev.scrubShown_core _ _ _).trans visited.core, summary, ?_, fun empty unstruck => ?_,
      Dev.scrubShown_reason _ _ _, unacked, idle, seq⟩
    · exact (congrArg List.length summary).trans (leBytes_length _ _)
    · subst unstruck
      exact Dev.rangeScrubbed_empty empty q
  case repair =>
    intro m w column n s how
    have ran : exec (.blockRepair m w) s = .next { s with dev := s.dev.startRepair m.val column n } := by
      rcases how with ⟨y, v, rfl, accepted, rfl, rfl, rfl⟩ | ⟨row, col, due, rfl, runs, awaits, auto, on, idle, rfl, spare, rfl⟩
      · exact blockRepair_written accepted
      · exact blockRepair_automatic runs awaits auto on idle rfl spare
    exact ⟨_, ran, kept_withDev s _, s.dev.startRepair_block _ _ _, fun k hk => s.dev.startRepair_block_other _ _ _ hk,
      s.dev.startRepair_busy _ _ _, s.dev.startRepair_regsKept _ _ _, s.dev.startRepair_repairOnly _ _ _ _ _⟩
  case repaired =>
    intro m mapFails column n s runs busy
    have filled := s.dev.spareFilled_tended m.val column n
    have due := s.dev.spareFilled_hardDue m.val column n
    have told := ((s.dev.spareFilled m.val column n).repaired m.val column n).repairLogged_reported m.val column n mapFails
    have block : (((s.dev.spareFilled m.val column n).repaired m.val column n).repairLogged m.val column n mapFails).block m.val = _ :=
      (Dev.block_of_blocks told.blocks m.val).trans (Dev.repaired_block _ _ _ _)
    obtain ⟨idle, pending⟩ := (s.dev.spareFilled m.val column n).repaired_flags m.val column n
    rw [← told.rd_block m.val (by decide)] at idle pending
    have spares := (told.rd_block m.val (j := 8) (by decide)).trans (Dev.repaired_spares _ _ _ _)
    rw [filled.rd_own (by decide) (by decide)] at spares
    refine ⟨_, blockRepairComplete_repairs busy mapFails, kept_withDev s _, told.core.trans filled.core,
      (congrArg BlockSt.repair block :), fun k hk => ?_, ?_, idle,
      pending.trans (congrArg (fun x : BlockSt => !x.hardDue.isEmpty) block.symm :),
      fun columns => ?_, fun rows => ?_, ?_, fun mapped => ?_⟩
    · exact (Dev.block_of_blocks told.blocks k).trans ((Dev.repaired_block_other _ _ _ _ hk).trans (filled.blocks k hk))
    · refine (congrArg BlockSt.hardDue block).trans ?_
      unfold BlockSt.repaired
      rw [due]
    · subst columns
      exact (congrArg (bits · 5 4) spares).trans (bits_setBits_same _ _ (by decide))
    · subst rows
      exact (congrArg (bits · 11 8) spares).trans (bits_setBits_same _ _ (by decide))
    · exact congrArg (· ++ _) ((told.tended (fun _ => True)).softMap.trans filled.softMap)
    · subst mapped
      exact Dev.repairLogged_mem ((Dev.repaired_thimble _ _ _ _).trans (filled.thimble.trans runs)) _ _ _
  case inject =>
    intro m w v a x s accepted hv ha hx few
    subst hv ha hx
    have injected := s.dev.block_setBlock_same m.val ((s.dev.block m.val).injectedAt (bits (objBlockFlipInject.valueOf w) 9 0)
      (BitVec.ofNat 80 (bits (objBlockFlipInject.valueOf w) 31 16 * 2 ^ 64 + s.dev.rdN (0x4800 + m.val) 0x0A)))
    refine ⟨_, flipInject_accepted accepted rfl few, kept_withDev s _, s.dev.setBlock_blocksOnly _ _, ?_⟩
    dsimp only
    rw [injected]
    exact ⟨rfl, BlockSt.injectedAt_word _ _ _, BlockSt.injectedAt_err _ _ _, BlockSt.injectedAt_beside _ _ _,
      (s.dev.setBlock_tended m.val _).blocks⟩

end Sys2Proof.Machine
end

section
/-! SUPPORT. One period of a needle (R226 to R243): its parts in order, what each leaves beside the needle, and the end of a slice (R205). -/

namespace Sys2Proof.Machine

/-! ### What a needle's work leaves -/

/-- Work at the needle of channel c between d and e: nothing still moves, no other needle, and of the registers only those of reports and
some of the channel. -/
structure Sewn (c : Nat) (subs : List Nat) (d e : Dev) : Prop where
  still : e.still = d.still
  needle : ∀ k, k ≠ c → e.needle k = d.needle k
  regs : RegsKept (fun i j => reportReg i j || regsOf (0x3200 + c) subs i j) d e

section
variable {c : Nat} {subs : List Nat} {d e f : Dev}

theorem Sewn.trans {more : List Nat} (h : Sewn c subs d e) (k : Sewn c more e f) : Sewn c (subs ++ more) d f where
  still := k.still.trans h.still
  needle := fun n hn => (k.needle n hn).trans (h.needle n hn)
  regs := h.regs.trans k.regs (fun _ _ r => by simp [regsOf] at r ⊢; grind) (fun _ _ r => by simp [regsOf] at r ⊢; grind)

theorem Sewn.refl (c : Nat) (d : Dev) : Sewn c [] d d := ⟨rfl, fun _ _ => rfl, RegsKept.refl _ d⟩

theorem Sewn.mono {more : List Nat} (h : Sewn c subs d e) (hs : subs ⊆ more) : Sewn c more d e :=
  ⟨h.still, h.needle, fun i j hj r => h.regs i j hj (by simp [regsOf] at r ⊢; grind)⟩

theorem Sewn.rdN (h : Sewn c subs d e) {j : Nat} (hj : j < 256) (hs : j ∉ subs) : e.rdN (0x3200 + c) j = d.rdN (0x3200 + c) j :=
  congrArg BitVec.toNat (h.regs _ _ hj (by simp [regsOf, reportReg_high (show 0x2400 ≤ 0x3200 + c by omega), hs]))

theorem Sewn.core (h : Sewn c subs d e) : e.core = d.core := (congrArg Dev.core h.still :)
theorem Sewn.shuttles (h : Sewn c subs d e) : e.shuttles = d.shuttles := (congrArg Dev.shuttles h.still :)

theorem Flowed.sewn (h : Flowed d e) (hn : ∀ k, k ≠ c → e.needle k = d.needle k) : Sewn c [] d e :=
  ⟨h.still, hn, fun i j hj r => h.regs i j hj (by simpa [regsOf] using r)⟩

end

theorem Dev.shuttle_of_shuttles {d e : Dev} (h : e.shuttles = d.shuttles) (g : Nat) : e.shuttle g = d.shuttle g := by
  unfold Dev.shuttle
  rw [h]

theorem Reported.needle {d e : Dev} (h : Reported d e) (k : Nat) : e.needle k = d.needle k := by
  unfold Dev.needle
  rw [h.needles]

theorem Dev.setNeedle_sewn (d : Dev) (c : Nat) (x : NeedleSt) : Sewn c [] d (d.setNeedle c x) :=
  (d.setNeedle_flowed c x).sewn fun _ hk => Dev.needle_setNeedle_other _ _ _ _ (Ne.symm hk)

theorem Dev.notify_sewn (d : Dev) (c reason inst : Nat) : Sewn c [] d (d.notify reason inst) :=
  (d.notify_flowed _ _).sewn fun k _ => (d.notify_reported _ _).needle k

theorem Dev.count_sewn (d : Dev) (c : Nat) {j : Nat} (width n : Nat) (hj : j < 256) : Sewn c [j] d (d.count (0x3200 + c) j width n) :=
  ⟨rfl, fun _ _ => rfl, fun i' j' hj' r => d.wr_regsKept _ _ _ hj i' j' hj' (by simp at r; exact r.2)⟩

/-- The counter that is moved up. -/
theorem Dev.rdN_count_width (d : Dev) (i j n : Nat) {width : Nat} (h : width ≤ 64) : (d.count i j width n).rdN i j = (d.rdN i j + n) % 2 ^ width :=
  d.rdN_wrN_same i j _ ((Nat.mod_lt _ (Nat.two_pow_pos _)).trans_le (Nat.pow_le_pow_right (by decide) h))

/-! ### Slipped edges (R230) -/

theorem Dev.slips_sewn (d : Dev) (c n : Nat) : Sewn c [0x0A] d (d.slips c n) := by
  have counted := d.count_sewn c (j := 0x0A) 32 n (by decide)
  unfold Dev.slips
  split
  · exact (Sewn.refl c d).mono (by simp)
  · dsimp only
    split
    · exact counted
    · exact (counted.trans (Dev.setNeedle_sewn _ c _)).trans (Dev.notify_sewn _ c _ _)

/-- Of its own needle a slip moves the mark of its notice alone. -/
theorem Dev.slips_needle (d : Dev) (c n : Nat) : { (d.slips c n).needle c with sent502 := (d.needle c).sent502 } = d.needle c := by
  unfold Dev.slips
  split
  · rfl
  · dsimp only
    split
    · rfl
    · rw [(Dev.notify_reported _ _ _).needle, Dev.needle_setNeedle_same]
      rfl

/-! ### The parts of a period -/

/-- The lane after a symbol's drive action in the period at hand of a slice that starts at start (R230 to R232). -/
def periodLane (code start : Nat) (t : ChanTiming) (x : NeedleSt) : Lane :=
  let tp : Int := start + x.period * t.period
  let steps := (symbolSteps code t x.drive x.v).1
  steps.foldl (laneStep tp t.tx) (firstLane x tp t.tx steps)

/-- The transitions that a lane has made go out. -/
def Dev.laneShown (d : Dev) (c : Nat) (l : Lane) : Dev :=
  if d.laneActive c then l.made.reverse.foldl (fun e m => e.emit (.lane c m.1 m.2)) d else d

/-- The reserved symbol counted, and notified unless its notice has been sent (R231). -/
def Dev.reservedTold (d : Dev) (c code : Nat) (sent : Bool) : Dev :=
  let d := if code = 0xD then d.count (0x3200 + c) 0x0B 32 1 else d
  if code = 0xD && !sent then d.notify 0x0501 c else d

/-- What a strobe records: the result's four bits, whether it failed, its instant, and whether that was moved. -/
structure Strobed where
  mark : Nat
  failed : Bool
  at' : Option Int
  moved : Bool

/-- The strobe of a symbol on the levels seen (R231, R241 to R243); without one, or with its edge disabled, nothing is recorded. -/
def strobe (code start : Nat) (t : ChanTiming) (x : NeedleSt) (seen : List (Fin 4)) : Strobed :=
  match symbolStrobe code, t.strobe with
  | some expect, some off =>
    let r := notBefore x.lastStrobe ((start + x.period * t.period : Int) + off + t.rx)
    let j := judge t.strobeEnd.isSome expect seen
    ⟨j.2.toNat * 8 + j.1 * 2 + 1, j.2, some r.1, r.2⟩
  | _, _ => ⟨0, false, x.lastStrobe, false⟩

/-- The counters of strobes, failures and missing strobes (R241, R256). -/
def Dev.strobeCounted (d : Dev) (c code : Nat) (t : ChanTiming) (failed : Bool) : Dev :=
  match symbolStrobe code, t.strobe with
  | some _, some _ =>
    let d := d.count (0x3200 + c) 8 48 1
    if failed then d.count (0x3200 + c) 9 48 1 else d
  | some _, none => d.count (0x3200 + c) 0x0D 32 1
  | none, _ => d

/-- The needle after a period: the lane, v, and the strobe's record in its place. -/
def NeedleSt.sewn (x : NeedleSt) (code : Nat) (t : ChanTiming) (lane : Lane) (s : Strobed) : NeedleSt :=
  { x with
    drive := lane.drive, v := (symbolSteps code t x.drive x.v).2, lastTx := lane.last, toOff := false
    sent501 := if code = 0xD then true else x.sent501
    results := x.results ||| BitVec.ofNat 64 (s.mark * 16 ^ x.period), failed := x.failed || s.failed, lastStrobe := s.at'
    period := x.period + 1 }

/-- The symbol of the period at hand on the lane, and told where it is the reserved one. -/
def Dev.symbolTold (d : Dev) (c code start : Nat) (t : ChanTiming) : Dev :=
  (d.laneShown c (periodLane code start t (d.needle c))).reservedTold c code (d.needle c).sent501

/-- The symbol of a period carried out, but for the end of its slice. -/
def Dev.carriedOut (d : Dev) (c code start : Nat) (t : ChanTiming) (rx : List (Fin 4)) : Dev :=
  let x := d.needle c
  let lane := periodLane code start t x
  let s := strobe code start t x (d.rxSeen rx)
  let d := (d.symbolTold c code start t).strobeCounted c code t s.failed
  (d.setNeedle c (x.sewn code t lane s)).slips c (lane.moved + s.moved.toNat)

theorem Dev.laneShown_outOnly (d : Dev) (c : Nat) (l : Lane) : ∃ o, d.laneShown c l = { d with out := o } := by
  have sent (made : List (Int × Nat)) : ∀ e : Dev, ∃ o, made.foldl (fun e m => e.emit (.lane c m.1 m.2)) e = { e with out := o } := by
    induction made with
    | nil => exact fun e => ⟨e.out, rfl⟩
    | cons m made ih =>
      intro e
      obtain ⟨o, ho⟩ := ih (e.emit (.lane c m.1 m.2))
      exact ⟨o, ho⟩
  unfold Dev.laneShown
  split
  · exact sent _ d
  · exact ⟨d.out, rfl⟩

theorem Dev.laneShown_sewn (d : Dev) (c : Nat) (l : Lane) : Sewn c [] d (d.laneShown c l) := by
  obtain ⟨o, ho⟩ := d.laneShown_outOnly c l
  rw [ho]
  exact ⟨rfl, fun _ _ => rfl, fun _ _ _ _ => rfl⟩

theorem Dev.reservedTold_sewn (d : Dev) (c code : Nat) (sent : Bool) : Sewn c [0x0B] d (d.reservedTold c code sent) := by
  have counted : Sewn c [0x0B] d (if code = 0xD then d.count (0x3200 + c) 0x0B 32 1 else d) := by
    split
    · exact d.count_sewn c _ _ (by decide)
    · exact (Sewn.refl c d).mono (by simp)
  unfold Dev.reservedTold
  dsimp only
  split
  · exact counted.trans (Dev.notify_sewn _ c _ _)
  · exact counted

theorem Dev.reservedTold_counts (d : Dev) (c : Nat) (sent : Bool) :
    (d.reservedTold c 0xD sent).rdN (0x3200 + c) 0x0B = (d.rdN (0x3200 + c) 0x0B + 1) % 2 ^ 32 := by
  rw [← d.rdN_count_same]
  unfold Dev.reservedTold
  dsimp only
  split
  · exact (Dev.notify_sewn _ c _ _).rdN (by decide) (by decide)
  · rfl

theorem Dev.strobeCounted_sewn (d : Dev) (c code : Nat) (t : ChanTiming) (failed : Bool) :
    Sewn c [8, 9, 0x0D] d (d.strobeCounted c code t failed) := by
  have strobes := d.count_sewn c (j := 8) 48 1 (by decide)
  unfold Dev.strobeCounted
  split
  · dsimp only
    split
    · exact (strobes.trans (Dev.count_sewn _ c (j := 9) 48 1 (by decide))).mono (by decide)
    · exact strobes.mono (by decide)
  · exact (d.count_sewn c (j := 0x0D) 32 1 (by decide)).mono (by decide)
  · exact (Sewn.refl c d).mono (by decide)

/-- A strobe whose edge is enabled is counted, and its failure (R241, R256). -/
theorem Dev.strobeCounted_enabled (d : Dev) (c : Nat) {code : Nat} {t : ChanTiming} {expect : Option Nat} {off : Nat} (failed : Bool)
    (hs : symbolStrobe code = some expect) (ht : t.strobe = some off) :
    (d.strobeCounted c code t failed).rdN (0x3200 + c) 8 = (d.rdN (0x3200 + c) 8 + 1) % 2 ^ 48 ∧
      (d.strobeCounted c code t failed).rdN (0x3200 + c) 9 =
        if failed then (d.rdN (0x3200 + c) 9 + 1) % 2 ^ 48 else d.rdN (0x3200 + c) 9 := by
  have apart {j k : Nat} (e : Dev) (h : j ≠ k) := e.rdN_count_other (i := 0x3200 + c) (i' := 0x3200 + c) 48 1 (objKey_sub_ne h)
  unfold Dev.strobeCounted
  rw [hs, ht]
  cases failed
  · exact ⟨d.rdN_count_width _ _ _ (by decide), apart d (by decide)⟩
  · refine ⟨(apart _ (by decide)).trans (d.rdN_count_width _ _ _ (by decide)), ?_⟩
    refine (Dev.rdN_count_width _ _ _ _ (by decide)).trans ?_
    rw [apart d (by decide)]
    rfl

/-- With the edge disabled a missing strobe is counted, and no strobe (R256). -/
theorem Dev.strobeCounted_disabled (d : Dev) (c : Nat) {code : Nat} {t : ChanTiming} {expect : Option Nat} (failed : Bool)
    (hs : symbolStrobe code = some expect) (ht : t.strobe = none) :
    (d.strobeCounted c code t failed).rdN (0x3200 + c) 0x0D = (d.rdN (0x3200 + c) 0x0D + 1) % 2 ^ 32 ∧
      (d.strobeCounted c code t failed).rdN (0x3200 + c) 8 = d.rdN (0x3200 + c) 8 := by
  unfold Dev.strobeCounted
  rw [hs, ht]
  exact ⟨d.rdN_count_same _ _ _, d.rdN_count_other _ _ (objKey_sub_ne (by decide))⟩

theorem Dev.strobeCounted_none (d : Dev) (c : Nat) {code : Nat} (t : ChanTiming) (failed : Bool) (hs : symbolStrobe code = none) :
    d.strobeCounted c code t failed = d := by
  unfold Dev.strobeCounted
  rw [hs]

/-- Without a window a strobe reads the level at its edge, and fails exactly if another one was expected (R241, R242). -/
theorem judge_edge (expect : Option Nat) (seen : List (Fin 4)) :
    judge false expect seen = (((seen.head?).getD 3).val, expect.any (· != ((seen.head?).getD 3).val)) := by
  unfold judge
  cases expect with
  | none => rfl
  | some e => simp [bne, eq_comm, Bool.beq_eq_decide_eq]

theorem strobe_enabled {code : Nat} {t : ChanTiming} {expect : Option Nat} {off : Nat} (start : Nat) (x : NeedleSt) (seen : List (Fin 4))
    (hs : symbolStrobe code = some expect) (ht : t.strobe = some off) (hw : t.strobeEnd = none) :
    (strobe code start t x seen).mark =
        (if expect.any (· != ((seen.head?).getD 3).val) then 8 else 0) + ((seen.head?).getD 3).val * 2 + 1 ∧
      (strobe code start t x seen).failed = expect.any (· != ((seen.head?).getD 3).val) := by
  unfold strobe
  rw [hs, ht, hw]
  dsimp only
  rw [Option.isSome_none, judge_edge]
  refine ⟨?_, rfl⟩
  dsimp only
  cases expect.any (· != ((seen.head?).getD 3).val) <;> rfl

/-- Nothing is recorded without a strobe, or with its edge disabled (R241, R243). -/
theorem strobe_unrecorded {code : Nat} {t : ChanTiming} (start : Nat) (x : NeedleSt) (seen : List (Fin 4))
    (h : symbolStrobe code = none ∨ t.strobe = none) :
    (strobe code start t x seen).mark = 0 ∧ (strobe code start t x seen).failed = false := by
  unfold strobe
  split
  · next hs ht => simp [hs, ht] at h
  · exact ⟨rfl, rfl⟩

theorem Dev.rxSeen_of_core {d e : Dev} (h : e.core = d.core) (rx : List (Fin 4)) : e.rxSeen rx = d.rxSeen rx := by
  unfold Dev.rxSeen
  rw [h]

/-- A period is its symbol carried out, and at the sixteenth the end of the slice. -/
theorem Dev.period_eq {d : Dev} {c code index start : Nat} {t : ChanTiming} {symbols : BitVec 64} {invalid record : Bool}
    {rest : List NItem} (rx : List (Fin 4)) (hs : (d.needle c).stream = .slice index start t symbols invalid record :: rest)
    (hg : d.groupRuns (c / 8) = true) (hc : symbols.toNat / 16 ^ (d.needle c).period % 16 = code) (hh : (d.needle c).holding = false) :
    d.period c code rx =
      if (d.needle c).period + 1 = 16 then (d.carriedOut c code start t rx).sliceDone c index start invalid record rest
      else d.carriedOut c code start t rx := by
  have seen := Dev.rxSeen_of_core ((d.laneShown_sewn c (periodLane code start t (d.needle c))).trans
    (Dev.reservedTold_sewn _ c code (d.needle c).sent501)).core rx
  unfold Dev.period
  dsimp only
  split
  · next index' start' t' symbols' invalid' record' rest' hs' =>
    obtain ⟨⟨rfl, rfl, rfl, rfl, rfl, rfl⟩, rfl⟩ : (index' = index ∧ start' = start ∧ t' = t ∧ symbols' = symbols ∧ invalid' = invalid ∧
        record' = record) ∧ rest' = rest := by simpa using hs'.symm.trans hs
    rw [if_neg (by simp [hg, hc]), if_neg (by simp [hh])]
    unfold Dev.carriedOut Dev.symbolTold strobe Dev.strobeCounted NeedleSt.sewn
    dsimp only
    rw [← seen]
    unfold Dev.reservedTold
    dsimp only
    cases symbolStrobe code with
    | none => split <;> rfl
    | some expect =>
      cases t'.strobe with
      | none => split <;> rfl
      | some off => split <;> rfl
  · next none => exact absurd hs (none _ _ _ _ _ _ _)

/-! ### A symbol carried out -/

section
variable (d : Dev) (c code start : Nat) (t : ChanTiming) (rx : List (Fin 4))

theorem Dev.symbolTold_sewn : Sewn c [0x0B] d (d.symbolTold c code start t) :=
  (d.laneShown_sewn c _).trans (Dev.reservedTold_sewn _ c _ _)

theorem Dev.symbolTold_reserved :
    (d.symbolTold c 0xD start t).rdN (0x3200 + c) 0x0B = (d.rdN (0x3200 + c) 0x0B + 1) % 2 ^ 32 := by
  unfold Dev.symbolTold
  rw [Dev.reservedTold_counts, (d.laneShown_sewn c _).rdN (by decide) (by decide)]

theorem Dev.carriedOut_sewn : Sewn c [0x0B, 8, 9, 0x0D, 0x0A] d (d.carriedOut c code start t rx) := by
  unfold Dev.carriedOut
  exact (((Dev.symbolTold_sewn d c code start t).trans (Dev.strobeCounted_sewn _ c _ _ _)).trans
    (Dev.setNeedle_sewn _ c _)).trans (Dev.slips_sewn _ c _)

/-- The needle after the period, but for the mark of the notice of slips. -/
theorem Dev.carriedOut_needle :
    { (d.carriedOut c code start t rx).needle c with sent502 := (d.needle c).sent502 } =
      (d.needle c).sewn code t (periodLane code start t (d.needle c)) (strobe code start t (d.needle c) (d.rxSeen rx)) := by
  have slipped (e : Dev) (y : NeedleSt) (n : Nat) : { ((e.setNeedle c y).slips c n).needle c with sent502 := y.sent502 } = y := by
    have same := (e.setNeedle c y).slips_needle c n
    rwa [Dev.needle_setNeedle_same] at same
  exact slipped _ _ _

/-- The counters of the channel but for its slips are those of the symbol and its strobe. -/
theorem Dev.carriedOut_rdN {j : Nat} (hj : j < 256) (hs : j ≠ 0x0A) :
    (d.carriedOut c code start t rx).rdN (0x3200 + c) j =
      ((d.symbolTold c code start t).strobeCounted c code t (strobe code start t (d.needle c) (d.rxSeen rx)).failed).rdN (0x3200 + c) j :=
  (Dev.slips_sewn _ c _).rdN hj (by simpa using hs)

end


/-- Inside a slice the command of a symbol is the symbol carried out. -/
theorem period_carriesOut {c : Fin 96} {rx : List (Fin 4)} {s : State} {index start : Nat} {t : ChanTiming} {symbols : BitVec 64}
    {invalid record : Bool} {rest : List NItem} (hs : (s.dev.needle c.val).stream = .slice index start t symbols invalid record :: rest)
    (hp : (s.dev.needle c.val).period < 15) (hh : (s.dev.needle c.val).holding = false) (hg : s.dev.groupRuns (c.val / 8) = true)
    {i : Instr} {code : Nat} (ran : exec i s = onDev (fun d => d.period c.val code rx) s)
    (hc : symbols.toNat / 16 ^ (s.dev.needle c.val).period % 16 = code) :
    exec i s = .next { s with dev := s.dev.carriedOut c.val code start t rx } := by
  rw [ran, onDev_next, Dev.period_eq rx hs hg hc hh, if_neg (by omega)]

section
variable (d : Dev) (c start : Nat) (rx : List (Fin 4)) {code : Nat} {t : ChanTiming} {expect : Option Nat} {off : Nat}

/-- An enabled strobe without a window: its place, the failure and the two counters (R241, R242). -/
theorem Dev.carriedOut_strobed (strobes : symbolStrobe code = some expect) (on : t.strobe = some off) (edge : t.strobeEnd = none) :
    ((d.carriedOut c code start t rx).needle c).results = (d.needle c).results |||
        BitVec.ofNat 64 (((if expect.any (· != (((d.rxSeen rx).head?).getD 3).val) then 8 else 0) +
          (((d.rxSeen rx).head?).getD 3).val * 2 + 1) * 16 ^ (d.needle c).period) ∧
      ((d.carriedOut c code start t rx).needle c).failed =
        ((d.needle c).failed || expect.any (· != (((d.rxSeen rx).head?).getD 3).val)) ∧
      (d.carriedOut c code start t rx).rdN (0x3200 + c) 8 = (d.rdN (0x3200 + c) 8 + 1) % 2 ^ 48 ∧
      (d.carriedOut c code start t rx).rdN (0x3200 + c) 9 =
        if expect.any (· != (((d.rxSeen rx).head?).getD 3).val) then (d.rdN (0x3200 + c) 9 + 1) % 2 ^ 48 else d.rdN (0x3200 + c) 9 := by
  have needle := d.carriedOut_needle c code start t rx
  have told := d.symbolTold_sewn c code start t
  obtain ⟨mark, fails⟩ := strobe_enabled start (d.needle c) (d.rxSeen rx) strobes on edge
  obtain ⟨counted, failures⟩ := (d.symbolTold c code start t).strobeCounted_enabled c
    (strobe code start t (d.needle c) (d.rxSeen rx)).failed strobes on
  rw [Dev.carriedOut_rdN _ _ _ _ _ _ (by decide) (by decide), Dev.carriedOut_rdN _ _ _ _ _ _ (by decide) (by decide), counted, failures,
    told.rdN (by decide) (by decide), told.rdN (by decide) (by decide), ← mark, ← fails]
  exact ⟨(congrArg NeedleSt.results needle :), (congrArg NeedleSt.failed needle :), rfl, rfl⟩

/-- A symbol that records nothing leaves the results and the failure mark (R231, R241). -/
theorem Dev.carriedOut_unrecorded (h : symbolStrobe code = none ∨ t.strobe = none) :
    ((d.carriedOut c code start t rx).needle c).results = (d.needle c).results ∧
      ((d.carriedOut c code start t rx).needle c).failed = (d.needle c).failed := by
  have needle := d.carriedOut_needle c code start t rx
  obtain ⟨mark, fails⟩ := strobe_unrecorded start (d.needle c) (d.rxSeen rx) h
  refine ⟨(congrArg NeedleSt.results needle).trans ?_, (congrArg NeedleSt.failed needle).trans ?_⟩
  · simp [NeedleSt.sewn, mark]
  · simp [NeedleSt.sewn, fails]

/-- A strobe with its edge disabled is a missing one (R256). -/
theorem Dev.carriedOut_missing (strobes : symbolStrobe code = some expect) (disabled : t.strobe = none) :
    (d.carriedOut c code start t rx).rdN (0x3200 + c) 0x0D = (d.rdN (0x3200 + c) 0x0D + 1) % 2 ^ 32 ∧
      (d.carriedOut c code start t rx).rdN (0x3200 + c) 8 = d.rdN (0x3200 + c) 8 := by
  have told := d.symbolTold_sewn c code start t
  obtain ⟨missing, counted⟩ := (d.symbolTold c code start t).strobeCounted_disabled c
    (strobe code start t (d.needle c) (d.rxSeen rx)).failed strobes disabled
  rw [Dev.carriedOut_rdN _ _ _ _ _ _ (by decide) (by decide), Dev.carriedOut_rdN _ _ _ _ _ _ (by decide) (by decide), missing, counted,
    told.rdN (by decide) (by decide), told.rdN (by decide) (by decide)]
  exact ⟨rfl, rfl⟩

/-- A symbol without a strobe counts none; the reserved one is counted itself (R231). -/
theorem Dev.carriedOut_unstrobed (unstrobed : symbolStrobe code = none) :
    (d.carriedOut c code start t rx).rdN (0x3200 + c) 8 = d.rdN (0x3200 + c) 8 ∧
      (code = 0xD → (d.carriedOut c code start t rx).rdN (0x3200 + c) 0x0B = (d.rdN (0x3200 + c) 0x0B + 1) % 2 ^ 32) := by
  rw [Dev.carriedOut_rdN _ _ _ _ _ _ (by decide) (by decide), Dev.carriedOut_rdN _ _ _ _ _ _ (by decide) (by decide),
    Dev.strobeCounted_none _ _ _ _ unstrobed]
  refine ⟨(d.symbolTold_sewn c code start t).rdN (by decide) (by decide), fun reserved => ?_⟩
  subst reserved
  exact d.symbolTold_reserved c start t

end

/-! ### The end of a slice (R205) -/

theorem Dev.sendVec_outOnly (d : Dev) (g j : Nat) : ∃ o, d.sendVec g j = { d with out := o } := by
  unfold Dev.sendVec
  split
  · exact d.broadcast_outOnly _ _
  · exact ⟨d.out, rfl⟩

/-- The needle ready for its next slice, and its bit in the fail vector of a slice that failed. -/
def Dev.sliceJudged (d : Dev) (c index : Nat) : Dev :=
  let x := d.needle c
  let d := d.setNeedle c { x with period := 0, results := 0, failed := false }
  if x.failed then d.setVec (c / 8) index (c % 8) else d

theorem Dev.sliceJudged_needle (d : Dev) (c index : Nat) :
    (d.sliceJudged c index).needle c = { d.needle c with period := 0, results := 0, failed := false } := by
  unfold Dev.sliceJudged
  dsimp only
  split <;> exact Dev.needle_setNeedle_same _ _ _

theorem Dev.sliceJudged_vec (d : Dev) (c index : Nat) :
    tabGet (fun _ => 0) ((d.sliceJudged c index).shuttle (c / 8)).vecs index =
      if (d.needle c).failed then tabGet (fun _ => 0) (d.shuttle (c / 8)).vecs index ||| (1#8 <<< (c % 8))
      else tabGet (fun _ => 0) (d.shuttle (c / 8)).vecs index := by
  unfold Dev.sliceJudged
  dsimp only
  split
  · unfold Dev.setVec
    dsimp only
    rw [Dev.shuttle_setShuttle_same, tabGet_tabSet_same]
    rfl
  · rfl

/-- A slice that its compare hem does not record, the last of its stream, is judged and leaves the stream empty. -/
theorem Dev.sliceDone_unrecorded (d : Dev) (c index start : Nat) (invalid : Bool) :
    (d.sliceDone c index start invalid false []).needle c =
        { d.needle c with period := 0, results := 0, failed := false, stream := [] } ∧
      (d.sliceDone c index start invalid false []).shuttles = (d.sliceJudged c index).shuttles := by
  obtain ⟨o, done⟩ : ∃ o, d.sliceDone c index start invalid false [] =
      { (d.sliceJudged c index).setNeedle c { (d.sliceJudged c index).needle c with stream := [] } with out := o } :=
    Dev.sendVec_outOnly ((d.sliceJudged c index).setNeedle c { (d.sliceJudged c index).needle c with stream := [] }) _ _
  rw [done, Dev.sliceJudged_needle]
  exact ⟨Dev.needle_setNeedle_same _ _ _, rfl⟩

/-! ### Drive actions under NRZ (R231, R232) -/

/-- The lane of a period begins in the needle's drive state. -/
theorem firstLane_drive (x : NeedleSt) (tp tx : Int) (steps : List (Option Nat × Drive)) : (firstLane x tp tx steps).drive = x.drive := by
  unfold firstLane
  dsimp only
  split <;> rfl

/-- An enabled step leaves its state. -/
theorem laneStep_drive (tp tx : Int) (l : Lane) {e : Option Nat × Drive} (h : e.1.isSome = true) : (laneStep tp tx l e).drive = e.2 := by
  obtain ⟨edge, state⟩ := e
  cases edge with
  | none => cases h
  | some off =>
    unfold laneStep
    dsimp only
    split
    · next same => exact same.symm
    · rfl

/-- With every edge enabled the last step's state is left. -/
theorem laneSteps_drive (tp tx : Int) {steps : List (Option Nat × Drive)} (h : ∀ e ∈ steps, e.1.isSome = true) (l : Lane) :
    (steps.foldl (laneStep tp tx) l).drive = steps.foldl (fun _ e => e.2) l.drive := by
  induction steps generalizing l with
  | nil => rfl
  | cons e steps ih =>
    rw [List.foldl_cons, List.foldl_cons, ih (fun e he => h e (List.mem_cons_of_mem _ he)), laneStep_drive tp tx l (h e List.mem_cons_self)]

/-- A symbol whose steps are all enabled: the state that the last one leaves, and v. -/
structure Leaves (code : Nat) (t : ChanTiming) (x : NeedleSt) (drive : Drive) (v : Bool) : Prop where
  enabled : ∀ e ∈ (symbolSteps code t x.drive x.v).1, e.1.isSome = true
  drive : (symbolSteps code t x.drive x.v).1.foldl (fun _ e => e.2) x.drive = drive
  v : (symbolSteps code t x.drive x.v).2 = v

section
variable {code : Nat} {t : ChanTiming} {x : NeedleSt} {drive : Drive} {v : Bool}

theorem Leaves.lane (h : Leaves code t x drive v) (start : Nat) : (periodLane code start t x).drive = drive := by
  unfold periodLane
  dsimp only
  rw [laneSteps_drive _ _ h.enabled, firstLane_drive, h.drive]

/-- A symbol of no step leaves the needle as it is. -/
theorem Leaves.nothing (h : symbolSteps code t x.drive x.v = ([], x.v)) : Leaves code t x x.drive x.v := by
  constructor <;> simp [h]

/-- A symbol of one step leaves that step's state. -/
theorem Leaves.step {edge : Option Nat} (h : symbolSteps code t x.drive x.v = ([(edge, drive)], v)) (on : edge.isSome = true) :
    Leaves code t x drive v := by
  constructor <;> simp [h, on]

theorem Leaves.steps {edge edge' : Option Nat} {first : Drive} (h : symbolSteps code t x.drive x.v = ([(edge, first), (edge', drive)], v))
    (on : edge.isSome = true) (on' : edge'.isSome = true) : Leaves code t x drive v := by
  constructor <;> simp [h, on, on']

/-- The edge of A(x)'s first step is enabled where E_DATA is. -/
theorem firstEdge_enabled (data : t.eData.isSome = true) (driving : Bool) :
    (if driving then t.eData else t.eOn.or t.eData).isSome = true := by
  split
  · exact data
  · rw [Option.isSome_or, data, Bool.or_true]

/-- Under NRZ A(y) is the one step to y (R232). -/
theorem Leaves.action {y : Bool} (format : t.format = 0) (data : t.eData.isSome = true)
    (h : symbolSteps code t x.drive x.v = (actionA t x.drive.driving y, v)) : Leaves code t x (driveOf y) v := by
  refine .step (h.trans ?_) (firstEdge_enabled data x.drive.driving)
  unfold actionA
  rw [format]
  rfl

end

end Sys2Proof.Machine
end

section
/-! The statement about what each symbol drives. -/

namespace Sys2Proof.Machine

/-- Settles O24: with its edges enabled a symbol leaves the state of its last step (Leaves), and under NRZ A(x) has the one step of x. -/
theorem symbolsDrive : Obligations.SymbolsDrive := by
  unfold Obligations.SymbolsDrive
  intro c rx x index start t symbols invalid record rest s hx hs hp hh hg format eData eOff eRet i code drive v symbol coded
  subst hx
  obtain ⟨ran, leaves⟩ : exec i s = onDev (fun d => d.period c.val code rx) s ∧ Leaves code t (s.dev.needle c.val) drive v := by
    clear coded
    obtain d0 | d1 | dz | dk | cl | ch | cm | cx | d0cl | d1ch | dn | te | cc | reserved | ed | nop := symbol
    · obtain ⟨rfl, rfl, rfl, rfl⟩ := d0
      exact ⟨rfl, (.action (y := false) format eData rfl)⟩
    · obtain ⟨rfl, rfl, rfl, rfl⟩ := d1
      exact ⟨rfl, (.action (y := true) format eData rfl)⟩
    · obtain ⟨rfl, rfl, rfl, rfl⟩ := dz
      exact ⟨rfl, (.step rfl eOff)⟩
    · obtain ⟨rfl, rfl, rfl, rfl⟩ := dk
      refine ⟨rfl, ?_⟩
      split
      · next driving => exact .action format eData (by simp [symbolSteps, driving])
      · next idle => exact .nothing (by simp [symbolSteps, idle])
    · obtain ⟨rfl, rfl, rfl, rfl⟩ := cl
      exact ⟨rfl, (.nothing rfl)⟩
    · obtain ⟨rfl, rfl, rfl, rfl⟩ := ch
      exact ⟨rfl, (.nothing rfl)⟩
    · obtain ⟨rfl, rfl, rfl, rfl⟩ := cm
      exact ⟨rfl, (.nothing rfl)⟩
    · obtain ⟨rfl, rfl, rfl, rfl⟩ := cx
      exact ⟨rfl, (.nothing rfl)⟩
    · obtain ⟨rfl, rfl, rfl, rfl⟩ := d0cl
      exact ⟨rfl, (.action (y := false) format eData rfl)⟩
    · obtain ⟨rfl, rfl, rfl, rfl⟩ := d1ch
      exact ⟨rfl, (.action (y := true) format eData rfl)⟩
    · obtain ⟨rfl, rfl, rfl, rfl⟩ := dn
      exact ⟨rfl, (.action format eData rfl)⟩
    · obtain ⟨rfl, rfl, rfl, rfl⟩ := te
      exact ⟨rfl, (.step rfl eOff)⟩
    · obtain ⟨rfl, rfl, rfl, rfl⟩ := cc
      exact ⟨rfl, (.nothing rfl)⟩
    · obtain ⟨rfl, rfl, rfl, rfl⟩ := reserved
      exact ⟨rfl, (.nothing rfl)⟩
    · obtain ⟨rfl, rfl, rfl, rfl⟩ := ed
      exact ⟨rfl, (.steps rfl (firstEdge_enabled eData _) eRet)⟩
    · obtain ⟨rfl, rfl, rfl, rfl⟩ := nop
      exact ⟨rfl, (.nothing rfl)⟩
  have sewn := s.dev.carriedOut_sewn c.val code start t rx
  have needle := s.dev.carriedOut_needle c.val code start t rx
  exact ⟨_, period_carriesOut hs hp hh hg ran coded, kept_withDev s _, (congrArg NeedleSt.drive needle).trans (leaves.lane start),
    (congrArg NeedleSt.v needle).trans leaves.v, (congrArg NeedleSt.period needle :), (congrArg NeedleSt.stream needle :), sewn.needle,
    sewn.shuttles, sewn.core⟩

end Sys2Proof.Machine
end

section
/-! The statement about what strobes record and the end of a slice. -/

namespace Sys2Proof.Machine

/-- Settles O25: a period is its symbol carried out, which records and counts its strobe if it has one; the sixteenth ends the slice. -/
theorem strobesRecord : Obligations.StrobesRecord := by
  unfold Obligations.StrobesRecord
  refine ⟨?strobes, ?others, ?last⟩
  case strobes =>
    intro c rx x index start t symbols invalid record rest level s hx hs hp hh hg edge hl i code expect symbol coded
    subst hx hl
    obtain ⟨ran, strobes⟩ : exec i s = onDev (fun d => d.period c.val code rx) s ∧ symbolStrobe code = some expect := by
      clear coded
      rcases symbol with ⟨rfl, rfl, rfl⟩ | ⟨rfl, rfl, rfl⟩ | ⟨rfl, rfl, rfl⟩ | ⟨rfl, rfl, rfl⟩ | ⟨rfl, rfl, rfl⟩ | ⟨rfl, rfl, rfl⟩ |
        ⟨rfl, rfl, rfl⟩ <;> exact ⟨rfl, rfl⟩
    refine ⟨_, period_carriesOut hs hp hh hg ran coded, kept_withDev s _, fun enabled => ?_, fun disabled => ?_⟩
    · obtain ⟨off, on⟩ := Option.isSome_iff_exists.1 enabled
      obtain ⟨results, failed, counted, failures⟩ := s.dev.carriedOut_strobed c.val start rx strobes on edge
      exact ⟨results, failed, counted, fun wrong => failures.trans (if_pos wrong), fun right => failures.trans (if_neg (by simp [right]))⟩
    · obtain ⟨results, failed⟩ := s.dev.carriedOut_unrecorded c.val start rx (code := code) (.inr disabled)
      exact ⟨results, failed, s.dev.carriedOut_missing c.val start rx strobes disabled⟩
  case others =>
    intro c rx x index start t symbols invalid record rest s hx hs hp hh hg i code symbol coded
    subst hx
    obtain ⟨ran, unstrobed⟩ : exec i s = onDev (fun d => d.period c.val code rx) s ∧ symbolStrobe code = none := by
      clear coded
      rcases symbol with ⟨rfl, rfl⟩ | ⟨rfl, rfl⟩ | ⟨rfl, rfl⟩ | ⟨rfl, rfl⟩ | ⟨rfl, rfl⟩ | ⟨rfl, rfl⟩ | ⟨rfl, rfl⟩ | ⟨rfl, rfl⟩ |
        ⟨rfl, rfl⟩ <;> exact ⟨rfl, rfl⟩
    obtain ⟨results, failed⟩ := s.dev.carriedOut_unrecorded c.val start rx (t := t) (.inl unstrobed)
    exact ⟨_, period_carriesOut hs hp hh hg ran coded, kept_withDev s _, results, failed,
      s.dev.carriedOut_unstrobed c.val start rx unstrobed⟩
  case last =>
    intro c rx x index start t symbols invalid s hx hs hp hh hg coded
    subst hx
    have ran : exec (.nop c rx) s =
        .next { s with dev := (s.dev.carriedOut c.val 0xF start t rx).sliceDone c.val index start invalid false [] } := by
      show onDev (fun d => d.period c.val 0xF rx) s = _
      rw [onDev_next, Dev.period_eq rx hs hg (hp ▸ coded) hh, if_pos (by omega)]
    obtain ⟨-, failed⟩ := s.dev.carriedOut_unrecorded c.val start rx (code := 0xF) (t := t) (.inl rfl)
    obtain ⟨needle, shuttles⟩ := (s.dev.carriedOut c.val 0xF start t rx).sliceDone_unrecorded c.val index start invalid
    have vec := (s.dev.carriedOut c.val 0xF start t rx).sliceJudged_vec c.val index
    rw [← Dev.shuttle_of_shuttles shuttles, failed,
      Dev.shuttle_of_shuttles (s.dev.carriedOut_sewn c.val 0xF start t rx).shuttles] at vec
    exact ⟨_, ran, kept_withDev s _, (congrArg NeedleSt.stream needle :), (congrArg NeedleSt.period needle :),
      (congrArg NeedleSt.results needle :), vec⟩

end Sys2Proof.Machine
end

section
/-! SUPPORT. Raw lanes (R251 to R255): the units that go out, the bits that come in, and the lock of a receiver. -/

namespace Sys2Proof.Machine

/-! ### Bits of a line -/

/-- A number read back from bits, least significant first. -/
theorem testBit_ofBits (l : List Bool) (k : Nat) : (ofBits l).testBit k = (l[k]?).getD false := by
  induction l generalizing k with
  | nil => simp [ofBits]
  | cons b l ih =>
    show (b.toNat + 2 * ofBits l).testBit k = _
    cases k with
    | zero => cases b <;> simp [Nat.testBit_zero]
    | succ k =>
      rw [Nat.testBit_succ, show (b.toNat + 2 * ofBits l) / 2 = ofBits l by have := b.toNat_lt; omega, ih]
      rfl

/-- The low bits of a number, as its bits in order. -/
theorem getElem?_lsbBits {n k : Nat} (v : Nat) (h : k < n) : (lsbBits n v)[k]? = some (v.testBit k) := by
  simp [lsbBits, h]

/-- Bits under a polarity bit are the bits, each exclusive-or it. -/
theorem ite_map_not (b : Bool) (l : List Bool) : (if b then l.map (!·) else l) = l.map (· ^^ b) := by
  cases b <;> simp

/-- What a receiver without a code collects: the 256 bits of the line under RX_INVERT. -/
theorem ofBits_rawLine (d : Dev) (c : Nat) (line : BitVec 256) :
    BitVec.ofNat 256 (ofBits (d.rawLine c (lsbBits 256 line.toNat))) = if bit (d.rawCfg c) 27 then ~~~ line else line := by
  refine BitVec.eq_of_getLsbD_eq fun k hk => ?_
  rw [BitVec.getLsbD_ofNat, testBit_ofBits, Dev.rawLine, ite_map_not, List.getElem?_map, getElem?_lsbBits _ hk,
    BitVec.testBit_toNat]
  cases bit (d.rawCfg c) 27
  · simp [hk]
  · simp [hk]

/-! ### Units sent (R252 to R254) -/

/-- The device but for what sending on raw lanes touches: registers, outputs, needles. -/
def Dev.besideLine (d : Dev) : Dev := { d with regs := [], out := [], needles := [] }

theorem Dev.sendRaw_active {d : Dev} {c : Nat} (h : d.laneActive c = true) (l : List Bool) :
    d.sendRaw c l = d.emit (.rawBits c (l.map (· ^^ bit (d.rawCfg c) 28))) := by
  unfold Dev.sendRaw
  rw [if_pos h, ite_map_not]

theorem Dev.sendRaw_outOnly (d : Dev) (c : Nat) (l : List Bool) : ∃ o, d.sendRaw c l = { d with out := o } := by
  unfold Dev.sendRaw
  split
  · exact ⟨_, rfl⟩
  · exact ⟨d.out, rfl⟩

theorem Dev.sendRaw_besideLine (d : Dev) (c : Nat) (l : List Bool) : (d.sendRaw c l).besideLine = d.besideLine := by
  obtain ⟨o, ho⟩ := d.sendRaw_outOnly c l
  rw [ho]
  rfl

theorem Dev.sendChars_besideLine (d : Dev) (c : Nat) (chars : List Nat) (acc : List Bool) :
    (d.sendChars c chars acc).besideLine = d.besideLine := by
  induction chars generalizing d acc with
  | nil => exact d.sendRaw_besideLine c acc
  | cons ch chars ih =>
    unfold Dev.sendChars
    dsimp only
    rw [ih]
    split <;> rfl

theorem Dev.sendBlock_besideLine (d : Dev) (c header payload : Nat) : (d.sendBlock c header payload).besideLine = d.besideLine := by
  unfold Dev.sendBlock
  dsimp only
  split
  · exact Dev.sendRaw_besideLine _ _ _
  · exact d.sendRaw_besideLine _ _

/-- The entry at the head of the drive hem taken by the serialiser. -/
def Dev.rawTaken (d : Dev) (c : Nat) : Dev := (d.putHalf c (d.half c).pop).rawBegins c

theorem rawSerialiserTake_uncoded {c : Fin 96} {e : HEntry} {s : State} (runs : s.dev.rawRuns c.val = true)
    (head : s.dev.rawHead c.val = some e) (uncoded : coding (s.dev.rawCfg c.val) = 0) :
    exec (.rawSerialiserTake c) s = .next { s with dev := (s.dev.rawTaken c.val).sendRaw c.val (lsbBits 256 e.data.toNat) } := by
  have plain : coding ((s.dev.rawTaken c.val).rawCfg c.val) = 0 := uncoded
  show execRawSerialiserTake c s = _
  unfold execRawSerialiserTake
  rw [onDev_next]
  dsimp only
  rw [head]
  dsimp only
  rw [if_neg (by simp [runs])]
  change Host.Outcome.next { s with dev := match coding ((s.dev.rawTaken c.val).rawCfg c.val) with | 0 => _ | 1 => _ | _ => _ } = _
  rw [plain]
  rfl

/-- The idle unit of a raw lane's coding (R254). -/
def Dev.idleSent (d : Dev) (c : Nat) : Dev :=
  match coding (d.rawCfg c) with
  | 0 => d.sendRaw c ((List.range 256).map (fun i => i % 2 == 0))
  | 1 => d.sendChars c [0x1BC] []
  | _ => d.sendBlock c 2 0x1E

theorem Dev.idleSent_besideLine (d : Dev) (c : Nat) : (d.idleSent c).besideLine = d.besideLine := by
  unfold Dev.idleSent
  split
  · exact d.sendRaw_besideLine c _
  · exact d.sendChars_besideLine c _ _
  · exact d.sendBlock_besideLine c _ _

/-- The drive hem with one loss more. -/
def Dev.lossCounted (d : Dev) (c : Nat) : Dev :=
  (d.setHalf c { d.half c with loss := ((d.half c).loss + 1) % 2 ^ 32 }).rawBegins c

/-- The first loss of a window notified (R254). -/
def Dev.lossTold (d : Dev) (c : Nat) : Dev :=
  if (d.needle c).sent531 then d else (d.setNeedle c { d.needle c with sent531 := true }).notify 0x0531 c

theorem rawIdleUnit_idle {c : Fin 96} {s : State} (runs : s.dev.rawRuns c.val = true) (empty : s.dev.rawHead c.val = none) :
    exec (.rawIdleUnit c) s = .next { s with dev := ((s.dev.lossCounted c.val).idleSent c.val).lossTold c.val } := by
  show execRawIdleUnit c s = _
  unfold execRawIdleUnit
  rw [onDev_next]
  dsimp only
  rw [if_neg (by simp [runs, empty])]
  rfl

theorem Dev.lossTold_tells (d : Dev) {c : Nat} (hc : c < 96) :
    ((d.lossTold c).needle c).sent531 = true ∧ (d.lossTold c).half c = d.half c ∧ (d.lossTold c).shuttles = d.shuttles := by
  unfold Dev.lossTold
  split
  · next sent => exact ⟨sent, rfl, rfl⟩
  · have told := (d.setNeedle c { d.needle c with sent531 := true }).notify_reported 0x0531 c
    exact ⟨by rw [told.needle, Dev.needle_setNeedle_same], told.half c (by omega), told.shuttles⟩

/-! ### The lock of a receiver (R255) -/

/-- The receiver LOCKED on a line, its descrambler and running disparity taken from the line's end. -/
def Dev.rxLocked (d : Dev) (c : Nat) (l : List Bool) : Dev :=
  (d.setNeedle c { d.needle c with
    holding := false
    raw := { (d.needle c).raw with
      rxDisp := dispAfter10 false (l.drop (l.length - 10)), descrambler := BitVec.ofNat 58 (ofBits (l.reverse.take 58)), recent := [] } }).setFlag
    (0x3200 + c) 6 31 true

theorem rawRxLock_locks {c : Fin 96} {line : List Bool} {start : Nat} {s : State} (hears : s.dev.rawHears c.val = true)
    (locks : s.dev.locksOn c.val ((s.dev.rawLine c.val line).drop start) = true) :
    exec (.rawRxLock c line start) s = .next { s with dev := s.dev.rxLocked c.val ((s.dev.rawLine c.val line).drop start) } := by
  show execRawRxLock c line start s = _
  unfold execRawRxLock
  rw [onDev_next]
  dsimp only
  rw [if_neg (by simp [hears, locks])]
  rfl

theorem Dev.rxLocked_needle (d : Dev) (c : Nat) (l : List Bool) :
    ((d.rxLocked c l).needle c).raw.rxDisp = dispAfter10 false (l.drop (l.length - 10)) ∧
      ∀ k : Nat, k < 58 → ((d.rxLocked c l).needle c).raw.descrambler.getLsbD k = (l.reverse[k]?).getD false := by
  have needle : (d.rxLocked c l).needle c = _ := Dev.needle_setNeedle_same d c _
  rw [needle]
  refine ⟨rfl, fun k hk => ?_⟩
  dsimp only
  rw [BitVec.getLsbD_ofNat, testBit_ofBits, decide_eq_true hk, Bool.true_and, List.getElem?_take, if_pos hk]

/-! ### Entries received (R253, R255) -/

/-- With no gap pending and more than 4 entries free a DATA entry is stored (R141). -/
theorem HalfSt.pushData_room {x : HalfSt} (gap : x.gap = none) (room : 4 < x.freeEntries) (data : BitVec 256) (tag : BitVec 8)
    (slices time : Nat) : x.pushData data tag slices time = (x.put { data := data, tag := tag }, false) := by
  have same : x.flushGap = x := by
    unfold HalfSt.flushGap
    rw [gap]
  unfold HalfSt.pushData
  rw [same]
  dsimp only
  rw [if_pos (by simp [gap, room])]

theorem rawReceiverEntry_uncoded {c : Fin 96} {line : BitVec 256} {s : State} (hears : s.dev.rawHears c.val = true)
    (locked : bit (s.dev.rd (0x3200 + c.val) 6) 31 = true) (uncoded : coding (s.dev.rawCfg c.val) = 0)
    (enabled : s.dev.hemEnabled (96 + c.val) = true) (gap : (s.dev.half (96 + c.val)).gap = none)
    (room : 4 < (s.dev.half (96 + c.val)).freeEntries) :
    exec (.rawReceiverEntry c line) s = .next { s with dev := s.dev.putHalf (96 + c.val) ((s.dev.half (96 + c.val)).put
      { data := if bit (s.dev.rawCfg c.val) 27 then ~~~ line else line, tag := 0 }) } := by
  show execRawReceiverEntry c line s = _
  unfold execRawReceiverEntry
  rw [onDev_next]
  dsimp only
  rw [if_neg (by simp [hears, Dev.rawLocked, locked]), uncoded]
  show Host.Outcome.next { s with dev := s.dev.rawEntry c.val (ofBits (s.dev.rawLine c.val (lsbBits 256 line.toNat))) } = _
  unfold Dev.rawEntry
  rw [if_pos enabled, HalfSt.pushData_room gap room, ofBits_rawLine]
  rfl

/-! ### Work of a receiver stays at its lane (R253, R255) -/

/-- What work at one lane never touches: the core, the shuttles, the staged writes. -/
def Dev.offLane (d : Dev) : CoreSt × List (Nat × ShuttleSt) × List Staged := (d.core, d.shuttles, d.staged)

theorem Flowed.offLane {d e : Dev} (h : Flowed d e) : e.offLane = d.offLane := by
  unfold Dev.offLane
  rw [h.core, h.shuttles, h.staged]

theorem Dev.rawMark_offLane (d : Dev) (c keep : Nat) (err : Bool) : (d.rawMark c keep err).offLane = d.offLane := by
  unfold Dev.rawMark
  dsimp only
  split <;> rfl

theorem Dev.rawChar_offLane (d : Dev) (c : Nat) (l : List Bool) : (d.rawChar c l).2.offLane = d.offLane := by
  have put (e : Dev) (x : NeedleSt) (err : Bool) : ((e.setNeedle c x).rawMark c 16 err).offLane = e.offLane := Dev.rawMark_offLane _ _ _ _
  unfold Dev.rawChar
  dsimp only
  split
  · exact put _ _ _
  · split
    · exact put _ _ _
    · exact put _ _ _

theorem Dev.rawChars_offLane (d : Dev) (c n k : Nat) (l : List Bool) : (d.rawChars c n k l).2.2.2.offLane = d.offLane := by
  induction n generalizing d k l with
  | zero => rfl
  | succ n ih =>
    unfold Dev.rawChars
    dsimp only
    split
    · exact d.rawChar_offLane c _
    · exact (ih _ _ _).trans (d.rawChar_offLane c _)

theorem Dev.rawBlock_offLane (d : Dev) (c j : Nat) (l : List Bool) : (d.rawBlock c j l).2.offLane = d.offLane :=
  Dev.rawMark_offLane _ _ _ _

theorem Dev.rawEntry_offLane (d : Dev) (c v : Nat) : (d.rawEntry c v).offLane = d.offLane := by
  unfold Dev.rawEntry
  split
  · exact (d.pushed_flowed _ _).offLane
  · rfl

/-- A lock that is dropped: LOCKED is clear, and the rest of the device goes on. -/
theorem Dev.dropLock_drops (d : Dev) (c : Nat) : bit ((d.dropLock c).rd (0x3200 + c) 6) 31 = false ∧ (d.dropLock c).offLane = d.offLane := by
  have told := (d.setFlag (0x3200 + c) 6 31 false).notify_flowed 0x0530 c
  refine ⟨?_, told.offLane⟩
  show bit (((d.setFlag (0x3200 + c) 6 31 false).notify 0x0530 c).rd (0x3200 + c) 6) 31 = false
  rw [told.rd (by decide) (reportReg_high (by omega) _), Dev.setFlag_eq, Dev.rd_wr_same, bit_setBit_same _ _ (by decide)]

theorem Dev.takeChars_drops {d : Dev} {c n : Nat} {l : List Bool} (lost : (d.rawChars c n 0 l).2.2.1 = true) :
    bit ((d.takeChars c n l).rd (0x3200 + c) 6) 31 = false ∧ (d.takeChars c n l).offLane = d.offLane := by
  unfold Dev.takeChars
  dsimp only
  rw [if_pos lost]
  refine ⟨(Dev.dropLock_drops _ c).1, (Dev.dropLock_drops _ c).2.trans ?_⟩
  rw [Dev.rawEntry_offLane, Dev.rawChars_offLane]

end Sys2Proof.Machine
end

section
/-! The statement about raw lanes. -/

namespace Sys2Proof.Machine

/-- A lock is lost with the receiver's clock, with 4 errors among 16 characters, or with 16 among 64 headers (R255). -/
theorem rawLockLost_drops {c : Fin 96} {n : Fin 24} {line : BitVec 256} {s : State} (hears : s.dev.rawHears c.val = true)
    (locked : bit (s.dev.rd (0x3200 + c.val) 6) 31 = true)
    (lost : coding (s.dev.rawCfg c.val) = 0 ∨
      (coding (s.dev.rawCfg c.val) = 1 ∧ (s.dev.rawChars c.val n.val 0 (s.dev.rawLine c.val (lsbBits 256 line.toNat))).2.2.1 = true) ∨
      (2 ≤ coding (s.dev.rawCfg c.val) ∧ n.val = 1 ∧ lockFails ((s.dev.rawBlock c.val 0
        ((s.dev.rawLine c.val (lsbBits 256 line.toNat)).take 66)).2.needle c.val).raw.recent true = true)) :
    ∃ d, exec (.rawLockLost c n line) s = .next { s with dev := d } ∧ bit (d.rd (0x3200 + c.val) 6) 31 = false ∧
      d.offLane = s.dev.offLane := by
  show ∃ d, execRawLockLost c n line s = _ ∧ _
  unfold execRawLockLost
  rw [onDev_next]
  dsimp only
  rw [if_neg (by simp [hears, Dev.rawLocked, locked])]
  obtain uncoded | ⟨chars, lost⟩ | ⟨blocks, one, lost⟩ := lost
  · rw [uncoded]
    exact ⟨_, rfl, s.dev.dropLock_drops c.val⟩
  · rw [chars]
    exact ⟨_, congrArg (fun d : Dev => Host.Outcome.next { s with dev := d }) (if_pos lost), Dev.takeChars_drops lost⟩
  · split
    · omega
    · omega
    · rw [if_pos (by simp [one, lost])]
      exact ⟨_, rfl, (Dev.dropLock_drops _ c.val).1, (Dev.dropLock_drops _ c.val).2.trans (s.dev.rawBlock_offLane _ _ _)⟩

/-- Without that many errors the receiver of characters keeps its lock. -/
theorem rawLockLost_keeps {c : Fin 96} {n : Fin 24} {line : BitVec 256} {s : State} (hears : s.dev.rawHears c.val = true)
    (locked : bit (s.dev.rd (0x3200 + c.val) 6) 31 = true) (chars : coding (s.dev.rawCfg c.val) = 1)
    (held : (s.dev.rawChars c.val n.val 0 (s.dev.rawLine c.val (lsbBits 256 line.toNat))).2.2.1 = false) :
    exec (.rawLockLost c n line) s = .next s := by
  show execRawLockLost c n line s = _
  unfold execRawLockLost
  rw [onDev_next]
  dsimp only
  rw [if_neg (by simp [hears, Dev.rawLocked, locked]), chars]
  exact congrArg (fun d : Dev => Host.Outcome.next { s with dev := d }) (if_neg (ne_true_of_eq_false held))

/-- Settles O27: the units sent and the entry received are one change of one half each; a lock is one flag with the line's end kept. -/
theorem rawLanes : Obligations.RawLanes := by
  unfold Obligations.RawLanes
  refine ⟨?take, ?idle, ?lock, ?entry, ?lost⟩
  case take =>
    intro c e s runs head uncoded
    obtain ⟨o, sent⟩ := (s.dev.rawTaken c.val).sendRaw_outOnly c.val (lsbBits 256 e.data.toNat)
    have half : (s.dev.rawTaken c.val).half c.val = _ := Dev.half_setHalf_same s.dev c.val _
    refine ⟨_, rawSerialiserTake_uncoded runs head uncoded, kept_withDev s _, ?_, ?_, fun k hk => ?_, ?_, ?_, fun active => ?_, fun k hk => ?_⟩
    all_goals dsimp only
    · rw [sent]
      rfl
    · rw [sent]
      exact Dev.needle_setNeedle_same _ _ _
    · rw [sent]
      exact Dev.needle_setNeedle_other _ _ _ _ (Ne.symm hk)
    · rw [sent]
      exact (congrArg HalfSt.q half :)
    · rw [sent]
      exact (congrArg HalfSt.rptr half :)
    · rw [Dev.sendRaw_active (d := s.dev.rawTaken c.val) active]
      show Output.rawBits c.val ((lsbBits 256 e.data.toNat).map (· ^^ bit (s.dev.rawCfg c.val) 28)) :: s.dev.out = _
      rw [lsbBits, List.map_map]
      rfl
    · rw [sent]
      exact Dev.half_setHalf_other _ _ _ _ (Ne.symm hk)
  case idle =>
    intro c s runs empty
    have line := (s.dev.lossCounted c.val).idleSent_besideLine c.val
    obtain ⟨sent, half, shuttles⟩ := Dev.lossTold_tells ((s.dev.lossCounted c.val).idleSent c.val) c.isLt
    have counted : (s.dev.lossCounted c.val).half c.val = _ := Dev.half_setHalf_same s.dev c.val _
    replace half := (half.trans (congrArg (fun d : Dev => d.half c.val) line :)).trans counted
    exact ⟨_, rawIdleUnit_idle runs empty, kept_withDev s _, (congrArg HalfSt.loss half :), (congrArg HalfSt.q half :), sent,
      shuttles.trans (congrArg Dev.shuttles line :)⟩
  case lock =>
    intro c line l start s hears hl locks
    subst hl
    obtain ⟨disp, bits⟩ := s.dev.rxLocked_needle c.val ((s.dev.rawLine c.val line).drop start)
    exact ⟨_, rawRxLock_locks hears locks, kept_withDev s _, rfl, Dev.rd_wr_same _ _ _ _, Dev.wr_regsKept _ _ _ _ (by decide), bits,
      fun _ => disp, fun k hk => Dev.needle_setNeedle_other _ _ _ _ (Ne.symm hk)⟩
  case entry =>
    intro c line s hears locked uncoded enabled gap room
    exact ⟨_, rawReceiverEntry_uncoded hears locked uncoded enabled gap room, kept_withDev s _, rfl, Dev.putHalf_q _ _ _,
      fun k hk => Dev.putHalf_other _ _ hk⟩
  case lost =>
    intro c n line l s hears locked hl
    subst hl
    refine ⟨fun lost => ?_, rawLockLost_keeps hears locked⟩
    obtain ⟨d, ran, clear, rest⟩ := rawLockLost_drops hears locked lost
    obtain ⟨core, shuttles, staged⟩ := by simpa only [Dev.offLane, Prod.mk.injEq] using rest
    exact ⟨_, ran, kept_withDev s _, clear, core, shuttles, staged⟩

end Sys2Proof.Machine
end

section
/-! SUPPORT. Gauges and wear (R522 to R526): results that complete, ratios measured, the prediction and its notices. -/

namespace Sys2Proof.Machine

/-! ### Loops and maxima -/

/-- A view of the device that every round below n keeps is kept by the loop. -/
theorem forEach_keeps_below {α : Type} (view : Dev → α) {f : Nat → Dev → Dev} {n : Nat} (h : ∀ i, i < n → ∀ e, view (f i e) = view e)
    (d : Dev) : view (forEach n f d) = view d := by
  induction n with
  | zero => rfl
  | succ n ih => rw [forEach_succ, h n (Nat.lt_succ_self n), ih fun i hi => h i (Nat.lt_succ_of_lt hi)]

/-- The maximum over a list is an upper bound of it, and is met there or where it began. -/
theorem foldl_max_spec {α : Type} (f : α → Nat) (l : List α) (b : Nat) :
    (∀ x ∈ l, f x ≤ l.foldl (fun m x => max m (f x)) b) ∧ b ≤ l.foldl (fun m x => max m (f x)) b ∧
      (l.foldl (fun m x => max m (f x)) b = b ∨ ∃ x ∈ l, l.foldl (fun m x => max m (f x)) b = f x) := by
  induction l generalizing b with
  | nil => simp
  | cons x l ih =>
    obtain ⟨bound, start, met⟩ := ih (max b (f x))
    rw [List.foldl_cons]
    refine ⟨fun y hy => ?_, (le_max_left _ _).trans start, ?_⟩
    · rcases List.mem_cons.1 hy with rfl | hy
      · exact (le_max_right _ _).trans start
      · exact bound y hy
    · rcases met with met | ⟨y, hy, met⟩
      · rw [met]
        rcases max_choice b (f x) with h | h
        · exact .inl h
        · exact .inr ⟨x, List.mem_cons_self, h⟩
      · exact .inr ⟨y, List.mem_cons_of_mem x hy, met⟩

/-! ### Results that complete (R400) -/

/-- A status word whose result completes: SEQ one further, UNACKED set, the other bits below SEQ as they were. -/
theorem Dev.complete_shows (d : Dev) (i j : Nat) {u : Nat} (hu : u < 16) :
    bit ((d.complete i j u none).rd i j) u = true ∧
      bits ((d.complete i j u none).rd i j) 31 16 = nextSeq (bits (d.rd i j) 31 16) ∧
      ∀ k, k < 16 → k ≠ u → bit ((d.complete i j u none).rd i j) k = bit (d.rd i j) k := by
  rw [Dev.complete_word]
  dsimp only
  refine ⟨bit_setBit_same _ _ (by omega), ?_, fun k hk hne => ?_⟩
  · rw [bits_setBit_other _ _ (by omega), bits_setBits_same _ _ (by decide), Nat.mod_eq_of_lt (show _ < 2 ^ (31 + 1 - 16) from nextSeq_lt (bits_lt _ 31 16))]
  · rw [bit_setBit_other _ _ (Ne.symm hne), bit_setBits_other _ _ (by omega)]

/-- An event logged and notified stands in the log with its time. -/
theorem Dev.logNotify_mem {d : Dev} (h : d.thimble = true) (reason inst detail : Nat) :
    ∃ e ∈ (d.logNotify reason inst detail).nv.log, e.reason = reason ∧ e.inst = inst ∧ e.time = d.core.time := by
  unfold Dev.logNotify
  rw [Dev.notify_nv]
  exact Dev.log_mem h _ _ _

/-! ### Gauges (R523) -/

/-- The ratios of the first n gauges in their registers. -/
def Dev.gauged (d : Dev) (ratio : Nat → Nat) (n : Nat) : Dev := forEach n (fun k e => e.wrN 0x2303 (k + 1) (ratio k)) d

theorem Dev.gauged_regsOnly (d : Dev) (ratio : Nat → Nat) (n : Nat) (r : List (Nat × Word)) :
    { d.gauged ratio n with regs := r } = { d with regs := r } :=
  forEach_keeps (fun e : Dev => { e with regs := r }) (f := fun k e => e.wrN 0x2303 (k + 1) (ratio k)) (fun _ _ => rfl) n d

theorem Dev.gauged_regsKept (d : Dev) (ratio : Nat → Nat) {n : Nat} (hn : n < 256) :
    RegsKept (fun i _ => i == 0x2303) d (d.gauged ratio n) := by
  intro i j hj beside
  refine forEach_keeps_below (fun e => e.rd i j) (fun k hk e => Dev.rd_wr_other _ _ fun same => ?_) d
  obtain ⟨rfl, -⟩ := objKey_inj (by omega) hj same
  simp at beside

theorem Dev.gauged_ratio (d : Dev) {ratio : Nat → Nat} (fits : ∀ k, ratio k < 2 ^ 64) {n k : Nat} (hn : n < 256) (hk : k < n) :
    (d.gauged ratio n).rdN 0x2303 (k + 1) = ratio k := by
  induction n with
  | zero => omega
  | succ n ih =>
    unfold Dev.gauged at ih ⊢
    rw [forEach_succ]
    by_cases last : k = n
    · subst last
      exact Dev.rdN_wrN_same _ _ _ _ (fits k)
    · rw [Dev.rdN_wrN_other _ _ (objKey_sub_ne (by omega)), ih (by omega) (by omega)]

/-- The largest of the 64 fabric gauges. -/
def factorOf (ratio : Nat → Nat) : Nat := (List.range 64).foldl (fun m k => max m (ratio k)) 0

theorem factorOf_spec (ratio : Nat → Nat) :
    (∀ k, k < 64 → ratio k ≤ factorOf ratio) ∧ (factorOf ratio = 0 ∨ ∃ k, k < 64 ∧ factorOf ratio = ratio k) := by
  obtain ⟨bound, -, met⟩ := foldl_max_spec ratio (List.range 64) 0
  exact ⟨fun k hk => bound k (List.mem_range.2 hk), met.imp_right fun ⟨k, hk, same⟩ => ⟨k, List.mem_range.1 hk, same⟩⟩

/-- The gauges measured: every ratio, and the measured factor. -/
def Dev.gaugesTaken (d : Dev) (ratio : Nat → Nat) : Dev := (d.gauged ratio 76).wrN 0x2300 4 (factorOf ratio)

theorem gaugeMeasure_takes (ratios : List (BitVec 32)) {s : State} (h : s.dev.thimble = true) :
    exec (.gaugeMeasure ratios) s = .next { s with dev := s.dev.gaugesTaken fun k => (ratios.getD k 0).toNat } := by
  show execGaugeMeasure ratios s = _
  unfold execGaugeMeasure
  rw [onDev_next]
  dsimp only
  rw [if_neg (by simp [h])]
  rfl

theorem Dev.gaugesTaken_regsOnly (d : Dev) (ratio : Nat → Nat) (r : List (Nat × Word)) :
    { d.gaugesTaken ratio with regs := r } = { d with regs := r } := d.gauged_regsOnly ratio 76 r

theorem Dev.gaugesTaken_regsKept (d : Dev) (ratio : Nat → Nat) :
    RegsKept (fun i j => i == 0x2303 || regsOf 0x2300 [4] i j) d (d.gaugesTaken ratio) :=
  (d.gauged_regsKept ratio (by decide)).trans (Dev.wr_regsKept _ 0x2300 4 _ (by decide)) (fun _ _ r => (Bool.or_eq_false_iff.1 r).1)
    (fun _ _ r => (Bool.or_eq_false_iff.1 r).2)

theorem Dev.gaugesTaken_ratio (d : Dev) {ratio : Nat → Nat} (fits : ∀ k, ratio k < 2 ^ 64) {k : Nat} (hk : k < 76) :
    (d.gaugesTaken ratio).rdN 0x2303 (k + 1) = ratio k :=
  (Dev.rdN_wrN_other _ _ (by unfold objKey; omega)).trans (d.gauged_ratio fits (by decide) hk)

theorem Dev.gaugesTaken_factor (d : Dev) {ratio : Nat → Nat} (fits : ∀ k, ratio k < 2 ^ 64) :
    (d.gaugesTaken ratio).rdN 0x2300 4 = factorOf ratio := by
  refine Dev.rdN_wrN_same _ _ _ _ ?_
  rcases (factorOf_spec ratio).2 with h | ⟨k, -, h⟩
  · rw [h]; decide
  · rw [h]; exact fits k

/-! ### Wear (R522, R525, R526) -/

theorem wearModelUpdate_adds {s : State} (h : s.dev.timeRuns = true) :
    exec .wearModelUpdate s = .next { s with dev := { s.dev with nv := { s.dev.nv with
      wearModel := s.dev.nv.wearModel + s.dev.wearNow, wearRates := (s.dev.wearNow :: s.dev.nv.wearRates).take 86400 } } } := by
  show execWearModelUpdate s = _
  unfold execWearModelUpdate
  rw [onDev_next]
  dsimp only
  rw [if_neg (by simp [h])]

/-- One notice of wear: WEAR_STATUS completes, the code stands in the log, and what follows only reports (R526). -/
theorem Dev.wearNotice_reported (d : Dev) (code : Nat) : Reported (d.complete 0x2300 1 15 none) (d.wearNotice code) :=
  Dev.logNotify_reported _ _ _ _

theorem Dev.wearNotice_mem {d : Dev} (h : d.thimble = true) (code : Nat) :
    ∃ e ∈ (d.wearNotice code).nv.log, e.reason = code ∧ e.time = d.core.time := by
  obtain ⟨e, he, reason, -, time⟩ := Dev.logNotify_mem (d := d.complete 0x2300 1 15 none) h code 0 0
  exact ⟨e, he, reason, time⟩

theorem Dev.wearNotice_status (d : Dev) (code : Nat) : bit ((d.wearNotice code).rd 0x2300 1) 15 = true ∧
    bits ((d.wearNotice code).rd 0x2300 1) 31 16 = nextSeq (bits (d.rd 0x2300 1) 31 16) := by
  obtain ⟨unacked, seq, -⟩ := d.complete_shows 0x2300 1 (u := 15) (by decide)
  rw [(d.wearNotice_reported code).regs 0x2300 1 (by decide) (by decide)]
  exact ⟨unacked, seq⟩

/-- A notice moves WEAR_STATUS alone of the wear objects. -/
theorem Dev.wearNotice_rd (d : Dev) (code : Nat) {j : Nat} (hj : j < 256) (h : j ≠ 1) : (d.wearNotice code).rd 0x2300 j = d.rd 0x2300 j := by
  have far : reportReg 0x2300 j = false := by simp [reportReg]
  rw [(d.wearNotice_reported code).regs 0x2300 j hj far]
  exact d.complete_other _ _ (objKey_sub_ne (Ne.symm h))

/-- The first notice for a limit is marked as sent (R526). -/
def Dev.firstNotice (d : Dev) (limit : Nat) : Dev :=
  ({ d with nv := { d.nv with wearSent := tabSet (fun _ => 0) d.nv.wearSent limit 1 } } : Dev).wearNotice 0x0940

section
variable (d : Dev) (limit : Nat)

theorem Dev.firstNotice_reported :
    Reported (({ d with nv := { d.nv with wearSent := tabSet (fun _ => 0) d.nv.wearSent limit 1 } } : Dev).complete 0x2300 1 15 none)
      (d.firstNotice limit) :=
  Dev.wearNotice_reported _ _

theorem Dev.firstNotice_sent : tabGet (fun _ => 0) (d.firstNotice limit).nv.wearSent limit = 1 :=
  (congrArg (fun n : Nv => tabGet (fun _ => 0) n.wearSent limit) (d.firstNotice_reported limit).nv :).trans (tabGet_tabSet_same (fun _ => 0) d.nv.wearSent limit 1)

theorem Dev.firstNotice_status : bit ((d.firstNotice limit).rd 0x2300 1) 15 = true ∧
    bits ((d.firstNotice limit).rd 0x2300 1) 31 16 = nextSeq (bits (d.rd 0x2300 1) 31 16) :=
  Dev.wearNotice_status _ _

theorem Dev.firstNotice_rdN {j : Nat} (hj : j < 256) (h : j ≠ 1) : (d.firstNotice limit).rdN 0x2300 j = d.rdN 0x2300 j :=
  congrArg BitVec.toNat (Dev.wearNotice_rd _ _ hj h)

theorem Dev.firstNotice_mem {d : Dev} (h : d.thimble = true) (limit : Nat) :
    ∃ e ∈ (d.firstNotice limit).nv.log, e.reason = 0x0940 ∧ e.time = d.core.time :=
  Dev.wearNotice_mem (d := { d with nv := { d.nv with wearSent := tabSet (fun _ => 0) d.nv.wearSent limit 1 } }) h _

end

/-- Below 80 % nothing is noticed; up to 95 % the first notice is sent once for each limit (R526). -/
theorem Dev.wearNotices_below (d : Dev) {consumed : Nat} (limit : Nat) (h : consumed < 9500) :
    d.wearNotices limit consumed =
      if 8000 ≤ consumed ∧ tabGet (fun _ => 0) d.nv.wearSent limit = 0 then d.firstNotice limit else d := by
  unfold Dev.wearNotices
  dsimp only
  rw [if_neg (show ¬10000 ≤ consumed by omega), if_neg (show ¬9500 ≤ consumed by omega)]
  generalize tabGet (fun _ => 0) d.nv.wearSent limit = sent
  by_cases hc : 8000 ≤ consumed
  · rw [if_pos hc]
    by_cases hs : sent = 0
    · subst hs
      simp [hc, Dev.firstNotice]
    · rw [if_pos (by omega), if_neg fun g => hs g.2]
  · rw [if_neg hc, if_pos (Nat.zero_le _), if_neg fun g => hc g.1]

theorem Dev.orFree_some (d : Dev) {width v : Nat} (h : v < 2 ^ width) : d.orFree width (some v) = (v, d) := if_pos h

/-- A prediction written: consumption, rate, time left. -/
def Dev.predicted (d : Dev) (consumed rate left : Nat) : Dev :=
  ((d.wrN 0x2300 6 consumed).wrN 0x2300 8 rate).wrN 0x2300 7 left

/-- The prediction from the wear used of a limit, and from n rates of a sum (R526). -/
def Dev.predict (d : Dev) (used limit consumed n sum : Nat) : Dev :=
  let d := d.wrN 0x2300 6 consumed
  let rate := d.orFree 32 (if n = 0 then none else some (sum / n / 100))
  let d := rate.2.wrN 0x2300 8 rate.1
  let left := d.orFree 32
    (if 10000 ≤ consumed then some 0 else if sum = 0 then none else some ((limit - used) * 100 * n / sum))
  left.2.wrN 0x2300 7 left.1

/-- Where both values are stated and fit their registers, the prediction is what it writes. -/
theorem Dev.predict_stated (d : Dev) {used limit consumed n sum : Nat} (rates : n ≠ 0) (worn : sum ≠ 0) (rate : sum / n / 100 < 2 ^ 32)
    (left : (limit - used) * 100 * n / sum < 2 ^ 32) (below : consumed < 10000) :
    d.predict used limit consumed n sum = d.predicted consumed (sum / n / 100) ((limit - used) * 100 * n / sum) := by
  unfold Dev.predict
  dsimp only
  rw [if_neg rates, Dev.orFree_some _ rate, if_neg (Nat.not_le.2 below), if_neg worn, Dev.orFree_some _ left]
  rfl

theorem wearPrediction_predicts {used limit consumed sum n : Nat} {s : State} (ht : s.dev.thimble = true)
    (hu : used = max s.dev.wearModelled s.dev.wearMeasured) (hl : limit = wearLimit (s.dev.rdN 0x2300 9)) (limited : limit ≠ 0)
    (hc : consumed = used * 10000 / limit) (hn : n = s.dev.nv.wearRates.length) (rates : n ≠ 0)
    (hs : sum = s.dev.nv.wearRates.foldl (fun a w => a + w) 0) (worn : sum ≠ 0) (rate : sum / n / 100 < 2 ^ 32)
    (left : (limit - used) * 100 * n / sum < 2 ^ 32) (below : consumed < 9500) :
    exec .wearPrediction s = .next { s with
      dev := (s.dev.predicted consumed (sum / n / 100) ((limit - used) * 100 * n / sum)).wearNotices limit consumed } := by
  have share : s.dev.wearConsumed used limit = (consumed, s.dev) := by
    unfold Dev.wearConsumed
    rw [if_neg limited, ← hc, Nat.min_eq_right (by omega)]
  subst hn hs
  rw [← s.dev.predict_stated rates worn rate left (by omega)]
  show execWearPrediction s = _
  unfold execWearPrediction
  rw [onDev_next]
  dsimp only
  rw [if_neg (by simp [ht]), ← hu, ← hl, share]
  rfl

theorem Dev.predicted_regsKept (d : Dev) (consumed rate left : Nat) :
    RegsKept (regsOf 0x2300 [6, 7, 8]) d (d.predicted consumed rate left) := by
  have far {i j k : Nat} (e : Dev) (v : Word) (hj : j < 256) (hk : k ∈ [6, 7, 8]) (beside : regsOf 0x2300 [6, 7, 8] i j = false) :
      (e.wr 0x2300 k v).rd i j = e.rd i j := by
    refine e.rd_wr_other v fun same => ?_
    obtain ⟨rfl, rfl⟩ := objKey_inj (by simp at hk; omega) hj same
    simp [regsOf] at beside hk
    omega
  intro i j hj beside
  unfold Dev.predicted Dev.wrN
  rw [far _ _ hj (by decide) beside, far _ _ hj (by decide) beside, far _ _ hj (by decide) beside]

theorem Dev.predicted_shows (d : Dev) {consumed rate left : Nat} (hc : consumed < 2 ^ 64) (hr : rate < 2 ^ 64) (hl : left < 2 ^ 64) :
    (d.predicted consumed rate left).rdN 0x2300 6 = consumed ∧ (d.predicted consumed rate left).rdN 0x2300 8 = rate ∧
      (d.predicted consumed rate left).rdN 0x2300 7 = left := by
  unfold Dev.predicted
  refine ⟨?_, ?_, Dev.rdN_wrN_same _ _ _ _ hl⟩
  · rw [Dev.rdN_wrN_other _ _ (by decide), Dev.rdN_wrN_other _ _ (by decide), Dev.rdN_wrN_same _ _ _ _ hc]
  · rw [Dev.rdN_wrN_other _ _ (by decide), Dev.rdN_wrN_same _ _ _ _ hr]

theorem wearHeadroomWrite_holds {w : Wr} {s : State} (h : Accepted objWearHeadroom actWearHeadroom w s.dev) :
    exec (.wearHeadroomWrite w) s = .next { s with dev := s.dev.setHeadroom (objWearHeadroom.valueOf w) } := by
  have apply : actWearHeadroom.apply s.dev w = s.dev.setHeadroom (objWearHeadroom.valueOf w) := rfl
  rw [← apply, ← rowWrite_accepted 0x2300 9 h]
  rfl

/-- A headroom is its register, and at 1,000 or below a notice beside it (R525). -/
theorem Dev.setHeadroom_eq (d : Dev) (v : Word) :
    d.setHeadroom v = if v.toNat ≤ 1000 then (d.wr 0x2300 9 v).wearNotice 0x0943 else d.wr 0x2300 9 v := rfl

end Sys2Proof.Machine
end

section
/-! SUPPORT. Timing references (R249, R429): a group whose input changes loses its lock and its calibration, every other keeps both. -/

namespace Sys2Proof.Machine

/-- Groups lost their locks, or had their calibrations marked, between d and e: nothing else of the clocks, the core, the staged writes or
the shuttles moved but the marks of lost locks, and of the registers only those of reports and CAL_STALE. -/
structure Retimed (lost stale : Nat → Bool) (d e : Dev) : Prop where
  core : e.core = d.core
  staged : e.staged = d.staged
  shuttle : ∀ k, { e.shuttle k with unlocked := (d.shuttle k).unlocked } = d.shuttle k
  regs : RegsKept (fun i j => reportReg i j || regsOf 0x3340 [5] i j) d e
  plls : ∀ k, e.tr.plls.getLsbD k = (d.tr.plls.getLsbD k && !lost k)
  stale : ∀ k, k < 12 → bit (e.rd 0x3340 5) k = (bit (d.rd 0x3340 5) k || stale k)

section
variable {lost stale lost' stale' : Nat → Bool} {d e f : Dev}

theorem Retimed.trans (h : Retimed lost stale d e) (k : Retimed lost' stale' e f) :
    Retimed (fun g => lost g || lost' g) (fun g => stale g || stale' g) d f where
  core := k.core.trans h.core
  staged := k.staged.trans h.staged
  shuttle := fun g =>
    (congrArg (fun x : ShuttleSt => { x with unlocked := (d.shuttle g).unlocked }) (k.shuttle g)).trans (h.shuttle g)
  regs := h.regs.trans k.regs (fun _ _ => id) (fun _ _ => id)
  plls := fun g => by rw [k.plls, h.plls, Bool.not_or, Bool.and_assoc]
  stale := fun g hg => by rw [k.stale g hg, h.stale g hg, Bool.or_assoc]

theorem Retimed.congr (h : Retimed lost stale d e) (hl : ∀ g, lost g = lost' g) (hs : ∀ g, stale g = stale' g) : Retimed lost' stale' d e := by
  rwa [← funext hl, ← funext hs]

theorem Retimed.halted (h : Retimed lost stale d e) (g : Nat) : (e.shuttle g).state = (d.shuttle g).state :=
  (congrArg ShuttleSt.state (h.shuttle g) :)

end

theorem Flowed.retimed {d e : Dev} (h : Flowed d e) : Retimed (fun _ => false) (fun _ => false) d e where
  core := h.core
  staged := h.staged
  shuttle := fun k => by rw [h.shuttle]
  regs := fun i j hj r => h.regs i j hj (Bool.or_eq_false_iff.1 r).1
  plls := fun k => by rw [h.plls, Bool.not_false, Bool.and_true]
  stale := fun k _ => by rw [h.rd (by decide) (by decide), Bool.or_false]

/-- The lock of group g gone from the set of locks. -/
def Dev.unlocked (d : Dev) (g : Nat) : Dev := { d with tr := { d.tr with plls := d.tr.plls &&& ~~~ BitVec.ofNat 12 (2 ^ g) } }

theorem Dev.unlocked_retimed (d : Dev) (g : Nat) : Retimed (fun k => k == g) (fun _ => false) d (d.unlocked g) where
  core := rfl
  staged := rfl
  shuttle := fun _ => rfl
  regs := RegsKept.refl _ d
  plls := fun k => by
    show (d.tr.plls &&& ~~~ BitVec.ofNat 12 (2 ^ g)).getLsbD k = _
    rw [BitVec.getLsbD_and, BitVec.getLsbD_not, BitVec.getLsbD_ofNat, Nat.testBit_two_pow]
    by_cases hk : k < 12
    · simp [hk, eq_comm, Bool.beq_eq_decide_eq]
    · simp [BitVec.getLsbD_of_ge d.tr.plls k (by omega)]
  stale := fun k _ => (Bool.or_false _).symm

theorem Dev.markUnlocked_retimed (d : Dev) (g : Nat) :
    Retimed (fun _ => false) (fun _ => false) d (d.setShuttle g { d.shuttle g with unlocked := true }) where
  core := rfl
  staged := rfl
  shuttle := fun k => by
    by_cases same : g = k
    · subst same
      rw [Dev.shuttle_setShuttle_same]
    · rw [Dev.shuttle_setShuttle_other _ _ _ _ same]
  regs := RegsKept.refl _ d
  plls := fun k => by simp
  stale := fun k _ => (Bool.or_false _).symm

/-- A group whose shuttle is HALTED loses its lock and nothing more (R201). -/
theorem Dev.clockLost_retimed {d : Dev} {g : Nat} (h : (d.shuttle g).state = .halted) :
    Retimed (fun k => k == g) (fun _ => false) d (d.clockLost g) := by
  have uncut : d.cutRun g 0x0406 false = d := by
    unfold Dev.cutRun
    dsimp only
    rw [h]
  have stopped := (d.unlocked_retimed g).trans ((d.unlocked g).markStopped_flowed (fun n => n = 96 + g || (n < 96 && n / 8 = g))).retimed
  have eq : d.clockLost g = ((((d.unlocked g).markStopped (fun n => n = 96 + g || (n < 96 && n / 8 = g))).setShuttle g
      { ((d.unlocked g).markStopped (fun n => n = 96 + g || (n < 96 && n / 8 = g))).shuttle g with unlocked := true }).followGroup g) := by
    unfold Dev.clockLost
    dsimp only
    rw [uncut, h, if_pos (by decide), if_pos (by decide)]
    rfl
  rw [eq]
  exact ((stopped.trans (Dev.markUnlocked_retimed _ g)).trans (Dev.followGroup_flowed _ g).retimed).congr (by simp) (by simp)

/-- CAL_STALE of group g set, and notified when it was not (R249). -/
theorem Dev.calStale_retimed (d : Dev) {g : Nat} (hg : g < 12) : Retimed (fun _ => false) (fun k => k == g) d (d.calStale g) := by
  unfold Dev.calStale
  split
  · next already =>
    refine ⟨rfl, rfl, fun _ => rfl, RegsKept.refl _ d, fun k => by simp, fun k _ => ?_⟩
    by_cases same : k = g
    · subst same
      simp [already]
    · simp [same]
  · have marked : Retimed (fun _ => false) (fun k => k == g) d (d.setFlag 0x3340 5 g true) := by
      refine ⟨rfl, rfl, fun _ => rfl, fun i j hj r => d.wr_regsKept _ _ _ (by decide) i j hj (Bool.or_eq_false_iff.1 r).2,
        fun k => by simp [Dev.setFlag], fun k _ => ?_⟩
      rw [Dev.setFlag_eq, Dev.rd_wr_same]
      by_cases same : k = g
      · subst same
        simp [bit_setBit_same _ _ (show k < 64 by omega)]
      · simp [bit_setBit_other _ _ (Ne.symm same), same]
    exact (marked.trans (Dev.notify_flowed _ _ _).retimed).congr (by simp) (by simp)

/-- What GROUP_TREF does to group g when its input changes: the lock goes, if there was one, and the calibration is stale (R429). -/
def Dev.retime (d : Dev) (g : Nat) : Dev := (if d.tr.plls.getLsbD g then d.clockLost g else d).calStale g

theorem Dev.retime_retimed {d : Dev} {g : Nat} (hg : g < 12) (h : (d.shuttle g).state = .halted) :
    Retimed (fun k => k == g) (fun k => k == g) d (d.retime g) := by
  have dropped : Retimed (fun k => k == g) (fun _ => false) d (if d.tr.plls.getLsbD g then d.clockLost g else d) := by
    split
    · exact Dev.clockLost_retimed h
    · next off =>
      refine ⟨rfl, rfl, fun _ => rfl, RegsKept.refl _ d, fun k => ?_, fun k _ => (Bool.or_false _).symm⟩
      by_cases same : k = g
      · subst same
        simp [off]
      · simp [same]
  exact (dropped.trans (Dev.calStale_retimed _ hg)).congr (by simp) (by simp)

/-- The groups whose input changes, of the first n. -/
def retimedOf (old new : Word) (n k : Nat) : Bool := decide (k < n) && !decide (trefOf old k = trefOf new k)

/-- The first n groups follow a new GROUP_TREF. -/
def Dev.retimeAll (d : Dev) (old new : Word) (n : Nat) : Dev :=
  forEach n (fun g e => if trefOf old g = trefOf new g then e else e.retime g) d

theorem Dev.retimeAll_retimed {d : Dev} (old new : Word) {n : Nat} (hn : n ≤ 12) (h : ∀ g, g < 12 → (d.shuttle g).state = .halted) :
    Retimed (retimedOf old new n) (retimedOf old new n) d (d.retimeAll old new n) := by
  induction n with
  | zero => exact (Flowed.refl d).retimed.congr (by simp [retimedOf]) (by simp [retimedOf])
  | succ n ih =>
    have before := ih (by omega)
    have grows (g : Nat) : (retimedOf old new n g || (g == n && !decide (trefOf old n = trefOf new n))) = retimedOf old new (n + 1) g := by
      unfold retimedOf
      by_cases last : g = n
      · subst last
        simp
      · have : (g < n + 1) = (g < n) := by simp; omega
        simp [last, this]
    have round : d.retimeAll old new (n + 1) =
        if trefOf old n = trefOf new n then d.retimeAll old new n else (d.retimeAll old new n).retime n := forEach_succ _ _ _
    rw [round]
    split
    · next same => exact before.congr (fun g => by simp [← grows, same]) (fun g => by simp [← grows, same])
    · next other =>
      have after := before.trans (Dev.retime_retimed (d := d.retimeAll old new n) (g := n) (by omega) ((before.halted n).trans (h n (by omega))))
      exact after.congr (fun g => by simp [← grows, other]) (fun g => by simp [← grows, other])

theorem Dev.setGroupTref_eq (d : Dev) (v : Word) : d.setGroupTref v = (d.wr 0x2080 5 v).retimeAll (d.rd 0x2080 5) v 12 := rfl

theorem groupTrefWrite_follows {w : Wr} {s : State} (h : Accepted objGroupTref actGroupTref w s.dev) :
    exec (.groupTrefWrite w) s = .next { s with dev := s.dev.setGroupTref (objGroupTref.valueOf w) } := by
  have apply : actGroupTref.apply s.dev w = s.dev.setGroupTref (objGroupTref.valueOf w) := rfl
  rw [← apply, ← rowWrite_accepted 0x2080 5 h]
  rfl

/-- A frequency is accepted in UNCONFIGURED and FITTING (R429). -/
theorem trefFrequency_state {n : Nat} {w : Wr} {d : Dev} (h : Accepted objTrefFrequency (actTrefFrequency n) w d) :
    d.core.state = .unconfigured ∨ d.core.state = .fitting := by
  have allowed : (if d.core.state = .unconfigured || d.core.state = .fitting then 0 else 0x0B26) = 0 := allow_of_writeCheck h.2
  by_contra other
  rw [if_neg (by simpa using other)] at allowed
  exact absurd allowed (by decide)

theorem trefFrequencyWrite_holds {n : Fin 4} {w : Wr} {s : State} (h : Accepted objTrefFrequency (actTrefFrequency n.val) w s.dev) :
    exec (.trefFrequencyWrite n w) s = .next { s with dev := s.dev.wr 0x2080 (1 + n.val) (objTrefFrequency.valueOf w) } := by
  have apply : (actTrefFrequency n.val).apply s.dev w = s.dev.wr 0x2080 (1 + n.val) (objTrefFrequency.valueOf w) := rfl
  rw [← apply, ← rowWrite_accepted 0x2080 (1 + n.val) h]
  rfl

end Sys2Proof.Machine
end

section
/-! SUPPORT. Sensor readings (R427, R428, R519, R520, R528): what is taken, what the checks that follow leave, and the warning and the trip. -/

namespace Sys2Proof.Machine

/-! ### Readings taken (R428) -/

/-- A table of the values of f at the keys of a list, its zeros left out, reads as f there. -/
theorem tabGet_filter_map {α : Type} [DecidableEq α] (z : α) (f : Nat → α) {l : List Nat} {k : Nat} (hk : k ∈ l) :
    tabGet (fun _ => z) ((l.map fun j => (j, f j)).filter fun p => p.2 != z) k = f k := by
  have reads (l : List Nat) : tabGet (fun _ => z) ((l.map fun j => (j, f j)).filter fun p => p.2 != z) k = if k ∈ l then f k else z := by
    induction l with
    | nil => rfl
    | cons j l ih =>
      rw [List.map_cons, List.filter_cons]
      by_cases zero : f j = z
      · rw [if_neg (by simp [zero]), ih]
        by_cases same : k = j
        · subst same
          simp [zero]
        · simp [same]
      · rw [if_pos (by simp [zero])]
        show (if j = k then f j else _) = _
        by_cases same : j = k
        · subst same
          simp
        · rw [if_neg same, ih]
          simp [Ne.symm same]
  rw [reads, if_pos hk]

theorem Dev.takeReadings_temps (d : Dev) (temps volts : List (BitVec 16)) {k : Nat} (hk : k < 16) :
    tabGet (fun _ => 0) (d.takeReadings temps volts).tr.temps k = (temps.getD k 0).toInt :=
  tabGet_filter_map 0 (fun j => (temps.getD j 0).toInt) (List.mem_range.2 hk)

theorem Dev.takeReadings_volts (d : Dev) (temps volts : List (BitVec 16)) {k : Nat} (hk : k < 8) :
    tabGet (fun _ => 0) (d.takeReadings temps volts).tr.volts k = (volts.getD k 0).toNat :=
  tabGet_filter_map 0 (fun j => (volts.getD j 0).toNat) (List.mem_range.2 hk)

/-! ### Checks that leave the device running -/

/-- Checks ran between d and e: the core, the staged writes, the shuttles, the readings and the count of readings at the trip level stay. -/
structure Checked (d e : Dev) : Prop where
  core : e.core = d.core
  staged : e.staged = d.staged
  shuttles : e.shuttles = d.shuttles
  temps : e.tr.temps = d.tr.temps
  volts : e.tr.volts = d.tr.volts
  trips : e.safety.tripReadings = d.safety.tripReadings

theorem Checked.refl (d : Dev) : Checked d d := ⟨rfl, rfl, rfl, rfl, rfl, rfl⟩

theorem Checked.trans {d e f : Dev} (h : Checked d e) (k : Checked e f) : Checked d f :=
  ⟨k.core.trans h.core, k.staged.trans h.staged, k.shuttles.trans h.shuttles, k.temps.trans h.temps, k.volts.trans h.volts,
    k.trips.trans h.trips⟩

theorem Flowed.checked {d e : Dev} (h : Flowed d e) : Checked d e where
  core := h.core
  staged := h.staged
  shuttles := h.shuttles
  temps := (congrArg (fun x : Dev => x.tr.temps) h.still :)
  volts := (congrArg (fun x : Dev => x.tr.volts) h.still :)
  trips := congrArg SafetySt.tripReadings h.safety

theorem Dev.wr_checked (d : Dev) (i j : Nat) (v : Word) : Checked d (d.wr i j v) := ⟨rfl, rfl, rfl, rfl, rfl, rfl⟩

/-- Permits move neither the count of readings nor anything else that checks leave. -/
theorem Dev.withdraw_trips (d : Dev) (f : Nat) : (d.withdraw f).safety.tripReadings = d.safety.tripReadings := by
  unfold Dev.withdraw
  split
  · dsimp only
    split <;> rfl
  · rfl

theorem Dev.updatePermits_checked (d : Dev) : Checked d d.updatePermits where
  core := d.updatePermits_core
  staged := d.updatePermits_staged
  shuttles := (congrArg Dev.shuttles d.updatePermits_besidePermits :)
  temps := congrArg TransportSt.temps d.updatePermits_tr
  volts := congrArg TransportSt.volts d.updatePermits_tr
  trips := by
    unfold Dev.updatePermits
    refine forEach_keeps (fun e => e.safety.tripReadings) (fun f e => ?_) 4 d
    split
    · exact e.withdraw_trips f
    · split
      · rfl
      · exact e.withdraw_trips f

theorem Dev.exclude_checked (d : Dev) (k : Nat) : Checked d (d.exclude k) :=
  Checked.trans (e := { d with safety := { d.safety with excluded := d.safety.excluded ||| BitVec.ofNat 16 (2 ^ k) } })
    ⟨rfl, rfl, rfl, rfl, rfl, rfl⟩ (Dev.log_flowed _ _ _ _).checked

theorem Dev.excludeAll_checked (d : Dev) (l : List Nat) : Checked d (l.foldl (fun e k => e.exclude k) d) := by
  induction l generalizing d with
  | nil => exact .refl d
  | cons k l ih => exact (d.exclude_checked k).trans (ih _)

theorem Dev.findTjMax_checked (d : Dev) : Checked d d.findTjMax.2 := by
  unfold Dev.findTjMax
  split
  · exact ⟨rfl, rfl, rfl, rfl, rfl, rfl⟩
  · exact .refl d

theorem Dev.settleTjMax_checked (d : Dev) : Checked d d.settleTjMax :=
  d.findTjMax_checked.trans ⟨rfl, rfl, rfl, rfl, rfl, rfl⟩

/-- A check of a band moves the state of its monitor, and may log. -/
theorem Dev.bandCheck_flowed (d : Dev) (k : Nat) : ∃ m, Flowed { d with safety := { d.safety with vmon := m } } (d.bandCheck k) := by
  unfold Dev.bandCheck
  dsimp only
  split
  · split
    · exact ⟨_, .refl _⟩
    · split
      · exact ⟨_, Dev.log_flowed _ _ _ _⟩
      · exact ⟨_, .refl _⟩
  · split
    · exact ⟨d.safety.vmon, .refl _⟩
    · split
      · exact ⟨_, .refl _⟩
      · split
        · exact ⟨d.safety.vmon, .refl _⟩
        · split
          · exact ⟨_, Dev.log_flowed _ _ _ _⟩
          · exact ⟨_, .refl _⟩

/-- Bands and drift checked: what checks leave, and every register but those of reports and CAL_STALE. -/
structure Compared (d e : Dev) : Prop where
  checked : Checked d e
  regs : RegsKept (fun i j => reportReg i j || regsOf 0x3340 [5] i j) d e

theorem Compared.refl (d : Dev) : Compared d d := ⟨.refl d, RegsKept.refl _ d⟩

theorem Compared.trans {d e f : Dev} (h : Compared d e) (k : Compared e f) : Compared d f :=
  ⟨h.checked.trans k.checked, h.regs.trans k.regs (fun _ _ => id) (fun _ _ => id)⟩

theorem Flowed.compared {d e : Dev} (h : Flowed d e) : Compared d e :=
  ⟨h.checked, fun i j hj r => h.regs i j hj (Bool.or_eq_false_iff.1 r).1⟩

theorem Dev.bandCheck_compared (d : Dev) (k : Nat) : Compared d (d.bandCheck k) := by
  obtain ⟨m, flowed⟩ := d.bandCheck_flowed k
  have same : Compared d { d with safety := { d.safety with vmon := m } } := ⟨⟨rfl, rfl, rfl, rfl, rfl, rfl⟩, RegsKept.refl _ d⟩
  exact same.trans flowed.compared

theorem Dev.calStale_compared (d : Dev) (g : Nat) : Compared d (d.calStale g) := by
  unfold Dev.calStale
  split
  · exact .refl d
  · have marked : Compared d (d.setFlag 0x3340 5 g true) :=
      ⟨d.wr_checked _ _ _, fun i j hj r => d.wr_regsKept _ _ _ (by decide) i j hj (Bool.or_eq_false_iff.1 r).2⟩
    exact marked.trans (Dev.notify_flowed _ _ _).compared

theorem forEach_compared {f : Nat → Dev → Dev} (h : ∀ i e, Compared e (f i e)) (n : Nat) (d : Dev) : Compared d (forEach n f d) := by
  induction n with
  | zero => exact .refl d
  | succ n ih =>
    rw [forEach_succ]
    exact ih.trans (h n _)

/-- The bands of the voltage monitors and the drift of the groups checked (R249, R519). -/
def Dev.compared (d : Dev) : Dev := (forEach 8 (fun k e => e.bandCheck k) d).driftCheck

theorem Dev.compared_compared (d : Dev) : Compared d d.compared := by
  refine (forEach_compared (fun k e => e.bandCheck_compared k) 8 d).trans ?_
  unfold Dev.compared Dev.driftCheck
  refine forEach_compared (fun g e => ?_) 12 _
  split
  · exact e.calStale_compared g
  · exact .refl e

/-! ### TJ_MAX (R427, R520) -/

/-- Sensors that agree within the range stay in use. -/
theorem newlyExcluded_common {t : Nat → Int} {v : Int} (same : ∀ k, k < 16 → t k = v) (low : -320 ≤ v) (high : v ≤ 1200) :
    newlyExcluded 0 t = [] := by
  unfold newlyExcluded
  dsimp only
  rw [List.filter_eq_nil_iff]
  intro k hk
  have hk := same k (List.mem_range.1 (List.mem_filter.1 hk).1)
  generalize ho : (List.filter _ (List.filter _ _) : List Nat) = others
  have near : ∀ j ∈ others, t j = v := by
    intro j hj
    rw [← ho] at hj
    exact same j (List.mem_range.1 (List.mem_filter.1 (List.mem_filter.1 (List.mem_filter.1 hj).1).1).1)
  cases others with
  | nil => simp [hk, low, high]
  | cons j l => simp [hk, low, high, near j List.mem_cons_self]

/-- With no sensor excluded and one reading common to all, that reading is TJ_MAX. -/
theorem Dev.findTjMax_common {d : Dev} {v : Int} (all : d.safety.excluded = 0)
    (same : ∀ k, k < 16 → tabGet (fun _ => 0) d.tr.temps k = v) : d.findTjMax = (v, d) := by
  have read {k : Nat} (hk : k < 16) : d.temperature k = v := by
    unfold Dev.temperature
    rw [all, if_neg (by simp), same k hk]
  have highest (l : List Nat) (hl : ∀ k ∈ l, k < 16) : l.foldl (fun a j => max a (d.temperature j)) v = v := by
    induction l with
    | nil => rfl
    | cons k l ih =>
      rw [List.foldl_cons, read (hl k List.mem_cons_self), max_self]
      exact ih fun j hj => hl j (List.mem_cons_of_mem k hj)
  have every : (List.range 16).filter (fun k => !(0 : BitVec 16).getLsbD k) = 0 :: (List.range 16).tail := by decide
  unfold Dev.findTjMax
  rw [all, every]
  show ((List.range 16).tail.foldl (fun a j => max a (d.temperature j)) (d.temperature 0), d) = (v, d)
  rw [read (by decide), highest _ fun k hk => List.mem_range.1 (List.mem_of_mem_tail hk)]

/-- TJ_MAX reads back as what it was set to. -/
theorem signedOf_ofInt (v : BitVec 16) : signedOf 2 (ofInt 2 v.toInt) = v.toInt := by
  unfold signedOf ofInt
  rw [BitVec.ofInt_toInt]
  simp

/-- The readings taken, the sensors they exclude, TJ_MAX and PEAK_TJ found (R427, R520). -/
def Dev.sensed (d : Dev) (temps volts : List (BitVec 16)) : Dev :=
  let d := d.takeReadings temps volts
  ((newlyExcluded d.safety.excluded fun k => tabGet (fun _ => 0) d.tr.temps k).foldl (fun e k => e.exclude k) d).settleTjMax

theorem Dev.sensed_checked (d : Dev) (temps volts : List (BitVec 16)) : Checked (d.takeReadings temps volts) (d.sensed temps volts) :=
  (Dev.excludeAll_checked _ _).trans (Dev.settleTjMax_checked _)

/-- A reading common to all 16 sensors, within their range, becomes TJ_MAX, and no sensor is excluded. -/
theorem Dev.sensed_common {d : Dev} {v : BitVec 16} (all : d.safety.excluded = 0) (low : -320 ≤ v.toInt) (high : v.toInt ≤ 1200)
    (volts : List (BitVec 16)) :
    ∃ x, d.sensed (List.replicate 16 v) volts =
      { (d.takeReadings (List.replicate 16 v) volts).wr 0x2020 1 (ofInt 2 v.toInt) with env := x } := by
  have same (k : Nat) (hk : k < 16) : tabGet (fun _ => 0) (d.takeReadings (List.replicate 16 v) volts).tr.temps k = v.toInt := by
    rw [d.takeReadings_temps _ _ hk, List.getD_eq_getElem _ _ (by simpa using hk), List.getElem_replicate]
  have none : newlyExcluded (d.takeReadings (List.replicate 16 v) volts).safety.excluded
      (fun k => tabGet (fun _ => 0) (d.takeReadings (List.replicate 16 v) volts).tr.temps k) = [] := by
    show newlyExcluded d.safety.excluded _ = []
    rw [all]
    exact newlyExcluded_common same low high
  unfold Dev.sensed
  dsimp only
  rw [none]
  unfold Dev.settleTjMax
  dsimp only [List.foldl_nil]
  rw [Dev.findTjMax_common (d := d.takeReadings (List.replicate 16 v) volts) all same]
  exact ⟨_, rfl⟩

theorem sensorUpdate_checks (temps volts : List (BitVec 16)) {s : State} (h : s.dev.thimble = true) :
    exec (.sensorUpdate temps volts) s =
      .next { s with dev := (s.dev.sensed temps volts).compared.thermalWarning.thermalTrip } := by
  have counts : s.dev.timeRuns = true := by
    unfold Dev.thimble at h
    unfold Dev.timeRuns
    obtain ⟨supplied, runs⟩ := Bool.and_eq_true_iff.1 h
    rw [supplied]
    cases hs : s.dev.core.state <;> simp [hs] at runs ⊢
  have runs : (s.dev.takeReadings temps volts).thimble = true := h
  show execSensorUpdate temps volts s = _
  unfold execSensorUpdate
  rw [onDev_next]
  dsimp only
  rw [if_neg (by simp [counts]), if_neg (by simp [runs])]
  rfl

/-! ### The thermal warning (R528) -/

/-- Checks after which TJ_MAX stands. -/
structure Watched (d e : Dev) : Prop where
  checked : Checked d e
  tj : e.rd 0x2020 1 = d.rd 0x2020 1

theorem Watched.refl (d : Dev) : Watched d d := ⟨.refl d, rfl⟩

theorem Watched.trans {d e f : Dev} (h : Watched d e) (k : Watched e f) : Watched d f := ⟨h.checked.trans k.checked, k.tj.trans h.tj⟩

theorem Compared.watched {d e : Dev} (h : Compared d e) : Watched d e := ⟨h.checked, h.regs _ _ (by decide) (by decide)⟩

theorem Dev.wr_watched (d : Dev) {i : Nat} (j : Nat) (v : Word) (h : 0x2021 ≤ i) : Watched d (d.wr i j v) :=
  ⟨d.wr_checked i j v, d.rd_wr_other v (by unfold objKey; omega)⟩

theorem Dev.updatePermits_watched (d : Dev) : Watched d d.updatePermits :=
  ⟨d.updatePermits_checked, d.updatePermits_rd (by decide) (by decide)⟩

/-- The warning's time of low temperatures set. -/
def Dev.cooling (d : Dev) (t : Option Nat) : Dev := { d with safety := { d.safety with coolSince := t } }

theorem Dev.cooling_watched (d : Dev) (t : Option Nat) : Watched d (d.cooling t) := ⟨⟨rfl, rfl, rfl, rfl, rfl, rfl⟩, rfl⟩

/-- The warning raised: its flag, its count, the result that completes. -/
def Dev.warned (d : Dev) : Dev := (((d.cooling none).setFlag 0x2030 1 14 true).count 0x2030 3 32 1).complete 0x2030 1 15 none

theorem Dev.warned_watched (d : Dev) : Watched d d.warned :=
  (((d.cooling_watched none).trans (Dev.wr_watched _ 1 _ (by decide))).trans (Dev.wr_watched _ 3 _ (by decide))).trans
    (Dev.wr_watched _ 1 _ (by decide))

theorem Dev.warned_shows (d : Dev) : bit (d.warned.rd 0x2030 1) 14 = true ∧ bit (d.warned.rd 0x2030 1) 15 = true ∧
    d.warned.rdN 0x2030 3 = (d.rdN 0x2030 3 + 1) % 2 ^ 32 := by
  obtain ⟨unacked, -, others⟩ := Dev.complete_shows (((d.cooling none).setFlag 0x2030 1 14 true).count 0x2030 3 32 1) 0x2030 1
    (u := 15) (by decide)
  unfold Dev.warned
  refine ⟨?_, unacked, ?_⟩
  · rw [others 14 (by decide) (by decide), Dev.count_eq, Dev.wrN, Dev.rd_wr_other _ _ (by decide), Dev.setFlag_eq, Dev.rd_wr_same,
      bit_setBit_same _ _ (by decide)]
  · show ((Dev.complete _ _ _ _ _).rd 0x2030 3).toNat = _
    rw [Dev.complete_other _ _ _ (by decide)]
    refine (Dev.rdN_count_same _ _ _ _).trans ?_
    unfold Dev.rdN
    rw [Dev.setFlag_eq, Dev.rd_wr_other _ _ (by decide)]
    rfl

theorem Dev.thermalWarning_raised {d : Dev} (off : bit (d.rd 0x2030 1) 14 = false) (hot : 896 ≤ d.tjMax) :
    d.thermalWarning = (d.warned.logNotify 0x0901 0 0).updatePermits := by
  unfold Dev.thermalWarning
  dsimp only
  rw [off, if_pos (by decide), if_pos (by simp [hot])]
  rfl

theorem Dev.thermalWarning_watched (d : Dev) : Watched d d.thermalWarning := by
  have told := (Dev.logNotify_flowed d.warned 0x0901 0 0).compared.watched
  unfold Dev.thermalWarning
  dsimp only
  split
  · split
    · exact (d.warned_watched.trans told).trans (Dev.updatePermits_watched _)
    · exact .refl d
  · split
    · exact d.cooling_watched none
    · split
      · exact d.cooling_watched _
      · split
        · exact .refl d
        · exact ((d.cooling_watched none).trans (Dev.wr_watched _ 1 _ (by decide))).trans (Dev.updatePermits_watched _)

/-! ### The thermal trip (R528) -/

/-- The count of readings at the trip level. -/
def Dev.tripCounted (d : Dev) (n : Nat) : Dev := { d with safety := { d.safety with tripReadings := n } }

/-- A first reading at the trip level only counts. -/
theorem Dev.thermalTrip_first {d : Dev} (h : d.safety.tripReadings = 0) : ∃ n, d.thermalTrip = d.tripCounted n := by
  unfold Dev.thermalTrip
  rw [h]
  dsimp only
  refine ⟨if 960 ≤ d.tjMax then min 2 (0 + 1) else 0, if_neg ?_⟩
  split <;> simp

/-- One more trips (R528). -/
theorem Dev.thermalTrip_second {d : Dev} (h : 1 ≤ d.safety.tripReadings) (hot : 960 ≤ d.tjMax) (can : d.canTrip = true) :
    d.thermalTrip = ((d.tripCounted 2).complete 0x2030 1 15 none).enterSafe 0x0902 0 := by
  have two : min 2 (d.safety.tripReadings + 1) = 2 := by omega
  unfold Dev.thermalTrip
  rw [if_pos hot, two]
  exact if_pos (show (decide (2 = 2) && d.canTrip) = true by simp [can])

/-! ### What SAFE leaves off (R36, R507) -/

theorem Dev.permitFails_of_not_run {d : Dev} (h : d.core.state ≠ .run) (f : Nat) : d.permitFails f ≠ 0 := by
  unfold Dev.permitFails
  dsimp only
  rw [show (d.core.state != .run) = true by simpa using h]
  simp only [Bool.toNat_true]
  omega

/-- Outside RUN no permit is left (R507). -/
theorem Dev.updatePermits_notRun {d : Dev} (h : d.core.state ≠ .run) : d.updatePermits.safety.permits = 0 := by
  have stays (f : Nat) (e : Dev) : (e.withdraw f).core = e.core := (congrArg Dev.core (e.withdraw_besidePermits f) :)
  have round (f : Nat) (e : Dev)
      (he : (if e.proving f then e.withdraw f else if e.permitFails f = 0 then e.grant f else e.withdraw f).core.state ≠ .run) :
      e.core.state ≠ .run ∧ (if e.proving f then e.withdraw f else if e.permitFails f = 0 then e.grant f else e.withdraw f) = e.withdraw f := by
    have outside : e.core.state ≠ .run := by
      split at he
      · exact stays f e ▸ he
      · split at he
        · exact he
        · exact stays f e ▸ he
    refine ⟨outside, ?_⟩
    rw [if_neg (Dev.permitFails_of_not_run outside f), ite_self]
  refine BitVec.eq_of_getLsbD_eq fun k hk => ?_
  rw [show (0 : BitVec 4).getLsbD k = false from BitVec.getLsbD_zero]
  refine forEach_reaches (P := fun k e => e.core.state ≠ .run → e.safety.permits.getLsbD k = false) (fun f e he => ?_)
    (fun f k e held he => ?_) hk d (by rwa [← Dev.updatePermits_core] at h)
  · rw [(round f e he).2, Dev.withdraw_permits]
    simp
  · rw [(round f e he).2, Dev.withdraw_permits, held (round f e he).1, Bool.false_and]

theorem Dev.dropFullLoad_core (d : Dev) : d.dropFullLoad.core = d.core := by
  unfold Dev.dropFullLoad
  split
  · split <;> rfl
  · rfl

theorem Dev.readyForSafe_outputs (d : Dev) (reason : Nat) : (d.readyForSafe reason).core.outputs = false := by
  have off : d.endWork.dropOutputs.dropFullLoad.core.outputs = false := by
    rw [Dev.dropFullLoad_core, (Dev.dropOutputs_flowed _).core]
    rfl
  unfold Dev.readyForSafe
  dsimp only
  split <;> exact off

/-- SAFE is entered with outputs and permits off. -/
theorem Dev.enterSafe_off {d : Dev} (h : d.canTrip = true) (reason inst : Nat) :
    (d.enterSafe reason inst).core.outputs = false ∧ (d.enterSafe reason inst).safety.permits = 0 := by
  have state := Dev.changeState_state (d.readyForSafe reason) .safe reason inst
  rw [Dev.enterSafe_of_canTrip h]
  refine ⟨?_, ?_⟩
  · rw [Dev.emcy_core, Dev.updatePermits_core]
    show ((d.readyForSafe reason).changeState .safe reason inst).core.outputs = false
    rw [(Dev.changeState_flowed _ _ _ _).core, Dev.shifted_core]
    exact d.readyForSafe_outputs reason
  · rw [(Dev.emcy_reported _ _ _ _).safety]
    refine Dev.updatePermits_notRun ?_
    show ((d.readyForSafe reason).changeState .safe reason inst).core.state ≠ .run
    rw [state]
    decide

end Sys2Proof.Machine
end

section
/-! The statement about sensors, timing references and wear: its longer parts, and the whole. -/

namespace Sys2Proof.Machine

/-! ### Timing references (R429) -/

/-- GROUP_TREF is held, and exactly the groups whose input changes lose lock and calibration. -/
theorem groupTref_followed {w : Wr} {s : State} (h : Accepted objGroupTref actGroupTref w s.dev)
    (halted : ∀ g, g < 12 → (s.dev.shuttle g).state = .halted) :
    ∃ t, exec (.groupTrefWrite w) s = .next t ∧ Kept s t ∧ t.dev.rd 0x2080 5 = objGroupTref.valueOf w ∧
      t.dev.core = s.dev.core ∧ t.dev.staged = s.dev.staged ∧
      (∀ k, { t.dev.shuttle k with unlocked := (s.dev.shuttle k).unlocked } = s.dev.shuttle k) ∧
      RegsKept (fun i j => reportReg i j || regsOf 0x2080 [5] i j || regsOf 0x3340 [5] i j) s.dev t.dev ∧
      ∀ g, g < 12 →
        (trefOf (s.dev.rd 0x2080 5) g = trefOf (objGroupTref.valueOf w) g →
          t.dev.tr.plls.getLsbD g = s.dev.tr.plls.getLsbD g ∧ bit (t.dev.rd 0x3340 5) g = bit (s.dev.rd 0x3340 5) g) ∧
        (trefOf (s.dev.rd 0x2080 5) g ≠ trefOf (objGroupTref.valueOf w) g →
          t.dev.tr.plls.getLsbD g = false ∧ bit (t.dev.rd 0x3340 5) g = true) := by
  have timed := Dev.retimeAll_retimed (d := s.dev.wr 0x2080 5 (objGroupTref.valueOf w)) (s.dev.rd 0x2080 5) (objGroupTref.valueOf w)
    (Nat.le_refl 12) halted
  rw [← Dev.setGroupTref_eq] at timed
  have stale : (s.dev.wr 0x2080 5 (objGroupTref.valueOf w)).rd 0x3340 5 = s.dev.rd 0x3340 5 := Dev.rd_wr_other _ _ (by decide)
  refine ⟨_, groupTrefWrite_follows h, kept_withDev s _, ?_, timed.core, timed.staged, timed.shuttle, ?_, fun g hg => ⟨fun same => ?_,
    fun other => ?_⟩⟩
  · exact (timed.regs 0x2080 5 (by decide) (by decide)).trans (Dev.rd_wr_same _ _ _ _)
  · exact (s.dev.wr_regsKept 0x2080 5 _ (by decide)).trans timed.regs (fun _ _ r => by simp at r; exact r.1.2)
      (fun _ _ r => by simp at r ⊢; exact ⟨r.1.1, r.2⟩)
  · dsimp only
    rw [timed.plls, timed.stale g hg, stale]
    simp [retimedOf, same]
  · dsimp only
    rw [timed.plls, timed.stale g hg]
    simp [retimedOf, hg, other]

/-! ### Readings (R428, R520, R528) -/

/-- What the checks after a reading find of TJ_MAX and the warning, for one reading common to all sensors. -/
theorem Dev.compared_common {d : Dev} {v : BitVec 16} (all : d.safety.excluded = 0) (low : -320 ≤ v.toInt) (high : v.toInt ≤ 1200)
    (volts : List (BitVec 16)) :
    (d.sensed (List.replicate 16 v) volts).compared.rd 0x2020 1 = ofInt 2 v.toInt ∧
      (d.sensed (List.replicate 16 v) volts).compared.rd 0x2030 1 = d.rd 0x2030 1 ∧
      (d.sensed (List.replicate 16 v) volts).compared.rd 0x2030 3 = d.rd 0x2030 3 := by
  obtain ⟨x, sensed⟩ := Dev.sensed_common all low high volts
  have regs := (d.sensed (List.replicate 16 v) volts).compared_compared.regs
  rw [regs _ _ (by decide) (by decide), regs _ _ (by decide) (by decide), regs _ _ (by decide) (by decide), sensed]
  exact ⟨Dev.rd_wr_same _ _ _ _, Dev.rd_wr_other _ _ (by decide), Dev.rd_wr_other _ _ (by decide)⟩

/-- The registers of the warning after a first common reading. -/
theorem sensorUpdate_common {v : BitVec 16} {d : Dev} (all : d.safety.excluded = 0) (low : -320 ≤ v.toInt) (high : v.toInt < 960)
    (volts : List (BitVec 16)) {n : Nat} :
    let e := (d.sensed (List.replicate 16 v) volts).compared.thermalWarning.tripCounted n
    e.rd 0x2020 1 = ofInt 2 v.toInt ∧
      (896 ≤ v.toInt → bit (d.rd 0x2030 1) 14 = false →
        bit (e.rd 0x2030 1) 14 = true ∧ bit (e.rd 0x2030 1) 15 = true ∧ e.rdN 0x2030 3 = (d.rdN 0x2030 3 + 1) % 2 ^ 32) := by
  obtain ⟨tj, status, count⟩ := Dev.compared_common all low (by omega) volts
  generalize (d.sensed (List.replicate 16 v) volts).compared = c at tj status count
  refine ⟨c.thermalWarning_watched.tj.trans tj, fun hot off => ?_⟩
  have hot : 896 ≤ c.tjMax := by
    unfold Dev.tjMax
    rw [tj, signedOf_ofInt]
    exact hot
  have told := c.warned.logNotify_flowed 0x0901 0 0
  have shown (j : Nat) (hj : j < 256) : ((c.thermalWarning).tripCounted n).rd 0x2030 j = c.warned.rd 0x2030 j := by
    show c.thermalWarning.rd 0x2030 j = _
    rw [Dev.thermalWarning_raised (status ▸ off) hot, Dev.updatePermits_rd _ (by decide) hj, told.rd hj (by simp [reportReg])]
  obtain ⟨raised, unacked, counted⟩ := c.warned_shows
  unfold Dev.rdN at counted ⊢
  rw [shown 1 (by decide), shown 3 (by decide), counted, count]
  exact ⟨raised, unacked, rfl⟩

/-- A second reading at the trip level leads to SAFE (R528). -/
theorem sensorUpdate_trips {v : BitVec 16} (volts : List (BitVec 16)) {s : State} (thimble : s.dev.thimble = true)
    (run : s.dev.core.state = .run) (all : s.dev.safety.excluded = 0) (before : 1 ≤ s.dev.safety.tripReadings) (hot : 960 ≤ v.toInt)
    (high : v.toInt ≤ 1200) :
    ∃ t, exec (.sensorUpdate (List.replicate 16 v) volts) s = .next t ∧ Kept s t ∧ t.dev.core.state = .safe ∧
      t.dev.rdN 0x2000 3 = 0x0902 ∧ t.dev.safety.permits = 0 ∧ t.dev.core.outputs = false := by
  obtain ⟨tj, -, -⟩ := Dev.compared_common all (by omega) high volts
  have watched := (s.dev.sensed (List.replicate 16 v) volts).compared.thermalWarning_watched
  have checked := ((s.dev.sensed_checked (List.replicate 16 v) volts).trans (Dev.compared_compared _).checked).trans watched.checked
  have ran := sensorUpdate_checks (List.replicate 16 v) volts thimble
  generalize (s.dev.sensed (List.replicate 16 v) volts).compared.thermalWarning = e at watched checked ran
  have can : e.canTrip = true := by
    unfold Dev.canTrip
    rw [checked.core, show (s.dev.takeReadings (List.replicate 16 v) volts).core.state = .run from run]
    rfl
  have highest : 960 ≤ e.tjMax := by
    unfold Dev.tjMax
    rw [watched.tj, tj, signedOf_ofInt]
    exact hot
  rw [Dev.thermalTrip_second (checked.trips.symm ▸ before) highest can] at ran
  have ready : ((e.tripCounted 2).complete 0x2030 1 15 none).canTrip = true := can
  obtain ⟨outputs, permits⟩ := Dev.enterSafe_off ready 0x0902 0
  exact ⟨_, ran, kept_withDev s _, Dev.enterSafe_state ready 0x0902 0,
    (congrArg BitVec.toNat (Dev.enterSafe_reason ready 0x0902 0)).trans (toNat_word (by decide)), permits, outputs⟩

/-! ### The whole -/

/-- Settles O40: readings are checked without a change of state (Checked) until a second one trips, an input that changes costs its group
lock and calibration (Retimed), and gauges, wear and headroom are registers written, with one notice at a limit passed. -/
theorem sensorsReferencesWear : Obligations.SensorsReferencesWear := by
  unfold Obligations.SensorsReferencesWear
  refine ⟨?frequency, fun w s h halted => groupTref_followed h halted, ?sensors,
    fun v volts s thimble run all before hot high => sensorUpdate_trips volts thimble run all before hot high, ?model, ?gauges, ?prediction,
    ?headroom⟩
  case frequency =>
    intro n w s h
    exact ⟨_, trefFrequencyWrite_holds h, kept_withDev s _, rfl, s.dev.wr_regsKept _ _ _ (by omega), Dev.rd_wr_same _ _ _ _,
      trefFrequency_state h⟩
  case sensors =>
    intro temps volts s thimble first
    have checked := ((s.dev.sensed_checked temps volts).trans (Dev.compared_compared _).checked).trans
      (Dev.thermalWarning_watched _).checked
    obtain ⟨n, trip⟩ := Dev.thermalTrip_first (checked.trips.trans first)
    have ran := sensorUpdate_checks temps volts thimble
    rw [trip] at ran
    refine ⟨_, ran, kept_withDev s _, checked.core, checked.staged, checked.shuttles,
      fun k hk => ?_, fun k hk => ?_, fun v same all low high => ?_⟩
    · exact (congrArg (fun l => tabGet (fun _ => 0) l k) checked.temps).trans (s.dev.takeReadings_temps _ _ hk)
    · exact (congrArg (fun l => tabGet (fun _ => 0) l k) checked.volts).trans (s.dev.takeReadings_volts _ _ hk)
    · subst same
      exact sensorUpdate_common all low high volts
  case model =>
    intro s counts
    exact ⟨_, wearModelUpdate_adds counts, kept_withDev s _, rfl, rfl⟩
  case gauges =>
    intro ratios s thimble
    have fits (k : Nat) : (ratios.getD k 0).toNat < 2 ^ 64 := (BitVec.isLt _).trans (by decide)
    obtain ⟨bound, met⟩ := factorOf_spec fun k => (ratios.getD k 0).toNat
    have factor := s.dev.gaugesTaken_factor fits
    rw [← factor] at bound met
    exact ⟨_, gaugeMeasure_takes ratios thimble, kept_withDev s _, s.dev.gaugesTaken_regsOnly _ _, s.dev.gaugesTaken_regsKept _,
      fun k hk => s.dev.gaugesTaken_ratio fits hk, bound, met⟩
  case prediction =>
    intro used limit consumed sum n s thimble hu hl limited hc hn rates hs worn rate left below
    have ran := wearPrediction_predicts thimble hu hl limited hc hn rates hs worn rate left below
    obtain ⟨six, eight, seven⟩ := s.dev.predicted_shows (show consumed < 2 ^ 64 by omega) (rate.trans (by decide)) (left.trans (by decide))
    have kept := s.dev.predicted_regsKept consumed (sum / n / 100) ((limit - used) * 100 * n / sum)
    have beside : { s.dev.predicted consumed (sum / n / 100) ((limit - used) * 100 * n / sum) with regs := s.dev.regs } = s.dev := rfl
    rw [Dev.wearNotices_below _ _ below] at ran
    generalize s.dev.predicted consumed (sum / n / 100) ((limit - used) * 100 * n / sum) = p at ran six eight seven kept beside
    have core : p.core = s.dev.core := (congrArg Dev.core beside :)
    have freeCtr : p.freeCtr = s.dev.freeCtr := (congrArg Dev.freeCtr beside :)
    have nv : p.nv = s.dev.nv := (congrArg Dev.nv beside :)
    have runs : p.thimble = true := (congrArg Dev.thimble beside :).trans thimble
    rw [nv] at ran
    by_cases notice : 8000 ≤ consumed ∧ tabGet (fun _ => 0) s.dev.nv.wearSent limit = 0
    · rw [if_pos notice] at ran
      have told := p.firstNotice_reported limit
      obtain ⟨unacked, seq⟩ := p.firstNotice_status limit
      rw [kept 0x2300 1 (by decide) (by decide)] at seq
      obtain ⟨e, logged, reason, time⟩ := Dev.firstNotice_mem runs limit
      refine ⟨_, ran, kept_withDev s _, told.core.trans core, told.freeCtr.trans freeCtr, ?_, ?_, ?_, fun low => by omega,
        fun _ _ => ⟨p.firstNotice_sent limit, unacked, seq, e, logged, reason, time.trans (congrArg CoreSt.time core)⟩⟩
      · exact (p.firstNotice_rdN limit (by decide) (by decide)).trans six
      · exact (p.firstNotice_rdN limit (by decide) (by decide)).trans eight
      · exact (p.firstNotice_rdN limit (by decide) (by decide)).trans seven
    · rw [if_neg notice] at ran
      exact ⟨_, ran, kept_withDev s _, core, freeCtr, six, eight, seven, fun _ => ⟨beside, kept⟩, fun high sent => absurd ⟨high, sent⟩ notice⟩
  case headroom =>
    intro w s h
    have ran := wearHeadroomWrite_holds h
    rw [Dev.setHeadroom_eq] at ran
    by_cases low : (objWearHeadroom.valueOf w).toNat ≤ 1000
    · rw [if_pos low] at ran
      refine ⟨_, ran, kept_withDev s _, (Dev.wearNotice_rd _ _ (by decide) (by decide)).trans (Dev.rd_wr_same _ _ _ _),
        (Dev.wearNotice_reported _ _).core, fun high => absurd low (by omega), fun _ => ?_⟩
      exact ⟨(Dev.wearNotice_status _ _).1, Dev.wearNotice_mem (d := s.dev.wr 0x2300 9 (objWearHeadroom.valueOf w)) h.1 _⟩
    · rw [if_neg low] at ran
      exact ⟨_, ran, kept_withDev s _, Dev.rd_wr_same _ _ _ _, rfl, fun _ => ⟨rfl, Dev.wr_regsKept _ _ _ _ (by decide)⟩,
        fun high => absurd high low⟩

end Sys2Proof.Machine
end

section
/-! SUPPORT. CASCADE_STATUS and the registers beside it as one view of the device (R293 to R299, R313): what each change of role, master,
lock or membership makes of the view, of the ring's state and of the core. -/

namespace Sys2Proof.Machine

/-! ### The view -/

/-- What the ring's registers show (R313): ROLE, MASTER_ID, LOCKED, HOLDOVER, DUPLICATE and WRAPPED of CASCADE_STATUS, the master known, the
members and those that are healthy. -/
structure RingStatus where
  role : Nat
  masterId : Nat
  locked : Bool
  holdover : Bool
  duplicate : Bool
  wrapped : Bool
  master : Nat
  members : Nat
  healthy : Nat

def Dev.ringStatus (d : Dev) : RingStatus where
  role := d.role
  masterId := bits (d.rd 0x2400 1) 11 8
  locked := bit (d.rd 0x2400 1) 0
  holdover := bit (d.rd 0x2400 1) 1
  duplicate := bit (d.rd 0x2400 1) 2
  wrapped := bit (d.rd 0x2400 1) 3
  master := d.rdN 0x2400 9
  members := d.rdN 0x2400 3
  healthy := d.rdN 0x2400 4

/-- Registers alike show one status. -/
theorem Dev.ringStatus_congr {d e : Dev} (h : ∀ j, j < 256 → e.rd 0x2400 j = d.rd 0x2400 j) : e.ringStatus = d.ringStatus := by
  unfold Dev.ringStatus Dev.role Dev.rdN
  rw [h 1 (by decide), h 9 (by decide), h 3 (by decide), h 4 (by decide)]

theorem Flowed.ringStatus {d e : Dev} (h : Flowed d e) : e.ringStatus = d.ringStatus :=
  Dev.ringStatus_congr fun j hj => h.rd hj (reportReg_high (by decide) j)

theorem Flowed.role {d e : Dev} (h : Flowed d e) : e.role = d.role := congrArg RingStatus.role h.ringStatus

/-! ### Registers of the ring -/

/-- A write of CASCADE_STATUS leaves the registers beside it. -/
theorem Dev.rd_wr_status (d : Dev) (v : Word) {j : Nat} (hj : j < 256) (h : j ≠ 1) : (d.wr 0x2400 1 v).rd 0x2400 j = d.rd 0x2400 j :=
  d.rd_wr_other v fun e => h (objKey_inj (by decide) hj e).2.symm

theorem Dev.wr_status_status (d : Dev) (v : Word) : (d.wr 0x2400 1 v).ringStatus = { d.ringStatus with
    role := bits v 14 12, masterId := bits v 11 8, locked := bit v 0, holdover := bit v 1, duplicate := bit v 2, wrapped := bit v 3 } := by
  unfold Dev.ringStatus Dev.role Dev.rdN
  rw [Dev.rd_wr_same, Dev.rd_wr_status d v (by decide) (by decide), Dev.rd_wr_status d v (by decide) (by decide),
    Dev.rd_wr_status d v (by decide) (by decide)]

/-- A completion moves SEQ and UNACKED alone. -/
@[simp] theorem Dev.ringChange_status (d : Dev) : d.ringChange.ringStatus = d.ringStatus := by
  unfold Dev.ringChange Dev.complete
  dsimp only
  rw [Dev.wr_status_status]
  simp (disch := omega) only [bits_setBit_other, bits_setBits_other, bit_setBit_other, bit_setBits_other]
  rfl

@[simp] theorem Dev.setRole_status (d : Dev) {r : Nat} (hr : r < 8) : (d.setRole r).ringStatus = { d.ringStatus with role := r } := by
  unfold Dev.setRole
  split
  next same => rw [← same]; rfl
  next =>
    rw [Dev.ringChange_status, Dev.wr_status_status, bits_setBits_same _ _ (by decide), show r % 2 ^ (14 + 1 - 12) = r by omega]
    simp (disch := omega) only [bits_setBits_other, bit_setBits_other]
    rfl

/-- A number written beside CASCADE_STATUS. -/
theorem Dev.wrN_status (d : Dev) {j n : Nat} (hj : j < 256) (h : j ≠ 1) (hn : n < 2 ^ 64) : (d.wrN 0x2400 j n).ringStatus =
    { d.ringStatus with
      master := if j = 9 then n else d.ringStatus.master
      members := if j = 3 then n else d.ringStatus.members
      healthy := if j = 4 then n else d.ringStatus.healthy } := by
  have number (k : Nat) (hk : k < 256) : (d.wrN 0x2400 j n).rdN 0x2400 k = if j = k then n else d.rdN 0x2400 k := by
    split
    next same => rw [← same, Dev.rdN_wrN_same _ _ _ _ hn]
    next other => exact Dev.rdN_wrN_other d n fun e => other (objKey_inj hj hk e).2
  have status : (d.wrN 0x2400 j n).rd 0x2400 1 = d.rd 0x2400 1 :=
    d.rd_wr_other _ fun e => h (objKey_inj hj (by decide) e).2
  unfold Dev.ringStatus Dev.role
  rw [number 9 (by decide), number 3 (by decide), number 4 (by decide), status]

/-- One of the low flags of CASCADE_STATUS. -/
theorem Dev.setFlag_status (d : Dev) {k : Nat} (hk : k < 4) (b : Bool) : (d.setFlag 0x2400 1 k b).ringStatus =
    { d.ringStatus with
      locked := if k = 0 then b else d.ringStatus.locked
      holdover := if k = 1 then b else d.ringStatus.holdover
      duplicate := if k = 2 then b else d.ringStatus.duplicate
      wrapped := if k = 3 then b else d.ringStatus.wrapped } := by
  have flag (j : Nat) (hj : j < 4) : bit (setBit (d.rd 0x2400 1) k b) j = if k = j then b else bit (d.rd 0x2400 1) j := by
    split
    next same => rw [← same, bit_setBit_same _ _ (by omega)]
    next other => exact bit_setBit_other _ _ other
  rw [Dev.setFlag_eq, Dev.wr_status_status, bits_setBit_other _ _ (.inr (by omega)), bits_setBit_other _ _ (.inr (by omega)),
    flag 0 (by decide), flag 1 (by decide), flag 2 (by decide), flag 3 (by decide)]
  rfl

/-- The master known. -/
theorem Dev.setMaster_status (d : Dev) {m : Option Nat} (hm : m.getD 0 < 16) :
    (d.setMaster m).ringStatus = { d.ringStatus with masterId := m.getD 0, master := m.getD 0xFF } := by
  have small : m.getD 0xFF < 2 ^ 64 := by cases m <;> simp at hm ⊢; omega
  unfold Dev.setMaster
  rw [Dev.wr_status_status, Dev.wrN_status _ (by decide) (by decide) small, bits_setBits_same _ _ (by decide),
    show m.getD 0 % 2 ^ (11 + 1 - 8) = m.getD 0 by omega]
  simp (disch := omega) only [bits_setBits_other, bit_setBits_other]
  rfl

/-! ### What lies beside the registers -/

/-- The device but for its registers. -/
def Dev.besideRegs (d : Dev) : Dev := { d with regs := [] }

@[simp] theorem Dev.setFlag_besideRegs (d : Dev) (i j k : Nat) (b : Bool) : (d.setFlag i j k b).besideRegs = d.besideRegs := rfl
@[simp] theorem Dev.wrN_besideRegs (d : Dev) (i j n : Nat) : (d.wrN i j n).besideRegs = d.besideRegs := rfl
@[simp] theorem Dev.setMaster_besideRegs (d : Dev) (m : Option Nat) : (d.setMaster m).besideRegs = d.besideRegs := rfl
@[simp] theorem Dev.ringChange_besideRegs (d : Dev) : d.ringChange.besideRegs = d.besideRegs := rfl

@[simp] theorem Dev.setRole_besideRegs (d : Dev) (r : Nat) : (d.setRole r).besideRegs = d.besideRegs := by
  unfold Dev.setRole
  split <;> rfl

/-! ### Locked, alone, released, joining (R294 to R301) -/

theorem Dev.setLocked_status (d : Dev) (b : Bool) : (d.setLocked b).ringStatus = { d.ringStatus with locked := b } :=
  Dev.setFlag_status _ (by decide) b

/-- The ring's state of a member that is ALONE. -/
def CascadeSt.alone (c : CascadeSt) : CascadeSt :=
  { c with locked := 0, leaving := false, handover := false, owing := false, notches := [] }

theorem Dev.setAlone_besideRegs (d : Dev) : d.setAlone.besideRegs = ({ d with cascade := d.cascade.alone } : Dev).besideRegs := by
  unfold Dev.setAlone
  dsimp only
  split <;> simp [CascadeSt.alone]

theorem Dev.setAlone_status (d : Dev) : d.setAlone.ringStatus = { d.ringStatus with
    role := 0, masterId := 0, locked := false, holdover := d.ringStatus.holdover || (d.role = 1 || d.role = 2), master := 0xFF
    members := 0, healthy := 0 } := by
  have cleared (e : Dev) : (((e.wrN 0x2400 3 0).wrN 0x2400 4 0).setRole 0).ringStatus =
      { e.ringStatus with role := 0, members := 0, healthy := 0 } := by
    rw [Dev.setRole_status _ (by decide), Dev.wrN_status _ (by decide) (by decide) (by decide),
      Dev.wrN_status _ (by decide) (by decide) (by decide)]
    rfl
  have unknown (c : CascadeSt) : ((({ d with cascade := c } : Dev).setMaster none).setFlag 0x2400 1 0 false).ringStatus =
      { d.ringStatus with masterId := 0, master := 0xFF, locked := false } := by
    rw [Dev.setFlag_status _ (by decide), Dev.setMaster_status _ (by decide)]
    rfl
  unfold Dev.setAlone
  dsimp only
  split
  next held =>
    rw [cleared, Dev.setFlag_status _ (by decide), unknown, held, Bool.or_true]
    rfl
  next held =>
    rw [cleared, unknown, Bool.eq_false_of_not_eq_true held, Bool.or_false]

/-- A release is a broadcast beside the registers, and a role handed over. -/
theorem Dev.release_besideRegs (d : Dev) : d.release.besideRegs = ({ d.broadcast 6 d.core.cascadeId with
    cascade := { d.cascade with handover := true } } : Dev).besideRegs := by
  have given : (((d.broadcast 6 d.core.cascadeId).setRole 2).setMaster none).besideRegs = (d.broadcast 6 d.core.cascadeId).besideRegs := by
    simp
  have passed := congrArg (fun e : Dev => { e with cascade := { e.cascade with handover := true } }) given
  rw [← (d.broadcast_flowed 6 d.core.cascadeId).cascade]
  exact passed

theorem Dev.release_status (d : Dev) : d.release.ringStatus = { d.ringStatus with role := 2, masterId := 0, master := 0xFF } := by
  have given : d.release.ringStatus = (((d.broadcast 6 d.core.cascadeId).setRole 2).setMaster none).ringStatus := rfl
  rw [given, Dev.setMaster_status _ (by decide), Dev.setRole_status _ (by decide), (d.broadcast_flowed _ _).ringStatus]
  rfl

theorem Dev.stepTime_status (d : Dev) (time : Option Nat) : (d.stepTime time).ringStatus = d.ringStatus := by
  unfold Dev.stepTime
  split
  · split <;> rfl
  · rfl

theorem Dev.stepTime_core (d : Dev) (n : Nat) :
    (d.stepTime (some n)).core = if d.allHalted then { d.core with time := n } else d.core := by
  unfold Dev.stepTime
  dsimp only
  split <;> rfl

theorem Dev.join_status (d : Dev) (time : Option Nat) :
    (d.join time).ringStatus = { d.ringStatus with locked := false, role := 1 } := by
  unfold Dev.join
  rw [Dev.setRole_status _ (by decide), Dev.stepTime_status, Dev.setLocked_status]

theorem Dev.join_core (d : Dev) (n : Nat) :
    (d.join (some n)).core = if d.allHalted then { d.core with time := n } else d.core := by
  unfold Dev.join
  rw [(Dev.setRole_turned _ 1).core, Dev.stepTime_core]
  rfl

/-- The membership that a heartbeat brings. -/
theorem Dev.takeView_status (d : Dev) (v : RingView) : (d.takeView v).ringStatus = { d.ringStatus with
    members := v.members.toNat, healthy := v.healthy.toNat, wrapped := v.wrapped } := by
  have shown (e : Dev) : (((e.wrN 0x2400 3 v.members.toNat).wrN 0x2400 4 v.healthy.toNat).setFlag 0x2400 1 3 v.wrapped).ringStatus =
      { e.ringStatus with members := v.members.toNat, healthy := v.healthy.toNat, wrapped := v.wrapped } := by
    rw [Dev.setFlag_status _ (by decide), Dev.wrN_status _ (by decide) (by decide) (by omega),
      Dev.wrN_status _ (by decide) (by decide) (by omega)]
    rfl
  unfold Dev.takeView
  dsimp only
  split
  · rw [Dev.ringChange_status, shown]
    rfl
  · rw [shown]
    rfl

theorem Dev.takeView_besideRegs (d : Dev) (v : RingView) : (d.takeView v).besideRegs = ({ d with cascade := { d.cascade with
    locked := v.locked, unconfigured := v.unconfigured, widenReady := v.ready } } : Dev).besideRegs := by
  unfold Dev.takeView
  dsimp only
  split <;> simp

theorem Dev.takeView_core (d : Dev) (v : RingView) : (d.takeView v).core = d.core := (congrArg Dev.core (d.takeView_besideRegs v) :)

theorem Dev.takeView_out (d : Dev) (v : RingView) : (d.takeView v).out = d.out := (congrArg Dev.out (d.takeView_besideRegs v) :)

theorem Dev.takeView_heartbeatSeq (d : Dev) (v : RingView) : (d.takeView v).cascade.heartbeatSeq = d.cascade.heartbeatSeq :=
  (congrArg (fun e : Dev => e.cascade.heartbeatSeq) (d.takeView_besideRegs v) :)

theorem Dev.takeView_cellPort (d : Dev) (v : RingView) (east : Bool) : (d.takeView v).cellPort east = d.cellPort east :=
  (congrArg (fun e : Dev => e.cellPort east) (d.takeView_besideRegs v) :)

theorem Dev.join_out (d : Dev) (time : Option Nat) : (d.join time).out = d.out := by
  have joined : (d.join time).out = ((d.setLocked false).stepTime time).out := (congrArg Dev.out (Dev.setRole_besideRegs _ 1) :)
  rw [joined]
  unfold Dev.stepTime
  split
  · split <;> rfl
  · rfl

/-! ### Cells that go out by the ports (R290, R292, R295) -/

theorem Dev.cellPort_congr {d e : Dev} (h : ∀ east, e.link east = d.link east) (east : Bool) : e.cellPort east = d.cellPort east := by
  unfold Dev.cellPort
  simp only [h]

/-- A cell that has come in by a link that is up can go on. -/
theorem Dev.cellPort_of_up {d : Dev} {east : Bool} (h : (d.link east).up = true) : ∃ e, d.cellPort (!east) = some e := by
  unfold Dev.cellPort
  dsimp only
  simp only [Bool.not_not, h, if_true]
  repeat' split
  all_goals exact ⟨_, rfl⟩

theorem Dev.sendCell_port {d : Dev} {east e : Bool} (h : d.cellPort east = some e) (c : Cell) : d.sendCell east c = d.emit (.cell e c) := by
  unfold Dev.sendCell
  rw [h]

theorem Dev.broadcast_outputs (d : Dev) (kind body : Nat) : d.out <:+ (d.broadcast kind body).out :=
  (d.sendCell_outputs true _).trans (Dev.sendCell_outputs _ false _)

/-- A broadcast leaves by every port. -/
theorem Dev.broadcast_mem {d : Dev} {east e : Bool} (h : d.cellPort east = some e) (kind body : Nat) :
    .cell e { type := kind, source := d.core.cascadeId, dest := 16, body := BitVec.ofNat 256 body } ∈ (d.broadcast kind body).out := by
  unfold Dev.broadcast
  dsimp only
  cases east
  case true =>
    rw [Dev.sendCell_port h]
    exact (Dev.sendCell_outputs _ _ _).subset List.mem_cons_self
  case false =>
    have port : (d.sendCell true { type := kind, source := d.core.cascadeId, dest := 16, body := BitVec.ofNat 256 body }).cellPort false =
        some e := by
      rw [← h]
      refine Dev.cellPort_congr (fun east => ?_) false
      unfold Dev.link
      rw [(d.sendCell_flowed true _).cascade]
    rw [Dev.sendCell_port port]
    exact List.mem_cons_self

end Sys2Proof.Machine
end

section
/-! The statement about election, heartbeats and leaving: its parts, and the whole. -/

namespace Sys2Proof.Machine

/-! ### Heartbeats sent (R295) -/

/-- The heartbeats sent counted one further. -/
def Dev.beatCounted (d : Dev) : Dev :=
  { d with cascade := { d.cascade with heartbeatSeq := (d.cascade.heartbeatSeq + 1) % 2 ^ 32 } }

theorem Dev.heartbeat_eq (d : Dev) : d.heartbeat = (d.beatCounted.broadcast 0 (heartbeatBody d.core.cascadeId
    ((d.cascade.heartbeatSeq + 1) % 2 ^ 32) d.core.time (d.rdN 0x2400 3))).broadcast 1 (d.core.time % 2 ^ 64) := rfl

theorem Dev.heartbeat_flowed (d : Dev) : Flowed d.beatCounted d.heartbeat := by
  rw [Dev.heartbeat_eq]
  exact (Dev.broadcast_flowed _ _ _).trans (Dev.broadcast_flowed _ _ _)

theorem Dev.heartbeat_status (d : Dev) : d.heartbeat.ringStatus = d.ringStatus := d.heartbeat_flowed.ringStatus

theorem Flowed.cellPort {d e : Dev} (h : Flowed d e) (east : Bool) : e.cellPort east = d.cellPort east :=
  Dev.cellPort_congr (fun east => by unfold Dev.link; rw [h.cascade]) east

/-- A heartbeat and its time sync leave by every port. -/
theorem Dev.heartbeat_mem {d : Dev} {east e : Bool} (h : d.cellPort east = some e) :
    .cell e { type := 0, source := d.core.cascadeId, dest := 16, body := BitVec.ofNat 256 (heartbeatBody d.core.cascadeId
        ((d.cascade.heartbeatSeq + 1) % 2 ^ 32) d.core.time (d.rdN 0x2400 3)) } ∈ d.heartbeat.out ∧
      .cell e { type := 1, source := d.core.cascadeId, dest := 16, body := BitVec.ofNat 256 (d.core.time % 2 ^ 64) } ∈
        d.heartbeat.out := by
  have counted : d.beatCounted.cellPort east = some e := h
  have sent := d.beatCounted.broadcast_flowed 0 (heartbeatBody d.core.cascadeId ((d.cascade.heartbeatSeq + 1) % 2 ^ 32) d.core.time
    (d.rdN 0x2400 3))
  have sync := Dev.broadcast_mem ((sent.cellPort east).trans counted) 1 (d.core.time % 2 ^ 64)
  rw [sent.core] at sync
  rw [Dev.heartbeat_eq]
  exact ⟨(Dev.broadcast_outputs _ _ _).subset (Dev.broadcast_mem counted _ _), sync⟩

theorem Dev.issueNotch_outputs (d : Dev) (t : Nat) : d.out <:+ (d.issueNotch t).out :=
  d.broadcast_outputs 2 ((d.cascade.notchNumber + 1) % 2 ^ 32 * 2 ^ 64 + t)

theorem Dev.issueNotch_regs (d : Dev) (t : Nat) : (d.issueNotch t).regs = d.regs := (congrArg Dev.regs (d.issueNotch_rest t) :)

theorem Dev.issueNotch_core (d : Dev) (t : Nat) : (d.issueNotch t).core = d.core := (congrArg Dev.core (d.issueNotch_rest t) :)

/-- A notch paid touches the ring's state and the outputs alone, and takes none back. -/
theorem Dev.payNotch_rest (d : Dev) : d.payNotch.regs = d.regs ∧ d.payNotch.core = d.core ∧
    d.payNotch.cascade.heartbeatSeq = d.cascade.heartbeatSeq ∧ d.out <:+ d.payNotch.out := by
  unfold Dev.payNotch
  split
  · exact ⟨Dev.issueNotch_regs _ _, Dev.issueNotch_core _ _, rfl,
      Dev.issueNotch_outputs ({ d with cascade := { d.cascade with owing := false } } : Dev) (d.core.time + d.notchLead)⟩
  · exact ⟨rfl, rfl, rfl, List.suffix_refl _⟩

theorem heartbeatSend_sends (v : RingView) {s : State} (ht : s.dev.thimble = true) (hr : s.dev.role = 3) :
    exec (.heartbeatSend v) s = .next { s with dev := (s.dev.takeView v).heartbeat.payNotch } := by
  have ran : exec (.heartbeatSend v) s = execHeartbeatSend v s := rfl
  have runs : s.dev.ringRuns = true := ht
  rw [ran]
  unfold execHeartbeatSend
  rw [onDev_next, runs, Dev.isMaster_true hr, if_pos (by decide)]

/-! ### Heartbeats received (R293, R295, R297) -/

/-- The heartbeat gone on in its direction of travel. -/
def Dev.beatPassed (d : Dev) (fromEast : Bool) (master seq time members : Nat) : Dev :=
  d.sendCell (!fromEast)
    { type := 0, source := master, dest := 16, body := BitVec.ofNat 256 (heartbeatBody master seq time members) }

theorem Dev.beatPassed_flowed (d : Dev) (fromEast : Bool) (master seq time members : Nat) :
    Flowed d (d.beatPassed fromEast master seq time members) := d.sendCell_flowed _ _

theorem Dev.beatPassed_out {d : Dev} {fromEast : Bool} (h : (d.link fromEast).up = true) (master seq time members : Nat) :
    ∃ e, d.cellPort (!fromEast) = some e ∧ d.beatPassed fromEast master seq time members = d.emit (.cell e
      { type := 0, source := master, dest := 16, body := BitVec.ofNat 256 (heartbeatBody master seq time members) }) := by
  obtain ⟨e, port⟩ := Dev.cellPort_of_up h
  exact ⟨e, port, Dev.sendCell_port port _⟩

/-- What a member of the ring hears of a heartbeat; one that is in no ring only passes it on. -/
def Dev.hearBeat (d : Dev) (master time : Nat) (v : RingView) : Dev :=
  if d.cascade.foreign || d.role = 0 then d else d.hearMaster master time v

section
variable {fromEast : Bool} {master : Fin 16} (seq : BitVec 32) (time : BitVec 64) (v : RingView) {s : State}
  (ht : s.dev.thimble = true) (hu : (s.dev.link fromEast).up = true)
include ht hu

theorem heartbeatReceive_duplicate : exec (.heartbeatReceive fromEast master seq time v true) s = .next { s with dev :=
    (s.dev.beatPassed fromEast master.val seq.toNat time.toNat v.members.toNat).duplicateId } := by
  have ran : exec (.heartbeatReceive fromEast master seq time v true) s = execHeartbeatReceive fromEast master seq time v true s := rfl
  have runs : s.dev.ringRuns = true := ht
  rw [ran]
  unfold execHeartbeatReceive
  rw [onDev_next, runs, hu, if_neg (by decide)]
  rfl

theorem heartbeatReceive_single : exec (.heartbeatReceive fromEast master seq time v false) s = .next { s with dev :=
    (if master.val = s.dev.core.cascadeId then s.dev
    else (s.dev.beatPassed fromEast master.val seq.toNat time.toNat v.members.toNat).hearBeat master.val time.toNat v) } := by
  have ran : exec (.heartbeatReceive fromEast master seq time v false) s = execHeartbeatReceive fromEast master seq time v false s := rfl
  have runs : s.dev.ringRuns = true := ht
  rw [ran]
  unfold execHeartbeatReceive
  rw [onDev_next, runs, hu, if_neg (by decide)]
  rfl

theorem heartbeatReceive_own (hm : master.val = s.dev.core.cascadeId) :
    exec (.heartbeatReceive fromEast master seq time v false) s = .next s := by
  rw [heartbeatReceive_single seq time v ht hu, if_pos hm]

theorem heartbeatReceive_heard (hm : master.val ≠ s.dev.core.cascadeId) (hf : s.dev.cascade.foreign = false) (hr : s.dev.role ≠ 0) :
    exec (.heartbeatReceive fromEast master seq time v false) s = .next { s with dev :=
      (s.dev.beatPassed fromEast master.val seq.toNat time.toNat v.members.toNat).hearMaster master.val time.toNat v } := by
  have passed := s.dev.beatPassed_flowed fromEast master.val seq.toNat time.toNat v.members.toNat
  have inRing : (s.dev.beatPassed fromEast master.val seq.toNat time.toNat v.members.toNat).role ≠ 0 := by
    rwa [passed.role]
  rw [heartbeatReceive_single seq time v ht hu, if_neg hm, Dev.hearBeat, passed.cascade, hf, if_neg (by simp [inRing])]

end

/-- A heartbeat taken: its master known, a holdover ended, its membership shown. -/
def Dev.follow (d : Dev) (master : Nat) (v : RingView) : Dev := ((d.setMaster (some master)).setFlag 0x2400 1 1 false).takeView v

theorem Dev.follow_status (d : Dev) {master : Nat} (hm : master < 16) (v : RingView) : (d.follow master v).ringStatus =
    { d.ringStatus with
      masterId := master, master := master, holdover := false
      members := v.members.toNat, healthy := v.healthy.toNat, wrapped := v.wrapped } := by
  unfold Dev.follow
  rw [Dev.takeView_status, Dev.setFlag_status _ (by decide), Dev.setMaster_status (m := some master) _ hm]
  rfl

theorem Dev.follow_shows (d : Dev) {master : Nat} (hm : master < 16) (v : RingView) : (d.follow master v).rdN 0x2400 9 = master ∧
    bits ((d.follow master v).rd 0x2400 1) 11 8 = master ∧ bit ((d.follow master v).rd 0x2400 1) 1 = false ∧
    (d.follow master v).rdN 0x2400 3 = v.members.toNat ∧ (d.follow master v).rdN 0x2400 4 = v.healthy.toNat := by
  have status := d.follow_status hm v
  exact ⟨congrArg RingStatus.master status, congrArg RingStatus.masterId status, congrArg RingStatus.holdover status,
    congrArg RingStatus.members status, congrArg RingStatus.healthy status⟩

theorem Dev.follow_role (d : Dev) {master : Nat} (hm : master < 16) (v : RingView) : (d.follow master v).role = d.role :=
  congrArg RingStatus.role (d.follow_status hm v)

theorem Dev.follow_core (d : Dev) (master : Nat) (v : RingView) : (d.follow master v).core = d.core := Dev.takeView_core _ v

theorem Dev.follow_out (d : Dev) (master : Nat) (v : RingView) : (d.follow master v).out = d.out := Dev.takeView_out _ v

/-- A master heard is followed where it is the one known or none is, joined where it comes before the one known, and else ignored. -/
theorem Dev.hearMaster_cases (d : Dev) (master time : Nat) (v : RingView) :
    ((d.rdN 0x2400 9 = 0xFF ∨ d.rdN 0x2400 9 = master) ∧ d.hearMaster master time v = d.follow master v) ∨
      (d.rdN 0x2400 9 ≠ 0xFF ∧ master < d.rdN 0x2400 9 ∧ d.hearMaster master time v = (d.join (some time)).follow master v) ∨
      (d.rdN 0x2400 9 ≠ 0xFF ∧ d.rdN 0x2400 9 < master ∧ d.hearMaster master time v = d) := by
  unfold Dev.hearMaster Dev.follow
  dsimp only
  split
  next lower => exact .inr (.inr ⟨by simp at lower; omega, by simp at lower; omega, rfl⟩)
  next =>
    split
    next other => exact .inr (.inl ⟨by simp at other; omega, by simp at *; omega, rfl⟩)
    next same => exact .inl ⟨by simp at same; omega, rfl⟩

/-! ### A duplicate CASCADE_ID (R293) -/

theorem Dev.dropOut_core (d : Dev) : d.dropOut.core = d.core := by
  unfold Dev.dropOut
  split
  · exact ((d.release_turned).trans (Dev.setAlone_turned _)).core
  · exact d.setAlone_turned.core

/-- A member that drops out is ALONE whatever it was; its duplicate flag stays. -/
theorem Dev.dropOut_status (d : Dev) : d.dropOut.role = 0 ∧ d.dropOut.rdN 0x2400 9 = 0xFF ∧
    bit (d.dropOut.rd 0x2400 1) 2 = bit (d.rd 0x2400 1) 2 := by
  have alone (e : Dev) (h : bit (e.rd 0x2400 1) 2 = bit (d.rd 0x2400 1) 2) : e.setAlone.role = 0 ∧ e.setAlone.rdN 0x2400 9 = 0xFF ∧
      bit (e.setAlone.rd 0x2400 1) 2 = bit (d.rd 0x2400 1) 2 := by
    have status := e.setAlone_status
    exact ⟨congrArg RingStatus.role status, congrArg RingStatus.master status, (congrArg RingStatus.duplicate status).trans h⟩
  unfold Dev.dropOut
  split
  · exact alone _ (congrArg RingStatus.duplicate d.release_status)
  · exact alone d rfl

theorem Dev.duplicateId_status {d : Dev} (h : bit (d.rd 0x2400 1) 2 = false) : d.duplicateId.role = 0 ∧
    bit (d.duplicateId.rd 0x2400 1) 2 = true ∧ d.duplicateId.rdN 0x2400 9 = 0xFF ∧ d.duplicateId.core = d.core := by
  have logged := (d.setFlag 0x2400 1 2 true).log_flowed 0x0A01 0x2400 0
  obtain ⟨role, master, duplicate⟩ := ((d.setFlag 0x2400 1 2 true).log 0x0A01 0x2400 0).dropOut_status
  unfold Dev.duplicateId
  rw [h, if_neg (by decide)]
  have flagged := logged.ringStatus.trans (d.setFlag_status (by decide) true)
  exact ⟨role, duplicate.trans (congrArg RingStatus.duplicate flagged), master, (Dev.dropOut_core _).trans logged.core⟩

/-! ### Claims (R295, R296) -/

/-- A claim heard: the claimant known, a holdover ended. -/
def Dev.claimHeard (d : Dev) (m : Nat) : Dev :=
  (({ d with cascade := { d.cascade with handover := false } } : Dev).setMaster (some m)).setFlag 0x2400 1 1 false

/-- The loss or the handover that a claim ends is logged. -/
def Dev.claimLogged (d : Dev) (m : Nat) : Dev :=
  if d.cascade.handover then (d.claimHeard m).log 0x0A05 0x2400 0
  else if bit (d.rd 0x2400 1) 1 then (d.claimHeard m).logNotify 0x0A04 0x2400 0 else d.claimHeard m

theorem Dev.claimLogged_flowed (d : Dev) (m : Nat) : Flowed (d.claimHeard m) (d.claimLogged m) := by
  unfold Dev.claimLogged
  split
  · exact Dev.log_flowed _ _ _ _
  · split
    · exact Dev.logNotify_flowed _ _ _ _
    · exact .refl _

theorem Dev.claimLogged_core (d : Dev) (m : Nat) : (d.claimLogged m).core = d.core := (d.claimLogged_flowed m).core

theorem Dev.claimLogged_status (d : Dev) {m : Nat} (hm : m < 16) : (d.claimLogged m).ringStatus =
    { d.ringStatus with masterId := m, master := m, holdover := false } := by
  rw [(d.claimLogged_flowed m).ringStatus, Dev.claimHeard, Dev.setFlag_status _ (by decide), Dev.setMaster_status (m := some m) _ hm]
  rfl

/-- This member takes the role of master. -/
def Dev.takeRole (d : Dev) : Dev := (((d.setLocked true).wrN 0x2400 8 0).setRole 3).heartbeat

/-- A master steps back. -/
def Dev.stepBack (d : Dev) : Dev := if d.role = 3 then d.setRole 2 else d

/-- Another member takes the role: after a loss or a handover it is to be confirmed. -/
def Dev.yieldRole (d : Dev) (confirm : Bool) : Dev := (if confirm then d.confirmMaster else d).stepBack

theorem Dev.acceptClaim_eq (d : Dev) (m : Nat) : d.acceptClaim m =
    if m = (d.claimLogged m).core.cascadeId then (d.claimLogged m).takeRole
    else (d.claimLogged m).yieldRole (d.cascade.handover || bit (d.rd 0x2400 1) 1) := rfl

theorem Dev.takeRole_status (d : Dev) : d.takeRole.ringStatus = { d.ringStatus with role := 3, locked := true } := by
  unfold Dev.takeRole
  rw [Dev.heartbeat_status, Dev.setRole_status _ (by decide), Dev.wrN_status _ (by decide) (by decide) (by decide),
    Dev.setLocked_status]
  rfl

theorem Dev.takeRole_core (d : Dev) : d.takeRole.core = d.core := by
  unfold Dev.takeRole
  rw [(Dev.heartbeat_flowed _).core]
  exact (Dev.setRole_turned _ 3).core

theorem Dev.confirmMaster_status (d : Dev) : d.confirmMaster.ringStatus = { d.ringStatus with locked := false } :=
  d.setLocked_status false

theorem Dev.stepBack_status (d : Dev) : d.stepBack.ringStatus = { d.ringStatus with role := if d.role = 3 then 2 else d.role } := by
  unfold Dev.stepBack
  split
  · rw [Dev.setRole_status _ (by decide)]
  · rfl

theorem Dev.stepBack_core (d : Dev) : d.stepBack.core = d.core := by
  unfold Dev.stepBack
  split
  · exact (d.setRole_turned 2).core
  · rfl

/-- Who yields the role is no master; the master known and the holdover are as they were. -/
theorem Dev.yieldRole_status (d : Dev) (confirm : Bool) : (d.yieldRole confirm).ringStatus = { d.ringStatus with
    role := if d.role = 3 then 2 else d.role, locked := !confirm && d.ringStatus.locked } := by
  unfold Dev.yieldRole
  rw [Dev.stepBack_status]
  cases confirm
  case false => rfl
  case true =>
    rw [if_pos rfl, Dev.confirmMaster_status, show d.confirmMaster.role = d.role from congrArg RingStatus.role d.confirmMaster_status]
    rfl

theorem Dev.yieldRole_core (d : Dev) (confirm : Bool) : (d.yieldRole confirm).core = d.core := by
  unfold Dev.yieldRole
  rw [Dev.stepBack_core]
  cases confirm <;> rfl

theorem Dev.acceptClaim_own {d : Dev} {m : Nat} (own : m = d.core.cascadeId) (hm : m < 16) : (d.acceptClaim m).ringStatus =
    { d.ringStatus with masterId := m, master := m, holdover := false, role := 3, locked := true } := by
  rw [Dev.acceptClaim_eq, if_pos (by rw [Dev.claimLogged_core, ← own]), Dev.takeRole_status, Dev.claimLogged_status _ hm]

theorem Dev.acceptClaim_other {d : Dev} {m : Nat} (other : m ≠ d.core.cascadeId) (hm : m < 16) : (d.acceptClaim m).role ≠ 3 ∧
    (d.acceptClaim m).rdN 0x2400 9 = m ∧ bit ((d.acceptClaim m).rd 0x2400 1) 1 = false := by
  have status := (d.claimLogged m).yieldRole_status (d.cascade.handover || bit (d.rd 0x2400 1) 1)
  rw [d.claimLogged_status hm] at status
  have role : ((d.claimLogged m).yieldRole (d.cascade.handover || bit (d.rd 0x2400 1) 1)).role =
      if (d.claimLogged m).role = 3 then 2 else (d.claimLogged m).role := congrArg RingStatus.role status
  rw [Dev.acceptClaim_eq, if_neg (by rw [Dev.claimLogged_core]; exact other)]
  refine ⟨?_, congrArg RingStatus.master status, congrArg RingStatus.holdover status⟩
  rw [role]
  split <;> omega

theorem Dev.acceptClaim_core (d : Dev) (m : Nat) : (d.acceptClaim m).core = d.core := by
  rw [Dev.acceptClaim_eq]
  split
  · rw [Dev.takeRole_core, Dev.claimLogged_core]
  · rw [Dev.yieldRole_core, Dev.claimLogged_core]

section
variable (claimant : Fin 16) (gone : BitVec 16) (objected : Bool) {s : State} (ht : s.dev.thimble = true) (hr : s.dev.role ≠ 0)
  (hk : s.dev.rdN 0x2400 9 = 0xFF)
include ht hr hk

theorem masterClaim_eq : exec (.masterClaim ⟨claimant, gone⟩ objected) s = .next { s with dev :=
    (if claimant.val = s.dev.core.cascadeId then
      if !s.dev.candidate gone then s.dev
      else if objected then s.dev.broadcast 5 claimant.val else (s.dev.broadcast 5 claimant.val).acceptClaim claimant.val
    else if s.dev.healthy && s.dev.core.cascadeId < claimant.val then s.dev.broadcast 5 s.dev.core.cascadeId
    else if objected then s.dev else s.dev.acceptClaim claimant.val) } := by
  have ran : exec (.masterClaim ⟨claimant, gone⟩ objected) s = execMasterClaim ⟨claimant, gone⟩ objected s := rfl
  have runs : s.dev.ringRuns = true := ht
  rw [ran]
  unfold execMasterClaim
  rw [onDev_next, runs, hk, if_neg (by simp [hr])]

end

/-! ### Releases and LEAVE (R296, R310) -/

theorem masterRelease_eq (source : Fin 16) {s : State} (ht : s.dev.thimble = true) :
    exec (.masterRelease source) s = .next { s with dev :=
      (if source.val = s.dev.core.cascadeId && s.dev.isMaster && !s.dev.healthy then s.dev.release
      else if !(source.val = s.dev.core.cascadeId : Bool) && s.dev.rdN 0x2400 9 = source.val then
        { s.dev.setMaster none with cascade := { s.dev.cascade with handover := true } }
      else s.dev) } := by
  have ran : exec (.masterRelease source) s = execMasterRelease source s := rfl
  have runs : s.dev.ringRuns = true := ht
  rw [ran]
  unfold execMasterRelease
  rw [onDev_next]
  dsimp only
  rw [runs, if_neg (by decide)]

/-- The neighbours of an established ring learn of a member that leaves, and a notch is asked for. -/
def Dev.announceLeave (d : Dev) : Dev :=
  (({ d with cascade := { d.cascade with leaving := true } } : Dev).broadcast 8 d.core.cascadeId).requestNotch 1

theorem leave_accepted {path : Transport} {s : State} (h : Accepted objCascadeRequest actCascadeRequest (ringWr path 1) s.dev) :
    exec (.leave path) s = .next { s with dev :=
      (if s.dev.role = 0 then s.dev else if !s.dev.established then s.dev.depart else s.dev.announceLeave) } := by
  have ran : exec (.leave path) s = execLeave path s := rfl
  have asks : actCascadeRequest.apply s.dev (ringWr path 1) =
      (if s.dev.role = 0 then s.dev else if !s.dev.established then s.dev.depart else s.dev.announceLeave) := rfl
  rw [ran]
  unfold execLeave
  rw [onDev_next, rowWrite_accepted _ _ h, asks]

theorem Dev.receiveIslands_flowed (d : Dev) : Flowed d d.receiveIslands :=
  (d.markStopped_flowed _).trans (Dev.markRan_flowed _ _)

/-- Both links taken down, and CASCADE_LINKS with them. -/
def Dev.linksDown (d : Dev) : Dev :=
  (((((d.setLink true {}).setLink false {}).wrN 0x2401 1 0).wrN 0x2401 2 0).wrN 0x2401 5 0xFF).wrN 0x2401 6 0xFF

theorem Dev.depart_eq (d : Dev) : d.depart = (if d.isMaster then d.release else d).linksDown.receiveIslands.setAlone := rfl

theorem Dev.depart_link (d : Dev) (east : Bool) : d.depart.link east = {} := by
  have down (e : Dev) : e.linksDown.receiveIslands.setAlone.link east = {} := by
    have alone : e.linksDown.receiveIslands.setAlone.link east = e.linksDown.receiveIslands.link east :=
      (congrArg (fun e : Dev => e.link east) (Dev.setAlone_besideRegs _) :)
    rw [alone, Dev.link, e.linksDown.receiveIslands_flowed.cascade]
    cases east <;> rfl
  rw [Dev.depart_eq]
  exact down _

theorem Dev.sendCell_regs (d : Dev) (east : Bool) (c : Cell) : (d.sendCell east c).regs = d.regs := by
  obtain ⟨o, sent⟩ := d.sendCell_outOnly east c
  rw [sent]

theorem Dev.broadcast_regs (d : Dev) (kind body : Nat) : (d.broadcast kind body).regs = d.regs :=
  (Dev.sendCell_regs _ _ _).trans (d.sendCell_regs _ _)

/-- A request for a notch goes out as cells: it takes none back, and leaves the registers and a member that leaves. -/
theorem Dev.requestNotch_rest (d : Dev) (what : Nat) : (d.requestNotch what).regs = d.regs ∧ (d.requestNotch what).core = d.core ∧
    (d.requestNotch what).cascade.leaving = d.cascade.leaving ∧ d.out <:+ (d.requestNotch what).out := by
  unfold Dev.requestNotch
  split
  · exact ⟨d.issueNotch_regs _, d.issueNotch_core _, rfl, d.issueNotch_outputs _⟩
  · unfold Dev.askMaster
    exact ⟨d.sendCell_regs _ _, (d.sendCell_flowed _ _).core, congrArg CascadeSt.leaving (d.sendCell_flowed _ _).cascade,
      d.sendCell_outputs _ _⟩

theorem Dev.ringStatus_of_regs {d e : Dev} (h : e.regs = d.regs) : e.ringStatus = d.ringStatus := by
  unfold Dev.ringStatus Dev.role Dev.rdN Dev.rd
  rw [h]

/-- A ring is established for its members alone. -/
theorem Dev.role_of_established {d : Dev} (h : d.established = true) : d.role ≠ 0 := by
  intro alone
  simp [Dev.established, alone] at h

theorem Dev.announceLeave_tells (d : Dev) : d.announceLeave.regs = d.regs ∧ d.announceLeave.core = d.core ∧
    d.announceLeave.cascade.leaving = true ∧ ∀ east e, d.cellPort east = some e →
      ∃ c : Cell, c.type = 8 ∧ c.source = d.core.cascadeId ∧ .cell e c ∈ d.announceLeave.out := by
  have told := Dev.broadcast_flowed ({ d with cascade := { d.cascade with leaving := true } } : Dev) 8 d.core.cascadeId
  have kept := Dev.broadcast_regs ({ d with cascade := { d.cascade with leaving := true } } : Dev) 8 d.core.cascadeId
  obtain ⟨regs, core, leaving, outputs⟩ := Dev.requestNotch_rest
    (({ d with cascade := { d.cascade with leaving := true } } : Dev).broadcast 8 d.core.cascadeId) 1
  refine ⟨regs.trans kept, core.trans told.core, leaving.trans (congrArg CascadeSt.leaving told.cascade), fun east e port => ?_⟩
  have ready : ({ d with cascade := { d.cascade with leaving := true } } : Dev).cellPort east = some e := port
  exact ⟨_, rfl, rfl, outputs.subset (Dev.broadcast_mem ready _ _)⟩

theorem masterLost_holds {s : State} (ht : s.dev.thimble = true) (hr : s.dev.role = 1 ∨ s.dev.role = 2)
    (hk : s.dev.rdN 0x2400 9 ≠ 0xFF) :
    exec .masterLost s = .next { s with dev := (s.dev.setMaster none).setFlag 0x2400 1 1 true } := by
  have ran : exec .masterLost s = execMasterLost s := rfl
  have runs : s.dev.ringRuns = true := ht
  have member : s.dev.isMaster = false := Dev.isMaster_false (by omega)
  have inRing : s.dev.role ≠ 0 := by omega
  rw [ran]
  unfold execMasterLost
  rw [onDev_next, runs, member, if_neg (by simp [hk, inRing])]

theorem Dev.masterLost_regsKept (d : Dev) : RegsKept (regsOf 0x2400 [1, 9]) d ((d.setMaster none).setFlag 0x2400 1 1 true) := by
  have only {k i j : Nat} (hk : k ∈ [1, 9]) (h : regsOf 0x2400 [1, 9] i j = false) : regsOf 0x2400 [k] i j = false := by
    simp only [regsOf, Bool.and_eq_false_imp, List.contains_eq_mem, decide_eq_false_iff_not] at h ⊢
    exact fun hi hj => h hi (List.mem_singleton.mp hj ▸ hk)
  have known := (d.wr_regsKept 0x2400 9 (word 0xFF) (by decide)).trans
    (Dev.wr_regsKept _ 0x2400 1 (setBits (d.rd 0x2400 1) 11 8 0) (by decide)) (fun _ _ => only (by decide)) (fun _ _ => only (by decide))
  exact known.trans (Dev.wr_regsKept _ 0x2400 1 _ (by decide)) (fun _ _ h => h) (fun _ _ => only (by decide))

/-- A master heard by a member that knows one or none, on its way past (R295, R297). -/
theorem Dev.hearMaster_hears (d : Dev) {master : Nat} (hm : master < 16) (time : Nat) (v : RingView) {known : Nat}
    (hk : known = d.rdN 0x2400 9) {e : Dev} (he : e = d.hearMaster master time v) : e.out = d.out ∧
    (known = 0xFF ∨ master ≤ known → e.rdN 0x2400 9 = master ∧ bits (e.rd 0x2400 1) 11 8 = master ∧
      bit (e.rd 0x2400 1) 1 = false ∧ e.rdN 0x2400 3 = v.members.toNat ∧ e.rdN 0x2400 4 = v.healthy.toNat) ∧
    (known = 0xFF ∨ known = master → e.role = d.role ∧ e.core = d.core) ∧
    (known ≠ 0xFF → master < known → e.role = 1 ∧
      (d.allHalted = true → e.core.time = time) ∧ (d.allHalted = false → e.core = d.core)) ∧
    (known ≠ 0xFF → known < master → e = d) := by
  subst hk
  rcases d.hearMaster_cases master time v with ⟨follows, is⟩ | ⟨knows, before, is⟩ | ⟨knows, after, is⟩ <;> subst he <;> rw [is]
  · exact ⟨Dev.follow_out _ _ _, fun _ => d.follow_shows hm v, fun _ => ⟨d.follow_role hm v, d.follow_core _ _⟩,
      fun _ _ => by omega, fun _ _ => by omega⟩
  · have role : (d.join (some time)).role = 1 := congrArg RingStatus.role (d.join_status (some time))
    refine ⟨(Dev.follow_out _ _ _).trans (d.join_out _), fun _ => Dev.follow_shows _ hm v, fun _ => by omega, fun _ _ => ?_,
      fun _ _ => by omega⟩
    rw [Dev.follow_role _ hm, Dev.follow_core, Dev.join_core]
    exact ⟨role, fun h => by rw [if_pos h], fun h => by rw [if_neg (by simp [h])]⟩
  · exact ⟨rfl, fun _ => by omega, fun _ => by omega, fun _ _ => by omega, fun _ _ => rfl⟩

/-- Settles O32: each command is named by what it does to the device (beatPassed, follow, acceptClaim, release, depart, announceLeave), and
what the ring's registers then show is read off one view of them (RingStatus). -/
theorem ringElection : Obligations.RingElection := by
  unfold Obligations.RingElection
  refine ⟨fun v s ht hr => ?send, fun fromEast master seq time v known s ht hu hf hr hk => ?receive, fun s ht hr hk => ?lost,
    fun claimant gone s ht hr hk => ?claim, fun source s ht => ?release, fun path s h => ?leave⟩
  case send =>
    obtain ⟨regs, core, seq, outputs⟩ := (s.dev.takeView v).heartbeat.payNotch_rest
    have beat := (s.dev.takeView v).heartbeat_flowed
    have counted : (s.dev.takeView v).heartbeat.cascade.heartbeatSeq = (s.dev.cascade.heartbeatSeq + 1) % 2 ^ 32 := by
      rw [beat.cascade, ← s.dev.takeView_heartbeatSeq v]
      rfl
    have viewed := s.dev.takeView_status v
    have status := ((Dev.ringStatus_of_regs regs).trans (Dev.heartbeat_status _)).trans viewed
    refine ⟨_, heartbeatSend_sends v ht hr, kept_withDev s _, core.trans (beat.core.trans (s.dev.takeView_core v)),
      (congrArg RingStatus.role status).trans hr, seq.trans counted, congrArg RingStatus.members status,
      congrArg RingStatus.healthy status, fun east e port => ?_⟩
    have sent := Dev.heartbeat_mem ((s.dev.takeView_cellPort v east).trans port)
    rw [Dev.takeView_core, Dev.takeView_heartbeatSeq, show (s.dev.takeView v).rdN 0x2400 3 = _ from congrArg RingStatus.members viewed]
      at sent
    exact sent.imp (fun h => outputs.subset h) (fun h => outputs.subset h)
  case receive =>
    obtain ⟨e, port, passed⟩ := Dev.beatPassed_out hu master.val seq.toNat time.toNat v.members.toNat
    refine ⟨fun hm => ?_, fun hm => heartbeatReceive_own seq time v ht hu hm, fun hd => ?_⟩
    · have ran := heartbeatReceive_heard seq time v ht hu hm hf hr
      have heard := Dev.hearMaster_hears (s.dev.beatPassed fromEast master.val seq.toNat time.toNat v.members.toNat) master.isLt
        time.toNat v (known := known) (by rw [passed]; exact hk) rfl
      rw [passed] at ran heard
      obtain ⟨out, follows, same, joins, ignored⟩ := heard
      exact ⟨_, e, _, ran, kept_withDev s _, out, port, rfl, rfl, follows, same, joins,
        fun h1 h2 => by rw [ignored h1 h2]; rfl⟩
    · have alike := (s.dev.beatPassed_flowed fromEast master.val seq.toNat time.toNat v.members.toNat)
      obtain ⟨role, flag, unknown, core⟩ := Dev.duplicateId_status ((congrArg RingStatus.duplicate alike.ringStatus).trans hd)
      exact ⟨_, heartbeatReceive_duplicate seq time v ht hu, kept_withDev s _, role, flag, unknown, core.trans alike.core⟩
  case lost =>
    have status := (Dev.setFlag_status (s.dev.setMaster none) (k := 1) (by decide) true).trans
      (congrArg (fun r : RingStatus => { r with holdover := true }) (s.dev.setMaster_status (m := none) (by decide)))
    exact ⟨_, masterLost_holds ht hr hk, kept_withDev s _, rfl, s.dev.masterLost_regsKept, congrArg RingStatus.master status,
      congrArg RingStatus.holdover status, congrArg RingStatus.role status⟩
  case claim =>
    refine ⟨fun own candidate => ?_, fun own other objected => ?_, fun other able lower objected => ?_, fun other unable => ?_⟩
    · have ran (objected : Bool) := masterClaim_eq claimant gone objected ht hr hk
      simp only [if_pos own, candidate, Bool.not_true, Bool.false_eq_true, if_false] at ran
      have told := s.dev.broadcast_flowed 5 claimant.val
      have status := (Dev.acceptClaim_own (own.trans (congrArg CoreSt.cascadeId told.core).symm) claimant.isLt).trans
        (congrArg (fun r : RingStatus => { r with
          masterId := claimant.val, master := claimant.val, holdover := false, role := 3, locked := true }) told.ringStatus)
      exact ⟨⟨_, ran false, kept_withDev s _, congrArg RingStatus.role status, congrArg RingStatus.master status,
        congrArg RingStatus.locked status, congrArg RingStatus.holdover status, (Dev.acceptClaim_core _ _).trans told.core⟩,
        _, ran true, kept_withDev s _, rfl⟩
    · rw [masterClaim_eq claimant gone objected ht hr hk, if_pos own, other, if_pos (by decide)]
    · have ran := masterClaim_eq claimant gone objected ht hr hk
      rw [if_neg other, if_pos (by simp [able, lower])] at ran
      exact ⟨_, ran, kept_withDev s _, rfl⟩
    · have ran (objected : Bool) := masterClaim_eq claimant gone objected ht hr hk
      simp only [if_neg other, if_neg (show ¬(s.dev.healthy && decide (s.dev.core.cascadeId < claimant.val)) = true by simpa using unable)]
        at ran
      obtain ⟨role, known, holdover⟩ := Dev.acceptClaim_other other claimant.isLt
      exact ⟨⟨_, ran false, kept_withDev s _, known, role, holdover, s.dev.acceptClaim_core _⟩, ran true⟩
  case release =>
    have ran := masterRelease_eq source ht
    refine ⟨fun own hr => ⟨fun unable => ?_, fun able => ?_⟩, fun other hk => ?_⟩
    · rw [if_pos (by simp [own, Dev.isMaster_true hr, unable])] at ran
      have status := s.dev.release_status
      have beside := s.dev.release_besideRegs
      refine ⟨_, ran, kept_withDev s _, congrArg RingStatus.role status, congrArg RingStatus.master status,
        (congrArg (fun e : Dev => e.cascade.handover) beside :), s.dev.release_turned.core, ?_⟩
      rw [own]
      exact (congrArg Dev.out beside :)
    · rw [ran, if_neg (by simp [able]), if_neg (by simp [own])]
    · rw [if_neg (by simp [other]), if_pos (by simp [other, hk])] at ran
      have status := s.dev.setMaster_status (m := none) (by decide)
      exact ⟨_, ran, kept_withDev s _, congrArg RingStatus.role status, congrArg RingStatus.master status, rfl, rfl⟩
  case leave =>
    have ran := leave_accepted h
    refine ⟨fun hr => ?_, fun hr he => ?_, fun he => ?_⟩
    · rw [ran, if_pos hr]
    · rw [if_neg hr, he, if_pos (by decide)] at ran
      have status := Dev.setAlone_status (if s.dev.isMaster then s.dev.release else s.dev).linksDown.receiveIslands
      exact ⟨_, ran, kept_withDev s _, congrArg RingStatus.role status, congrArg RingStatus.master status, s.dev.depart_turned.core,
        s.dev.depart_link⟩
    · rw [if_neg (Dev.role_of_established he), he, if_neg (by decide)] at ran
      obtain ⟨regs, core, leaving, told⟩ := s.dev.announceLeave_tells
      exact ⟨_, ran, kept_withDev s _, congrArg RingStatus.role (Dev.ringStatus_of_regs regs), leaving, core, regs, told⟩

end Sys2Proof.Machine
end

section
/-! The statement about the links of the ring, refuted. -/

namespace Sys2Proof.Machine

/-- Refutes O31: a timing exchange within 2.5 ps takes JOINING to MEMBER and leaves any other ROLE (R294, R299), where the statement says
MEMBER of every ROLE but ALONE and MASTER. A member that knows a master and whose ROLE reads 4, a code the table of CASCADE_STATUS reserves,
keeps it; setRole is given no such code, but the statement speaks of all states. -/
theorem not_ringLinks : ¬ Obligations.RingLinks := by
  unfold Obligations.RingLinks
  rintro ⟨-, -, -, -, exchange⟩
  obtain ⟨⟨t, ran, -, -, -, -, known⟩, -⟩ := exchange true 0 0 0 0 0 { dev := {
    core := { state := .run }, env := { rails := 0x20 }, regs := [(0x240001, 0x4000), (0x240009, 0)]
    cascade := { east := { up := true } } } } (by decide) (by decide) (by decide)
  obtain ⟨-, near, -⟩ := known (by decide) (by decide)
  obtain ⟨-, member⟩ := near (by decide) (by decide) (by decide) (by decide)
  cases ran
  exact absurd member (by decide)

end Sys2Proof.Machine
end

section
/-! SUPPORT. Streams and loads that end (R327 to R336, R342): what of the configuration state a stream moves, and what a load held,
dropped or truncated leaves. -/

namespace Sys2Proof.Machine

/-! ### Bytes of a stream taken or skipped (R318, R330, R331) -/

/-- Between d and e at most the streams moved on: the bytes not yet taken, how many more to skip, and the place in the slot being read. -/
def Streamed (d e : Dev) : Prop :=
  { e with config := { e.config with
    streamBytes := d.config.streamBytes, skip := d.config.skip, slotLoad := d.config.slotLoad } } = d

theorem Streamed.trans {d e f : Dev} (h : Streamed d e) (k : Streamed e f) : Streamed d f :=
  (congrArg (fun x : Dev => { x with config := { x.config with
    streamBytes := d.config.streamBytes, skip := d.config.skip, slotLoad := d.config.slotLoad } }) k :).trans h

theorem Dev.consume_streamed (d : Dev) (src : LoadSource) (n : Nat) : Streamed d (d.consume src n) := by
  cases src <;> rfl

theorem Dev.skipRest_streamed (d : Dev) (src : LoadSource) (n : Nat) : Streamed d (d.skipRest src n) := by
  cases src <;> rfl

section
variable {d e : Dev} (h : Streamed d e)
include h

theorem Streamed.beside : { e with config := d.config } = d := (congrArg (fun x : Dev => { x with config := d.config }) h :)
theorem Streamed.core : e.core = d.core := (congrArg Dev.core h :)
theorem Streamed.nv : e.nv = d.nv := (congrArg Dev.nv h :)
theorem Streamed.panels : e.panels = d.panels := (congrArg Dev.panels h :)
theorem Streamed.rd (i j : Nat) : e.rd i j = d.rd i j := (congrArg (fun x : Dev => x.rd i j) h :)
theorem Streamed.load : e.config.load = d.config.load := (congrArg (fun x : Dev => x.config.load) h :)
theorem Streamed.active : e.config.active = d.config.active := (congrArg (fun x : Dev => x.config.active) h :)
theorem Streamed.shadow : e.config.shadow = d.config.shadow := (congrArg (fun x : Dev => x.config.shadow) h :)
theorem Streamed.staged : e.config.staged = d.config.staged := (congrArg (fun x : Dev => x.config.staged) h :)
theorem Streamed.order : e.config.orderInEffect = d.config.orderInEffect := (congrArg (fun x : Dev => x.config.orderInEffect) h :)
theorem Streamed.forwarding : e.config.forwarding = d.config.forwarding := (congrArg (fun x : Dev => x.config.forwarding) h :)

end

/-! ### Loads held and dropped (R336, R342) -/

theorem Dev.holdLoad_config (d : Dev) (l : LoadSt) (code : Nat) (addr : Option Nat) :
    (d.holdLoad l code addr).config = { d.config with load := some { l with held := some code } } := rfl

/-- CFG_STATUS and CFG_REASON of a held load: HELD and UNACKED set, BUSY clear. -/
theorem Dev.holdLoad_shows (d : Dev) (l : LoadSt) (code : Nat) (addr : Option Nat) :
    (d.holdLoad l code addr).rd 0x2100 3 = word code ∧ bit ((d.holdLoad l code addr).rd 0x2100 1) 13 = true ∧
      bit ((d.holdLoad l code addr).rd 0x2100 1) 14 = true ∧ bit ((d.holdLoad l code addr).rd 0x2100 1) 15 = false := by
  unfold Dev.holdLoad
  dsimp only
  rw [Dev.complete_other _ _ _ (by decide), Dev.complete_word]
  unfold Dev.wrN
  rw [Dev.rd_wr_other _ _ (by decide), Dev.rd_wr_same, Dev.rd_wr_other _ _ (by decide), Dev.rd_wr_other _ _ (by decide), Dev.rd_wr_same]
  refine ⟨rfl, ?_, ?_, bit_setBit_same _ _ (by decide)⟩
  · rw [bit_setBit_other _ _ (by decide), bit_setBit_other _ _ (by decide), bit_setBits_other _ _ (by decide),
      bit_setBit_same _ _ (by decide)]
  · rw [bit_setBit_other _ _ (by decide), bit_setBit_same _ _ (by decide)]

/-- The device with its partial load discarded, before anything is logged. -/
def Dev.partialGone (d : Dev) (code : Nat) (addr : Option Nat) : Dev :=
  ((({ d with config := { d.config with load := none, shadow := [], staging := [] } } : Dev).setFlag 0x2110 1 15 false).wrN
    0x2110 7 code).wrN 0x2110 8 (addr.getD 0xFFFFFFFF)

theorem Dev.dropPartial_eq (d : Dev) (code : Nat) (addr : Option Nat) :
    d.dropPartial code addr = if code = 0x0131 then (d.partialGone code addr).log code 0 0 else d.partialGone code addr := rfl

theorem Dev.dropPartial_flowed (d : Dev) (code : Nat) (addr : Option Nat) : Flowed (d.partialGone code addr) (d.dropPartial code addr) := by
  rw [Dev.dropPartial_eq]
  split
  · exact Dev.log_flowed _ _ _ _
  · exact .refl _

theorem Dev.dropPartial_config (d : Dev) (code : Nat) (addr : Option Nat) :
    (d.dropPartial code addr).config = { d.config with load := none, shadow := [], staging := [] } :=
  (d.dropPartial_flowed code addr).config

theorem Dev.dropPartial_panels (d : Dev) (code : Nat) (addr : Option Nat) : (d.dropPartial code addr).panels = d.panels :=
  (d.dropPartial_flowed code addr).panels

theorem Dev.dropPartial_reason (d : Dev) (code : Nat) (addr : Option Nat) : (d.dropPartial code addr).rd 0x2110 7 = word code := by
  rw [(d.dropPartial_flowed code addr).rd (by decide) (by decide)]
  exact (Dev.rd_wr_other _ _ (by decide)).trans (Dev.rd_wr_same _ _ _ _)

/-! ### Truncation (R335) -/

theorem Dev.truncate_full (d : Dev) {l : LoadSt} (h : l.header.kind = 1) :
    d.truncate l = ((d.holdLoad l 0x0130 none).log 0x0130 0 0).skipRest l.source 0 := by
  unfold Dev.truncate
  dsimp only
  rw [if_pos h]

theorem Dev.truncate_partial (d : Dev) {l : LoadSt} (h : l.header.kind ≠ 1) :
    d.truncate l = (d.dropPartial 0x0131 none).skipRest l.source 0 := by
  unfold Dev.truncate
  dsimp only
  rw [if_neg h]

/-- A truncated full load is held with 0x0130, logged. -/
structure HeldTruncated (d : Dev) (l : LoadSt) (e : Dev) : Prop where
  load : e.config.load = some { l with held := some 0x0130 }
  active : e.config.active = d.config.active
  forwarding : e.config.forwarding = d.config.forwarding
  core : e.core = { d.core with steps := none }
  held : bit (e.rd 0x2100 1) 13 = true
  reason : e.rd 0x2100 3 = word 0x0130
  logged : d.thimble = true → ∃ x ∈ e.nv.log, x.reason = 0x0130

theorem Dev.truncate_holds (d : Dev) {l : LoadSt} (h : l.header.kind = 1) : HeldTruncated d l (d.truncate l) := by
  have told := (d.holdLoad l 0x0130 none).log_flowed 0x0130 0 0
  have moved := ((d.holdLoad l 0x0130 none).log 0x0130 0 0).skipRest_streamed l.source 0
  obtain ⟨reason, held, -, -⟩ := d.holdLoad_shows l 0x0130 none
  rw [d.truncate_full h]
  refine ⟨moved.load.trans ?_, moved.active.trans ?_, moved.forwarding.trans ?_, moved.core.trans told.core, ?_, ?_, fun runs => ?_⟩
  · rw [told.config, Dev.holdLoad_config]
  · rw [told.config, Dev.holdLoad_config]
  · rw [told.config, Dev.holdLoad_config]
  · rw [moved.rd, told.rd (by decide) (by decide), held]
  · rw [moved.rd, told.rd (by decide) (by decide), reason]
  · obtain ⟨x, mem, code, -, -⟩ := Dev.log_mem (d := d.holdLoad l 0x0130 none) runs 0x0130 0 0
    exact ⟨x, moved.nv ▸ mem, code⟩

/-- A truncated partial load is dropped with 0x0131, logged. -/
structure DroppedTruncated (d e : Dev) : Prop where
  load : e.config.load = none
  active : e.config.active = d.config.active
  forwarding : e.config.forwarding = d.config.forwarding
  core : e.core = d.core
  reason : e.rd 0x2110 7 = word 0x0131
  logged : d.thimble = true → ∃ x ∈ e.nv.log, x.reason = 0x0131

theorem Dev.truncate_drops (d : Dev) {l : LoadSt} (h : l.header.kind ≠ 1) : DroppedTruncated d (d.truncate l) := by
  have moved := (d.dropPartial 0x0131 none).skipRest_streamed l.source 0
  have config := d.dropPartial_config 0x0131 none
  rw [d.truncate_partial h]
  refine ⟨moved.load.trans ?_, moved.active.trans ?_, moved.forwarding.trans ?_, moved.core.trans (d.dropPartial_core _ _), ?_,
    fun runs => ?_⟩
  · rw [config]
  · rw [config]
  · rw [config]
  · rw [moved.rd, d.dropPartial_reason]
  · obtain ⟨x, mem, code, -, -⟩ := Dev.log_mem (d := d.partialGone 0x0131 none) runs 0x0131 0 0
    exact ⟨x, moved.nv ▸ mem, code⟩

/-! ### The array cleared by an entry to UNCONFIGURED (R35, R336) -/

/-- Of every site listed only the adopted tension offset is left. -/
theorem Dev.tensionsOnly_listed (d : Dev) : ∀ p ∈ d.tensionsOnly.panels, p.2 = { tension := p.2.tension } := by
  intro p hp
  obtain ⟨x, -, rfl⟩ := List.mem_map.1 (List.mem_filter.1 hp).1
  rfl

theorem Dev.bootUp_config (d : Dev) : d.bootUp.config = d.config := by
  unfold Dev.bootUp
  dsimp only
  split <;> rfl

theorem Dev.bootUp_panels (d : Dev) : d.bootUp.panels = d.panels := by
  unfold Dev.bootUp
  dsimp only
  split <;> rfl

theorem Dev.updatePermits_panels (d : Dev) : d.updatePermits.panels = d.panels := (congrArg Dev.panels d.updatePermits_besidePermits :)

/-- No load is left, and of every site listed only its tension offset. -/
theorem Dev.enterUnconfigured_bare (d : Dev) (reason : Nat) : (d.enterUnconfigured reason).config.load = none ∧
    ∀ p ∈ (d.enterUnconfigured reason).panels, p.2 = { tension := p.2.tension } := by
  unfold Dev.enterUnconfigured
  dsimp only
  generalize d.endWork.dropOutputs.discardPartial.discardStaged = e
  have told := e.clearArray.changeState_flowed .unconfigured reason 0
  refine ⟨?_, ?_⟩
  · rw [Dev.bootUp_config, Dev.updatePermits_config, told.config]
    rfl
  · rw [Dev.bootUp_panels, Dev.updatePermits_panels, told.panels]
    exact Dev.tensionsOnly_listed _

/-! ### The commands -/

theorem streamData_accepted {w : Wr} {s : State} (h : Accepted objStreamData actStreamData w s.dev) :
    exec (.streamData w) s = .next { s with dev := actStreamData.apply s.dev w } := by
  have ran : exec (.streamData w) s = execStreamData w s := rfl
  rw [ran]
  unfold execStreamData
  rw [onDev_next, rowWrite_accepted _ _ h]

/-- The stream emptied (R330). -/
def Dev.streamEmptied (d : Dev) : Dev := { d with config := { d.config with streamBytes := [], skip := 0 } }

theorem Dev.streamEmptied_streamed (d : Dev) : Streamed d d.streamEmptied := rfl

/-- STREAM_ABANDON without a load that comes by the stream. -/
theorem streamAbandon_empties {path : Transport} {s : State}
    (h : Accepted objStreamCommand actStreamCommand ⟨path, 1, 1, [], 0⟩ s.dev) (other : ∀ x, s.dev.loading = some x → x.source ≠ .pcie) :
    exec (.streamAbandon path) s = .next { s with dev := s.dev.streamEmptied } := by
  have ran : exec (.streamAbandon path) s = execStreamAbandon path s := rfl
  rw [ran]
  unfold execStreamAbandon
  rw [onDev_next, rowWrite_accepted _ _ h]
  unfold actStreamCommand
  dsimp only
  split
  · next x hx =>
    rw [if_neg (other x hx)]
    rfl
  · rfl

/-- STREAM_ABANDON while a load comes by the stream. -/
theorem streamAbandon_truncates {path : Transport} {x : LoadSt} {s : State}
    (h : Accepted objStreamCommand actStreamCommand ⟨path, 1, 1, [], 0⟩ s.dev) (hx : s.dev.loading = some x) (hp : x.source = .pcie) :
    exec (.streamAbandon path) s = .next { s with dev := (s.dev.truncate x).streamEmptied } := by
  have ran : exec (.streamAbandon path) s = execStreamAbandon path s := rfl
  rw [ran]
  unfold execStreamAbandon
  rw [onDev_next, rowWrite_accepted _ _ h]
  unfold actStreamCommand
  dsimp only
  rw [hx]
  dsimp only
  rw [if_pos hp]
  rfl

/-- The port forwards no longer (R335). -/
def Dev.portQuiet (d : Dev) : Dev := { d with config := { d.config with forwarding := false } }

theorem cfgCsNRise_idle {s : State} (h : s.dev.loading = none) : exec .cfgCsNRise s = .next { s with dev := s.dev.portQuiet } := by
  have ran : exec .cfgCsNRise s = execCfgCsNRise s := rfl
  have quiet : s.dev.portQuiet.loading = none := h
  rw [ran]
  unfold execCfgCsNRise
  rw [onDev_next]
  unfold Dev.portQuiet at quiet ⊢
  dsimp only
  rw [quiet]

theorem cfgCsNRise_truncates {x : LoadSt} {s : State} (h : s.dev.loading = some x) (hp : x.source = .port) :
    exec .cfgCsNRise s = .next { s with dev := s.dev.portQuiet.truncate x } := by
  have ran : exec .cfgCsNRise s = execCfgCsNRise s := rfl
  have quiet : s.dev.portQuiet.loading = some x := h
  rw [ran]
  unfold execCfgCsNRise
  rw [onDev_next]
  unfold Dev.portQuiet at quiet ⊢
  dsimp only
  rw [quiet]
  dsimp only
  rw [if_pos hp]

theorem streamInactivity_idle {s : State} (h : s.dev.loading = none) : exec .streamInactivity s = .next s := by
  have ran : exec .streamInactivity s = execStreamInactivity s := rfl
  rw [ran]
  unfold execStreamInactivity
  rw [onDev_next, h]

theorem streamInactivity_truncates {x : LoadSt} {s : State} (h : s.dev.loading = some x) :
    exec .streamInactivity s = .next { s with dev :=
      if x.header.kind = 1 then (s.dev.truncate x).enterUnconfigured 0x0132 else s.dev.truncate x } := by
  have ran : exec .streamInactivity s = execStreamInactivity s := rfl
  rw [ran]
  unfold execStreamInactivity
  rw [onDev_next, h]

theorem fittingTimeout_held {x : LoadSt} {s : State} (hs : s.dev.core.state = .fitting) (hl : s.dev.config.load = some x)
    (hx : x.held.isSome = true) : exec .fittingTimeout s = .next { s with dev := s.dev.enterUnconfigured 0x0132 } := by
  have ran : exec .fittingTimeout s = execFittingTimeout s := rfl
  rw [ran]
  unfold execFittingTimeout
  rw [onDev_next, if_pos (by simp [hs, hl, hx])]

/-! ### Loads from a slot (R331) -/

theorem Dev.touchUnits_reported (d : Dev) (u n : Nat) : Reported d (d.touchUnits u n) := by
  have touched (n : Nat) : Reported d (forEach n (fun k e => e.touchRaw (u + k) 1) d) := by
    induction n with
    | zero => exact .refl d
    | succ n ih =>
      rw [forEach_succ]
      exact ih.trans (Dev.touchRaw_reported _ _ _)
  exact (touched n).trans (Dev.peakCheck_reported _)

/-- The directory entry of slot n counts one more read. -/
def Dev.slotRead (d : Dev) (n : Nat) : Dev := d.setSlot n { d.slot n with reads := ((d.slot n).reads + 1) % 2 ^ 32 }

theorem Dev.beginSlot_eq (d : Dev) (n : Nat) : d.beginSlot n =
    let e := (d.slotRead n).touchUnits (slotUnit n) (unitsOf (d.slot n).data.length)
    if e.loading.isSome then e else { e with config := { e.config with slotLoad := some (n, 0) } } := rfl

theorem loadRequest_accepted {w : Wr} {s : State} (h : Accepted objLoadRequest actLoadRequest w s.dev) :
    exec (.loadRequest w) s = .next { s with dev := s.dev.beginSlot (objLoadRequest.num w) } := by
  have ran : exec (.loadRequest w) s = execLoadRequest w s := rfl
  rw [ran]
  unfold execLoadRequest
  rw [onDev_next, rowWrite_accepted _ _ h]
  rfl

/-- Only a valid slot is loaded from. -/
theorem loadRequest_valid {w : Wr} {d : Dev} (h : Accepted objLoadRequest actLoadRequest w d) :
    (d.slot (objLoadRequest.num w)).state = 2 := by
  have allowed : slotRefusal (d.slot (objLoadRequest.num w)) = 0 := allow_of_writeCheck h.2
  unfold slotRefusal at allowed
  by_contra other
  rw [if_neg other] at allowed
  split at allowed
  · exact absurd allowed (by decide)
  · split at allowed
    · exact absurd allowed (by decide)
    · exact absurd allowed (by decide)

/-! ### The start-up order (R333) -/

theorem startOrder_ok {w : Wr} {d : Dev} (h : Accepted objStartOrder actStartOrder w d) : orderOk (objStartOrder.num w) = true := by
  have passed : (if orderOk (objStartOrder.num w) then 0 else 0x0140) = 0 := check_of_writeCheck h.2
  by_contra other
  rw [if_neg other] at passed
  exact absurd passed (by decide)

theorem startOrderWrite_accepted {w : Wr} {s : State} (h : Accepted objStartOrder actStartOrder w s.dev) :
    exec (.startOrderWrite w) s = .next { s with dev := s.dev.wr 0x2010 1 (objStartOrder.valueOf w) } := by
  have ran : exec (.startOrderWrite w) s = execStartOrderWrite w s := rfl
  rw [ran]
  unfold execStartOrderWrite
  rw [onDev_next, rowWrite_accepted _ _ h]
  rfl

end Sys2Proof.Machine
end
section
/-! The statement about streams, loads from a slot, truncation and time-outs. -/

namespace Sys2Proof.Machine

/-- Settles O44: a load that loses its stream is held or dropped (HeldTruncated, DroppedTruncated), what times out clears the array
(Unconfigured), and the other commands move streams, one slot's count of reads, or one register. -/
theorem streamsAndTimeouts : Obligations.StreamsAndTimeouts := by
  unfold Obligations.StreamsAndTimeouts
  refine ⟨fun w s h => ⟨_, streamData_accepted h, kept_withDev s _, rfl, rfl⟩, ?abandon, ?deselected, ?inactive, ?timeout, ?slot, ?order⟩
  case abandon =>
    intro path s h
    refine ⟨fun other => ⟨_, streamAbandon_empties h other, kept_withDev s _, rfl⟩, fun x hx hp hk => ?_⟩
    have dropped := s.dev.truncate_drops (l := x) (by omega)
    have emptied := (s.dev.truncate x).streamEmptied_streamed
    exact ⟨_, streamAbandon_truncates h hx hp, kept_withDev s _, emptied.load.trans dropped.load, rfl, rfl,
      (emptied.rd _ _).trans dropped.reason, emptied.core.trans dropped.core⟩
  case deselected =>
    intro s runs
    refine ⟨fun none => ⟨_, cfgCsNRise_idle none, kept_withDev s _, rfl⟩, fun x hx hp => ?_⟩
    have ran := cfgCsNRise_truncates hx hp
    by_cases full : x.header.kind = 1
    · have held := s.dev.portQuiet.truncate_holds full
      exact ⟨_, ran, kept_withDev s _, held.forwarding, (congrArg CoreSt.state held.core :), held.active,
        fun _ => ⟨held.load, held.held, held.reason, held.logged runs⟩, fun two => by omega⟩
    · have dropped := s.dev.portQuiet.truncate_drops full
      exact ⟨_, ran, kept_withDev s _, dropped.forwarding, (congrArg CoreSt.state dropped.core :), dropped.active,
        fun one => absurd one full, fun _ => ⟨dropped.load, dropped.reason, dropped.logged runs⟩⟩
  case inactive =>
    intro s
    refine ⟨streamInactivity_idle, fun x hx => ?_⟩
    have ran := streamInactivity_truncates hx
    by_cases full : x.header.kind = 1
    · rw [if_pos full] at ran
      have entered := (s.dev.truncate x).enterUnconfigured_enters (reason := 0x0132) (by decide)
      obtain ⟨load, panels⟩ := (s.dev.truncate x).enterUnconfigured_bare 0x0132
      exact ⟨_, ran, kept_withDev s _, load, fun _ => ⟨entered.state, entered.shown, panels⟩, fun two => by omega⟩
    · rw [if_neg full] at ran
      have dropped := s.dev.truncate_drops full
      exact ⟨_, ran, kept_withDev s _, dropped.load, fun one => absurd one full, fun _ => ⟨dropped.core, dropped.reason⟩⟩
  case timeout =>
    intro x s hs hl hx
    have entered := s.dev.enterUnconfigured_enters (reason := 0x0132) (by decide)
    obtain ⟨load, panels⟩ := s.dev.enterUnconfigured_bare 0x0132
    exact ⟨_, fittingTimeout_held hs hl hx, kept_withDev s _, entered.state, entered.shown, load, entered.clear.active, panels,
      entered.clear.staged, entered.clear.outputs⟩
  case slot =>
    intro w n s h hn
    subst hn
    have ran := loadRequest_accepted h
    rw [Dev.beginSlot_eq] at ran
    have valid := loadRequest_valid h
    generalize objLoadRequest.num w = n at ran valid ⊢
    have told := (s.dev.slotRead n).touchUnits_reported (slotUnit n) (unitsOf (s.dev.slot n).data.length)
    generalize (s.dev.slotRead n).touchUnits (slotUnit n) (unitsOf (s.dev.slot n).data.length) = e at ran told
    have slots (k : Nat) : e.slot k = (s.dev.slotRead n).slot k := Dev.slot_of_vault_nv (congrArg Vault.nv told.vault) k
    have loading : e.loading = s.dev.loading := congrArg (fun c => c.load.filter (fun l => !l.ended && l.held.isNone)) told.config
    have same : e.slot n = { s.dev.slot n with reads := ((s.dev.slot n).reads + 1) % 2 ^ 32 } :=
      (slots n).trans (Dev.slot_setSlot_same _ _ _)
    have other (k : Nat) (hk : k ≠ n) : e.slot k = s.dev.slot k := (slots k).trans (Dev.slot_setSlot_other _ _ _ _ (Ne.symm hk))
    dsimp only at ran
    rw [loading] at ran
    split at ran
    · next busy =>
      rw [if_pos busy]
      exact ⟨_, ran, kept_withDev s _, valid, same, other, told.core, told.regs, told.config⟩
    · next idle =>
      rw [if_neg idle]
      refine ⟨_, ran, kept_withDev s _, valid, same, other, told.core, told.regs, ?_⟩
      dsimp only
      rw [told.config]
      rfl
  case order =>
    intro w s h
    exact ⟨_, startOrderWrite_accepted h, kept_withDev s _, rfl, s.dev.wr_regsKept _ _ _ (by decide), Dev.rd_wr_same _ _ _ _,
      startOrder_ok h⟩

end Sys2Proof.Machine
end

section
/-! SUPPORT. Work that ends or begins beside a load (R36, R199, R245, R334, R447): what runs, calibrations, channels, tokens and contents
leave of the configuration state, of the start-up steps, and of the registers of loads, repairs and French seams. -/

namespace Sys2Proof.Machine

/-- The status of the load at hand, and the registers of repairs and French seams. -/
def loadReg (i j : Nat) : Bool := (i == 0x2100 && j == 1) || (decide (0x3900 ≤ i) && decide (i < 0x39C0))

/-- Between d and e work went on that no load, repair or French seam shows: the configuration state, the device state, the start-up steps
still to run and the registers of loadReg are as they were. -/
structure Worked (d e : Dev) : Prop where
  config : e.config = d.config
  state : e.core.state = d.core.state
  steps : e.core.steps = d.core.steps
  regs : ∀ i j, loadReg i j = true → j < 256 → e.rd i j = d.rd i j

theorem Worked.refl (d : Dev) : Worked d d := ⟨rfl, rfl, rfl, fun _ _ _ _ => rfl⟩

theorem Worked.trans {d e f : Dev} (h : Worked d e) (k : Worked e f) : Worked d f :=
  ⟨k.config.trans h.config, k.state.trans h.state, k.steps.trans h.steps, fun i j hl hj => (k.regs i j hl hj).trans (h.regs i j hl hj)⟩

theorem reportReg_of_loadReg {i j : Nat} (h : loadReg i j = true) : reportReg i j = false := by
  simp [loadReg, reportReg] at *
  omega

theorem Flowed.worked {d e : Dev} (h : Flowed d e) : Worked d e :=
  ⟨h.config, congrArg CoreSt.state h.core, congrArg CoreSt.steps h.core, fun _ _ hl hj => h.rd hj (reportReg_of_loadReg hl)⟩

/-- A register that no load, repair or French seam shows. -/
theorem Dev.wr_worked (d : Dev) {i j : Nat} (v : Word) (hj : j < 256) (far : i < 0x3900 ∨ 0x39C0 ≤ i) (other : i ≠ 0x2100 ∨ j ≠ 1) :
    Worked d (d.wr i j v) := by
  refine ⟨rfl, rfl, rfl, fun i' j' hl hj' => d.rd_wr_other v fun same => ?_⟩
  obtain ⟨rfl, rfl⟩ := objKey_inj hj hj' same
  simp [loadReg] at hl
  omega

theorem forEach_worked {n : Nat} {f : Nat → Dev → Dev} (h : ∀ i, i < n → ∀ e, Worked e (f i e)) (d : Dev) : Worked d (forEach n f d) := by
  induction n with
  | zero => exact .refl d
  | succ n ih =>
    rw [forEach_succ]
    exact (ih fun i hi => h i (by omega)).trans (h n (Nat.lt_succ_self n) _)

theorem foldl_worked {α : Type} {f : Dev → α → Dev} (h : ∀ e x, Worked e (f e x)) (l : List α) (d : Dev) : Worked d (l.foldl f d) := by
  induction l generalizing d with
  | nil => exact .refl d
  | cons x l ih => exact (h d x).trans (ih _)

theorem Dev.updatePermits_worked (d : Dev) : Worked d d.updatePermits where
  config := d.updatePermits_config
  state := congrArg CoreSt.state d.updatePermits_core
  steps := congrArg CoreSt.steps d.updatePermits_core
  regs := fun i j hl hj => d.updatePermits_rd (by simp [loadReg] at hl; omega) hj

/-! ### Runs, calibrations and channels end (R199, R245, R447) -/

/-- The summary of a run that ended. -/
theorem Dev.sumUp_worked (d : Dev) {g : Nat} (hg : g < 12) (time slices pc reason : Nat) : Worked d (d.sumUp g time slices pc reason) := by
  have set (e : Dev) {j : Nat} (v : Word) (hj : j < 256) : Worked e (e.wr (shIdx g) j v) :=
    e.wr_worked v hj (by unfold shIdx; omega) (by unfold shIdx; omega)
  unfold Dev.sumUp
  exact ((((set d _ (by decide)).trans (set _ _ (by decide))).trans (set _ _ (by decide))).trans (set _ _ (by decide))).trans
    (set _ _ (by decide))

theorem Dev.cutRun_worked (d : Dev) {g : Nat} (hg : g < 12) (reason : Nat) (closes : Bool) : Worked d (d.cutRun g reason closes) := by
  have shut (e : Dev) (x : ShuttleSt) : Worked e (e.setShuttle g x) := ⟨rfl, rfl, rfl, fun _ _ _ _ => rfl⟩
  have summed (x : ShuttleSt) (time slices pc : Nat) :
      Worked d (((d.cutNeedles g).setShuttle g x).sumUp g time slices pc reason).updatePermits :=
    (((d.cutNeedles_flowed g).worked.trans (shut _ x)).trans (Dev.sumUp_worked _ hg _ _ _ _)).trans (Dev.updatePermits_worked _)
  unfold Dev.cutRun
  dsimp only
  split
  · exact .refl d
  · exact shut d _
  · split
    · exact (summed _ _ _ _).trans (forEach_flowed (fun i e => e.closeEntry_flowed _) 8 _).worked
    · exact summed _ _ _ _

theorem Dev.calEnd_worked (d : Dev) (q : CalReq) (whole : Bool) : Worked d (d.calEnd q whole) := by
  have emits {α : Type} (o : α → Output) (l : List α) (e : Dev) : Worked e (l.foldl (fun e p => e.emit (o p)) e) :=
    foldl_worked (fun e _ => (e.emit_flowed _).worked) l e
  have levels : Worked d (d.calLevels q whole) := by
    unfold Dev.calLevels
    split
    · exact .refl d
    · dsimp only
      refine Worked.trans (e := d.free.2) ⟨rfl, rfl, rfl, fun _ _ _ _ => rfl⟩ (forEach_worked (fun c _ e => ?_) _)
      split
      · exact (emits _ _ e).trans (Dev.setNeedle_flowed _ _ _).worked
      · exact .refl e
  have idle (e : Dev) : Worked e { e with cal := { e.cal with busy := none } } := ⟨rfl, rfl, rfl, fun _ _ _ _ => rfl⟩
  unfold Dev.calEnd
  dsimp only
  refine (levels.trans (idle _)).trans (forEach_worked (fun c _ e => ?_) _)
  split
  · exact (e.setNeedle_flowed _ _).worked
  · exact .refl e

theorem Dev.calAbort_worked (d : Dev) : Worked d d.calAbort := by
  have set (e : Dev) {j : Nat} (v : Word) (hj : j < 256) : Worked e (e.wr 0x3340 j v) := e.wr_worked v hj (by omega) (by omega)
  unfold Dev.calAbort
  split
  · exact .refl d
  · next q _ =>
    have shown (v : Word) := (((d.calEnd_worked q false).trans (set _ (word 0x0526) (by decide : 3 < 256))).trans
      (set _ (word 0) (by decide : 6 < 256))).trans (set _ v (by decide : 1 < 256))
    refine ((shown _).trans (forEach_worked (n := 12) (fun g _ e => ?_) _)).trans (set _ _ (by decide))
    split
    · exact (e.log_flowed _ _ _).worked
    · exact .refl e

theorem Dev.writeback_worked (d : Dev) {c : Nat} (hc : c < 16) (status : Nat) : Worked d (d.writeback c status) := by
  have set (e : Dev) {j : Nat} (v : Word) (hj : j < 256) : Worked e (e.wr (0x3400 + c) j v) := e.wr_worked v hj (by omega) (by omega)
  have counted (e : Dev) : Worked e (e.count 0x3410 4 32 1) := e.wr_worked _ (by decide) (by decide) (by decide)
  have kept (e : Dev) (x : SpoolSt) : Worked e (e.setChan c x) := ⟨rfl, rfl, rfl, fun _ _ _ _ => rfl⟩
  have posted (o o' : Output) (n : Nat) : Worked d ((((d.emit o).wrN (0x3400 + c) 8 n).emit o').count (0x3400 + c) 0x0E 32 1) :=
    (((d.emit_flowed o).worked.trans (set _ _ (by decide))).trans (Dev.emit_flowed _ o').worked).trans (set _ _ (by decide))
  unfold Dev.writeback
  dsimp only
  split
  · exact ((posted _ _ _).trans (counted _)).trans (kept _ _)
  · exact (posted _ _ _).trans (kept _ _)

theorem Dev.abortEnd_worked (d : Dev) {c : Nat} (hc : c < 16) (result : Nat) : Worked d (d.abortEnd c result) := by
  have set (e : Dev) {j : Nat} (v : Word) (hj : j < 256) : Worked e (e.wr (0x3400 + c) j v) := e.wr_worked v hj (by omega) (by omega)
  have kept (e : Dev) (x : SpoolSt) : Worked e (e.setChan c x) := ⟨rfl, rfl, rfl, fun _ _ _ _ => rfl⟩
  have freed (e : Dev) : Worked e e.free.2 := ⟨rfl, rfl, rfl, fun _ _ _ _ => rfl⟩
  have told (e : Dev) (r reason info : Nat) (addr : Word) : Worked e (e.spoolEvent c r reason info addr) :=
    ((((set e _ (by decide)).trans (set _ _ (by decide))).trans (set _ _ (by decide))).trans (set _ _ (by decide))).trans
      (set _ _ (by decide))
  have written (p : Prop) [Decidable p] (status : Nat) : Worked d (if p then d else (d.writeback c status).emit (.msix c)) := by
    split
    · exact .refl d
    · exact (d.writeback_worked hc status).trans (Dev.emit_flowed _ _).worked
  unfold Dev.abortEnd
  dsimp only
  split
  · exact ((((written _ _).trans (kept _ _)).trans (Dev.log_flowed _ _ _ _).worked).trans (freed _)).trans (told _ _ _ _ _)
  · exact (((written _ _).trans (kept _ _)).trans (freed _)).trans (told _ _ _ _ _)

/-- The work that a state change ends. -/
theorem Dev.endWork_worked (d : Dev) : Worked d d.endWork := by
  have runs : Worked d d.endRuns := forEach_worked (fun g hg e => e.cutRun_worked hg _ _) d
  have channels (e : Dev) : Worked e e.spoolStop := by
    refine forEach_worked (fun c hc e => ?_) e
    split
    · exact e.abortEnd_worked hc 4
    · exact .refl e
  have tests (e : Dev) : Worked e e.endTests := ⟨rfl, rfl, rfl, fun _ _ _ _ => rfl⟩
  exact ((runs.trans (Dev.calAbort_worked _)).trans (channels _)).trans (tests _)

theorem Dev.dropOutputs_worked (d : Dev) : Worked d d.dropOutputs :=
  Worked.trans (e := d.outputsOff) ⟨rfl, rfl, rfl, fun _ _ _ _ => rfl⟩ d.dropOutputs_flowed.worked

/-! ### Contents, pins and shuttles that start afresh (R152, R171, R204, R475) -/

theorem Dev.clearBlocks_worked (d : Dev) (p : Nat → Bool) : Worked d (d.clearBlocks p) := by
  unfold Dev.clearBlocks
  refine foldl_worked (fun e k => ?_) _ d
  split
  · exact ⟨rfl, rfl, rfl, fun _ _ _ _ => rfl⟩
  · exact .refl e

theorem Dev.clearSlots_worked (d : Dev) : Worked d d.clearSlots := by
  have set (e : Dev) {k j : Nat} (hk : k < 4) (v : Word) (hj : j < 256) : Worked e (e.wr (0x3601 + k) j v) :=
    e.wr_worked v hj (by omega) (by omega)
  have emptied : Worked d { d with swatch := { d.swatch with slots := [] } } := ⟨rfl, rfl, rfl, fun _ _ _ _ => rfl⟩
  exact emptied.trans (forEach_worked (fun k hk e =>
    ((set e hk _ (by decide)).trans (set _ hk _ (by decide))).trans (set _ hk _ (by decide))) _)

theorem Dev.freshPins_worked (d : Dev) : Worked d d.freshPins := by
  unfold Dev.freshPins
  exact forEach_worked (fun b hb e => (e.wr_worked _ (by decide) (by unfold bankIdx; omega) (by unfold bankIdx; omega)).trans
    (Dev.setBank_flowed _ _ _).worked) d

/-! ### Tokens and swatches of the fabric (R66, R103, R466) -/

theorem Dev.swatchMissed_worked (d : Dev) : Worked d d.swatchMissed := by
  have counted : Worked d (d.count 0x3600 6 32 1) := d.wr_worked _ (by decide) (by decide) (by decide)
  have marked (e : Dev) : Worked e { e with swatch := { e.swatch with sent61 := true } } := ⟨rfl, rfl, rfl, fun _ _ _ _ => rfl⟩
  unfold Dev.swatchMissed
  dsimp only
  split
  · exact counted
  · exact (counted.trans (marked _)).trans (Dev.notify_flowed _ _ _).worked

theorem Dev.swatchDetect_worked (d : Dev) (triggers : Nat) (details : List (Nat × Nat)) (latch cascade : Nat) (late : Bool) :
    Worked d (d.swatchDetect triggers details latch cascade late) := by
  have set (e : Dev) {j : Nat} (v : Word) (hj : j < 256) : Worked e (e.wr 0x3600 j v) := e.wr_worked v hj (by omega) (by omega)
  have moved (w : SwatchSt) : Worked d { d with swatch := w } := ⟨rfl, rfl, rfl, fun _ _ _ _ => rfl⟩
  unfold Dev.swatchDetect
  split
  · exact .refl d
  · split
    · split
      · exact moved _
      · exact d.swatchMissed_worked
    · split
      · exact d.swatchMissed_worked
      · split
        · exact (set d _ (by decide)).trans (Dev.notify_flowed _ _ _).worked
        · exact (moved _).trans (set _ _ (by decide))

theorem Dev.routeSwatch_worked (d : Dev) (k detail : Nat) : Worked d (d.routeSwatch k detail) := by
  have routed (w : SwatchSt) : Worked d { d with swatch := w } := ⟨rfl, rfl, rfl, fun _ _ _ _ => rfl⟩
  have cascade (e : Dev) (n t : Nat) : Worked e (e.cascadeSwatch n t) := by
    obtain ⟨triggers, details, isLate, eq⟩ := e.cascadeSwatch_eq n t
    have taken : Worked e (e.swatchTaken n t) := (e.swatchLate_flowed t).worked.trans ⟨rfl, rfl, rfl, fun _ _ _ _ => rfl⟩
    rw [eq]
    exact taken.trans (Dev.swatchDetect_worked _ _ _ _ _ _)
  unfold Dev.routeSwatch
  dsimp only
  split
  · exact ((routed _).trans (Dev.broadcast_flowed _ _ _).worked).trans (cascade _ _ _)
  · exact (routed _).trans (Dev.sendCell_flowed _ _ _).worked

theorem Dev.swatchTrigger_worked (d : Dev) (k detail : Nat) : Worked d (d.swatchTrigger k detail) := by
  have detected := d.swatchDetect_worked (2 ^ k) [(k, detail)] (d.core.time + 100) 0 false
  unfold Dev.swatchTrigger
  split
  · exact .refl d
  · split
    · split
      · exact d.routeSwatch_worked k detail
      · exact detected.trans (Dev.log_flowed _ _ _ _).worked
    · exact detected

theorem Dev.watchToken_worked (d : Dev) (w : Nat) : Worked d (d.watchToken w) := by
  have seen (x : WatchSt) : Worked d ((d.count (0x3B80 + w / 4) (0x10 * (w % 4 + 1) + 6) 48 1).setWatch w x) :=
    (d.wr_worked _ (by omega) (by omega) (by omega)).trans ⟨rfl, rfl, rfl, fun _ _ _ _ => rfl⟩
  unfold Dev.watchToken
  dsimp only
  split
  · exact (seen _).trans (Dev.swatchTrigger_worked _ _ _)
  · exact seen _

theorem Dev.setPanel_worked (d : Dev) (site : Nat) (x : PanelSt) : Worked d (d.setPanel site x) := ⟨rfl, rfl, rfl, fun _ _ _ _ => rfl⟩

theorem Dev.emitFull_worked (d : Dev) (site : Nat) : Worked d (d.emitFull site) := by
  have watched (e : Dev) (column row b : Nat) : Worked e (e.watchTokens column row b) := by
    unfold Dev.watchTokens
    refine forEach_worked (fun w _ e => ?_) e
    split
    · exact e.watchToken_worked w
    · exact .refl e
  have settled (e : Dev) (column row b : Nat) : Worked e (e.settleBundle column row b) := by
    unfold Dev.settleBundle
    dsimp only
    split
    · exact e.setPanel_worked _ _
    · exact .refl e
  unfold Dev.emitFull
  refine forEach_worked (fun b _ e => ?_) d
  split
  · exact (((e.setPanel_worked _ _).trans (Dev.emit_flowed _ _).worked).trans (watched _ _ _ _)).trans (settled _ _ _ _)
  · exact .refl e

/-! ### Bobbins that take what waited (R120, R334) -/

theorem Dev.bobbinReg_worked (d : Dev) (h : Nat) {j : Nat} (v : Word) (hj : j < 256) : Worked d (d.wr (0x4400 + h) j v) :=
  d.wr_worked v hj (by omega) (by omega)

theorem Dev.setBobbin_worked (d : Dev) (h : Nat) (x : BobbinSt) : Worked d (d.setBobbin h x) := ⟨rfl, rfl, rfl, fun _ _ _ _ => rfl⟩

theorem Dev.levelUp_worked (d : Dev) (h : Nat) (cfg : Word) : Worked d (d.levelUp h cfg) := by
  have told (x : BobbinSt) : Worked d (((d.setBobbin h x).bobbinSeq h).notify 0x0320 h) :=
    ((d.setBobbin_worked h x).trans (Dev.bobbinReg_worked _ h _ (by decide))).trans (Dev.notify_flowed _ _ _).worked
  unfold Dev.levelUp
  dsimp only
  split
  · split
    · exact told _
    · exact (told _).trans (Dev.emit_flowed _ _).worked
  · exact .refl d

theorem Dev.closePacket_worked (d : Dev) (h : Nat) (cfg : Word) (truncated : Bool) (n : Nat) :
    Worked d (d.closePacket h cfg truncated n) := by
  have counted : Worked d (d.count (0x4400 + h) 8 32 1) := d.bobbinReg_worked h _ (by decide)
  have seq : Worked d ((d.count (0x4400 + h) 8 32 1).bobbinSeq h) := counted.trans (Dev.bobbinReg_worked _ h _ (by decide))
  unfold Dev.closePacket
  dsimp only
  split
  · exact counted
  · split
    · exact seq
    · exact seq.trans (Dev.emit_flowed _ _).worked

theorem Dev.gapMarkerDue_worked (d : Dev) (h : Nat) : Worked d (d.gapMarkerDue h) := by
  have saturated (p : Prop) [Decidable p] (e : Dev) : Worked e (if p then e.setFlag (0x4400 + h) 1 13 true else e) := by
    split
    · exact e.bobbinReg_worked h _ (by decide)
    · exact .refl e
  have closed (p : Prop) [Decidable p] (e : Dev) (cfg : Word) (n : Nat) : Worked e (if p then e.closePacket h cfg true n else e) := by
    split
    · exact e.closePacket_worked _ _ _ _
    · exact .refl e
  have marked (x : BobbinSt) : Worked d ((d.setBobbin h x).count (0x4400 + h) 7 32 1) :=
    (d.setBobbin_worked h x).trans (Dev.bobbinReg_worked _ h _ (by decide))
  unfold Dev.gapMarkerDue
  dsimp only
  split
  · split
    · exact (((marked _).trans (saturated _ _)).trans (closed _ _ _ _)).trans (Dev.levelUp_worked _ _ _)
    · exact .refl d
  · exact .refl d

theorem Dev.bobbinDrop_worked (d : Dev) (h : Nat) (cfg : Word) (eop : Bool) : Worked d (d.bobbinDrop h cfg eop) := by
  have told (p : Prop) [Decidable p] (e : Dev) : Worked e (if p then e else e.notify 0x0310 h) := by
    split
    · exact .refl e
    · exact (e.notify_flowed _ _).worked
  have counted (x : BobbinSt) : Worked d ((d.setBobbin h x).count (0x4400 + h) 6 32 1) :=
    (d.setBobbin_worked h x).trans (Dev.bobbinReg_worked _ h _ (by decide))
  unfold Dev.bobbinDrop
  exact ((counted _).trans (told _ _)).trans (Dev.gapMarkerDue_worked _ _)

theorem Dev.bobbinStore_worked (d : Dev) (h : Nat) (cfg : Word) (data : BitVec 64) (eop : Bool) (bytes : Nat) :
    Worked d (d.bobbinStore h cfg data eop bytes) := by
  unfold Dev.bobbinStore
  dsimp only
  split
  · refine Worked.trans ?_ (Dev.levelUp_worked _ _ _)
    split
    · exact (d.setBobbin_worked h _).trans (Dev.closePacket_worked _ _ _ _ _)
    · exact d.setBobbin_worked h _
  · exact d.setBobbin_worked h _

theorem Dev.bobbinRetry_worked (d : Dev) (h : Nat) : Worked d (d.bobbinRetry h) := by
  have write (e : Dev) (data : BitVec 64) (ctrl : BitVec 4) : Worked e (e.bobbinWrite h data ctrl) := by
    have due := e.gapMarkerDue_worked h
    unfold Dev.bobbinWrite
    dsimp only
    split
    · exact due.trans (Dev.bobbinDrop_worked _ _ _ _)
    · split
      · split
        · exact due.trans (Dev.setBobbin_worked _ _ _)
        · exact due.trans (Dev.bobbinDrop_worked _ _ _ _)
      · exact due.trans (Dev.bobbinStore_worked _ _ _ _ _ _)
  unfold Dev.bobbinRetry
  dsimp only
  split
  · split
    · exact (d.setBobbin_worked _ _).trans (write _ _ _)
    · exact .refl d
  · exact .refl d

/-! ### The start-up steps (R334) -/

theorem Dev.groupsOff_worked (d : Dev) (groups : Nat) : Worked d (d.groupsOff groups) := by
  have slips (e : Dev) {c : Nat} (hc : c < 96) (n : Nat) : Worked e (e.slips c n) := by
    have counted : Worked e (e.count (0x3200 + c) 0x0A 32 n) := e.wr_worked _ (by decide) (by omega) (by omega)
    unfold Dev.slips
    dsimp only
    split
    · exact .refl e
    · split
      · exact counted
      · exact (counted.trans (Dev.setNeedle_flowed _ _ _).worked).trans (Dev.notify_flowed _ _ _).worked
  have off (e : Dev) {c : Nat} (hc : c < 96) : Worked e (e.needleOff c) := by
    unfold Dev.needleOff
    dsimp only
    refine Worked.trans ?_ (Dev.setNeedle_flowed _ _ _).worked
    split
    · exact ((e.emit_flowed _).worked.trans (Dev.setNeedle_flowed _ _ _).worked).trans (slips _ hc _)
    · exact .refl e
  unfold Dev.groupsOff
  refine forEach_worked (fun c hc e => ?_) d
  split
  · exact off e hc
  · exact .refl e

theorem Dev.emptyHems_worked (d : Dev) : Worked d d.emptyHems := by
  unfold Dev.emptyHems
  exact (foldl_worked (fun e h => (e.setHalf_flowed h _).worked) _ d).trans (forEach_flowed (fun b e => e.setBank_flowed b _) 4 _).worked

theorem Dev.releaseGsr_worked (d : Dev) : Worked d d.releaseGsr := by
  have released : Worked d { d with core := { d.core with gsrHeld := false, gatesOpen := true }, seams := [] } :=
    ⟨rfl, rfl, rfl, fun _ _ _ _ => rfl⟩
  have bobbins (e : Dev) : Worked e (e.emptyBobbins 54) := ⟨rfl, rfl, rfl, fun _ _ _ _ => rfl⟩
  have flag (e : Dev) (g : Nat) (x : ShuttleSt) : Worked e (e.setShuttle g x) := ⟨rfl, rfl, rfl, fun _ _ _ _ => rfl⟩
  have flags (e : Dev) : Worked e (forEach 12 (fun g e => e.setShuttle g { e.shuttle g with flags := 0 }) e) :=
    forEach_worked (fun g _ e => flag e g _) e
  have french (e : Dev) : Worked e (forEach 64 (fun n e => e.initFrench n) e) := by
    refine forEach_worked (fun n _ e => ?_) e
    unfold Dev.initFrench
    dsimp only
    split <;> exact ⟨rfl, rfl, rfl, fun _ _ _ _ => rfl⟩
  unfold Dev.releaseGsr
  exact (((((released.trans (Dev.emptyHems_worked _)).trans (bobbins _)).trans (Dev.groupsOff_worked _ _)).trans (flags _)).trans
    (foldl_worked (fun e _ => e.setPanel_worked _ _) _ _)).trans ((french _).trans (foldl_worked (fun e _ => e.emitFull_worked _) _ _))

/-- A start-up step leaves those still to run, and of the load's status nothing but STEPS_DONE. -/
theorem Dev.runStep_worked (d : Dev) (c : Nat) : Worked d (d.runStep c) := by
  have outputs : Worked d d.releaseOutputs :=
    Worked.trans (e := { d with core := { d.core with outputs := true } }) ⟨rfl, rfl, rfl, fun _ _ _ _ => rfl⟩
      (forEach_flowed (fun g e => e.showLanes_flowed g) 12 _).worked
  have writes : Worked d d.enableWrites :=
    Worked.trans (e := { d with core := { d.core with writes := true } }) ⟨rfl, rfl, rfl, fun _ _ _ _ => rfl⟩
      (foldl_worked (fun e (b : Nat × BobbinSt) => e.bobbinRetry_worked b.1) _ _)
  have done (e : Dev) : Worked e (e.stepDone c) := by
    unfold Dev.stepDone
    split
    · exact e.wr_worked _ (by decide) (by decide) (by decide)
    · exact .refl e
  unfold Dev.runStep
  dsimp only
  refine Worked.trans ?_ (done _)
  split
  · exact outputs
  · split
    · exact d.releaseGsr_worked
    · exact writes

end Sys2Proof.Machine
end

section
/-! SUPPORT. Repairs, planned moves and the patches that lose their logic (R480 to R491): entries that stay in the log, bands that shift,
and what the state restored to a site leaves. -/

namespace Sys2Proof.Machine

/-! ### Entries that newer ones leave in the log (R521) -/

/-- Under one newer entry the newest n of a log are among its newest n + 1. -/
theorem mem_take_newer {x e : LogEntry} {l : List LogEntry} {n : Nat} (hn : n + 1 ≤ 65536) (h : x ∈ l.take n) :
    x ∈ ((e :: l).take 65536).take (n + 1) := by
  rw [List.take_take, Nat.min_eq_left hn, List.take_succ_cons]
  exact List.mem_cons_of_mem _ h

theorem mem_take_more {x : LogEntry} {l : List LogEntry} {n : Nat} (h : x ∈ l.take n) : x ∈ l.take (n + 1) :=
  (List.take_sublist_take_left (Nat.le_succ n)).subset h

theorem Dev.peakCheck_recent (d : Dev) {x : LogEntry} {n : Nat} (hn : n + 1 ≤ 65536) (h : x ∈ d.nv.log.take n) :
    x ∈ d.peakCheck.nv.log.take (n + 1) := by
  rcases d.peakCheck_log with same | ⟨e, more⟩
  · rw [same]
    exact mem_take_more h
  · rw [more]
    exact mem_take_newer hn h

/-- A log entry moves the newest n entries back by two places at most. -/
theorem Dev.log_recent (d : Dev) (reason inst detail : Nat) {x : LogEntry} {n : Nat} (hn : n + 2 ≤ 65536) (h : x ∈ d.nv.log.take n) :
    x ∈ (d.log reason inst detail).nv.log.take (n + 2) := by
  unfold Dev.log
  split
  · obtain ⟨e, -, -, -, entered⟩ := d.enterLog_log d.core.time reason inst detail
    exact Dev.peakCheck_recent _ hn (entered ▸ mem_take_newer (by omega) h)
  · exact mem_take_more (mem_take_more h)

/-- While the Thimble runs an event logged is one of the two newest entries. -/
theorem Dev.log_newest {d : Dev} (h : d.thimble = true) (reason inst detail : Nat) :
    ∃ x ∈ (d.log reason inst detail).nv.log.take 2, x.reason = reason ∧ x.inst = inst := by
  obtain ⟨e, hr, hi, -, entered⟩ := d.enterLog_log d.core.time reason inst detail
  refine ⟨e, ?_, hr, hi⟩
  unfold Dev.log
  rw [if_pos h]
  exact Dev.peakCheck_recent _ (n := 1) (by decide) (by rw [entered]; simp)

theorem Dev.thimble_of_flowed {d e : Dev} (h : Flowed d e) : e.thimble = d.thimble := by
  unfold Dev.thimble
  rw [h.vaux, h.core]

/-! ### A patch that loses its logic (R345, R488) -/

theorem Dev.repairDone_rd (d : Dev) (l : List Byte) {i j : Nat} (hj : j < 256) (h : regsOf 0x3900 [1] i j = false) :
    (d.repairDone l).rd i j = d.rd i j :=
  Dev.wr_regsKept (d.setBytes 0x3900 6 l) 0x3900 1 _ (by decide) i j hj h

theorem Dev.repairDone_status (d : Dev) (l : List Byte) : bit ((d.repairDone l).rd 0x3900 1) 15 = true ∧
    bits ((d.repairDone l).rd 0x3900 1) 31 16 = nextSeq (bits (d.rd 0x3900 1) 31 16) := by
  unfold Dev.repairDone
  rw [Dev.complete_word]
  dsimp only
  refine ⟨bit_setBit_same _ _ (by decide), ?_⟩
  rw [bits_setBit_other _ _ (by decide), bits_setBits_same _ _ (by decide), Dev.setBytes_rd]
  exact Nat.mod_eq_of_lt (nextSeq_lt (bits_lt _ 31 16))

/-- Patch r.patch is isolated with the fault r: signalled, counted and recorded; what else a repair could touch stays. -/
structure PatchLost (r : RepairSt) (d e : Dev) : Prop where
  core : e.core = d.core
  darn : e.darn = d.darn
  panels : e.panels = d.panels
  vault : e.vault = d.vault
  isolated : e.isolated r.patch = true
  counted : e.rdN 0x3900 7 = (d.rdN 0x3900 7 + 1) % 2 ^ 32
  seq : bits (e.rd 0x3900 1) 31 16 = nextSeq (bits (d.rd 0x3900 1) 31 16)
  logged : d.thimble = true → ∃ x ∈ e.nv.log, x.reason = 0x0823 ∧
    x.inst = 256 * (d.logicalColumn r.column r.row).getD r.column + r.row
  older : ∀ x n, n + 2 ≤ 65536 → x ∈ d.nv.log.take n → x ∈ e.nv.log

theorem Dev.isolate_rd (d : Dev) (q : Nat) {i j : Nat} (hi : i < 0x3A10) (hj : j < 256) (h : regsOf 0x3900 [8] i j = false) :
    (d.isolate q).rd i j = d.rd i j :=
  (Dev.updatePermits_rd _ hi hj).trans (Dev.wr_regsKept d 0x3900 8 _ (by decide) i j hj h)

theorem Dev.isolate_besidePermits (d : Dev) (q : Nat) : (d.isolate q).besidePermits = d.besidePermits :=
  Dev.updatePermits_besidePermits _

theorem Dev.isolateLoss_lost (d : Dev) (r : RepairSt) (recovered : Nat) (h : r.patch < 64) : PatchLost r d (d.isolateLoss r recovered) := by
  have beside := d.isolate_besidePermits r.patch
  have nv : (d.isolate r.patch).nv = d.nv := (congrArg Dev.nv beside :)
  obtain ⟨isolated, -⟩ := d.isolateLoss_isolates r recovered h
  have log : (d.isolateLoss r recovered).nv =
      ((d.isolate r.patch).log 0x0823 (256 * (d.logicalColumn r.column r.row).getD r.column + r.row) 0).nv := Dev.notify_nv _ _ _
  obtain ⟨e, l, lost, told⟩ : ∃ e l, d.isolateLoss r recovered = (e.count 0x3900 7 32 1).repairDone l ∧ Reported (d.isolate r.patch) e :=
    ⟨_, _, rfl, Dev.logNotify_reported _ 0x0823 (256 * (d.logicalColumn r.column r.row).getD r.column + r.row) 0⟩
  have before {j : Nat} (hj : j < 256) (h8 : j ≠ 8) : e.rd 0x3900 j = d.rd 0x3900 j :=
    (told.regs _ _ hj (by simp [reportReg])).trans (d.isolate_rd _ (by decide) hj (by simp [regsOf, h8]))
  refine ⟨?_, ?_, ?_, ?_, isolated, ?_, ?_, fun runs => ?_, fun x n hn hx => ?_⟩
  · rw [lost]
    exact told.core.trans (congrArg Dev.core beside :)
  · rw [lost]
    exact told.darn.trans (congrArg Dev.darn beside :)
  · rw [lost]
    exact told.panels.trans (congrArg Dev.panels beside :)
  · rw [lost]
    exact told.vault.trans (Dev.updatePermits_vault _)
  · rw [lost, Dev.rdN, Dev.repairDone_rd _ _ (by decide) (by decide), ← Dev.rdN, Dev.count_eq, Dev.rdN_wrN_same _ _ _ _ (by omega), Dev.rdN,
      before (by decide) (by decide), ← Dev.rdN]
  · rw [lost, (Dev.repairDone_status _ _).2, Dev.count_eq, Dev.wrN, Dev.rd_wr_other _ _ (by decide), before (by decide) (by decide)]
  · have thimble : (d.isolate r.patch).thimble = true := (congrArg Dev.thimble beside :).trans runs
    obtain ⟨x, mem, reason, inst⟩ := Dev.log_newest thimble 0x0823 (256 * (d.logicalColumn r.column r.row).getD r.column + r.row) 0
    exact ⟨x, log ▸ List.mem_of_mem_take mem, reason, inst⟩
  · rw [log]
    exact List.mem_of_mem_take (Dev.log_recent _ _ _ _ hn (nv ▸ hx))

/-! ### Bands (R479, R480) -/

/-- A field within a field that was set reads as its part of the number. -/
theorem bits_setBits_within (w : Word) {hi lo hi' lo' : Nat} (v : Nat) (h : hi < 64) (low : lo ≤ lo') (high : hi' ≤ hi) :
    bits (setBits w hi lo v) hi' lo' = v / 2 ^ (lo' - lo) % 2 ^ (hi' + 1 - lo') := by
  apply Nat.eq_of_testBit_eq
  intro k
  rw [testBit_bits, getLsbD_setBits, Nat.testBit_mod_two_pow, Nat.testBit_div_two_pow]
  by_cases hk : k < hi' + 1 - lo'
  · rw [if_pos ⟨by omega, by omega, by omega⟩, show lo' + k - lo = k + (lo' - lo) by omega]
  · simp [hk]

theorem Dev.mem_bandRows (d : Dev) (q : Nat) {r : Nat} (h : r < 8) : r ∈ d.bandRows q r := by
  simp [Dev.bandRows, h]

/-- The rows of a list take one vacant position and kind. -/
theorem foldl_setBits_row {v kind : Nat} (hv : v < 32) (hk : kind < 8) {r : Nat} (hr : r < 8) (l : List Nat) (m : Word)
    (h : r ∈ l ∨ (bits m (8 * r + 4) (8 * r) = v ∧ bits m (8 * r + 7) (8 * r + 5) = kind)) :
    bits (l.foldl (fun m k => setBits m (8 * k + 7) (8 * k) (kind * 32 + v)) m) (8 * r + 4) (8 * r) = v ∧
      bits (l.foldl (fun m k => setBits m (8 * k + 7) (8 * k) (kind * 32 + v)) m) (8 * r + 7) (8 * r + 5) = kind := by
  induction l generalizing m with
  | nil => exact h.resolve_left List.not_mem_nil
  | cons k l ih =>
    refine ih _ ?_
    by_cases same : r = k
    · subst same
      refine .inr ⟨?_, ?_⟩
      · rw [bits_setBits_within _ _ (by omega) (by omega) (by omega), Nat.sub_self, show 8 * r + 4 + 1 - 8 * r = 5 by omega]
        omega
      · rw [bits_setBits_within _ _ (by omega) (by omega) (by omega), show 8 * r + 5 - 8 * r = 5 by omega,
          show 8 * r + 7 + 1 - (8 * r + 5) = 3 by omega]
        omega
    · refine h.imp (fun mem => (List.mem_cons.1 mem).resolve_left same) fun ⟨vacant, kept⟩ => ⟨?_, ?_⟩
      · rw [bits_setBits_other _ _ (by omega), vacant]
      · rw [bits_setBits_other _ _ (by omega), kept]

/-- A band set: the row itself stands at the vacant position and kind. -/
theorem Dev.setBand_row (d : Dev) (q : Nat) {r v kind : Nat} (hr : r < 8) (hv : v < 32) (hk : kind < 8) :
    (d.setBand q r v kind).vacant q r = v ∧ (d.setBand q r v kind).rowKind q r = kind := by
  unfold Dev.vacant Dev.rowKind Dev.shiftMap Dev.setBand
  dsimp only
  rw [tabGet_tabSet_same]
  exact foldl_setBits_row hv hk hr _ _ (.inl (d.mem_bandRows q hr))

/-- Vacant positions and kinds are seen in the vault. -/
theorem Dev.bands_of_vault {d e : Dev} (h : e.vault = d.vault) (q r : Nat) :
    e.vacant q r = d.vacant q r ∧ e.rowKind q r = d.rowKind q r := by
  have map : e.shiftMap q = d.shiftMap q := (congrArg (fun v : Vault => tabGet (fun _ => freeMap) v.nv.shiftMaps q) h :)
  unfold Dev.vacant Dev.rowKind
  rw [map]
  exact ⟨rfl, rfl⟩

end Sys2Proof.Machine
end

section
/-! SUPPORT. Requests for a move, and what the Thimble takes in hand (R484, R485, R488, R491). -/

namespace Sys2Proof.Machine

/-! ### Requests (R491) -/

/-- The words of REPAIR_REQUEST: kind k (1 RETIRE, 2 RETURN) of a logical site. -/
def repairWord (k column row : Nat) : Nat := k * 2 ^ 24 + column * 256 + row

theorem repairRequest_fields (path : Transport) {k column row : Nat} (hk : k < 256) (hc : column < 256) (hr : row < 256) :
    let v := objRepairRequest.valueOf ⟨path, 4, word (repairWord k column row), [], 0⟩
    bits v 31 24 = k ∧ bits v 15 8 = column ∧ bits v 7 0 = row := by
  have small : repairWord k column row < 2 ^ 32 := by unfold repairWord; omega
  have value : objRepairRequest.valueOf ⟨path, 4, word (repairWord k column row), [], 0⟩ = word (repairWord k column row) := by
    apply BitVec.eq_of_toNat_eq
    simp [Desc.valueOf, Desc.width, objRepairRequest, lowBytes]
    have := toNat_word (n := repairWord k column row) (by omega)
    omega
  intro v
  have number : v.toNat = repairWord k column row := by
    rw [show v = word (repairWord k column row) from value, toNat_word (by omega)]
  unfold bits
  rw [number]
  simp only [Nat.shiftRight_eq_div_pow, repairWord]
  omega

/-- The move of an accepted RETIRE of logical site (column, row). -/
def Dev.retireMove (d : Dev) (column row : Nat) : RepairSt :=
  { patch := sitePatch column row, row := row, column := d.physColumn column row, source := 0, kind := 2, started := d.core.time }

/-- The test of an accepted RETURN of physical site (column, row). -/
def Dev.returnTest (d : Dev) (column row : Nat) : Dev :=
  { d with darn := { d.darn with testing := tabIns d.darn.testing (siteNo column row) { purpose := 2 } } }

/-- Requests are accepted in RUN only. -/
theorem run_of_repairRequest {d : Dev} {w : Wr} (h : Accepted objRepairRequest actRepairRequest w d) : d.core.state = .run := by
  have allowed : actRepairRequest.allow d w = 0 := allow_of_writeCheck h.2
  unfold actRepairRequest at allowed
  dsimp only at allowed
  split at allowed
  next => cases allowed
  next =>
    split at allowed
    next => cases allowed
    next =>
      split at allowed
      next => cases allowed
      next running => simpa using running

theorem retire_accepted {path : Transport} {column row : BitVec 8} {s : State}
    (h : Accepted objRepairRequest actRepairRequest ⟨path, 4, word (repairWord 1 column.toNat row.toNat), [], 0⟩ s.dev) :
    exec (.retire path column row) s = .next { s with
      dev := (s.dev.wrN 0x3900 4 0).beginRepair (s.dev.retireMove column.toNat row.toNat) } := by
  obtain ⟨kind, col, line⟩ := repairRequest_fields path (k := 1) (by decide) column.isLt row.isLt
  have ran : exec (.retire path column row) s = onDev (rowWrite objRepairRequest actRepairRequest 0x3900 3
      ⟨path, 4, word (0x01000000 + column.toNat * 256 + row.toNat), [], 0⟩) s := rfl
  have same : 0x01000000 + column.toNat * 256 + row.toNat = repairWord 1 column.toNat row.toNat := by unfold repairWord; omega
  rw [ran, onDev_next, same, rowWrite_accepted _ _ h]
  simp only [actRepairRequest, kind, col, line, if_true]
  rfl

theorem repairReturn_accepted {path : Transport} {column row : BitVec 8} {s : State}
    (h : Accepted objRepairRequest actRepairRequest ⟨path, 4, word (repairWord 2 column.toNat row.toNat), [], 0⟩ s.dev) :
    exec (.repairReturn path column row) s = .next { s with
      dev := (s.dev.wrN 0x3900 4 0).returnTest column.toNat row.toNat } := by
  obtain ⟨kind, col, line⟩ := repairRequest_fields path (k := 2) (by decide) column.isLt row.isLt
  have ran : exec (.repairReturn path column row) s = onDev (rowWrite objRepairRequest actRepairRequest 0x3900 3
      ⟨path, 4, word (0x02000000 + column.toNat * 256 + row.toNat), [], 0⟩) s := rfl
  have same : 0x02000000 + column.toNat * 256 + row.toNat = repairWord 2 column.toNat row.toNat := by unfold repairWord; omega
  rw [ran, onDev_next, same, rowWrite_accepted _ _ h]
  simp only [actRepairRequest, kind, col, line]
  rfl

/-! ### What the Thimble takes (R484, R485, R488) -/

/-- The report f leaves the queue. -/
def Dev.taken (d : Dev) (f : RepairSt) : Dev := { d with darn := { d.darn with queue := d.darn.queue.erase f } }

/-- The test of the retired site for the fault f, which waits for it. -/
def Dev.testSpare (d : Dev) (f : RepairSt) (site : Nat) : Dev :=
  { d with darn := { d.darn with waiting := d.darn.waiting ++ [f], testing := tabIns d.darn.testing site { purpose := 1 } } }

/-- Tests of the sites named end. -/
def Dev.testsEnd (d : Dev) (sites : List Nat) : Dev :=
  { d with darn := { d.darn with testing := d.darn.testing.filter (fun t => !sites.contains t.1) } }

theorem repairStart_takes {f : RepairSt} {s : State} (runs : s.dev.repairsRun = true) (next : s.dev.nextFault = some f) :
    exec .repairStart s = .next { s with dev :=
      (if f.kind ≠ 1 then (s.dev.taken f).beginRepair f
      else if s.dev.isolated f.patch || s.dev.vacant f.patch (f.row % 8) = f.column % 17 then (s.dev.taken f).proceedSteps
      else if s.dev.rowKind f.patch (f.row % 8) = 1 then
        ((s.dev.taken f).isolateLoss f 0).testSpare f
          (siteNo (17 * (f.patch % 6) + ((s.dev.taken f).isolateLoss f 0).vacant f.patch (f.row % 8)) f.row)
      else ((s.dev.taken f).testsEnd (s.dev.vacantSites f.patch (f.row % 8))).beginRepair f) } := by
  have ran : exec .repairStart s = execRepairStart s := rfl
  rw [ran]
  unfold execRepairStart
  rw [onDev_next]
  simp only [runs, next]
  rfl

theorem repairStart_move {f : RepairSt} {s : State} (runs : s.dev.repairsRun = true) (next : s.dev.nextFault = some f)
    (kind : f.kind ≠ 1) : exec .repairStart s = .next { s with dev := (s.dev.taken f).beginRepair f } := by
  rw [repairStart_takes runs next, if_pos kind]

theorem repairStart_spare {f : RepairSt} {s : State} (runs : s.dev.repairsRun = true) (next : s.dev.nextFault = some f)
    (kind : f.kind = 1) (whole : s.dev.isolated f.patch = false) (used : s.dev.vacant f.patch (f.row % 8) ≠ f.column % 17)
    (spare : s.dev.rowKind f.patch (f.row % 8) ≠ 1) :
    exec .repairStart s = .next { s with
      dev := ((s.dev.taken f).testsEnd (s.dev.vacantSites f.patch (f.row % 8))).beginRepair f } := by
  rw [repairStart_takes runs next, if_neg (not_not.2 kind), if_neg (by simp [whole, used]), if_neg spare]

theorem repairStart_noSpare {f : RepairSt} {s : State} (runs : s.dev.repairsRun = true) (next : s.dev.nextFault = some f)
    (kind : f.kind = 1) (whole : s.dev.isolated f.patch = false) (used : s.dev.vacant f.patch (f.row % 8) ≠ f.column % 17)
    (spare : s.dev.rowKind f.patch (f.row % 8) = 1) (h : f.patch < 64) :
    exec .repairStart s = .next { s with
      dev := ((s.dev.taken f).isolateLoss f 0).testSpare f
        (siteNo (17 * (f.patch % 6) + s.dev.vacant f.patch (f.row % 8)) f.row) } := by
  have bands := (Dev.bands_of_vault ((s.dev.taken f).isolateLoss_lost f 0 h).vault f.patch (f.row % 8)).1
  rw [repairStart_takes runs next, if_neg (not_not.2 kind), if_neg (by simp [whole, used]), if_pos spare]
  rw [bands]
  rfl

/-! ### What they leave -/

theorem repairRequest_kept (d : Dev) (code : Nat) : RegsKept (regsOf 0x3900 [4]) d (d.wrN 0x3900 4 code) ∧
    (d.wrN 0x3900 4 code).rd 0x3900 4 = word code :=
  ⟨d.wr_regsKept _ _ _ (by decide), d.rd_wr_same _ _ _⟩

theorem Dev.testsEnd_mem (d : Dev) (sites : List Nat) (y : Nat × TestSt) :
    y ∈ (d.testsEnd sites).darn.testing ↔ y ∈ d.darn.testing ∧ sites.contains y.1 = false := by
  simp [Dev.testsEnd]

/-- A move or repair in hand: beside the record of reports and repairs nothing moved. -/
theorem Dev.begun_beside (d : Dev) (f : RepairSt) (sites : List Nat) :
    { (d.taken f).beginRepair f with darn := d.darn } = d ∧ { ((d.taken f).testsEnd sites).beginRepair f with darn := d.darn } = d :=
  ⟨rfl, by dsimp only [Dev.beginRepair, Dev.testsEnd, Dev.taken]⟩

/-- A fault without a spare (R488): the patch is lost, and its fault waits for the test of the retired site. -/
theorem PatchLost.tested {f : RepairSt} {d e : Dev} (lost : PatchLost f (d.taken f) e) (run : d.thimble = true) (site : Nat) :
    (e.testSpare f site).core = d.core ∧ (e.testSpare f site).isolated f.patch = true ∧
      (e.testSpare f site).darn.waiting = d.darn.waiting ++ [f] ∧ (e.testSpare f site).darn.repairs = d.darn.repairs ∧
      (e.testSpare f site).darn.queue = d.darn.queue.erase f ∧
      (site, ({ purpose := 1 } : TestSt)) ∈ (e.testSpare f site).darn.testing ∧
      (e.testSpare f site).rdN 0x3900 7 = (d.rdN 0x3900 7 + 1) % 2 ^ 32 ∧
      bits ((e.testSpare f site).rd 0x3900 1) 31 16 = nextSeq (bits (d.rd 0x3900 1) 31 16) ∧
      ∃ x ∈ (e.testSpare f site).nv.log, x.reason = 0x0823 ∧
        x.inst = 256 * (d.logicalColumn f.column f.row).getD f.column + f.row := by
  have darn : e.darn = { d.darn with queue := d.darn.queue.erase f } := lost.darn
  refine ⟨lost.core, lost.isolated, ?_, ?_, ?_, self_mem_tabIns _ _ _, lost.counted, lost.seq, lost.logged run⟩
  · exact congrArg (fun x => x.waiting ++ [f]) darn
  · exact congrArg (·.repairs) darn
  · exact congrArg (·.queue) darn

end Sys2Proof.Machine
end

section
/-! SUPPORT. The state restored to a site (R486), and the release of repairs and moves (R485, R490, R491). -/

namespace Sys2Proof.Machine

/-! ### What restoring a site leaves -/

/-- State was restored between d and e: the device state, the vault, the repairs under way and the registers below the French seams'
stay, those of reports aside. -/
structure Mended (d e : Dev) : Prop where
  core : e.core = d.core
  vault : e.vault = d.vault
  repairs : e.darn.repairs = d.darn.repairs
  regs : ∀ i j, i < 0x3980 → j < 256 → reportReg i j = false → e.rd i j = d.rd i j

theorem Mended.refl (d : Dev) : Mended d d := ⟨rfl, rfl, rfl, fun _ _ _ _ _ => rfl⟩

theorem Mended.trans {d e f : Dev} (h : Mended d e) (k : Mended e f) : Mended d f :=
  ⟨k.core.trans h.core, k.vault.trans h.vault, k.repairs.trans h.repairs,
    fun i j hi hj hr => (k.regs i j hi hj hr).trans (h.regs i j hi hj hr)⟩

theorem Reported.mended {d e : Dev} (h : Reported d e) : Mended d e :=
  ⟨h.core, h.vault, congrArg (·.repairs) h.darn, fun i j _ => h.regs i j⟩

theorem foldl_mended {α : Type} {f : Dev → α → Dev} (h : ∀ e x, Mended e (f e x)) (l : List α) (d : Dev) : Mended d (l.foldl f d) := by
  induction l generalizing d with
  | nil => exact .refl d
  | cons x l ih => exact (h d x).trans (ih _)

theorem Dev.setSeam_mended (d : Dev) (k : Nat) (x : SeamSt) : Mended d (d.setSeam k x) := ⟨rfl, rfl, rfl, fun _ _ _ _ _ => rfl⟩
theorem Dev.setPanel_mended (d : Dev) (k : Nat) (x : PanelSt) : Mended d (d.setPanel k x) := ⟨rfl, rfl, rfl, fun _ _ _ _ _ => rfl⟩
theorem Dev.setFrench_mended (d : Dev) (k : Nat) (x : FrenchSt) : Mended d (d.setFrench k x) := ⟨rfl, rfl, rfl, fun _ _ _ _ _ => rfl⟩
theorem Dev.initPanel_mended (d : Dev) (site : Nat) : Mended d (d.initPanel site) := d.setPanel_mended _ _

theorem Dev.wr_mended (d : Dev) {i j : Nat} (v : Word) (hi : 0x3980 ≤ i) (hj : j < 256) : Mended d (d.wr i j v) :=
  ⟨rfl, rfl, rfl, fun i' j' hi' hj' _ => d.wr_regsKept i j v hj i' j' hj' (by
    have other : (i' == i) = false := beq_false_of_ne (by omega)
    rw [regsOf, other, Bool.false_and])⟩

theorem Dev.setFlag_mended (d : Dev) {i j : Nat} (k : Nat) (b : Bool) (hi : 0x3980 ≤ i) (hj : j < 256) : Mended d (d.setFlag i j k b) :=
  d.wr_mended _ hi hj

theorem Dev.count_mended (d : Dev) {i j : Nat} (width n : Nat) (hi : 0x3980 ≤ i) (hj : j < 256) : Mended d (d.count i j width n) :=
  d.wr_mended _ hi hj

theorem Dev.complete_mended (d : Dev) {i j : Nat} (u : Nat) (busy : Option Nat) (hi : 0x3980 ≤ i) (hj : j < 256) :
    Mended d (d.complete i j u busy) :=
  d.wr_mended _ hi hj

theorem Dev.frenchAck_mended (d : Dev) (site : Nat) : Mended d (d.frenchAck site) := by
  unfold Dev.frenchAck
  split
  next => exact .refl d
  next =>
    dsimp only
    split
    next => exact .refl d
    next => exact d.setFrench_mended _ _

theorem Dev.senderDone_mended (d : Dev) (site u : Nat) : Mended d (d.senderDone site u) := by
  unfold Dev.senderDone
  dsimp only
  split
  next => exact (d.setSeam_mended _ _).trans (Dev.frenchAck_mended _ _)
  next => exact (d.setSeam_mended _ _).trans (Dev.setSeam_mended _ _ _)

theorem Dev.ackSender_mended (d : Dev) (key site u : Nat) : Mended d (d.ackSender key site u) := by
  unfold Dev.ackSender
  extract_lets x acked
  split
  next => exact d.senderDone_mended _ _
  next => exact d.setSeam_mended _ _

theorem Dev.dropInvalid_mended (d : Dev) (site v : Nat) : Mended d (d.dropInvalid site v) := by
  unfold Dev.dropInvalid
  dsimp only
  split
  next => exact .refl d
  next => exact (d.setSeam_mended _ _).trans (foldl_mended (fun e a => e.ackSender_mended _ _ _) _ _)

theorem Dev.losePorts_mended (d : Dev) (site : Nat) : Mended d (d.losePorts site) :=
  (foldl_mended (fun e v => e.dropInvalid_mended site v) _ _).trans (foldl_mended (fun e _ => e.setSeam_mended _ _) _ _)

/-! ### Rollback (R493) -/

/-- A port with a token not acknowledged takes it back. -/
def Dev.takeBack (site u : Nat) (d : Dev) : Dev :=
  match (d.seam (seamOut site u)).word with
  | some w => d.setSeam (seamOut site u) { d.seam (seamOut site u) with
      wires := launchWires (d.seam (seamOut site u)).wires w (d.seam (seamOut site u)).digits, word := none, acked := [] }
  | none => d

theorem Dev.restoreHalf_eq (d : Dev) (site : Nat) (h : FrenchHalf) :
    d.restoreHalf site h = forEach 8 (Dev.takeBack site) (d.setPanel site { h.shadow with tension := (d.panel site).tension }) := rfl

/-- The device but for its seams. -/
def Dev.besideSeams (d : Dev) : Dev := { d with seams := [] }

theorem Dev.takeBack_besideSeams (d : Dev) (site u : Nat) : (d.takeBack site u).besideSeams = d.besideSeams := by
  unfold Dev.takeBack
  split <;> rfl

theorem Dev.restoreHalf_besideSeams (d : Dev) (site : Nat) (h : FrenchHalf) : (d.restoreHalf site h).besideSeams =
    (d.setPanel site { h.shadow with tension := (d.panel site).tension }).besideSeams :=
  forEach_keeps Dev.besideSeams (fun u e => e.takeBack_besideSeams site u) 8 _

section
variable {d e : Dev} (h : e.besideSeams = d.besideSeams)
include h

theorem Dev.panel_of_besideSeams (k : Nat) : e.panel k = d.panel k := (congrArg (fun x : Dev => x.panel k) h :)

theorem Dev.regs_of_besideSeams : e.regs = d.regs := (congrArg Dev.regs h :)

theorem Dev.darn_of_besideSeams : e.darn = d.darn := (congrArg Dev.darn h :)

theorem Dev.mended_of_besideSeams : Mended d e :=
  ⟨(congrArg Dev.core h :), (congrArg Dev.vault h :), congrArg (·.repairs) (Dev.darn_of_besideSeams h),
    fun i j _ _ _ => (congrArg (fun x : Dev => x.rd i j) h :)⟩

end

/-- The half's site stands at its shadow state, every other site as it was. -/
theorem Dev.restoreHalf_panel (d : Dev) (site : Nat) (h : FrenchHalf) (k : Nat) : (d.restoreHalf site h).panel k =
    if k = site then { h.shadow with tension := (d.panel site).tension } else d.panel k := by
  rw [Dev.panel_of_besideSeams (d.restoreHalf_besideSeams site h)]
  split
  next same => rw [same, Dev.panel_setPanel_same]
  next other => rw [Dev.panel_setPanel_other _ _ _ _ (Ne.symm other)]

/-- A port that takes its token back has none; taking back leaves one without. -/
theorem Dev.takeBack_word (d : Dev) (site u : Nat) : ((d.takeBack site u).seam (seamOut site u)).word = none := by
  unfold Dev.takeBack
  split
  next => rw [Dev.seam_setSeam_same]
  next none => exact none

theorem Dev.takeBack_none {d : Dev} {k : Nat} (h : (d.seam k).word = none) (site u : Nat) : ((d.takeBack site u).seam k).word = none := by
  by_cases same : seamOut site u = k
  · rw [← same, d.takeBack_word]
  · unfold Dev.takeBack
    split
    next => rw [Dev.seam_setSeam_other _ _ _ _ same, h]
    next => exact h

theorem Dev.restoreHalf_word (d : Dev) (site : Nat) (h : FrenchHalf) {u : Nat} (hu : u < 8) :
    ((d.restoreHalf site h).seam (seamOut site u)).word = none :=
  forEach_reaches (P := fun u e => (Dev.seam e (seamOut site u)).word = none) (fun u e => e.takeBack_word site u)
    (fun i _ _ none => Dev.takeBack_none none site i) hu _

theorem Dev.restoreHalf_none {d : Dev} {k : Nat} (none : (d.seam k).word = none) (site : Nat) (h : FrenchHalf) :
    ((d.restoreHalf site h).seam k).word = Option.none := by
  rw [Dev.restoreHalf_eq]
  unfold forEach
  exact List.foldlRecOn (motive := fun e : Dev => (e.seam k).word = Option.none) _ _ none fun e stays i _ => Dev.takeBack_none stays site i

/-- Both halves of seam n at their shadow state. -/
def Dev.halvesBack (d : Dev) (n : Nat) : Dev :=
  (d.restoreHalf (d.frenchSites n).1 (d.frenchSt n).half0).restoreHalf (d.frenchSites n).2 (d.frenchSt n).half1

/-- A half with its allowance handed to the replay. -/
def FrenchHalf.replayed (h : FrenchHalf) : FrenchHalf := { h with waiting := false, held := [], nextHeld := [] }

/-- What seam n shows as the allowance f begins to replay. -/
def Dev.replays (d : Dev) (n : Nat) (f : FrenchSt) : Dev :=
  let e := (d.setFrench n {
    replay0 := f.half0.held, replay1 := f.half1.held, half0 := f.half0.replayed, half1 := f.half1.replayed }).setFlag (0x3980 + n) 1 12
      (!f.half0.held.isEmpty || !f.half1.held.isEmpty)
  ((e.complete (0x3980 + n) 1 15 none).count (0x3980 + n) 5 32 1).wrN (0x3980 + n) 6 e.core.time

theorem Dev.rollback_eq (d : Dev) (n : Nat) : d.rollback n = ((d.halvesBack n).replays n (d.frenchSt n)).log 0x0830 n 0 := by
  simp only [Dev.rollback, Dev.replays, Dev.halvesBack, FrenchHalf.replayed]

theorem Dev.restoreHalf_mended (d : Dev) (site : Nat) (h : FrenchHalf) : Mended d (d.restoreHalf site h) :=
  (d.setPanel_mended _ _).trans (Dev.mended_of_besideSeams (d.restoreHalf_besideSeams site h))

theorem Dev.halvesBack_mended (d : Dev) (n : Nat) : Mended d (d.halvesBack n) :=
  (d.restoreHalf_mended _ _).trans (Dev.restoreHalf_mended _ _ _)

theorem Dev.replays_mended (d : Dev) (n : Nat) (f : FrenchSt) : Mended d (d.replays n f) := by
  unfold Dev.replays
  exact (d.setFrench_mended _ _).trans ((Dev.setFlag_mended _ _ _ (by omega) (by decide)).trans
    ((Dev.complete_mended _ _ _ (by omega) (by decide)).trans ((Dev.count_mended _ _ _ (by omega) (by decide)).trans
      (Dev.wr_mended _ _ (by omega) (by decide)))))

theorem Dev.rollback_mended (d : Dev) (n : Nat) : Mended d (d.rollback n) := by
  rw [Dev.rollback_eq]
  exact (d.halvesBack_mended n).trans ((Dev.replays_mended _ _ _).trans (Dev.log_reported _ _ _ _).mended)

/-! ### Sources (R486) -/

/-- The RESULT of a restored site. -/
def restoredBy (result : Nat) : Prop := result = 0x0820 ∨ result = 0x0821 ∨ result = 0x0822

theorem Dev.restoreSite_mended (d : Dev) (column row : Nat) :
    restoredBy (d.restoreSite column row).1 ∧ Mended d (d.restoreSite column row).2.2 := by
  unfold Dev.restoreSite
  extract_lets site
  split
  next n k _ =>
    extract_lets f partner
    exact ⟨.inl rfl, (d.losePorts_mended _).trans ((Dev.setFrench_mended _ _ _).trans (Dev.rollback_mended _ _))⟩
  next fresh p _ _ =>
    have lost : Mended d fresh := (d.initPanel_mended _).trans (Dev.losePorts_mended _ _)
    clear_value fresh
    split
    next => exact ⟨.inr (.inl rfl), lost.trans (Dev.setPanel_mended _ _ _)⟩
    next => exact ⟨.inr (.inr rfl), lost⟩

theorem Mended.thimble {d e : Dev} (h : Mended d e) : e.thimble = d.thimble := by
  unfold Dev.thimble
  rw [Dev.vaux_of_vault h.vault, h.core]

/-! ### Release of a repair (R485 step 7, R490) -/

/-- The RESULT of a repair told: a site restored from a partner is logged, any other signalled and counted as lost. -/
def Dev.repairTold (d : Dev) (result inst detail : Nat) : Dev :=
  if result = 0x0820 then d.log 0x0820 inst 0 else (d.logNotify result inst detail).count 0x3900 7 32 1

/-- The patch of a repair opens again: the repair and its frames are counted, and its isolation ends. -/
def Dev.patchBack (d : Dev) (q recovered : Nat) : Dev :=
  (((d.count (0x3910 + q) 4 32 1).count 0x2120 4 32 recovered).setFlag 0x3900 8 q false).updatePermits

/-- The band of the site repaired leaves the faulty position, RETIRED. -/
def Dev.siteRetired (d : Dev) (r : RepairSt) : Dev := d.setBand r.patch (r.row % 8) (r.column % 17) 1

/-- The logical site that a repair or a move is told of. -/
def Dev.faultInst (d : Dev) (r : RepairSt) : Nat := 256 * (d.logicalColumn r.column r.row).getD r.column + r.row

theorem Dev.releaseRepair_eq (d : Dev) (r : RepairSt) (recovered : Nat) : ∃ result swatch e l,
    restoredBy result ∧ Mended (d.siteRetired r) e ∧
      d.releaseRepair r recovered = ((e.repairTold result (d.faultInst r) swatch).patchBack r.patch recovered).repairDone l := by
  obtain ⟨result, mended⟩ := (d.siteRetired r).restoreSite_mended ((d.logicalColumn r.column r.row).getD r.column) r.row
  exact ⟨_, _, _, _, result, mended, rfl⟩

theorem Dev.repairTold_mended (d : Dev) (result inst detail : Nat) :
    (d.repairTold result inst detail).core = d.core ∧ (d.repairTold result inst detail).vault = d.vault ∧
      (d.repairTold result inst detail).darn = d.darn ∧
      RegsKept (fun i j => reportReg i j || regsOf 0x3900 [7] i j) d (d.repairTold result inst detail) := by
  unfold Dev.repairTold
  split
  next =>
    have told := d.log_reported 0x0820 inst 0
    exact ⟨told.core, told.vault, told.darn, fun i j hj h => told.regs i j hj (Bool.or_eq_false_iff.1 h).1⟩
  next =>
    have told := d.logNotify_reported result inst detail
    exact ⟨told.core, told.vault, told.darn, told.regs.trans (Dev.wr_regsKept _ _ _ _ (by decide))
      (fun _ _ h => (Bool.or_eq_false_iff.1 h).1) (fun _ _ h => (Bool.or_eq_false_iff.1 h).2)⟩

theorem Dev.repairTold_mem {d : Dev} (h : d.thimble = true) (result inst detail : Nat) :
    ∃ x ∈ (d.repairTold result inst detail).nv.log, x.reason = result ∧ x.inst = inst := by
  unfold Dev.repairTold
  split
  next same =>
    obtain ⟨x, mem, reason, site, -⟩ := Dev.log_mem h 0x0820 inst 0
    exact ⟨x, mem, reason.trans same.symm, site⟩
  next =>
    obtain ⟨x, mem, reason, site, -⟩ := Dev.logNotify_mem h result inst detail
    exact ⟨x, mem, reason, site⟩

theorem Dev.patchBack_beside (d : Dev) (q recovered : Nat) : (d.patchBack q recovered).besidePermits = d.besidePermits := by
  unfold Dev.patchBack
  rw [Dev.updatePermits_besidePermits]
  rfl

/-- The registers of a patch that opens: its count, the frames recovered and its isolation. -/
theorem Dev.patchBack_shows (d : Dev) {q : Nat} (hq : q < 64) (recovered : Nat) :
    (d.patchBack q recovered).isolated q = false ∧ (d.patchBack q recovered).rdN (0x3910 + q) 4 = (d.rdN (0x3910 + q) 4 + 1) % 2 ^ 32 ∧
      (d.patchBack q recovered).rd 0x3900 1 = d.rd 0x3900 1 := by
  have key {i j j' : Nat} (h : i ≠ 0x3910 + q) (hj : j < 256) (hj' : j' < 256) : objKey (0x3910 + q) j ≠ objKey i j' := by
    unfold objKey; omega
  unfold Dev.isolated Dev.rdN Dev.patchBack
  simp only [Dev.count_eq, Dev.wrN, Dev.setFlag_eq]
  refine ⟨?_, ?_, ?_⟩
  · rw [Dev.updatePermits_rd _ (by decide) (by decide), Dev.rd_wr_same, bit_setBit_same _ _ hq]
  · rw [Dev.updatePermits_rd _ (by omega) (by decide), Dev.rd_wr_other _ _ (key (by omega) (by decide) (by decide)).symm,
      Dev.rd_wr_other _ _ (key (by omega) (by decide) (by decide)).symm, Dev.rd_wr_same, toNat_word (by omega)]
    rfl
  · rw [Dev.updatePermits_rd _ (by decide) (by decide), Dev.rd_wr_other _ _ (by decide), Dev.rd_wr_other _ _ (by decide),
      Dev.rd_wr_other _ _ (key (by omega) (by decide) (by decide))]

/-- A repair is complete (R485, R490): the device state stays, the patch is open, its band RETIRED at the faulty position, and the repair
counted, recorded and logged. -/
structure RepairEnded (r : RepairSt) (d e : Dev) : Prop where
  core : e.core = d.core
  repairs : e.darn.repairs = d.darn.repairs
  isolated : e.isolated r.patch = false
  vacant : e.vacant r.patch (r.row % 8) = r.column % 17
  retired : e.rowKind r.patch (r.row % 8) = 1
  counted : e.rdN (0x3910 + r.patch) 4 = (d.rdN (0x3910 + r.patch) 4 + 1) % 2 ^ 32
  unacked : bit (e.rd 0x3900 1) 15 = true
  seq : bits (e.rd 0x3900 1) 31 16 = nextSeq (bits (d.rd 0x3900 1) 31 16)
  logged : d.thimble = true → ∃ x ∈ e.nv.log, restoredBy x.reason ∧ x.inst = d.faultInst r

theorem Dev.releaseRepair_ends (d : Dev) {r : RepairSt} (recovered : Nat) (h : r.patch < 54) :
    RepairEnded r d (d.releaseRepair r recovered) := by
  obtain ⟨result, swatch, m, l, restored, mended, released⟩ := d.releaseRepair_eq r recovered
  rw [released]
  obtain ⟨core, vault, darn, regs⟩ := m.repairTold_mended result (d.faultInst r) swatch
  have logged (run : m.thimble = true) := Dev.repairTold_mem run result (d.faultInst r) swatch
  generalize m.repairTold result (d.faultInst r) swatch = e at core vault darn regs logged ⊢
  obtain ⟨isolated, counted, status⟩ := e.patchBack_shows (show r.patch < 64 by omega) recovered
  have beside := e.patchBack_beside r.patch recovered
  generalize e.patchBack r.patch recovered = p at isolated counted status beside ⊢
  have pcore : p.core = e.core := (congrArg Dev.core beside :)
  have pvault : p.vault = e.vault := (congrArg Dev.vault beside :)
  have pdarn : p.darn = e.darn := (congrArg Dev.darn beside :)
  have plog : p.nv = e.nv := (congrArg Dev.nv beside :)
  have kept {i j : Nat} (hi : i < 0x3980) (hj : j < 256) (hr : reportReg i j = false) (h7 : regsOf 0x3900 [7] i j = false) :
      e.rd i j = d.rd i j := (regs i j hj (Bool.or_eq_false_iff.2 ⟨hr, h7⟩)).trans (mended.regs i j hi hj hr)
  have bands : p.vacant r.patch (r.row % 8) = (d.siteRetired r).vacant r.patch (r.row % 8) ∧
      p.rowKind r.patch (r.row % 8) = (d.siteRetired r).rowKind r.patch (r.row % 8) :=
    Dev.bands_of_vault (pvault.trans (vault.trans mended.vault)) _ _
  have row : (d.siteRetired r).vacant r.patch (r.row % 8) = r.column % 17 ∧ (d.siteRetired r).rowKind r.patch (r.row % 8) = 1 :=
    d.setBand_row r.patch (by omega) (by omega) (by decide)
  obtain ⟨unacked, seq⟩ := p.repairDone_status l
  refine ⟨pcore.trans (core.trans mended.core), ?_, ?_, bands.1.trans row.1, bands.2.trans row.2, ?_, unacked, ?_, fun run => ?_⟩
  · exact (congrArg (·.repairs) (pdarn.trans darn)).trans mended.repairs
  · unfold Dev.isolated
    rw [Dev.repairDone_rd _ _ (by decide) (by decide)]
    exact isolated
  · rw [Dev.rdN, Dev.repairDone_rd _ _ (by decide) (by simp [regsOf]), ← Dev.rdN, counted, Dev.rdN,
      kept (by omega) (by decide) (by simp [reportReg]; omega) (by simp [regsOf]), ← Dev.rdN]
  · rw [seq, status, kept (by decide) (by decide) (by decide) (by decide)]
  · obtain ⟨x, mem, reason, site⟩ := logged (mended.thimble.trans run)
    exact ⟨x, (congrArg Nv.log plog).symm ▸ mem, reason ▸ restored, site⟩

/-! ### Release of a move (R491) -/

/-- A move's band shifts: off the retired site of a RETIRE, or back to the vacant site at the end. -/
def Dev.moveShifts (d : Dev) (r : RepairSt) : Dev :=
  if r.kind = 2 then d.setBand r.patch (r.row % 8) (r.column % 17) 1 else d.setBand r.patch (r.row % 8) 16 0

/-- A move told; one that returns a site to service tells that as well. -/
def Dev.moveTold (d : Dev) (r : RepairSt) (inst : Nat) : Dev :=
  if r.kind = 3 then (d.log 0x0820 inst 0).log 0x0842 (256 * r.column + r.row) 0 else d.log 0x0820 inst 0

theorem Dev.releaseMove_eq (d : Dev) (r : RepairSt) :
    ∃ inst l, d.releaseMove r = ((d.moveShifts r).moveTold r inst).repairDone l := by
  unfold Dev.releaseMove Dev.moveShifts Dev.moveTold Dev.shiftBand
  by_cases retire : r.kind = 2 <;> simp only [retire, if_true, if_false] <;> exact ⟨_, _, rfl⟩

theorem Dev.moveTold_reported (d : Dev) (r : RepairSt) (inst : Nat) : Reported d (d.moveTold r inst) := by
  unfold Dev.moveTold
  split
  next => exact (d.log_reported _ _ _).trans (Dev.log_reported _ _ _ _)
  next => exact d.log_reported _ _ _

theorem Dev.moveTold_mem {d : Dev} (h : d.thimble = true) (r : RepairSt) (inst : Nat) :
    (∃ x ∈ (d.moveTold r inst).nv.log, x.reason = 0x0820) ∧ (r.kind = 3 → ∃ x ∈ (d.moveTold r inst).nv.log, x.reason = 0x0842) := by
  obtain ⟨x, mem, reason, -⟩ := Dev.log_newest h 0x0820 inst 0
  unfold Dev.moveTold
  split
  next =>
    have runs : (d.log 0x0820 inst 0).thimble = true := (Dev.thimble_of_flowed (d.log_flowed _ _ _)).trans h
    obtain ⟨y, memY, reasonY, -⟩ := Dev.log_newest runs 0x0842 (256 * r.column + r.row) 0
    exact ⟨⟨x, List.mem_of_mem_take (Dev.log_recent _ _ _ _ (by decide) mem), reason⟩,
      fun _ => ⟨y, List.mem_of_mem_take memY, reasonY⟩⟩
  next other => exact ⟨⟨x, List.mem_of_mem_take mem, reason⟩, fun same => absurd same other⟩

/-- A planned move is complete (R491): every panel keeps its state, and its band has its new vacant position. -/
structure MoveEnded (r : RepairSt) (d e : Dev) : Prop where
  core : e.core = d.core
  darn : e.darn = d.darn
  panels : e.panels = d.panels
  seams : e.seams = d.seams
  vacant : e.vacant r.patch (r.row % 8) = if r.kind = 2 then r.column % 17 else 16
  rowKind : e.rowKind r.patch (r.row % 8) = if r.kind = 2 then 1 else 0
  regs : RegsKept (fun i j => reportReg i j || regsOf 0x3900 [1] i j) d e
  unacked : bit (e.rd 0x3900 1) 15 = true
  logged : d.thimble = true → (∃ x ∈ e.nv.log, x.reason = 0x0820) ∧ (r.kind = 3 → ∃ x ∈ e.nv.log, x.reason = 0x0842)

theorem Dev.moveShifts_row (d : Dev) (r : RepairSt) :
    (d.moveShifts r).vacant r.patch (r.row % 8) = (if r.kind = 2 then r.column % 17 else 16) ∧
      (d.moveShifts r).rowKind r.patch (r.row % 8) = if r.kind = 2 then 1 else 0 := by
  unfold Dev.moveShifts
  split
  next => exact d.setBand_row _ (by omega) (by omega) (by decide)
  next => exact d.setBand_row _ (by omega) (by decide) (by decide)

theorem Dev.moveShifts_beside (d : Dev) (r : RepairSt) : { d.moveShifts r with nv := d.nv } = d := by
  unfold Dev.moveShifts
  split <;> rfl

theorem Dev.releaseMove_ends (d : Dev) (r : RepairSt) : MoveEnded r d (d.releaseMove r) := by
  obtain ⟨inst, l, released⟩ := d.releaseMove_eq r
  rw [released]
  obtain ⟨vacant, rowKind⟩ := d.moveShifts_row r
  have beside := d.moveShifts_beside r
  generalize d.moveShifts r = m at vacant rowKind beside ⊢
  have told := m.moveTold_reported r inst
  have logged (run : m.thimble = true) := Dev.moveTold_mem run r inst
  generalize m.moveTold r inst = e at told logged ⊢
  have before (i j : Nat) : m.rd i j = d.rd i j := (congrArg (fun x : Dev => x.rd i j) beside :)
  have bands := Dev.bands_of_vault told.vault r.patch (r.row % 8)
  refine ⟨told.core.trans (congrArg Dev.core beside :), told.darn.trans (congrArg Dev.darn beside :),
    told.panels.trans (congrArg Dev.panels beside :), told.seams.trans (congrArg Dev.seams beside :),
    bands.1.trans vacant, bands.2.trans rowKind, fun i j hj h => ?_, (e.repairDone_status l).1,
    fun run => logged ((congrArg Dev.thimble beside :).trans run)⟩
  obtain ⟨report, status⟩ := Bool.or_eq_false_iff.1 h
  rw [Dev.repairDone_rd _ _ hj status, told.regs i j hj report, before]

/-! ### REPAIR_RELEASE -/

/-- The repair or move f is no longer under way. -/
def Dev.repairTaken (d : Dev) (f : RepairSt) : Dev := { d with darn := { d.darn with repairs := d.darn.repairs.erase f } }

/-- What the release of f does with its patch, by what could be fetched. -/
def Dev.repairReleased (d : Dev) (q : Fin 54) (x : Recovered) (f : RepairSt) : Dev :=
  if f.kind ≠ 1 then d.releaseMove f
  else if 0 < x.frames.val && !d.config.recoveryFor.getLsbD q.val then (d.logNotify 0x0162 (0x3910 + q.val) 0).isolateLoss f 0
  else if 0 < x.frames.val && x.fails then (d.log 0x0263 (0x3910 + q.val) 0).isolateLoss f 0
  else d.releaseRepair f x.frames.val

theorem Dev.proceedSteps_none {d : Dev} (h : d.core.steps = none) : d.proceedSteps = d := by
  simp [Dev.proceedSteps, Dev.advanceSteps, h]

/-- The device with another capture in hand. -/
def Dev.capturing (d : Dev) (b : Option BasteReq) : Dev := { d with baste := b }

theorem Dev.latchCapture_idle {d : Dev} (h : d.core.steps = none) : ∃ b, d.latchCapture.proceedSteps = d.capturing b := by
  obtain ⟨b, capture⟩ := d.latchCapture_bareBaste
  exact ⟨b, (congrArg Dev.proceedSteps capture).trans (Dev.proceedSteps_none (d := d.capturing b) h)⟩

/-- With no start-up steps under way a release changes the capture in hand at most beside. -/
theorem repairRelease_releases {q : Fin 54} {x : Recovered} {f : RepairSt} {s : State} (runs : s.dev.repairsRun = true)
    (found : s.dev.darn.repairs.find? (fun r => r.patch == q.val) = some f) {e : Dev}
    (released : (s.dev.repairTaken f).repairReleased q x f = e) (idle : e.core.steps = none) :
    ∃ b, exec (.repairRelease q x) s = .next { s with dev := e.capturing b } := by
  have ran : exec (.repairRelease q x) s = execRepairRelease q x s := rfl
  have body : execRepairRelease q x s = .next { s with
      dev := ((s.dev.repairTaken f).repairReleased q x f).latchCapture.proceedSteps } := by
    unfold execRepairRelease
    rw [onDev_next]
    simp only [found, runs]
    rfl
  obtain ⟨b, capture⟩ := Dev.latchCapture_idle idle
  exact ⟨b, by rw [ran, body, released, capture]⟩

theorem Dev.repairReleased_move (d : Dev) (q : Fin 54) (x : Recovered) {f : RepairSt} (kind : f.kind ≠ 1) :
    d.repairReleased q x f = d.releaseMove f := by
  rw [Dev.repairReleased, if_pos kind]

theorem Dev.repairReleased_lost {d : Dev} {q : Fin 54} {x : Recovered} {f : RepairSt} (kind : f.kind = 1) (frames : x.frames.val ≠ 0)
    (bare : d.config.recoveryFor.getLsbD q.val = false) :
    d.repairReleased q x f = (d.logNotify 0x0162 (0x3910 + q.val) 0).isolateLoss f 0 := by
  rw [Dev.repairReleased, if_neg (not_not.2 kind), if_pos]
  rw [bare, Bool.not_false, Bool.and_true, decide_eq_true_eq]
  exact Nat.pos_of_ne_zero frames

theorem Dev.repairReleased_restored {d : Dev} {q : Fin 54} {x : Recovered} {f : RepairSt} (kind : f.kind = 1)
    (h : x.frames.val = 0 ∨ (d.config.recoveryFor.getLsbD q.val = true ∧ x.fails = false)) :
    d.repairReleased q x f = d.releaseRepair f x.frames.val := by
  rw [Dev.repairReleased, if_neg (not_not.2 kind), if_neg, if_neg]
  · rcases h with none | ⟨-, read⟩
    · simp [none]
    · simp [read]
  · rcases h with none | ⟨source, -⟩
    · simp [none]
    · simp [source]

/-- The patch found is the patch named. -/
theorem patch_of_found {l : List RepairSt} {q : Nat} {f : RepairSt} (h : l.find? (fun r => r.patch == q) = some f) : f.patch = q := by
  simpa using List.find?_some h

/-- A repair whose frames no recovery source holds (R345): two entries tell it, of the frames and of the patch. -/
theorem Dev.unrecovered_lost {d : Dev} (run : d.thimble = true) (i : Nat) (f : RepairSt) (hp : f.patch < 64) :
    PatchLost f (d.logNotify 0x0162 i 0) ((d.logNotify 0x0162 i 0).isolateLoss f 0) ∧
      (∃ x ∈ ((d.logNotify 0x0162 i 0).isolateLoss f 0).nv.log, x.reason = 0x0162 ∧ x.inst = i) ∧
      ∃ x ∈ ((d.logNotify 0x0162 i 0).isolateLoss f 0).nv.log, x.reason = 0x0823 ∧ x.inst = d.faultInst f := by
  have told := d.logNotify_reported 0x0162 i 0
  have lost := (d.logNotify 0x0162 i 0).isolateLoss_lost f 0 hp
  have log : (d.logNotify 0x0162 i 0).nv = (d.log 0x0162 i 0).nv := Dev.notify_nv _ _ _
  obtain ⟨x, mem, reason, site⟩ := Dev.log_newest run 0x0162 i 0
  obtain ⟨y, memY, reasonY, siteY⟩ := lost.logged ((Dev.thimble_of_flowed told.flowed).trans run)
  have column : (d.logNotify 0x0162 i 0).logicalColumn f.column f.row = d.logicalColumn f.column f.row := by
    unfold Dev.logicalColumn
    dsimp only
    rw [(Dev.bands_of_vault told.vault _ _).1]
  rw [column] at siteY
  exact ⟨lost, ⟨x, lost.older x 2 (by decide) (log ▸ mem), reason, site⟩, y, memY, reasonY, siteY⟩

end Sys2Proof.Machine
end

section
/-! SUPPORT. French seams: rollback, a half that correction cannot clear, and a break (R493, R494). -/

namespace Sys2Proof.Machine

/-! ### Rollback (R493) -/

/-- The status of seam n as its replay begins. -/
theorem Dev.replays_status (d : Dev) (n : Nat) (f : FrenchSt) :
    bit ((d.replays n f).rd (0x3980 + n) 1) 12 = (!f.half0.held.isEmpty || !f.half1.held.isEmpty) ∧
      bits ((d.replays n f).rd (0x3980 + n) 1) 31 16 = nextSeq (bits (d.rd (0x3980 + n) 1) 31 16) := by
  have key {j : Nat} (hj : j ≠ 1) : objKey (0x3980 + n) j ≠ objKey (0x3980 + n) 1 := by unfold objKey; omega
  unfold Dev.replays
  extract_lets e
  have rolling : e.rd (0x3980 + n) 1 = setBit (d.rd (0x3980 + n) 1) 12 (!f.half0.held.isEmpty || !f.half1.held.isEmpty) :=
    Dev.rd_wr_same _ _ _ _
  obtain ⟨-, seq, others⟩ := e.complete_shows (0x3980 + n) 1 (u := 15) (by decide)
  rw [Dev.wrN, Dev.rd_wr_other _ _ (key (by decide)), Dev.count_eq, Dev.wrN, Dev.rd_wr_other _ _ (key (by decide)), seq,
    others 12 (by decide) (by decide), rolling]
  exact ⟨bit_setBit_same _ _ (by decide), congrArg nextSeq (bits_setBit_other _ _ (by decide))⟩

/-- The counters of seam n, and every other register. -/
theorem Dev.replays_regs (d : Dev) (n : Nat) (f : FrenchSt) :
    (d.replays n f).rdN (0x3980 + n) 5 = (d.rdN (0x3980 + n) 5 + 1) % 2 ^ 32 ∧ (d.replays n f).rd (0x3980 + n) 6 = word d.core.time ∧
      RegsKept (regsOf (0x3980 + n) [1, 5, 6]) d (d.replays n f) := by
  have key {j j' : Nat} (hj : j ≠ j') : objKey (0x3980 + n) j ≠ objKey (0x3980 + n) j' := by unfold objKey; omega
  have only {l : List Nat} {k : Nat} (hk : k ∈ l) (i j : Nat) (h : regsOf (0x3980 + n) l i j = false) :
      regsOf (0x3980 + n) [k] i j = false := by
    simp only [regsOf, Bool.and_eq_false_iff, List.contains_eq_mem, decide_eq_false_iff_not, List.mem_singleton] at h ⊢
    exact h.imp id fun out same => out (same ▸ hk)
  unfold Dev.replays
  extract_lets e
  have before : e.rd (0x3980 + n) 5 = d.rd (0x3980 + n) 5 := Dev.rd_wr_other _ _ (key (by decide))
  have rolling : RegsKept (regsOf (0x3980 + n) [1]) d e := Dev.wr_regsKept _ _ _ _ (by decide)
  have told : RegsKept (regsOf (0x3980 + n) [1]) e (e.complete (0x3980 + n) 1 15 none) := Dev.wr_regsKept _ _ _ _ (by decide)
  refine ⟨?_, Dev.rd_wr_same _ _ _ _, ?_⟩
  · rw [Dev.rdN_wrN_other _ _ (key (by decide)), Dev.count_eq, Dev.rdN_wrN_same _ _ _ _ (by omega), Dev.rdN,
      Dev.complete_other _ _ _ (key (by decide)), before, ← Dev.rdN]
  · exact (rolling.trans told (fun _ _ => id) (fun _ _ => id)).trans
      ((Dev.wr_regsKept _ _ 5 _ (by decide)).trans (Dev.wr_regsKept _ _ 6 _ (by decide)) (only (by decide)) (only (by decide)))
      (only (by decide)) (fun _ _ => id)

/-- Two halves at sites apart stand at their shadow state, every other site as it was. -/
theorem Dev.halvesBack_panels (d : Dev) (n : Nat) (apart : (d.frenchSites n).1 ≠ (d.frenchSites n).2) :
    (d.halvesBack n).panel (d.frenchSites n).1 =
        { (d.frenchSt n).half0.shadow with tension := (d.panel (d.frenchSites n).1).tension } ∧
      (d.halvesBack n).panel (d.frenchSites n).2 =
        { (d.frenchSt n).half1.shadow with tension := (d.panel (d.frenchSites n).2).tension } ∧
      ∀ k, k ≠ (d.frenchSites n).1 → k ≠ (d.frenchSites n).2 → (d.halvesBack n).panel k = d.panel k := by
  unfold Dev.halvesBack
  refine ⟨?_, ?_, fun k first second => ?_⟩
  · rw [Dev.restoreHalf_panel, if_neg apart, Dev.restoreHalf_panel, if_pos rfl]
  · rw [Dev.restoreHalf_panel, if_pos rfl, Dev.restoreHalf_panel, if_neg (Ne.symm apart)]
  · rw [Dev.restoreHalf_panel, if_neg second, Dev.restoreHalf_panel, if_neg first]

theorem Dev.halvesBack_words (d : Dev) (n : Nat) {u : Nat} (hu : u < 8) :
    ((d.halvesBack n).seam (seamOut (d.frenchSites n).1 u)).word = none ∧
      ((d.halvesBack n).seam (seamOut (d.frenchSites n).2 u)).word = none :=
  ⟨Dev.restoreHalf_none (d.restoreHalf_word _ _ hu) _ _, Dev.restoreHalf_word _ _ _ hu⟩

theorem Dev.restoreHalf_regs (d : Dev) (site : Nat) (h : FrenchHalf) : (d.restoreHalf site h).regs = d.regs :=
  (Dev.regs_of_besideSeams (d.restoreHalf_besideSeams site h)).trans rfl

theorem Dev.halvesBack_rd (d : Dev) (n i j : Nat) : (d.halvesBack n).rd i j = d.rd i j := by
  unfold Dev.rd Dev.halvesBack
  rw [Dev.restoreHalf_regs, Dev.restoreHalf_regs]

/-- The replay leaves the panels and the seams, and holds the allowance of its halves. -/
theorem Dev.replays_beside (d : Dev) (n : Nat) (f : FrenchSt) :
    { d.replays n f with regs := d.regs, darn := d.darn } = d ∧ ((d.replays n f).frenchSt n).replay0 = f.half0.held ∧
      ((d.replays n f).frenchSt n).replay1 = f.half1.held := by
  have allowance : (d.replays n f).frenchSt n = {
      replay0 := f.half0.held, replay1 := f.half1.held, half0 := f.half0.replayed, half1 := f.half1.replayed } :=
    Dev.frenchSt_setFrench_same _ _ _
  rw [allowance]
  exact ⟨rfl, rfl, rfl⟩

theorem Dev.thimble_of_core {d e : Dev} (core : e.core = d.core) (env : e.env = d.env) : e.thimble = d.thimble := by
  unfold Dev.thimble Dev.vaux
  rw [core, env]

/-- A rollback of seam n (R493): its halves at their shadow state without output tokens, their allowance in the replay, its registers
told, and one entry in the log. -/
structure RolledBack (d : Dev) (n : Nat) (e : Dev) : Prop where
  core : e.core = d.core
  panels : e.panels = (d.halvesBack n).panels
  seams : e.seams = (d.halvesBack n).seams
  replay0 : (e.frenchSt n).replay0 = (d.frenchSt n).half0.held
  replay1 : (e.frenchSt n).replay1 = (d.frenchSt n).half1.held
  rolling : bit (e.rd (0x3980 + n) 1) 12 = (!(d.frenchSt n).half0.held.isEmpty || !(d.frenchSt n).half1.held.isEmpty)
  counted : e.rdN (0x3980 + n) 5 = (d.rdN (0x3980 + n) 5 + 1) % 2 ^ 32
  timed : e.rd (0x3980 + n) 6 = word d.core.time
  seq : bits (e.rd (0x3980 + n) 1) 31 16 = nextSeq (bits (d.rd (0x3980 + n) 1) 31 16)
  regs : RegsKept (fun i j => reportReg i j || regsOf (0x3980 + n) [1, 5, 6] i j) d e
  logged : d.thimble = true → ∃ x ∈ e.nv.log, x.reason = 0x0830 ∧ x.inst = n

theorem Dev.rollback_rolls (d : Dev) {n : Nat} (hn : n < 64) : RolledBack d n (d.rollback n) := by
  have core := (d.halvesBack_mended n).core
  have runs := (d.halvesBack_mended n).thimble
  have before := d.halvesBack_rd n
  obtain ⟨beside, replay0, replay1⟩ := (d.halvesBack n).replays_beside n (d.frenchSt n)
  obtain ⟨rolling, seq⟩ := (d.halvesBack n).replays_status n (d.frenchSt n)
  obtain ⟨counted, timed, regs⟩ := (d.halvesBack n).replays_regs n (d.frenchSt n)
  rw [Dev.rollback_eq]
  generalize (d.halvesBack n).replays n (d.frenchSt n) = e at beside replay0 replay1 rolling seq counted timed regs ⊢
  have told := e.log_reported 0x0830 n 0
  have shown {j : Nat} (hj : j < 256) : (e.log 0x0830 n 0).rd (0x3980 + n) j = e.rd (0x3980 + n) j :=
    told.regs _ _ hj (by simp [reportReg]; omega)
  have allowance : (e.log 0x0830 n 0).frenchSt n = e.frenchSt n := by
    unfold Dev.frenchSt
    rw [told.darn]
  refine ⟨told.core.trans ((congrArg Dev.core beside :).trans core), told.panels.trans (congrArg Dev.panels beside :),
    told.seams.trans (congrArg Dev.seams beside :), ?_, ?_, ?_, ?_, ?_, ?_, fun i j hj h => ?_, fun run => ?_⟩
  · rw [allowance, replay0]
  · rw [allowance, replay1]
  · rw [shown (by decide), rolling]
  · rw [Dev.rdN, shown (by decide), ← Dev.rdN, counted, Dev.rdN, before, ← Dev.rdN]
  · rw [shown (by decide), timed, core]
  · rw [shown (by decide), seq, before]
  · obtain ⟨report, status⟩ := Bool.or_eq_false_iff.1 h
    rw [told.regs i j hj report, regs i j hj status, before]
  · have same : e.thimble = (d.halvesBack n).thimble :=
      Dev.thimble_of_core (congrArg Dev.core beside :) (congrArg Dev.env beside :)
    obtain ⟨x, mem, reason, site, -⟩ := Dev.log_mem (same.trans (runs.trans run)) 0x0830 n 0
    exact ⟨x, mem, reason, site⟩

/-! ### FRENCH_MISMATCH (R493) -/

/-- The half at a logical site reports its physical site. -/
def Dev.siteFault (d : Dev) (site : Nat) : Dev := d.panelFault 0x0813 (d.physColumn (site % 102) (site / 102)) (site / 102)

/-- What a mismatch finds in a bound seam that is whole and not rolling: both halves roll back, or the half that correction cannot clear
reports its site. -/
theorem frenchMismatch_whole {n : Fin 64} {bad : Option (Fin 2)} {s : State} (live : s.dev.fabricLive = true)
    (bound : s.dev.frenchBound n.val = true) (whole : bit (s.dev.rd (0x3980 + n.val) 1) 14 = false)
    (still : bit (s.dev.rd (0x3980 + n.val) 1) 12 = false) :
    (bad = none → exec (.frenchMismatch n bad) s = .next { s with dev := s.dev.rollback n.val }) ∧
      ∀ k site, bad = some k → site = (if k.val = 0 then (s.dev.frenchSites n.val).1 else (s.dev.frenchSites n.val).2) →
        exec (.frenchMismatch n bad) s = .next { s with
          dev := s.dev.siteFault site } := by
  have ran : exec (.frenchMismatch n bad) s = execFrenchMismatch n bad s := rfl
  have body : execFrenchMismatch n bad s = .next { s with dev := (bad.map fun k =>
      s.dev.siteFault (if k.val = 0 then (s.dev.frenchSites n.val).1 else (s.dev.frenchSites n.val).2)).getD (s.dev.rollback n.val) } := by
    unfold execFrenchMismatch
    rw [onDev_next]
    simp only [live, bound, whole, still]
    cases bad <;> rfl
  rw [ran, body]
  refine ⟨fun none => by rw [none]; rfl, fun k site some at_ => ?_⟩
  rw [some, at_]
  rfl

/-- In RUN a panel fault waits for the Thimble. -/
theorem Dev.panelFault_run {d : Dev} (h : d.core.state = .run) (source column row : Nat) :
    d.panelFault source column row = { d with darn := { d.darn with queue := d.darn.queue ++ [{
      patch := sitePatch column row, row := row, column := column, source := source, kind := 1, started := d.core.time }] } } := by
  unfold Dev.panelFault
  rw [h]

/-! ### Breaks (R494) -/

/-- The registers of repairs and French seams are as they were. -/
def DarnKept (d e : Dev) : Prop := ∀ i j, 0x3900 ≤ i → i < 0x39C0 → j < 256 → e.rd i j = d.rd i j

theorem DarnKept.trans {d e f : Dev} (h : DarnKept d e) (k : DarnKept e f) : DarnKept d f :=
  fun i j low high hj => (k i j low high hj).trans (h i j low high hj)

theorem Worked.darnKept {d e : Dev} (h : Worked d e) : DarnKept d e :=
  fun i j low high hj => h.regs i j (by simp [loadReg, low, high]) hj

theorem Flowed.darnKept {d e : Dev} (h : Flowed d e) : DarnKept d e := h.worked.darnKept

theorem Dev.wr_darnKept (d : Dev) {i j : Nat} (v : Word) (hj : j < 256) (far : i < 0x3900 ∨ 0x39C0 ≤ i) : DarnKept d (d.wr i j v) :=
  fun i' j' low high hj' => d.rd_wr_other v fun same => by
    obtain ⟨rfl, rfl⟩ := objKey_inj hj hj' same
    omega

theorem Dev.setFlag_darnKept (d : Dev) {i j : Nat} (k : Nat) (b : Bool) (hj : j < 256) (far : i < 0x3900 ∨ 0x39C0 ≤ i) :
    DarnKept d (d.setFlag i j k b) := d.wr_darnKept _ hj far

theorem Dev.dropFullLoad_darnKept (d : Dev) : DarnKept d d.dropFullLoad := by
  unfold Dev.dropFullLoad
  split
  next =>
    split
    next => exact (Dev.setFlag_darnKept _ _ _ (by decide) (by decide)).trans ((Dev.setFlag_darnKept _ _ _ (by decide) (by decide)).trans
      (Dev.wr_darnKept _ _ (by decide) (by decide)))
    next => exact fun _ _ _ _ _ => rfl
  next => exact fun _ _ _ _ _ => rfl

theorem Dev.readyForSafe_darnKept (d : Dev) (reason : Nat) : DarnKept d (d.readyForSafe reason) := by
  have dropped : DarnKept d (d.endWork.dropOutputs.dropFullLoad.setFlag 0x2100 1 12 false) :=
    (d.endWork_worked.darnKept.trans (Dev.dropOutputs_worked _).darnKept).trans
      ((Dev.dropFullLoad_darnKept _).trans (Dev.setFlag_darnKept _ _ _ (by decide) (by decide)))
  generalize stopped : d.endWork.dropOutputs.dropFullLoad.setFlag 0x2100 1 12 false = e at dropped
  unfold Dev.readyForSafe
  rw [stopped]
  dsimp only
  split
  next => exact dropped.trans (Dev.wr_darnKept _ _ (by decide) (by decide))
  next => exact dropped

theorem Dev.changeState_darnKept (d : Dev) (new : DevState) (reason inst : Nat) : DarnKept d (d.changeState new reason inst) := by
  have shifted : DarnKept d (d.shifted new reason) :=
    ((Dev.wr_darnKept _ _ (by decide) (by decide)).trans (Dev.wr_darnKept _ _ (by decide) (by decide))).trans
      (Dev.wr_darnKept _ _ (by decide) (by decide))
  exact shifted.trans (d.changeState_flowed new reason inst).darnKept

theorem Dev.enterSafe_darnKept {d : Dev} (h : d.canTrip = true) (reason inst : Nat) : DarnKept d (d.enterSafe reason inst) := by
  rw [Dev.enterSafe_of_canTrip h]
  have changed := (d.readyForSafe_darnKept reason).trans (Dev.changeState_darnKept _ .safe reason inst)
  generalize (d.readyForSafe reason).changeState .safe reason inst = e at changed ⊢
  exact changed.trans ((Dev.wr_darnKept _ _ (by decide) (by decide)).trans ((Dev.setFlag_darnKept _ _ _ (by decide) (by decide)).trans
    ((Dev.updatePermits_worked _).darnKept.trans (Dev.emcy_reported _ _ _ _).flowed.darnKept)))

/-- A live fabric can trip. -/
theorem Dev.canTrip_of_fabricLive {d : Dev} (h : d.fabricLive = true) : d.canTrip = true := by
  simp [Dev.fabricLive, Dev.canTrip] at *
  tauto

/-- Seam n shows its break, which is told. -/
def Dev.breakTold (d : Dev) (n : Nat) : Dev :=
  ((d.setFlag (0x3980 + n) 1 14 true).setFlag (0x3980 + n) 1 12 false).logNotify 0x0831 n 0

theorem Dev.breakFrench_eq (d : Dev) (n : Nat) : d.breakFrench n =
    if bit ((d.breakTold n).frenchBinding n) 0 then (d.breakTold n).enterSafe 0x0831 n else (d.breakTold n).updatePermits := rfl

/-- A second mismatch, by either command, breaks the seam. -/
theorem french_breaks {n : Fin 64} {bad : Option (Fin 2)} {c : Instr} {s : State} (live : s.dev.fabricLive = true)
    (bound : s.dev.frenchBound n.val = true) (whole : bit (s.dev.rd (0x3980 + n.val) 1) 14 = false)
    (rolling : bit (s.dev.rd (0x3980 + n.val) 1) 12 = true) (hc : c = .frenchBreak n ∨ c = .frenchMismatch n bad) :
    exec c s = .next { s with dev := s.dev.breakFrench n.val } := by
  rcases hc with rfl | rfl
  · have ran : exec (.frenchBreak n) s = execFrenchBreak n s := rfl
    rw [ran]
    unfold execFrenchBreak
    rw [onDev_next]
    simp [live, bound, whole, rolling]
  · have ran : exec (.frenchMismatch n bad) s = execFrenchMismatch n bad s := rfl
    rw [ran]
    unfold execFrenchMismatch
    rw [onDev_next]
    simp [live, bound, whole, rolling]

/-- The seam broken stands BROKEN, its replay ended, in the registers and in the log; its binding stays. -/
theorem Dev.breakTold_shows (d : Dev) {n : Nat} (hn : n < 64) :
    (d.breakTold n).core = d.core ∧ (d.breakTold n).vault = d.vault ∧ bit ((d.breakTold n).rd (0x3980 + n) 1) 14 = true ∧
      bit ((d.breakTold n).rd (0x3980 + n) 1) 12 = false ∧ (d.breakTold n).frenchBinding n = d.frenchBinding n ∧
      (d.thimble = true → ∃ x ∈ (d.breakTold n).nv.log, x.reason = 0x0831 ∧ x.inst = n) := by
  have key : objKey (0x3980 + n) 1 ≠ objKey (0x3980 + n) 3 := by unfold objKey; omega
  have told := ((d.setFlag (0x3980 + n) 1 14 true).setFlag (0x3980 + n) 1 12 false).logNotify_reported 0x0831 n 0
  have shown {j : Nat} (hj : j < 256) :
      (d.breakTold n).rd (0x3980 + n) j = ((d.setFlag (0x3980 + n) 1 14 true).setFlag (0x3980 + n) 1 12 false).rd (0x3980 + n) j :=
    told.regs _ _ hj (by simp [reportReg]; omega)
  refine ⟨told.core, told.vault, ?_, ?_, ?_, fun run => ?_⟩
  · rw [shown (by decide), Dev.setFlag_eq, Dev.rd_wr_same, bit_setBit_other _ _ (by decide), Dev.setFlag_eq, Dev.rd_wr_same,
      bit_setBit_same _ _ (by decide)]
  · rw [shown (by decide), Dev.setFlag_eq, Dev.rd_wr_same, bit_setBit_same _ _ (by decide)]
  · unfold Dev.frenchBinding
    rw [shown (by decide), Dev.setFlag_eq, Dev.rd_wr_other _ _ key, Dev.setFlag_eq, Dev.rd_wr_other _ _ key]
  · obtain ⟨x, mem, reason, site, -⟩ := Dev.logNotify_mem (d := (d.setFlag (0x3980 + n) 1 14 true).setFlag (0x3980 + n) 1 12 false)
      run 0x0831 n 0
    exact ⟨x, mem, reason, site⟩

theorem Dev.vaux_of_thimble {d : Dev} (h : d.thimble = true) : d.vaux = true := (Bool.and_eq_true_iff.1 h).1

/-- A break (R494): BROKEN, told in the log, and with SAFETY in SAFE for its cause; without it the device state stays. -/
theorem Dev.breakFrench_breaks {d : Dev} {n : Nat} (hn : n < 64) (run : d.thimble = true) (live : d.fabricLive = true) :
    bit ((d.breakFrench n).rd (0x3980 + n) 1) 14 = true ∧ bit ((d.breakFrench n).rd (0x3980 + n) 1) 12 = false ∧
      (∃ x ∈ (d.breakFrench n).nv.log, x.reason = 0x0831 ∧ x.inst = n) ∧
      (bit (d.frenchBinding n) 0 = true → (d.breakFrench n).core.state = .safe ∧ (d.breakFrench n).rdN 0x2000 3 = 0x0831) ∧
      (bit (d.frenchBinding n) 0 = false → (d.breakFrench n).core = d.core) := by
  obtain ⟨core, vault, broken, ended, binding, logged⟩ := d.breakTold_shows hn
  have can : d.canTrip = true := Dev.canTrip_of_fabricLive live
  rw [Dev.breakFrench_eq, binding]
  generalize d.breakTold n = e at core vault broken ended logged ⊢
  have trips : e.canTrip = true := by
    unfold Dev.canTrip at can ⊢
    rw [core]
    exact can
  split
  next safety =>
    have kept := Dev.enterSafe_darnKept trips 0x0831 n (0x3980 + n) 1 (by omega) (by omega) (by decide)
    refine ⟨kept ▸ broken, kept ▸ ended, ?_, fun _ => ⟨Dev.enterSafe_state trips _ _, ?_⟩, fun other => ?_⟩
    · exact Dev.enterSafe_mem trips ((Dev.vaux_of_vault vault).trans (Dev.vaux_of_thimble run)) _ _
    · rw [Dev.rdN, Dev.enterSafe_reason trips]
      rfl
    · rw [safety] at other
      cases other
  next plain =>
    have kept : e.updatePermits.rd (0x3980 + n) 1 = e.rd (0x3980 + n) 1 := e.updatePermits_rd (by omega) (by decide)
    refine ⟨kept ▸ broken, kept ▸ ended, ?_, fun safety => absurd safety plain, fun _ => e.updatePermits_core.trans core⟩
    rw [Dev.updatePermits_nv]
    exact logged run

end Sys2Proof.Machine
end

section
/-! The statement about repairs, planned moves and French seams. -/

namespace Sys2Proof.Machine

theorem retire_moves {path : Transport} {column row : BitVec 8} {s : State}
    (h : Accepted objRepairRequest actRepairRequest ⟨path, 4, word (0x01000000 + column.toNat * 256 + row.toNat), [], 0⟩ s.dev) :
    ∃ t, exec (.retire path column row) s = .next t ∧ Kept s t ∧ s.dev.core.state = .run ∧
      t.dev.darn = { s.dev.darn with repairs := s.dev.darn.repairs ++ [s.dev.retireMove column.toNat row.toNat] } ∧
      t.dev.rd 0x3900 4 = word 0 ∧ RegsKept (regsOf 0x3900 [4]) s.dev t.dev ∧
      { t.dev with regs := s.dev.regs, darn := s.dev.darn } = s.dev :=
  let ⟨kept, reason⟩ := repairRequest_kept s.dev 0
  ⟨_, retire_accepted h, ⟨rfl, rfl⟩, run_of_repairRequest h, rfl, reason, kept, rfl⟩

theorem repairReturn_tests {path : Transport} {column row : BitVec 8} {s : State}
    (h : Accepted objRepairRequest actRepairRequest ⟨path, 4, word (0x02000000 + column.toNat * 256 + row.toNat), [], 0⟩ s.dev) :
    ∃ t, exec (.repairReturn path column row) s = .next t ∧ Kept s t ∧ s.dev.core.state = .run ∧
      (siteNo column.toNat row.toNat, ({ purpose := 2 } : TestSt)) ∈ t.dev.darn.testing ∧
      (∀ y ∈ s.dev.darn.testing, y.1 ≠ siteNo column.toNat row.toNat → y ∈ t.dev.darn.testing) ∧
      { t.dev.darn with testing := s.dev.darn.testing } = s.dev.darn ∧
      t.dev.rd 0x3900 4 = word 0 ∧ RegsKept (regsOf 0x3900 [4]) s.dev t.dev ∧
      { t.dev with regs := s.dev.regs, darn := s.dev.darn } = s.dev :=
  let ⟨kept, reason⟩ := repairRequest_kept s.dev 0
  ⟨_, repairReturn_accepted h, ⟨rfl, rfl⟩, run_of_repairRequest h, self_mem_tabIns _ _ _,
    fun _ mem other => mem_tabIns_of_mem _ mem other, rfl, reason, kept, rfl⟩

theorem repairStart_begins {f : RepairSt} {s : State} (runs : s.dev.repairsRun = true) (next : s.dev.nextFault = some f)
    (h : f.kind ≠ 1 ∨ (s.dev.isolated f.patch = false ∧ s.dev.vacant f.patch (f.row % 8) ≠ f.column % 17 ∧
      s.dev.rowKind f.patch (f.row % 8) ≠ 1)) :
    ∃ t, exec .repairStart s = .next t ∧ Kept s t ∧ { t.dev with darn := s.dev.darn } = s.dev ∧
      t.dev.darn.queue = s.dev.darn.queue.erase f ∧ t.dev.darn.repairs = s.dev.darn.repairs ++ [f] ∧
      t.dev.darn.waiting = s.dev.darn.waiting ∧
      (∀ y, y ∈ t.dev.darn.testing ↔
        y ∈ s.dev.darn.testing ∧ (f.kind ≠ 1 ∨ (s.dev.vacantSites f.patch (f.row % 8)).contains y.1 = false)) := by
  by_cases kind : f.kind = 1
  · obtain ⟨whole, used, spare⟩ := h.resolve_left (not_not.2 kind)
    refine ⟨_, repairStart_spare runs next kind whole used spare, ⟨rfl, rfl⟩, (Dev.begun_beside _ _ _).2, rfl, rfl, rfl, fun y => ?_⟩
    simp only [kind, ne_eq, not_true, false_or]
    exact Dev.testsEnd_mem (s.dev.taken f) _ y
  · exact ⟨_, repairStart_move runs next kind, ⟨rfl, rfl⟩, rfl, rfl, rfl, rfl, fun _ => (and_iff_left (.inl kind)).symm⟩

section
variable {q : Fin 54} {recovered : Fin 2561} {readFails : Bool} {f : RepairSt} {s : State} (run : s.dev.thimble = true)
  (runs : s.dev.repairsRun = true) (found : s.dev.darn.repairs.find? (fun x => x.patch == q.val) = some f)
  (idle : s.dev.core.steps = none)
include run runs found idle

theorem repairRelease_loses (kind : f.kind = 1) (frames : recovered.val ≠ 0)
    (bare : s.dev.config.recoveryFor.getLsbD q.val = false) :
    ∃ t, exec (.repairRelease q ⟨recovered, readFails⟩) s = .next t ∧ Kept s t ∧ t.dev.core = s.dev.core ∧
      t.dev.darn.repairs = s.dev.darn.repairs.erase f ∧ t.dev.isolated q.val = true ∧ t.dev.panels = s.dev.panels ∧
      t.dev.rdN 0x3900 7 = (s.dev.rdN 0x3900 7 + 1) % 2 ^ 32 ∧
      (∃ e ∈ t.dev.nv.log, e.reason = 0x0162 ∧ e.inst = 0x3910 + q.val) ∧
      ∃ e ∈ t.dev.nv.log, e.reason = 0x0823 ∧ e.inst = s.dev.faultInst f := by
  have patch := patch_of_found found
  have told := (s.dev.repairTaken f).logNotify_reported 0x0162 (0x3910 + q.val) 0
  obtain ⟨lost, frame, site⟩ := Dev.unrecovered_lost (d := s.dev.repairTaken f) run (0x3910 + q.val) f (by omega)
  have released := Dev.repairReleased_lost (d := s.dev.repairTaken f) (x := ⟨recovered, readFails⟩) kind frames bare
  generalize ((s.dev.repairTaken f).logNotify 0x0162 (0x3910 + q.val) 0).isolateLoss f 0 = e at lost frame site released
  generalize (s.dev.repairTaken f).logNotify 0x0162 (0x3910 + q.val) 0 = m at told lost
  have core : e.core = s.dev.core := lost.core.trans told.core
  obtain ⟨b, ran⟩ := repairRelease_releases runs found released (core ▸ idle)
  refine ⟨_, ran, ⟨rfl, rfl⟩, core, ?_, patch ▸ lost.isolated, lost.panels.trans told.panels, ?_, frame, site⟩
  · exact congrArg DarnSt.repairs (lost.darn.trans told.darn)
  · exact lost.counted.trans (congrArg (fun w : Word => (w.toNat + 1) % 2 ^ 32) (told.regs 0x3900 7 (by decide) (by decide)))

theorem repairRelease_restores (kind : f.kind = 1)
    (h : recovered.val = 0 ∨ (s.dev.config.recoveryFor.getLsbD q.val = true ∧ readFails = false)) :
    ∃ t, exec (.repairRelease q ⟨recovered, readFails⟩) s = .next t ∧ Kept s t ∧ t.dev.core = s.dev.core ∧
      t.dev.darn.repairs = s.dev.darn.repairs.erase f ∧ t.dev.isolated q.val = false ∧
      t.dev.vacant q.val (f.row % 8) = f.column % 17 ∧ t.dev.rowKind q.val (f.row % 8) = 1 ∧
      t.dev.rdN (0x3910 + q.val) 4 = (s.dev.rdN (0x3910 + q.val) 4 + 1) % 2 ^ 32 ∧ bit (t.dev.rd 0x3900 1) 15 = true ∧
      bits (t.dev.rd 0x3900 1) 31 16 = nextSeq (bits (s.dev.rd 0x3900 1) 31 16) ∧
      ∃ e ∈ t.dev.nv.log, restoredBy e.reason ∧ e.inst = s.dev.faultInst f := by
  have patch := patch_of_found found
  have ended := (s.dev.repairTaken f).releaseRepair_ends recovered.val (r := f) (by omega)
  have released := Dev.repairReleased_restored (d := s.dev.repairTaken f) (q := q) (x := ⟨recovered, readFails⟩) kind h
  generalize (s.dev.repairTaken f).releaseRepair f recovered.val = e at ended released
  have core : e.core = s.dev.core := ended.core
  obtain ⟨b, ran⟩ := repairRelease_releases runs found released (core ▸ idle)
  exact ⟨_, ran, ⟨rfl, rfl⟩, core, ended.repairs, patch ▸ ended.isolated, patch ▸ ended.vacant, patch ▸ ended.retired,
    patch ▸ ended.counted, ended.unacked, ended.seq, ended.logged run⟩

theorem repairRelease_moves (kind : f.kind = 2 ∨ f.kind = 3) :
    ∃ t, exec (.repairRelease q ⟨recovered, readFails⟩) s = .next t ∧ Kept s t ∧ t.dev.core = s.dev.core ∧
      t.dev.darn = { s.dev.darn with repairs := s.dev.darn.repairs.erase f } ∧ t.dev.panels = s.dev.panels ∧
      t.dev.seams = s.dev.seams ∧ t.dev.vacant q.val (f.row % 8) = (if f.kind = 2 then f.column % 17 else 16) ∧
      t.dev.rowKind q.val (f.row % 8) = (if f.kind = 2 then 1 else 0) ∧
      RegsKept (fun i j => reportReg i j || regsOf 0x3900 [1] i j) s.dev t.dev ∧ bit (t.dev.rd 0x3900 1) 15 = true ∧
      (∃ e ∈ t.dev.nv.log, e.reason = 0x0820) ∧ (f.kind = 3 → ∃ e ∈ t.dev.nv.log, e.reason = 0x0842) := by
  have patch := patch_of_found found
  have ended := (s.dev.repairTaken f).releaseMove_ends f
  have released := (s.dev.repairTaken f).repairReleased_move q ⟨recovered, readFails⟩ (f := f) (by omega)
  generalize (s.dev.repairTaken f).releaseMove f = e at ended released
  have core : e.core = s.dev.core := ended.core
  obtain ⟨b, ran⟩ := repairRelease_releases runs found released (core ▸ idle)
  exact ⟨_, ran, ⟨rfl, rfl⟩, core, ended.darn, ended.panels, ended.seams, patch ▸ ended.vacant, patch ▸ ended.rowKind, ended.regs,
    ended.unacked, ended.logged run⟩

end

/-- A seam that rolls back shows it in its panels, its ports, its allowance and its registers. -/
theorem frenchMismatch_rolls {n : Fin 64} {bad : Option (Fin 2)} {p : Nat × Nat} {h : FrenchSt} {s : State}
    (run : s.dev.thimble = true) (live : s.dev.fabricLive = true) (bound : s.dev.frenchBound n.val = true)
    (whole : bit (s.dev.rd (0x3980 + n.val) 1) 14 = false) (still : bit (s.dev.rd (0x3980 + n.val) 1) 12 = false)
    (sites : p = s.dev.frenchSites n.val) (halves : h = s.dev.frenchSt n.val) (none : bad = none) (apart : p.1 ≠ p.2) :
    ∃ t, exec (.frenchMismatch n bad) s = .next t ∧ Kept s t ∧ t.dev.core = s.dev.core ∧
      t.dev.panel p.1 = { h.half0.shadow with tension := (s.dev.panel p.1).tension } ∧
      t.dev.panel p.2 = { h.half1.shadow with tension := (s.dev.panel p.2).tension } ∧
      (∀ k, k ≠ p.1 → k ≠ p.2 → t.dev.panel k = s.dev.panel k) ∧
      (∀ u, u < 8 → (t.dev.seam (seamOut p.1 u)).word = Option.none ∧ (t.dev.seam (seamOut p.2 u)).word = Option.none) ∧
      (t.dev.frenchSt n.val).replay0 = h.half0.held ∧ (t.dev.frenchSt n.val).replay1 = h.half1.held ∧
      bit (t.dev.rd (0x3980 + n.val) 1) 12 = (!h.half0.held.isEmpty || !h.half1.held.isEmpty) ∧
      t.dev.rdN (0x3980 + n.val) 5 = (s.dev.rdN (0x3980 + n.val) 5 + 1) % 2 ^ 32 ∧
      t.dev.rd (0x3980 + n.val) 6 = word s.dev.core.time ∧
      bits (t.dev.rd (0x3980 + n.val) 1) 31 16 = nextSeq (bits (s.dev.rd (0x3980 + n.val) 1) 31 16) ∧
      RegsKept (fun i j => reportReg i j || regsOf (0x3980 + n.val) [1, 5, 6] i j) s.dev t.dev ∧
      ∃ e ∈ t.dev.nv.log, e.reason = 0x0830 ∧ e.inst = n.val := by
  subst sites halves
  obtain ⟨first, second, others⟩ := s.dev.halvesBack_panels n.val apart
  have words {u : Nat} (hu : u < 8) := s.dev.halvesBack_words n.val hu
  have back := s.dev.rollback_rolls n.isLt
  have ran := (frenchMismatch_whole (bad := bad) live bound whole still).1 none
  generalize s.dev.rollback n.val = e at back ran
  have panel (k : Nat) : e.panel k = (s.dev.halvesBack n.val).panel k := by rw [Dev.panel, back.panels, Dev.panel]
  have seam (k : Nat) : e.seam k = (s.dev.halvesBack n.val).seam k := by rw [Dev.seam, back.seams, Dev.seam]
  refine ⟨_, ran, ⟨rfl, rfl⟩, back.core, (panel _).trans first, (panel _).trans second, fun k h1 h2 => (panel k).trans (others k h1 h2),
    fun u hu => ?_, back.replay0, back.replay1, back.rolling, back.counted, back.timed, back.seq, back.regs, back.logged run⟩
  exact ⟨(congrArg SeamSt.word (seam _)).trans (words hu).1, (congrArg SeamSt.word (seam _)).trans (words hu).2⟩

/-- Settles O57, command by command: each runs to a device named above, whose lemmas say what moved. -/
theorem repairsAndFrenchSeams : Obligations.RepairsAndFrenchSeams := by
  unfold Obligations.RepairsAndFrenchSeams
  refine ⟨fun _ _ _ _ h => retire_moves h, fun _ _ _ _ h => repairReturn_tests h, ?_, ?_, ?_, ?_⟩
  case refine_1 =>
    rintro f r s runs next rfl
    refine ⟨fun h => repairStart_begins runs next h, fun kind whole used none patch run => ?_⟩
    have lost := (s.dev.taken f).isolateLoss_lost f 0 (by omega)
    exact ⟨_, repairStart_noSpare runs next kind whole used none (by omega), ⟨rfl, rfl⟩, lost.tested run _⟩
  case refine_2 =>
    intro q recovered readFails f s run runs found idle
    exact ⟨repairRelease_loses run runs found idle, repairRelease_restores run runs found idle, repairRelease_moves run runs found idle⟩
  case refine_3 =>
    intro n bad p h s run live bound whole still sites halves
    refine ⟨fun none apart => frenchMismatch_rolls run live bound whole still sites halves none apart, fun k site bad at_ state => ?_⟩
    have ran := (frenchMismatch_whole live bound whole still).2 k site bad (sites ▸ at_)
    rw [Dev.siteFault, Dev.panelFault_run state] at ran
    exact ⟨_, _, ran, ⟨rfl, rfl⟩, rfl, rfl, rfl, rfl, rfl⟩
  case refine_4 =>
    intro n bad c s run live bound whole rolling hc
    exact ⟨_, french_breaks live bound whole rolling hc, ⟨rfl, rfl⟩, Dev.breakFrench_breaks n.isLt run live⟩

end Sys2Proof.Machine
end

section
/-! SUPPORT. Headers of an image (R318, R328, R332, R339): what a fitting begins with. -/

namespace Sys2Proof.Machine

/-! ### Objects and tables beside a load (R324, R332) -/

/-- Between d and e objects, tables and indications moved: neither the core, the configuration state, the array nor the programs. -/
structure Fitted (d e : Dev) : Prop where
  core : e.core = d.core
  config : e.config = d.config
  array : e.array = d.array
  programs : e.programs = d.programs

theorem Fitted.refl (d : Dev) : Fitted d d := ⟨rfl, rfl, rfl, rfl⟩

theorem Fitted.trans {d e f : Dev} (h : Fitted d e) (k : Fitted e f) : Fitted d f :=
  ⟨k.core.trans h.core, k.config.trans h.config, k.array.trans h.array, k.programs.trans h.programs⟩

theorem Flowed.fitted {d e : Dev} (h : Flowed d e) : Fitted d e := ⟨h.core, h.config, h.array, h.programs⟩

theorem forEach_fitted {f : Nat → Dev → Dev} (h : ∀ i e, Fitted e (f i e)) (n : Nat) (d : Dev) : Fitted d (forEach n f d) := by
  induction n with
  | zero => exact .refl d
  | succ n ih =>
    rw [forEach_succ]
    exact ih.trans (h n _)

theorem foldl_fitted {α : Type} {f : Dev → α → Dev} (h : ∀ e x, Fitted e (f e x)) (l : List α) (d : Dev) : Fitted d (l.foldl f d) := by
  induction l generalizing d with
  | nil => exact .refl d
  | cons x l ih => exact (h d x).trans (ih _)

theorem Dev.wr_fitted (d : Dev) (i j : Nat) (v : Word) : Fitted d (d.wr i j v) := ⟨rfl, rfl, rfl, rfl⟩
theorem Dev.wrN_fitted (d : Dev) (i j v : Nat) : Fitted d (d.wrN i j v) := ⟨rfl, rfl, rfl, rfl⟩
theorem Dev.setFlag_fitted (d : Dev) (i j k : Nat) (b : Bool) : Fitted d (d.setFlag i j k b) := ⟨rfl, rfl, rfl, rfl⟩
theorem Dev.setBytes_fitted (d : Dev) (i j : Nat) (l : List Byte) : Fitted d (d.setBytes i j l) := ⟨rfl, rfl, rfl, rfl⟩
theorem Dev.setShuttle_fitted (d : Dev) (g : Nat) (x : ShuttleSt) : Fitted d (d.setShuttle g x) := ⟨rfl, rfl, rfl, rfl⟩

theorem Dev.recompute_fitted (d : Dev) (g : Nat) : Fitted d (d.recompute g) := by
  have rises (e : Dev) (m : Nat) : Fitted e (if e.rdN (shIdx g) 9 < m then (e.wrN (shIdx g) 9 m).log 0x0413 g 0 else e) := by
    split
    next => exact (e.wrN_fitted _ _ _).trans (Dev.log_flowed _ _ _ _).fitted
    next => exact .refl e
  unfold Dev.recompute
  dsimp only
  refine Fitted.trans ?_ (rises _ _)
  split
  next => exact (d.wr_fitted _ _ _).trans (Dev.setShuttle_fitted _ _ _)
  next => exact d.wr_fitted _ _ _

theorem Dev.freshFrench_fitted (d : Dev) : Fitted d d.freshFrench := 
  forEach_fitted (fun _ e => ((e.setFlag_fitted _ _ _ _).trans (Dev.setFlag_fitted _ _ _ _ _)).trans (Dev.wrN_fitted _ _ _ _)) 64 d

theorem Dev.updatePermits_fitted (d : Dev) : Fitted d d.updatePermits :=
  ⟨d.updatePermits_core, d.updatePermits_config, d.updatePermits_array, (congrArg Dev.programs d.updatePermits_besidePermits :)⟩

theorem Dev.latchCapture_fitted (d : Dev) : Fitted d d.latchCapture := by
  obtain ⟨q, capture⟩ := d.latchCapture_bareBaste
  rw [capture]
  exact ⟨rfl, rfl, rfl, rfl⟩

/-! ### The port (R328) -/

theorem Dev.thimble_of_portOn {d : Dev} (h : d.portOn = true) : d.thimble = true := (Bool.and_eq_true_iff.1 h).1

/-- With no load under way the bytes at the port are a header. -/
theorem headerRecord_port {v : List (BitVec 16)} {s : State} (on : s.dev.portOn = true) (idle : s.dev.loading = none) :
    exec (.headerRecord (.port v)) s = .next { s with dev := newHeader s.fuses s.dev .port (s.dev.portBytes v) } := by
  have ran : exec (.headerRecord (.port v)) s = execHeaderRecord (.port v) s := rfl
  have runs := Dev.thimble_of_portOn on
  rw [ran]
  unfold execHeaderRecord
  rw [onDev_next]
  simp [idle, Dev.recordSource, Dev.recordBytes, on, runs]

/-- The rest of the image at the port is to be forwarded. -/
def Dev.forwards (d : Dev) : Dev := { d with config := { d.config with forwarding := true } }

/-- What a header at the port does, by whether it is for this device and what the checks say. -/
theorem newHeader_port (f : Fuses) (d : Dev) (r : List Byte) :
    (d.portTakes (parseHeader r).targetId = false → newHeader f d .port r = d.forwards.forward r) ∧
    (d.portTakes (parseHeader r).targetId = true →
      (headerRefusal f d.portQuiet r ≠ 0 → newHeader f d .port r = d.portQuiet) ∧
      (headerRefusal f d.portQuiet r = 0 → (parseHeader r).kind = 1 →
        newHeader f d .port r = d.portQuiet.acceptFull (startLoad f d.portQuiet .port r)) ∧
      (headerRefusal f d.portQuiet r = 0 → (parseHeader r).kind = 2 →
        newHeader f d .port r = d.portQuiet.acceptPartial (startLoad f d.portQuiet .port r))) := by
  have cases : newHeader f d .port r =
      if (!d.portTakes (parseHeader r).targetId) = true then d.forwards.forward r
      else if headerRefusal f d.portQuiet r ≠ 0 then d.portQuiet
      else if (parseHeader r).kind = 1 then d.portQuiet.acceptFull (startLoad f d.portQuiet .port r)
      else d.portQuiet.acceptPartial (startLoad f d.portQuiet .port r) := rfl
  rw [cases]
  refine ⟨fun other => if_pos (by rw [other]; rfl), fun own => ?_⟩
  rw [if_neg (by rw [own]; decide)]
  refine ⟨fun refused => if_pos refused, fun passed full => ?_, fun passed part => ?_⟩
  · rw [if_neg (not_not.2 passed), if_pos full]
  · rw [if_neg (not_not.2 passed), if_neg (by omega)]

/-- An image that goes on along the daisy chain (R328). -/
theorem Dev.forward_beside (d : Dev) (r : List Byte) : { d.forward r with out := d.out } = d ∧
    (d.core.broadcast = false → d.core.cfgWidth = 0 → (d.forward r).out = .cfgDout r :: d.out) := by
  unfold Dev.forward
  split
  next stays => exact ⟨rfl, fun one width => absurd stays (by simp [one, width])⟩
  next => exact ⟨rfl, fun _ _ => rfl⟩

/-! ### A partial header accepted (R339) -/

/-- An earlier staged image goes at most: core, panels and active frames stay. -/
theorem Dev.discardPartial_rest (d : Dev) : d.discardPartial.core = d.core ∧ d.discardPartial.panels = d.panels ∧
    d.discardPartial.config.active = d.config.active := by
  cases hs : d.config.staged with
  | none =>
    unfold Dev.discardPartial
    rw [hs]
    exact ⟨rfl, rfl, rfl⟩
  | some i =>
    cases hc : i.committing with
    | true =>
      unfold Dev.discardPartial
      rw [hs]
      dsimp only
      rw [if_pos hc]
      exact ⟨rfl, rfl, rfl⟩
    | false =>
      rw [Dev.discardPartial_staged hs hc]
      have told := d.unstaged.discardShown.log_flowed 0x0120 0 0
      exact ⟨told.core, told.panels, (congrArg ConfigSt.active told.config).trans rfl⟩

theorem Dev.acceptPartial_begins (d : Dev) (l : LoadSt) : (d.acceptPartial l).core = d.core ∧
    (d.acceptPartial l).config.load = some l ∧ (d.acceptPartial l).panels = d.panels ∧
    (d.acceptPartial l).config.active = d.config.active ∧ (d.acceptPartial l).config.shadow = [] ∧
    bit ((d.acceptPartial l).rd 0x2110 1) 15 = true := by
  obtain ⟨core, panels, active⟩ := d.discardPartial_rest
  refine ⟨core, rfl, panels, active, rfl, ?_⟩
  unfold Dev.acceptPartial
  rw [Dev.setFlag_eq, Dev.rd_wr_same, bit_setBit_same _ _ (by decide)]

/-! ### A full header accepted (R332) -/

/-- What was under way has ended, and the contents that an image gives are gone. -/
def Dev.stripped (d : Dev) : Dev :=
  ((d.discardPartial.endWork.dropOutputs.discardStaged.clearBlocks (fun _ => true)).clearSlots).freshPins

/-- The device as the fitting of load l begins. -/
def Dev.fittingBegun (d : Dev) (l : LoadSt) : Dev :=
  let c := d.config
  let slot := l.source.slotOf.isSome
  { d.releaseWatch.tensionsOnly with
    config := {
      load := some l, active := c.active
      orderInEffect := if l.header.useOrder then l.header.startupOrder else d.rdN 0x2010 1
      streamBytes := c.streamBytes, skip := c.skip
      slotLoad := c.slotLoad, loadedAt := c.loadedAt, forwarding := c.forwarding
      recoveryFor := if slot then 0 else c.recoveryFor, partialDigest := List.replicate 64 0 }
    core := { d.core with gsrHeld := true, gatesOpen := false, writes := false, foldPending := false, steps := none }
    seams := [], programs := [], progErrs := []
    nv := { d.nv with recovery := if slot then [] else d.nv.recovery }
    darn := { d.darn with repairs := [], queue := [], waiting := [], french := [] } }

/-- The tables and latencies of a fitting, emptied. -/
def Dev.tablesFresh (d : Dev) : Dev :=
  forEach 12 (fun g e => (e.setBytes (0x3300 + g) 1 []).recompute g)
    (forEach 12 (fun g e => e.setShuttle g { e.shuttle g with badWords := [] }) d)

/-- BUSY and the phase of a fitting in CFG_STATUS. -/
def Dev.fittingShown (d : Dev) : Dev := d.wr 0x2100 1 (setBits (setBits (setBit (d.rd 0x2100 1) 15 true) 13 12 0) 7 0 1)

/-- Counts, image numbers and the status of French seams, started afresh. -/
def Dev.countsFresh (d : Dev) : Dev :=
  forEach 4 (fun f e => e.wrN (0x3A10 + f) 4 0)
    ((((((d.wrN 0x2100 5 0).wrN 0x2100 0x0B 0).wrN 0x2100 6 0).wrN 0x2100 7 0).wrN 0x2120 6 0).freshFrench)

theorem Dev.acceptFull_eq (d : Dev) (l : LoadSt) : d.acceptFull l =
    ((d.stripped.fittingBegun l).tablesFresh.fittingShown.countsFresh.changeState .fitting 0x0B75 0).updatePermits.latchCapture := rfl

theorem Dev.discardStaged_worked (d : Dev) : Worked d d.discardStaged := ⟨rfl, rfl, rfl, fun _ _ _ _ => rfl⟩

/-- What ends leaves of the active frames; no output is on and no write staged. -/
theorem Dev.stripped_rest (d : Dev) :
    d.stripped.config.active = d.config.active ∧ d.stripped.core.outputs = false ∧ d.stripped.staged = [] := by
  have work : Worked d.discardPartial d.stripped :=
    (((((d.discardPartial.endWork_worked.trans (Dev.dropOutputs_worked _)).trans (Dev.discardStaged_worked _)).trans
      (Dev.clearBlocks_worked _ _)).trans (Dev.clearSlots_worked _)).trans (Dev.freshPins_worked _))
  have plan : d.stripped.plan = d.discardPartial.endWork.dropOutputs.discardStaged.plan := by
    unfold Dev.stripped
    rw [Dev.freshPins_plan, Dev.clearSlots_plan, Dev.clearBlocks_plan]
  have off : d.discardPartial.endWork.dropOutputs.core.outputs = false :=
    congrArg CoreSt.outputs (d.discardPartial.endWork.dropOutputs_flowed).core
  obtain ⟨-, -, active⟩ := d.discardPartial_rest
  generalize d.discardPartial.endWork.dropOutputs = w at plan off
  generalize d.stripped = e at work plan ⊢
  obtain ⟨core, staged⟩ := Prod.mk.inj plan
  exact ⟨(congrArg ConfigSt.active work.config).trans active, (congrArg CoreSt.outputs core).trans off, staged⟩

/-- The array at the beginning of a fitting: its load, and no program; the staged writes, the active frames and the outputs are as work
that ended left them. -/
theorem Dev.fittingBegun_shows (d : Dev) (l : LoadSt) : (d.fittingBegun l).config.load = some l ∧ (d.fittingBegun l).programs = [] ∧
    (d.fittingBegun l).array = (d.staged, (d.fittingBegun l).panels, [], d.config.active, true, d.core.outputs) ∧
    ∀ p ∈ (d.fittingBegun l).panels, p.2 = { tension := p.2.tension } :=
  ⟨rfl, rfl, rfl, d.releaseWatch.tensionsOnly_listed⟩

theorem Dev.tablesFresh_fitted (d : Dev) : Fitted d d.tablesFresh :=
  (forEach_fitted (fun g e => e.setShuttle_fitted g _) 12 d).trans
    (forEach_fitted (fun g e => (e.setBytes_fitted _ _ _).trans (Dev.recompute_fitted _ g)) 12 _)

theorem Dev.countsFresh_fitted (d : Dev) : Fitted d d.countsFresh := by
  have shown : Fitted d (((((d.wrN 0x2100 5 0).wrN 0x2100 0x0B 0).wrN 0x2100 6 0).wrN 0x2100 7 0).wrN 0x2120 6 0) := ⟨rfl, rfl, rfl, rfl⟩
  exact (shown.trans (Dev.freshFrench_fitted _)).trans (forEach_fitted (fun f e => e.wrN_fitted _ _ _) 4 _)

/-- CFG_STATUS stays as the counts start afresh. -/
theorem Dev.countsFresh_status (d : Dev) : d.countsFresh.rd 0x2100 1 = d.rd 0x2100 1 := by
  have far {i j : Nat} (h : 0x3900 ≤ i) : objKey i j ≠ objKey 0x2100 1 := by unfold objKey; omega
  have proofs (e : Dev) : (forEach 4 (fun f e => e.wrN (0x3A10 + f) 4 0) e).rd 0x2100 1 = e.rd 0x2100 1 :=
    forEach_keeps (fun e => e.rd 0x2100 1) (fun f e => e.rd_wr_other _ (far (by omega))) 4 e
  have french (e : Dev) : e.freshFrench.rd 0x2100 1 = e.rd 0x2100 1 := by
    unfold Dev.freshFrench
    refine forEach_keeps (fun e => e.rd 0x2100 1) (fun n e => ?_) 64 e
    simp only [Dev.wrN, Dev.setFlag_eq]
    rw [Dev.rd_wr_other _ _ (far (by omega)), Dev.rd_wr_other _ _ (far (by omega)), Dev.rd_wr_other _ _ (far (by omega))]
  unfold Dev.countsFresh
  rw [proofs, french]
  simp only [Dev.wrN]
  rw [Dev.rd_wr_other _ _ (by decide), Dev.rd_wr_other _ _ (by decide), Dev.rd_wr_other _ _ (by decide),
    Dev.rd_wr_other _ _ (by decide), Dev.rd_wr_other _ _ (by decide)]

/-- A fitting begun (R332): its load in the configuration state with the frames it is to replace, global set/reset held, outputs off,
panels at their tension offsets, no program and no staged write, and the change of state shown. -/
structure FittingBegun (d : Dev) (l : LoadSt) (e : Dev) : Prop where
  state : e.core.state = .fitting
  load : e.config.load = some l
  held : e.core.gsrHeld = true
  outputs : e.core.outputs = false
  panels : ∀ p ∈ e.panels, p.2 = { tension := p.2.tension }
  staged : e.staged = []
  active : e.config.active = d.config.active
  programs : e.programs = []
  reason : e.rdN 0x2000 3 = 0x0B75
  busy : bit (e.rd 0x2100 1) 15 = true

/-- The tables and counts of a fitting that begins leave the array, and show it BUSY. -/
theorem Dev.fitting_tables (d : Dev) : Fitted d d.tablesFresh.fittingShown.countsFresh ∧
    bit (d.tablesFresh.fittingShown.countsFresh.rd 0x2100 1) 15 = true := by
  refine ⟨d.tablesFresh_fitted.trans ((Dev.wr_fitted _ _ _ _).trans (Dev.countsFresh_fitted _)), ?_⟩
  rw [Dev.countsFresh_status, Dev.fittingShown, Dev.rd_wr_same, bit_setBits_other _ _ (by decide), bit_setBits_other _ _ (by decide),
    bit_setBit_same _ _ (by decide)]

/-- The change of state to FITTING moves the state alone, and shows its reason. -/
theorem Dev.changeState_fitting (d : Dev) {e : Dev} (h : e = ((d.changeState .fitting 0x0B75 0).updatePermits).latchCapture) :
    e.core = { d.core with state := .fitting } ∧ e.config = d.config ∧ e.array = d.array ∧ e.programs = d.programs ∧
      e.rdN 0x2000 3 = 0x0B75 ∧ e.rd 0x2100 1 = d.rd 0x2100 1 := by
  have told := d.changeState_flowed .fitting 0x0B75 0
  have reason := d.changeState_reason .fitting 0x0B75 0
  have shown : (d.shifted .fitting 0x0B75).rd 0x2100 1 = d.rd 0x2100 1 :=
    ((Dev.rd_wr_other _ _ (by decide)).trans (Dev.rd_wr_other _ _ (by decide))).trans (Dev.rd_wr_other _ _ (by decide))
  have status := (told.rd (i := 0x2100) (j := 1) (by decide) (by decide)).trans shown
  generalize d.changeState .fitting 0x0B75 0 = c at told reason status h
  have after : Fitted c e := h ▸ c.updatePermits_fitted.trans (Dev.latchCapture_fitted _)
  have regs {i j : Nat} (hi : i < 0x3A10) (hj : j < 256) : e.rd i j = c.rd i j := by
    obtain ⟨q, capture⟩ := c.updatePermits.latchCapture_bareBaste
    rw [h, capture]
    exact c.updatePermits_rd hi hj
  refine ⟨after.core.trans told.core, after.config.trans told.config, after.array.trans told.array, after.programs.trans told.programs,
    ?_, (regs (by decide) (by decide)).trans status⟩
  rw [Dev.rdN, regs (by decide) (by decide), reason]
  rfl

theorem Dev.acceptFull_begins (d : Dev) (l : LoadSt) : FittingBegun d l (d.acceptFull l) := by
  obtain ⟨active, outputs, staged⟩ := d.stripped_rest
  obtain ⟨load, bare, array, listed⟩ := d.stripped.fittingBegun_shows l
  rw [d.acceptFull_eq]
  generalize d.stripped.fittingBegun l = b at load bare array listed ⊢
  obtain ⟨tables, busy⟩ := b.fitting_tables
  generalize b.tablesFresh.fittingShown.countsFresh = f at tables busy ⊢
  obtain ⟨core, config, kept, programs, reason, status⟩ := f.changeState_fitting rfl
  generalize (f.changeState .fitting 0x0B75 0).updatePermits.latchCapture = e at core config kept programs reason status ⊢
  have view := (kept.trans tables.array).trans array
  simp only [Dev.array, Prod.mk.injEq] at view
  obtain ⟨noWrites, panels, -, frames, held, off⟩ := view
  refine ⟨congrArg CoreSt.state core, ?_, held, off.trans outputs, panels ▸ listed, noWrites.trans staged, frames.trans active,
    programs.trans (tables.programs.trans bare), reason, status ▸ busy⟩
  rw [config, tables.config, load]

end Sys2Proof.Machine
end

section
/-! SUPPORT. Records after the header (R325, R332 step 3, R336, R339, R342): which record is taken, and what a load makes of it. -/

namespace Sys2Proof.Machine

/-! ### Which record is taken (R328) -/

/-- Each instruction of a record is the event of a record of its TYPE. -/
theorem record_event {i : Instr} {r : RecordIn} {l : List Byte} {taps : List (Fin 512)} {bindings : List (Fin 512 × Word)}
    (h : (i = .frameRecord r taps ∧ recType l = 2) ∨ (i = .keyRoll r ∧ recType l = 3 ∧ taps = []) ∨
      (i = .groupHash r ∧ recType l = 4 ∧ taps = []) ∨ (i = .signatureRecord r ∧ recType l = 5 ∧ taps = []) ∨
      (i = .endRecord r bindings ∧ recType l = 0xF ∧ taps = [])) :
    ∃ types b, types (recType l) = true ∧ ∀ s, exec i s = recordEvent r types taps b s := by
  obtain ⟨rfl, type⟩ | ⟨rfl, type, rfl⟩ | ⟨rfl, type, rfl⟩ | ⟨rfl, type, rfl⟩ | ⟨rfl, type, rfl⟩ := h
  · exact ⟨fun t => t = 2 || (typeLength t).isNone, [], by rw [type]; rfl, fun _ => rfl⟩
  · exact ⟨fun t => t = 3, [], by rw [type]; rfl, fun _ => rfl⟩
  · exact ⟨fun t => t = 4, [], by rw [type]; rfl, fun _ => rfl⟩
  · exact ⟨fun t => t = 5, [], by rw [type]; rfl, fun _ => rfl⟩
  · exact ⟨fun t => t = 0xF, bindings, by rw [type]; rfl, fun _ => rfl⟩

theorem recordEvent_passes {r : RecordIn} {l : List Byte} (types : Nat → Bool) (taps : List (Fin 512)) (b : List (Fin 512 × Word))
    {s : State} (h : s.dev.passesBy r = some l) : recordEvent r types taps b s = .next { s with dev := s.dev.forward l } := by
  unfold recordEvent
  rw [onDev_next]
  simp only [h]

theorem recordEvent_takes {r : RecordIn} {l : List Byte} {types : Nat → Bool} (taps : List (Fin 512)) (b : List (Fin 512 × Word))
    {x : LoadSt} {s : State} (own : s.dev.passesBy r = none) (loading : s.dev.loading = some x)
    (source : s.dev.recordSource r = some x.source) (reads : r ≠ .slot true) (bytes : s.dev.recordBytes r false = some l)
    (type : types (recType l) = true) :
    recordEvent r types taps b s = .next { s with dev := s.dev.record s.fuses x l taps b } := by
  unfold recordEvent
  rw [onDev_next]
  simp only [own, loading, source, bytes, type, if_neg reads, ne_eq, not_true_eq_false, if_false, if_true]

/-! ### What a load makes of it -/

/-- The watch points that a load binds. -/
def tapped (taps : List (Fin 512)) (w : Nat) : Bool := taps.any (fun t => t.val == w)

/-- The load goes on as m. -/
def Dev.loadBecomes (d : Dev) (m : LoadSt) : Dev := { d with config := { d.config with load := some m } }

theorem Streamed.loadBecomes {d e : Dev} (h : Streamed d e) (m : LoadSt) : Streamed (d.loadBecomes m) (e.loadBecomes m) :=
  (congrArg (fun x : Dev => x.loadBecomes m) h :)

section
variable {f : Fuses} {x m : LoadSt} {l : List Byte} {taps : List (Fin 512)} (d : Dev) (b : List (Fin 512 × Word))

theorem Dev.record_fails {e : RecFault} (h : takeRecord f true (tapped taps) x l = .error e) :
    d.record f x l taps b = (d.consume x.source l.length).failLoad { x with taken := x.taken + l.length } e := by
  unfold tapped at h
  unfold Dev.record
  simp only [h]

theorem Dev.record_plain (h : takeRecord f true (tapped taps) x l = .ok (m, none)) (more : m.ended = false) :
    d.record f x l taps b = (d.consume x.source l.length).loadBecomes m := by
  unfold tapped at h
  unfold Dev.record
  simp only [h, more]
  rfl

theorem Dev.record_frame {a : Nat} {g : Frame} (h : takeRecord f true (tapped taps) x l = .ok (m, some (a, g))) (more : m.ended = false) :
    d.record f x l taps b = if m.header.kind = 1 then
      (((d.consume x.source l.length).loadBecomes m).writeFrame a g).wrN 0x2100 5 m.frames
    else ((d.consume x.source l.length).loadBecomes m).stageFrame a g := by
  unfold tapped at h
  unfold Dev.record
  simp only [h, more]
  rfl

theorem Dev.record_ends (h : takeRecord f true (tapped taps) x l = .ok (m, none)) (last : m.ended = true) :
    d.record f x l taps b = if m.header.kind = 1 then
      (((d.consume x.source l.length).loadBecomes m).skipRest m.source (m.header.streamLength - m.taken)).endFull m b
    else (((d.consume x.source l.length).loadBecomes m).skipRest m.source (m.header.streamLength - m.taken)).endPartial m := by
  unfold tapped at h
  unfold Dev.record
  simp only [h, last]
  rfl

end

/-! ### Checks that fail (R336, R342) -/

/-- What a table of timing says beside a failed check is at most a log entry. -/
theorem Dev.failLoad_told (d : Dev) (l : LoadSt) (e : RecFault) : ∃ told, Flowed d told ∧ d.failLoad l e =
    (if l.header.kind = 1 then told.holdLoad l e.code e.addr else told.dropPartial e.code e.addr).skipRest l.source
      (l.header.streamLength - l.taken) := by
  obtain ⟨code, addr, table⟩ := e
  cases table with
  | none => exact ⟨d, .refl d, rfl⟩
  | some t => exact ⟨_, d.log_flowed t.1 t.2.1 t.2.2, rfl⟩

/-- A full load that a check holds. -/
theorem Dev.failLoad_holds (d : Dev) {l : LoadSt} (full : l.header.kind = 1) (e : RecFault) :
    (d.failLoad l e).config.load = some { l with held := some e.code } ∧ (d.failLoad l e).core = { d.core with steps := none } ∧
      (d.failLoad l e).rd 0x2100 3 = word e.code ∧ bit ((d.failLoad l e).rd 0x2100 1) 13 = true ∧
      bit ((d.failLoad l e).rd 0x2100 1) 14 = true ∧ bit ((d.failLoad l e).rd 0x2100 1) 15 = false := by
  obtain ⟨told, flowed, failed⟩ := d.failLoad_told l e
  rw [failed, if_pos full]
  have moved := (told.holdLoad l e.code e.addr).skipRest_streamed l.source (l.header.streamLength - l.taken)
  obtain ⟨reason, held, unacked, busy⟩ := told.holdLoad_shows l e.code e.addr
  have core : (told.holdLoad l e.code e.addr).core = { d.core with steps := none } :=
    congrArg (fun c : CoreSt => { c with steps := none }) flowed.core
  have load : (told.holdLoad l e.code e.addr).config.load = some { l with held := some e.code } := rfl
  generalize told.holdLoad l e.code e.addr = h at moved reason held unacked busy core load ⊢
  rw [moved.rd, moved.rd]
  exact ⟨moved.load.trans load, moved.core.trans core, reason, held, unacked, busy⟩

/-- A partial load that a check discards. -/
theorem Dev.failLoad_drops (d : Dev) {l : LoadSt} (part : l.header.kind = 2) (e : RecFault) :
    (d.failLoad l e).config.load = none ∧ (d.failLoad l e).config.shadow = [] ∧ (d.failLoad l e).config.active = d.config.active ∧
      (d.failLoad l e).config.staged = d.config.staged ∧ (d.failLoad l e).rd 0x2110 7 = word e.code ∧
      (d.failLoad l e).core = d.core ∧ (d.failLoad l e).panels = d.panels := by
  obtain ⟨told, flowed, failed⟩ := d.failLoad_told l e
  rw [failed, if_neg (by omega)]
  have moved := (told.dropPartial e.code e.addr).skipRest_streamed l.source (l.header.streamLength - l.taken)
  have config := told.dropPartial_config e.code e.addr
  have core := told.dropPartial_core e.code e.addr
  have panels := told.dropPartial_panels e.code e.addr
  have reason := told.dropPartial_reason e.code e.addr
  rw [flowed.config] at config
  generalize told.dropPartial e.code e.addr = h at moved config core panels reason ⊢
  refine ⟨moved.load.trans ?_, moved.shadow.trans ?_, moved.active.trans ?_, moved.staged.trans ?_, (moved.rd _ _).trans reason,
    moved.core.trans (core.trans flowed.core), moved.panels.trans (panels.trans flowed.panels)⟩
  all_goals rw [config]

/-! ### Panel frames (R332, R339) -/

/-- A load at hand after bytes of its stream: beside the configuration state nothing moved, and the frames are as they were. -/
theorem Dev.consumed_becomes (d : Dev) (src : LoadSource) (n : Nat) (m : LoadSt) :
    { (d.consume src n).loadBecomes m with config := d.config } = d ∧ ((d.consume src n).loadBecomes m).config.load = some m ∧
      ((d.consume src n).loadBecomes m).config.active = d.config.active ∧
      ((d.consume src n).loadBecomes m).config.shadow = d.config.shadow := by
  have moved := d.consume_streamed src n
  generalize d.consume src n = e at moved ⊢
  exact ⟨moved.beside, rfl, moved.active, moved.shadow⟩

/-- A panel frame of a full load stands in the active plane at its address. -/
theorem Dev.writeFrame_panel (d : Dev) {a : Nat} (h : addrSpace a = 0) (g : Frame) : { d.writeFrame a g with config := d.config } = d ∧
    (d.writeFrame a g).config.load = d.config.load ∧ (d.writeFrame a g).config.shadow = d.config.shadow ∧
    (d.writeFrame a g).frame a = g ∧ ∀ k, k ≠ a → (d.writeFrame a g).frame k = d.frame k := by
  unfold Dev.writeFrame
  rw [if_pos h]
  refine ⟨rfl, rfl, rfl, tabGet_tabIns_same _ _ _ _, fun k other => ?_⟩
  exact (tabGet_tabIns_other _ _ _ (Ne.symm other)).trans (tabGet_tabDel_other _ _ (Ne.symm other))

/-- A panel frame of a full load, with the count of frames shown: beside the frame's place and the count the load stands as it was. -/
theorem Dev.frameCounted_beside {d e : Dev} {a : Nat} (panel : addrSpace a = 0) (g : Frame) (n : Nat)
    (h : { e with config := d.config } = d) : { (e.writeFrame a g).wrN 0x2100 5 n with config := d.config, regs := d.regs } = d ∧
      RegsKept (regsOf 0x2100 [5]) d ((e.writeFrame a g).wrN 0x2100 5 n) := by
  obtain ⟨written, -⟩ := e.writeFrame_panel panel g
  generalize e.writeFrame a g = w at written ⊢
  have beside : { w with config := d.config } = d := (congrArg (fun y : Dev => { y with config := d.config }) written).trans h
  refine ⟨(congrArg (fun y : Dev => { y with regs := d.regs }) beside :), fun i j hj other => ?_⟩
  exact (Dev.wr_regsKept w 0x2100 5 _ (by decide) i j hj other).trans (congrArg (fun y : Dev => y.rd i j) beside :)

/-- A panel frame of a partial load stands in the shadow plane. -/
theorem Dev.stageFrame_panel (d : Dev) {a : Nat} (h : addrSpace a = 0) (g : Frame) : d.stageFrame a g =
    { d with config := { d.config with shadow := tabIns (tabDel d.config.shadow a) a g } } := by
  unfold Dev.stageFrame
  rw [if_pos h]

/-! ### The end of a partial load (R339) -/

/-- A load that ended as a staged image. -/
def LoadSt.staged (m : LoadSt) : StagedImage :=
  { header := m.header, source := m.source, digest := m.chain, setup := m.setup, valid := true }

/-- The image of a partial load staged, and shown. -/
def Dev.imageStaged (d : Dev) (m : LoadSt) : Dev :=
  let e : Dev := { d with config := { d.config with load := none, staged := some m.staged } }
  e.wr 0x2110 1 (setBit (setBit (setBit (e.rd 0x2110 1) 15 false) 13 true) 11 m.header.holdCommit)

/-- Tests that end in the patches of a mask. -/
def Dev.testsGiveWay (d : Dev) (mask : Nat) : Dev :=
  (List.range 54).foldl (fun e q => if mask.testBit q then e.endPatchTests q else e) d

theorem Dev.endPartial_eq (d : Dev) (m : LoadSt) : d.endPartial m = (d.imageStaged m).testsGiveWay m.header.patchMask := rfl

/-- The device but for its reports, repairs, tests and the wardrobe. -/
def Dev.besideTests (d : Dev) : Dev := { d with nv := {}, darn := {} }

theorem Dev.endPatchTests_beside (d : Dev) (q : Nat) : (d.endPatchTests q).besideTests = d.besideTests := by
  unfold Dev.endPatchTests
  refine (foldl_keeps Dev.besideTests (fun e r => ?_) _ _).trans rfl
  split
  next => rfl
  next => rfl

theorem Dev.testsGiveWay_beside (d : Dev) (mask : Nat) : (d.testsGiveWay mask).besideTests = d.besideTests := by
  unfold Dev.testsGiveWay
  refine foldl_keeps Dev.besideTests (fun e q => ?_) _ _
  split
  next => exact e.endPatchTests_beside q
  next => rfl

theorem Dev.endPartial_stages (d : Dev) (m : LoadSt) : (d.endPartial m).core = d.core ∧ (d.endPartial m).config.load = none ∧
    (d.endPartial m).config.staged = some m.staged ∧ (d.endPartial m).config.active = d.config.active ∧
    (d.endPartial m).config.shadow = d.config.shadow ∧ bit ((d.endPartial m).rd 0x2110 1) 15 = false ∧
    bit ((d.endPartial m).rd 0x2110 1) 13 = true := by
  have beside := (d.imageStaged m).testsGiveWay_beside m.header.patchMask
  rw [d.endPartial_eq]
  generalize (d.imageStaged m).testsGiveWay m.header.patchMask = e at beside ⊢
  have config : e.config = (d.imageStaged m).config := (congrArg Dev.config beside :)
  have status : e.rd 0x2110 1 = (d.imageStaged m).rd 0x2110 1 := (congrArg (fun x : Dev => x.rd 0x2110 1) beside :)
  rw [config, status, Dev.imageStaged, Dev.rd_wr_same, bit_setBit_other _ _ (by decide), bit_setBit_other _ _ (by decide),
    bit_setBit_same _ _ (by decide), bit_setBit_other _ _ (by decide), bit_setBit_same _ _ (by decide)]
  exact ⟨(congrArg Dev.core beside :), rfl, rfl, rfl, rfl, rfl, rfl⟩

end Sys2Proof.Machine
end

section
/-! SUPPORT. The end of a full load (R324, R332 steps 4 to 6, R333, R334): objects that an image gives, and the start-up steps. -/

namespace Sys2Proof.Machine

/-! ### Objects that an image gives (R324) -/

theorem Dev.setHeadroom_fitted (d : Dev) (v : Word) : Fitted d (d.setHeadroom v) := by
  have set := d.wr_fitted 0x2300 9 v
  unfold Dev.setHeadroom
  dsimp only
  split
  next => exact (set.trans (Dev.wr_fitted _ 0x2300 1 _)).trans (Dev.logNotify_flowed _ _ _ _).fitted
  next => exact set

theorem Dev.switchMode_fitted (d : Dev) (c mode t : Nat) : Fitted d (d.switchMode c mode t) := by
  unfold Dev.switchMode
  dsimp only
  split
  next => exact .refl d
  next => split <;> exact ⟨rfl, rfl, rfl, rfl⟩

theorem Dev.changePin_fitted (d : Dev) (b n fn t : Nat) : Fitted d (d.changePin b n fn t) := by
  unfold Dev.changePin
  dsimp only
  split <;> exact ⟨rfl, rfl, rfl, rfl⟩

theorem Dev.applyThread_fitted (d : Dev) (idx : Nat) (v : Word) : Fitted d (d.applyThread idx v) := by
  have thread (e : Dev) (t : Nat) (x : ThreadSt) : Fitted e (e.setThread t x) := ⟨rfl, rfl, rfl, rfl⟩
  unfold Dev.applyThread
  exact ((d.wr_fitted idx 2 v).trans (thread _ _ _)).trans (Dev.wrN_fitted _ _ _ _)

/-- The object of an index takes a value: a needle's mode and a pin's function as they change, any other object at once. -/
theorem Dev.applyWord_fitted (d : Dev) (idx sub : Nat) (v : Word) (t : Nat) : Fitted d (d.applyValue idx sub (.word v) t) := by
  have set := d.wr_fitted idx sub v
  unfold Dev.applyValue
  dsimp only
  split
  next => exact d.switchMode_fitted _ _ _
  next =>
    split
    next => exact set.trans (Dev.setBank_flowed _ _ _).fitted
    next =>
      split
      next => exact set.trans (Dev.setBank_flowed _ _ _).fitted
      next =>
        split
        next => exact d.changePin_fitted _ _ _ _
        next =>
          split
          next => exact set.trans ⟨rfl, rfl, rfl, rfl⟩
          next =>
            split
            next => exact d.applyThread_fitted _ _
            next =>
              split
              next => exact set.trans (Dev.wrN_fitted _ _ _ _)
              next => exact set

theorem actTallyConfig_fitted (n : Nat) (d : Dev) (w : Wr) : Fitted d ((actTallyConfig n).apply d w) := by
  unfold actTallyConfig
  dsimp only
  split <;> exact ⟨rfl, rfl, rfl, rfl⟩

theorem actTallyThreshold_fitted (o : Desc) (n sub : Nat) (d : Dev) (w : Wr) : Fitted d ((actTallyThreshold o n sub).apply d w) := by
  unfold actTallyThreshold
  dsimp only
  split <;> exact ⟨rfl, rfl, rfl, rfl⟩

theorem Dev.applyImage_fitted (d : Dev) (idx sub : Nat) (v : Word) : Fitted d (d.applyImage idx sub v) := by
  unfold Dev.applyImage
  dsimp only
  split
  next => exact d.setHeadroom_fitted v
  next =>
    split
    next => exact actTallyConfig_fitted _ d _
    next =>
      split
      next => exact actTallyThreshold_fitted _ _ _ d _
      next => exact d.applyWord_fitted _ _ _ _

theorem Dev.applySetup_fitted (d : Dev) (l : List (Nat × Nat × Word)) : Fitted d (d.applySetup l) :=
  (foldl_fitted (fun e _ => e.applyImage_fitted _ _ _) _ d).trans (foldl_fitted (fun e _ => e.applyImage_fitted _ _ _) _ _)

theorem Dev.imageDefaults_fitted (d : Dev) (p : Nat → Nat → Bool) : Fitted d (d.imageDefaults p) :=
  foldl_fitted (fun e _ => e.applyImage_fitted _ _ _) _ d

theorem Dev.setWatch_fitted (d : Dev) (w : Nat) (x : WatchSt) : Fitted d (d.setWatch w x) := ⟨rfl, rfl, rfl, rfl⟩

theorem Dev.bindWatch_fitted (d : Dev) (l : List (Fin 512 × Word)) : Fitted d (d.bindWatch l) :=
  foldl_fitted (fun e _ => (e.wr_fitted _ _ _).trans (Dev.setWatch_fitted _ _ _)) l d

/-- The setup and the tables of an image that ended. -/
def Dev.imageApplied (d : Dev) (l : LoadSt) (b : List (Fin 512 × Word)) : Dev :=
  forEach 12 (fun g e => e.recompute g)
    ((((forEach 12 (fun g e => ((timingTable l g).map (e.setBytes (0x3300 + g) 1)).getD e) (d.loadBecomes l)).imageDefaults
      (fun idx sub => !givenBy l.setup idx sub)).applySetup l.setup).releaseWatch.bindWatch b)

theorem Dev.imageApplied_fitted (d : Dev) (l : LoadSt) (b : List (Fin 512 × Word)) : Fitted (d.loadBecomes l) (d.imageApplied l b) := by
  have tables : Fitted (d.loadBecomes l)
      (forEach 12 (fun g e => ((timingTable l g).map (e.setBytes (0x3300 + g) 1)).getD e) (d.loadBecomes l)) :=
    forEach_fitted (fun g e => by cases timingTable l g <;> exact ⟨rfl, rfl, rfl, rfl⟩) 12 _
  have released (e : Dev) : Fitted e e.releaseWatch := ⟨rfl, rfl, rfl, rfl⟩
  unfold Dev.imageApplied
  exact ((((tables.trans (Dev.imageDefaults_fitted _ _)).trans (Dev.applySetup_fitted _ _)).trans (released _)).trans
    (Dev.bindWatch_fitted _ _)).trans (forEach_fitted (fun g e => e.recompute_fitted g) 12 _)

/-- The phase of the start-up steps in CFG_STATUS. -/
def Dev.stepsShown (d : Dev) : Dev := d.wr 0x2100 1 (setBits (d.rd 0x2100 1) 7 0 3)

theorem Dev.endFull_eq (d : Dev) (l : LoadSt) (b : List (Fin 512 × Word)) :
    d.endFull l b = ((d.imageApplied l b).stepsShown).beginSteps false := by
  have tables (l : LoadSt) (g : Nat) (e : Dev) : ((timingTable l g).map (e.setBytes (0x3300 + g) 1)).getD e =
      (match timingTable l g with
        | some t => e.setBytes (0x3300 + g) 1 t
        | none => e) := by cases timingTable l g <;> rfl
  unfold Dev.endFull Dev.imageApplied
  simp only [tables]
  rfl

/-! ### Start-up steps (R333, R334) -/

/-- The device with steps still to run. -/
def Dev.withSteps (d : Dev) (l : List Nat) : Dev := { d with core := { d.core with steps := some l } }

/-- In a fitting the steps run on to PLL_LOCK at most, which waits: one is left to run, and the load with its status is as it was. -/
theorem Dev.advanceSteps_waits {d : Dev} {k : Nat} {l : List Nat} (hl : d.core.steps = some l) (fitting : d.core.state = .fitting)
    (lock : 0 ∈ l) (short : l.length ≤ k) :
    ∃ c rest, (Dev.advanceSteps k d).core.steps = some (c :: rest) ∧ (Dev.advanceSteps k d).core.state = .fitting ∧
      (Dev.advanceSteps k d).config = d.config ∧ (Dev.advanceSteps k d).rd 0x2100 1 = d.rd 0x2100 1 := by
  induction k generalizing d l with
  | zero =>
    obtain rfl := List.length_eq_zero_iff.1 (Nat.le_zero.1 short)
    cases lock
  | succ k ih =>
    cases l with
    | nil => cases lock
    | cons c t =>
      unfold Dev.advanceSteps
      simp only [hl]
      split
      next => exact ⟨c, t, hl, fitting, rfl, rfl⟩
      next runs =>
        have other : c ≠ 0 := fun zero => runs (by simp [zero])
        have ran := (d.withSteps t).runStep_worked c
        obtain ⟨c', rest, steps, state, config, status⟩ := ih (d := (d.withSteps t).runStep c) ran.steps (ran.state.trans fitting)
          ((List.mem_cons.1 lock).resolve_left (Ne.symm other)) (by simpa using short)
        exact ⟨c', rest, steps, state, config.trans ran.config, status.trans (ran.regs _ _ (by decide) (by decide))⟩

/-- The steps of an order that names each code once begin. -/
theorem Dev.beginSteps_waits {d : Dev} (fitting : d.core.state = .fitting) (ok : orderOk d.config.orderInEffect = true) :
    ∃ c rest, (d.beginSteps false).core.steps = some (c :: rest) ∧ (d.beginSteps false).core.state = .fitting ∧
      (d.beginSteps false).config = d.config ∧ (d.beginSteps false).rd 0x2100 1 = d.rd 0x2100 1 := by
  have lock : 0 ∈ orderSteps d.config.orderInEffect := by
    have each := List.all_eq_true.1 ok 0 (by decide)
    simpa using each
  exact Dev.advanceSteps_waits (d := d.withSteps (orderSteps d.config.orderInEffect)) (k := 5) rfl fitting lock
    (show 4 ≤ 5 by decide)

/-- A full load that ended (R332): its start-up steps have begun. -/
theorem Dev.endFull_starts {d : Dev} (m : LoadSt) (b : List (Fin 512 × Word)) (fitting : d.core.state = .fitting)
    (ok : orderOk d.config.orderInEffect = true) :
    ∃ c rest, (d.endFull m b).core.steps = some (c :: rest) ∧ (d.endFull m b).core.state = .fitting ∧
      (d.endFull m b).config.load = some m ∧ bits ((d.endFull m b).rd 0x2100 1) 7 0 = 3 := by
  have applied := d.imageApplied_fitted m b
  rw [d.endFull_eq]
  generalize d.imageApplied m b = e at applied ⊢
  have config : e.config = { d.config with load := some m } := applied.config
  obtain ⟨c, rest, steps, state, kept, status⟩ := Dev.beginSteps_waits (d := e.stepsShown)
    ((congrArg CoreSt.state applied.core).trans fitting) ((congrArg (fun c : ConfigSt => orderOk c.orderInEffect) config).trans ok)
  refine ⟨c, rest, steps, state, (congrArg ConfigSt.load kept).trans (congrArg ConfigSt.load config), ?_⟩
  rw [status, Dev.stepsShown, Dev.rd_wr_same, bits_setBits_same _ _ (by decide)]
  rfl

end Sys2Proof.Machine
end

section
/-! The statement about headers and records of an image. -/

namespace Sys2Proof.Machine

/-- A header at the port with no load under way. -/
theorem headerRecord_begins {v : List (BitVec 16)} {l : List Byte} {d : Dev} {s : State} (on : s.dev.portOn = true)
    (idle : s.dev.loading = none) (bytes : l = s.dev.portBytes v) (quiet : d = s.dev.portQuiet) :
    (s.dev.portTakes (parseHeader l).targetId = false →
      ∃ t, exec (.headerRecord (.port v)) s = .next t ∧ Kept s t ∧
        { t.dev with out := s.dev.out } = { s.dev with config := { s.dev.config with forwarding := true } } ∧
        (s.dev.core.broadcast = false → s.dev.core.cfgWidth = 0 → t.dev.out = .cfgDout l :: s.dev.out)) ∧
    (s.dev.portTakes (parseHeader l).targetId = true →
      (headerRefusal s.fuses d l ≠ 0 → ∃ t, exec (.headerRecord (.port v)) s = .next t ∧ Kept s t ∧ t.dev = d) ∧
      (headerRefusal s.fuses d l = 0 → (parseHeader l).kind = 1 →
        ∃ t, exec (.headerRecord (.port v)) s = .next t ∧ Kept s t ∧
          FittingBegun s.dev (startLoad s.fuses d .port l) t.dev) ∧
      (headerRefusal s.fuses d l = 0 → (parseHeader l).kind = 2 →
        ∃ t, exec (.headerRecord (.port v)) s = .next t ∧ Kept s t ∧ t.dev.core = s.dev.core ∧
          t.dev.config.load = some (startLoad s.fuses d .port l) ∧ t.dev.panels = s.dev.panels ∧
          t.dev.config.active = s.dev.config.active ∧ t.dev.config.shadow = [] ∧ bit (t.dev.rd 0x2110 1) 15 = true)) := by
  subst bytes quiet
  have ran := headerRecord_port (v := v) on idle
  obtain ⟨passes, takes⟩ := newHeader_port s.fuses s.dev (s.dev.portBytes v)
  refine ⟨fun other => ?_, fun own => ?_⟩
  · obtain ⟨beside, out⟩ := s.dev.forwards.forward_beside (s.dev.portBytes v)
    rw [passes other] at ran
    exact ⟨_, ran, ⟨rfl, rfl⟩, beside, out⟩
  · obtain ⟨refused, full, part⟩ := takes own
    refine ⟨fun code => ?_, fun passed kind => ?_, fun passed kind => ?_⟩
    · rw [refused code] at ran
      exact ⟨_, ran, ⟨rfl, rfl⟩, rfl⟩
    · rw [full passed kind] at ran
      have begun := s.dev.portQuiet.acceptFull_begins (startLoad s.fuses s.dev.portQuiet .port (s.dev.portBytes v))
      exact ⟨_, ran, ⟨rfl, rfl⟩, { begun with }⟩
    · rw [part passed kind] at ran
      exact ⟨_, ran, ⟨rfl, rfl⟩, s.dev.portQuiet.acceptPartial_begins _⟩

section
variable {i : Instr} {r : RecordIn} {l : List Byte} {taps : List (Fin 512)} {b : List (Fin 512 × Word)} {x : LoadSt} {s : State}
  (ran : exec i s = .next { s with dev := s.dev.record s.fuses x l taps b })
include ran

theorem record_faults {e : RecFault} (h : takeRecord s.fuses true (tapped taps) x l = .error e) :
    (x.header.kind = 1 →
      ∃ t, exec i s = .next t ∧ Kept s t ∧
        t.dev.config.load = some { x with taken := x.taken + l.length, held := some e.code } ∧
        t.dev.core = { s.dev.core with steps := none } ∧ t.dev.rd 0x2100 3 = word e.code ∧
        bit (t.dev.rd 0x2100 1) 13 = true ∧ bit (t.dev.rd 0x2100 1) 14 = true ∧ bit (t.dev.rd 0x2100 1) 15 = false) ∧
    (x.header.kind = 2 →
      ∃ t, exec i s = .next t ∧ Kept s t ∧ t.dev.config.load = none ∧ t.dev.config.shadow = [] ∧
        t.dev.config.active = s.dev.config.active ∧ t.dev.config.staged = s.dev.config.staged ∧
        t.dev.rd 0x2110 7 = word e.code ∧ t.dev.core = s.dev.core ∧ t.dev.panels = s.dev.panels) := by
  rw [s.dev.record_fails b h] at ran
  have moved := s.dev.consume_streamed x.source l.length
  generalize s.dev.consume x.source l.length = c at ran moved
  refine ⟨fun full => ?_, fun part => ?_⟩
  · obtain ⟨load, core, shown⟩ := c.failLoad_holds (l := { x with taken := x.taken + l.length }) full e
    rw [moved.core] at core
    exact ⟨_, ran, ⟨rfl, rfl⟩, load, core, shown⟩
  · obtain ⟨load, shadow, active, staged, reason, core, panels⟩ :=
      c.failLoad_drops (l := { x with taken := x.taken + l.length }) part e
    exact ⟨_, ran, ⟨rfl, rfl⟩, load, shadow, active.trans moved.active, staged.trans moved.staged, reason, core.trans moved.core,
      panels.trans moved.panels⟩

theorem record_goesOn {m : LoadSt} (h : takeRecord s.fuses true (tapped taps) x l = .ok (m, none)) (more : m.ended = false) :
    ∃ t, exec i s = .next t ∧ Kept s t ∧ { t.dev with config := s.dev.config } = s.dev ∧ t.dev.config.load = some m ∧
      t.dev.config.active = s.dev.config.active ∧ t.dev.config.shadow = s.dev.config.shadow := by
  rw [s.dev.record_plain b h more] at ran
  exact ⟨_, ran, ⟨rfl, rfl⟩, s.dev.consumed_becomes _ _ m⟩

theorem record_writes {m : LoadSt} {a : Nat} {f : Frame} (h : takeRecord s.fuses true (tapped taps) x l = .ok (m, some (a, f)))
    (more : m.ended = false) (panel : addrSpace a = 0) :
    (m.header.kind = 1 →
      ∃ t, exec i s = .next t ∧ Kept s t ∧ { t.dev with config := s.dev.config, regs := s.dev.regs } = s.dev ∧
        t.dev.config.load = some m ∧ t.dev.frame a = f ∧ (∀ k, k ≠ a → t.dev.frame k = s.dev.frame k) ∧
        t.dev.config.shadow = s.dev.config.shadow ∧
        RegsKept (regsOf 0x2100 [5]) s.dev t.dev ∧ t.dev.rd 0x2100 5 = word m.frames) ∧
    (m.header.kind = 2 →
      ∃ t, exec i s = .next t ∧ Kept s t ∧ { t.dev with config := s.dev.config } = s.dev ∧ t.dev.config.load = some m ∧
        t.dev.config.active = s.dev.config.active ∧
        t.dev.config.shadow = tabIns (tabDel s.dev.config.shadow a) a f) := by
  rw [s.dev.record_frame b h more] at ran
  obtain ⟨beside, load, active, shadow⟩ := s.dev.consumed_becomes x.source l.length m
  generalize (s.dev.consume x.source l.length).loadBecomes m = c at ran beside load active shadow
  refine ⟨fun full => ?_, fun part => ?_⟩
  · rw [if_pos full] at ran
    obtain ⟨-, sameLoad, sameShadow, here, others⟩ := c.writeFrame_panel panel f
    obtain ⟨rest, regs⟩ := Dev.frameCounted_beside panel f m.frames beside
    generalize c.writeFrame a f = w at ran sameLoad sameShadow here others rest regs
    have frames (k : Nat) : c.frame k = s.dev.frame k := congrArg (fun p => tabGet blankFrame p k) active
    exact ⟨_, ran, ⟨rfl, rfl⟩, rest, sameLoad.trans load, here, fun k other => (others k other).trans (frames k),
      sameShadow.trans shadow, regs, w.rd_wr_same _ _ _⟩
  · rw [if_neg (by omega), c.stageFrame_panel panel] at ran
    exact ⟨_, ran, ⟨rfl, rfl⟩, beside, load, active, congrArg (fun p => tabIns (tabDel p a) a f) shadow⟩

theorem record_completes {m : LoadSt} (h : takeRecord s.fuses true (tapped taps) x l = .ok (m, none)) (last : m.ended = true) :
    (m.header.kind = 2 →
      ∃ t, exec i s = .next t ∧ Kept s t ∧ t.dev.core = s.dev.core ∧ t.dev.config.load = none ∧
        t.dev.config.staged = some m.staged ∧
        t.dev.config.active = s.dev.config.active ∧ t.dev.config.shadow = s.dev.config.shadow ∧
        bit (t.dev.rd 0x2110 1) 15 = false ∧ bit (t.dev.rd 0x2110 1) 13 = true) ∧
    (m.header.kind = 1 → s.dev.core.state = .fitting → orderOk s.dev.config.orderInEffect = true →
      ∃ t c rest, exec i s = .next t ∧ Kept s t ∧ t.dev.core.state = .fitting ∧ t.dev.core.steps = some (c :: rest) ∧
        t.dev.config.load = some m ∧ bits (t.dev.rd 0x2100 1) 7 0 = 3) := by
  rw [s.dev.record_ends b h last] at ran
  have moved : Streamed (s.dev.loadBecomes m)
      (((s.dev.consume x.source l.length).loadBecomes m).skipRest m.source (m.header.streamLength - m.taken)) :=
    ((s.dev.consume_streamed x.source l.length).loadBecomes m).trans (Dev.skipRest_streamed _ _ _)
  generalize ((s.dev.consume x.source l.length).loadBecomes m).skipRest m.source (m.header.streamLength - m.taken) = c at ran moved
  refine ⟨fun part => ?_, fun full fitting ok => ?_⟩
  · rw [if_neg (by omega)] at ran
    obtain ⟨core, load, staged, active, shadow, shown⟩ := c.endPartial_stages m
    exact ⟨_, ran, ⟨rfl, rfl⟩, core.trans moved.core, load, staged, active.trans moved.active, shadow.trans moved.shadow, shown⟩
  · rw [if_pos full] at ran
    obtain ⟨c', rest, steps, state, load, phase⟩ := Dev.endFull_starts m b ((congrArg CoreSt.state moved.core).trans fitting)
      ((congrArg orderOk moved.order).trans ok)
    generalize c.endFull m b = e at ran steps state load phase
    exact ⟨_, c', rest, ran, ⟨rfl, rfl⟩, state, steps, load, phase⟩

end

/-- Settles O43: a header at the port by whether it is for this device and what the checks say; a record by what takeRecord makes of it. -/
theorem imageRecords : Obligations.ImageRecords := by
  unfold Obligations.ImageRecords
  refine ⟨fun v l d s on idle bytes quiet => ?_, fun i r l taps bindings x s named => ?_⟩
  · obtain ⟨passes, takes⟩ := headerRecord_begins on idle bytes quiet
    refine ⟨passes, fun own => ?_⟩
    obtain ⟨refused, full, part⟩ := takes own
    refine ⟨refused, fun passed kind => ?_, part⟩
    obtain ⟨t, ran, kept, begun⟩ := full passed kind
    exact ⟨t, ran, kept, begun.state, begun.load, begun.held, begun.outputs, begun.panels, begun.staged, begun.active, begun.programs,
      begun.reason, begun.busy⟩
  · obtain ⟨types, b, type, event⟩ := record_event named
    refine ⟨fun passes => ⟨_, (event s).trans (recordEvent_passes _ _ _ passes), ⟨rfl, rfl⟩, rfl⟩,
      fun own loading source reads bytes => ?_⟩
    have ran := (event s).trans (recordEvent_takes taps b own loading source reads bytes type)
    exact ⟨fun e => record_faults ran, fun m => record_goesOn ran, fun m a f => record_writes ran, fun m => record_completes ran⟩

end Sys2Proof.Machine
end
